-- ==== Sys2Proof/Word.lean ====
section
/-!
DEFINITION. The word types of the AVX-736 and nothing else: bytes, 32-bit register words (R33), 64-bit scalar
registers and instruction words, 48-bit physical addresses kept as natural numbers once they are computed (R26).
-/

namespace Sys2Proof

/-- One byte of memory. -/
abbrev Byte := BitVec 8

/-- One 32-bit register word of register space (R33). -/
abbrev Word32 := BitVec 32

/-- One 64-bit scalar register or Penyca instruction word. -/
abbrev Word64 := BitVec 64

/-- One 512-bit vector register (R71). -/
abbrev Vec := BitVec 512

/-- One 128-bit mask register. -/
abbrev Mask := BitVec 128

/-- One 192-bit (24-byte) stream descriptor register (R182). -/
abbrev Desc := BitVec 192

/-- A physical address in the 48-bit map (R26), as a natural number once computed. -/
abbrev Addr := Nat

end Sys2Proof
end

