-- ==== Sys2Proof/Syntax.lean ====
section
/-!
DEFINITION. The commands the block takes: one constructor per row of the operation table, in the table's order, with the
row's operands. Register accesses name an initiator ID (R42); Penyca instructions name the bay and hand context that
issues them and carry the 64-bit instruction word.
-/

namespace Sys2Proof

/-- A hand context: physical bay `pb`, and whether it is the filler context (R589). -/
structure Hand where
  pb : Nat
  filler : Bool := false
  deriving DecidableEq, Repr

/-- What an application hart's access is. -/
inductive AccKind where
  | read | write | fetch
  deriving DecidableEq, Repr

/-- A request waiting at a DRAM channel or loft bank: its partition, initiator class, bytes and latency in ns (R364, R365). -/
structure GirtReq where
  part : Nat
  cls : Nat
  bytes : Nat
  latency : Nat
  deriving DecidableEq, Repr

/-- What a peg operation releases: a hand context's wait, a QUEUED dowel, or a collective (R330, R331, R705). -/
inductive Waiter where
  | hand (h : Hand)
  | slot (n : Nat)
  | coll (n : Nat)
  deriving DecidableEq, Repr

/-- A CAN or CAN FD frame (R611). -/
structure CanFrame where
  id : Nat
  ide : Bool
  fdf : Bool
  brs : Bool
  esi : Bool
  rtr : Bool
  dlc : Nat
  data : List Byte
  deriving DecidableEq, Repr


/-- What a CONTROL flit carries from firmware to firmware: the manual names these uses and gives no layout (R656–R664, R672, R673). -/
inductive Ctl where
  /-- the home device asks the peer to hold its part of a spanning job ready -/
  | ask (handle part : Nat) (desc : List Byte)
  /-- the peer's bays of the job are free and kept for it -/
  | granted (handle : Nat)
  /-- the job's bays start at working time `at_` -/
  | start (handle at_ : Nat)
  /-- the peer's part has ended, with its FLAGS and its DIVCNT sum -/
  | ended (handle flags div : Nat)
  /-- a bay of the peer's part has faulted: its rank and code -/
  | fault (handle rank code : Nat)
  /-- the peer has stopped its part, with the code of the job -/
  | stopped (handle code : Nat)
  /-- the home device ends the peer's part, without a record -/
  | stop (handle : Nat)
  /-- a fence on the sender replays the job; the home device says so of its own handle -/
  | replay (home : Bool) (handle : Nat)
  | leave
  /-- a PARTITION_CONFIG accepted by the primary, with its dowel's handle -/
  | config (handle op part : Nat) (payload : List Byte)
  /-- the conditions of R349 hold for it on the secondary -/
  | ready (handle : Nat)
  /-- it takes effect, or is given up -/
  | apply (handle : Nat)
  | drop (handle : Nat)
  /-- participants of a collective on the peer are to be served -/
  | coll (handle part : Nat) (req : List Byte)
  /-- a contribution: its rank, and its leaves or its whole range at index 0 -/
  | contribution (handle rank : Nat) (data : List (Nat × List Byte))
  /-- a go peg there is poisoned, or an access there was refused: the collective's fault code -/
  | collFault (handle code : Nat)
  /-- the owner of the collective replays -/
  | collReplay (handle : Nat)
  /-- the collective is over; `poison` when RESPEG is poisoned -/
  | collEnd (handle : Nat) (poison : Bool)
  /-- a firmware version query and its answer -/
  | version (major minor : Nat)
  deriving DecidableEq, Repr

/-- A flit of the truss link (R646): its header fields and check word, its payload, and what a CONTROL flit's payload means. -/
structure Flit where
  typ : Nat
  part : Nat := 0
  seq : Nat := 0
  ack : Nat := 0
  len : Nat := 0
  addr : Nat := 0
  tag : Nat := 0
  signal : Nat := 0
  check : Nat := 0
  body : List Byte := []
  ctl : Option Ctl := none
  deriving DecidableEq, Repr

/-- The configuration section of an island image (R734), which the manual names part by part without a layout: whether its check
word matches; the partition table, region tables and twin configuration block by byte; FC_ROUTE by partition; the fitted DRAM in
bytes; the bay clock step; the lifecycle requests by state code; the early register writes as offset and value. -/
structure BootCfg where
  check : Bool
  table : List Byte
  regions : List (List Byte)
  twin : List Byte
  routes : List Nat
  dram : Nat
  bayClk : Nat
  requests : List Nat
  early : List (Nat × Word32)
  deriving DecidableEq, Repr

/-- What FUSE_PROG writes (R425, chapter 20): bits of the word that a register shows, or an entry of the factory repair map. -/
inductive FuseItem where
  | word (reg : Nat) (v : Word32)
  | bay (n : Nat)
  | jointer (n : Nat)
  | loft (n : Nat)
  /-- one repaired row of a macro -/
  | row (mac : Nat)
  deriving DecidableEq, Repr

/-- The commands of the operation table. -/
inductive Instr where
  /-- REGISTER_WRITE (R37): A write to a register that has no row of its own: it stages or commits the word, obeying the reserved-field, reserved-encoding, lock and ownership rules. -/
  | registerWrite (init addr size : Nat) (v : Word64)
  /-- HART_ACCESS (R357): An application hart load, store or fetch to DRAM or the loft is decided by its partition's region table. -/
  | hartAccess (hart : Nat) (kind : AccKind) (addr : Nat) (size : Nat) (data : Word64)
  /-- PANEL_FETCH (R172): The hand processor fetches a panel and verifies its check word, trailer and PROGID before any of its instructions issue. -/
  | panelFetch (h : Hand) (ahead : Bool)
  /-- JOB_FAULT_STOP (R202): On a bay's fault, the command processor stops the job's other bays and completes the job DONE_FAULT. -/
  | jobFaultStop (slot : Nat)
  /-- ADD (R156): Scalar add, wrapping modulo 2^64. -/
  | add (h : Hand) (w : Word64)
  /-- SUB (R156): Scalar subtract, wrapping modulo 2^64. -/
  | sub (h : Hand) (w : Word64)
  /-- AND (R156): Scalar bitwise AND. -/
  | and (h : Hand) (w : Word64)
  /-- OR (R156): Scalar bitwise OR. -/
  | or (h : Hand) (w : Word64)
  /-- XOR (R156): Scalar bitwise XOR. -/
  | xor (h : Hand) (w : Word64)
  /-- ANDN (R156): Scalar s[RA] AND NOT s[RB]. -/
  | andn (h : Hand) (w : Word64)
  /-- MIN (R156): Scalar signed minimum. -/
  | min (h : Hand) (w : Word64)
  /-- MAX (R156): Scalar signed maximum. -/
  | max (h : Hand) (w : Word64)
  /-- MINU (R156): Scalar unsigned minimum. -/
  | minu (h : Hand) (w : Word64)
  /-- MAXU (R156): Scalar unsigned maximum. -/
  | maxu (h : Hand) (w : Word64)
  /-- ADDI (R156): Scalar add of a sign-extended IMM32. -/
  | addi (h : Hand) (w : Word64)
  /-- ANDI (R156): Scalar AND with a sign-extended IMM32. -/
  | andi (h : Hand) (w : Word64)
  /-- ORI (R156): Scalar OR with a sign-extended IMM32. -/
  | ori (h : Hand) (w : Word64)
  /-- XORI (R156): Scalar XOR with a sign-extended IMM32. -/
  | xori (h : Hand) (w : Word64)
  /-- LI (R156): Loads a zero-extended 48-bit immediate into a scalar register. -/
  | li (h : Hand) (w : Word64)
  /-- SLL (R221): Scalar shift left by s[RB][5:0]. -/
  | sll (h : Hand) (w : Word64)
  /-- SRL (R221): Scalar logical shift right by s[RB][5:0]. -/
  | srl (h : Hand) (w : Word64)
  /-- SRA (R221): Scalar arithmetic shift right by s[RB][5:0]. -/
  | sra (h : Hand) (w : Word64)
  /-- ROR (R221): Scalar rotate right by s[RB][5:0]. -/
  | ror (h : Hand) (w : Word64)
  /-- SLLI (R221): Scalar shift left by IMM32[5:0]. -/
  | slli (h : Hand) (w : Word64)
  /-- SRLI (R221): Scalar logical shift right by IMM32[5:0]. -/
  | srli (h : Hand) (w : Word64)
  /-- SRAI (R221): Scalar arithmetic shift right by IMM32[5:0]. -/
  | srai (h : Hand) (w : Word64)
  /-- RORI (R221): Scalar rotate right by IMM32[5:0]. -/
  | rori (h : Hand) (w : Word64)
  /-- EXTU (R221): Extracts a bit field of s[RA], zero-extended. -/
  | extu (h : Hand) (w : Word64)
  /-- EXTS (R221): Extracts a bit field of s[RA], sign-extended. -/
  | exts (h : Hand) (w : Word64)
  /-- INS (R221): Inserts the low bits of s[RA] into a bit field of s[RD]. -/
  | ins (h : Hand) (w : Word64)
  /-- MUL (R156): Low 64 bits of the scalar product. -/
  | mul (h : Hand) (w : Word64)
  /-- MULH (R156): High 64 bits of the signed 128-bit product. -/
  | mulh (h : Hand) (w : Word64)
  /-- MULHU (R156): High 64 bits of the unsigned 128-bit product. -/
  | mulhu (h : Hand) (w : Word64)
  /-- DIV (R222): Signed quotient rounded toward zero, with defined results for division by zero and overflow. -/
  | div (h : Hand) (w : Word64)
  /-- DIVU (R222): Unsigned quotient, with a defined result for division by zero. -/
  | divu (h : Hand) (w : Word64)
  /-- REM (R222): Signed remainder; division by zero gives the dividend. -/
  | rem (h : Hand) (w : Word64)
  /-- REMU (R222): Unsigned remainder; division by zero gives the dividend. -/
  | remu (h : Hand) (w : Word64)
  /-- SEQ (R156): Sets s[RD] to 1 when the operands are equal, else 0. -/
  | seq (h : Hand) (w : Word64)
  /-- SNE (R156): Sets s[RD] to 1 when the operands differ, else 0. -/
  | sne (h : Hand) (w : Word64)
  /-- SLT (R156): Sets s[RD] to 1 on a signed less-than, else 0. -/
  | slt (h : Hand) (w : Word64)
  /-- SLTU (R156): Sets s[RD] to 1 on an unsigned less-than, else 0. -/
  | sltu (h : Hand) (w : Word64)
  /-- SEL (R156): Selects s[RA] or s[RB] according to s[RC]. -/
  | sel (h : Hand) (w : Word64)
  /-- VEXT (R223): Moves one vector lane, indexed modulo the lane count, into a scalar register. -/
  | vext (h : Hand) (w : Word64)
  /-- VINS (R223): Inserts the low bits of a scalar into one vector lane. -/
  | vins (h : Hand) (w : Word64)
  /-- KTOS (R223): Moves mask bits [63:0] into a scalar register. -/
  | ktos (h : Hand) (w : Word64)
  /-- KTOSH (R223): Moves mask bits [127:64] into a scalar register. -/
  | ktosh (h : Hand) (w : Word64)
  /-- STOK (R223): Builds a 128-bit mask from two scalar registers. -/
  | stok (h : Hand) (w : Word64)
  /-- POPC (R156): Scalar population count. -/
  | popc (h : Hand) (w : Word64)
  /-- CLZ (R156): Counts leading zeros; 0 gives 64. -/
  | clz (h : Hand) (w : Word64)
  /-- CTZ (R156): Counts trailing zeros; 0 gives 64. -/
  | ctz (h : Hand) (w : Word64)
  /-- BEQ (R178): Branches to the R178 target when the operands are equal. -/
  | beq (h : Hand) (w : Word64)
  /-- BNE (R178): Branches when the operands are not equal. -/
  | bne (h : Hand) (w : Word64)
  /-- BLT (R178): Branches on a signed less-than. -/
  | blt (h : Hand) (w : Word64)
  /-- BGE (R178): Branches on a signed greater-or-equal. -/
  | bge (h : Hand) (w : Word64)
  /-- BLTU (R178): Branches on an unsigned less-than. -/
  | bltu (h : Hand) (w : Word64)
  /-- BGEU (R178): Branches on an unsigned greater-or-equal. -/
  | bgeu (h : Hand) (w : Word64)
  /-- BRA (R178): Unconditional relative branch. -/
  | bra (h : Hand) (w : Word64)
  /-- JAL (R224): Writes the link and branches to the relative target. -/
  | jal (h : Hand) (w : Word64)
  /-- JR (R179): Writes the link and jumps to an indirect target, which it checks. -/
  | jr (h : Hand) (w : Word64)
  /-- LOOP (R225): Counted loop: decrements the counter and branches while it is nonzero. -/
  | loop (h : Hand) (w : Word64)
  /-- WAITQ (R192): Waits until the named queues' earlier instructions have completed and their writes are visible. -/
  | waitq (h : Hand) (w : Word64)
  /-- FENCE (R193): Waits until the bay's earlier writes beyond its own store are visible device-wide. -/
  | fence (h : Hand) (w : Word64)
  /-- TRAP (R217): Always takes a precise TRAP fault with a program-chosen subcode. -/
  | trap (h : Hand) (w : Word64)
  /-- END (R209): Ends issue on the bay; the bay's part of the job ends when its queues are empty. -/
  | endP (h : Hand) (w : Word64)
  /-- NOP (R205): Has no effect. -/
  | nop (h : Hand) (w : Word64)
  /-- VADD (R151): Vector floating-point add per lane, rounded once. -/
  | vadd (h : Hand) (w : Word64)
  /-- VSUB (R151): Vector floating-point subtract per lane. -/
  | vsub (h : Hand) (w : Word64)
  /-- VMUL (R151): Vector floating-point multiply per lane. -/
  | vmul (h : Hand) (w : Word64)
  /-- VMIN (R153): Vector minimumNumber per lane. -/
  | vmin (h : Hand) (w : Word64)
  /-- VMAX (R153): Vector maximumNumber per lane. -/
  | vmax (h : Hand) (w : Word64)
  /-- VDIV (R151): FP32 vector divide. -/
  | vdiv (h : Hand) (w : Word64)
  /-- VSQRT (R151): FP32 vector square root. -/
  | vsqrt (h : Hand) (w : Word64)
  /-- VABS (R152): Clears the sign of each lane. -/
  | vabs (h : Hand) (w : Word64)
  /-- VNEG (R152): Inverts the sign of each lane. -/
  | vneg (h : Hand) (w : Word64)
  /-- VFMA (R151): Fused multiply-add, rounded once. -/
  | vfma (h : Hand) (w : Word64)
  /-- VFMS (R151): Fused multiply-subtract, rounded once. -/
  | vfms (h : Hand) (w : Word64)
  /-- VFNMA (R151): Negated fused multiply-add, rounded once. -/
  | vfnma (h : Hand) (w : Word64)
  /-- VFNMS (R151): Negated fused multiply-subtract, rounded once. -/
  | vfnms (h : Hand) (w : Word64)
  /-- VCEQ (R154): Compares lanes for equality into a mask. -/
  | vceq (h : Hand) (w : Word64)
  /-- VCNE (R154): Compares lanes for inequality into a mask. -/
  | vcne (h : Hand) (w : Word64)
  /-- VCLT (R154): Ordered less-than compare into a mask. -/
  | vclt (h : Hand) (w : Word64)
  /-- VCLE (R154): Ordered less-or-equal compare into a mask. -/
  | vcle (h : Hand) (w : Word64)
  /-- VCGT (R154): Ordered greater-than compare into a mask. -/
  | vcgt (h : Hand) (w : Word64)
  /-- VCGE (R154): Ordered greater-or-equal compare into a mask. -/
  | vcge (h : Hand) (w : Word64)
  /-- VCVT (R227): Converts one segment of lanes from format LF2 to format LF. -/
  | vcvt (h : Hand) (w : Word64)
  /-- VIADD (R156): Vector integer add, wrapping or saturating. -/
  | viadd (h : Hand) (w : Word64)
  /-- VISUB (R156): Vector integer subtract, wrapping or saturating. -/
  | visub (h : Hand) (w : Word64)
  /-- VIMUL (R156): Vector integer multiply, low half, wrapping or saturating. -/
  | vimul (h : Hand) (w : Word64)
  /-- VIMIN (R156): Vector integer minimum. -/
  | vimin (h : Hand) (w : Word64)
  /-- VIMAX (R156): Vector integer maximum. -/
  | vimax (h : Hand) (w : Word64)
  /-- VAND (R156): Vector bitwise AND. -/
  | vand (h : Hand) (w : Word64)
  /-- VOR (R156): Vector bitwise OR. -/
  | vor (h : Hand) (w : Word64)
  /-- VXOR (R156): Vector bitwise XOR. -/
  | vxor (h : Hand) (w : Word64)
  /-- VSLL (R156): Vector per-lane shift left. -/
  | vsll (h : Hand) (w : Word64)
  /-- VSRL (R156): Vector per-lane logical shift right. -/
  | vsrl (h : Hand) (w : Word64)
  /-- VSRA (R156): Vector per-lane arithmetic shift right. -/
  | vsra (h : Hand) (w : Word64)
  /-- VBCAST (R223): Broadcasts a scalar into every lane. -/
  | vbcast (h : Hand) (w : Word64)
  /-- VPERM (R223): Permutes lanes by an index vector. -/
  | vperm (h : Hand) (w : Word64)
  /-- VSEL (R248): Selects lanes of two vectors by a mask; KE must be 1. -/
  | vsel (h : Hand) (w : Word64)
  /-- VMOV (R223): Copies a vector register. -/
  | vmov (h : Hand) (w : Word64)
  /-- KAND (R223): Mask AND over all 128 bits. -/
  | kand (h : Hand) (w : Word64)
  /-- KOR (R223): Mask OR over all 128 bits. -/
  | kor (h : Hand) (w : Word64)
  /-- KXOR (R223): Mask XOR over all 128 bits. -/
  | kxor (h : Hand) (w : Word64)
  /-- KNOT (R223): Mask NOT over all 128 bits. -/
  | knot (h : Hand) (w : Word64)
  /-- KPOP (R223): Counts the set mask bits among the lanes of LF. -/
  | kpop (h : Hand) (w : Word64)
  /-- VRSUM (R228): Floating-point sum of the lanes by a fixed pairwise tree into lane 0. -/
  | vrsum (h : Hand) (w : Word64)
  /-- VRMAX (R228): Floating-point maximum of the lanes by the fixed tree. -/
  | vrmax (h : Hand) (w : Word64)
  /-- VRMIN (R228): Floating-point minimum of the lanes by the fixed tree. -/
  | vrmin (h : Hand) (w : Word64)
  /-- VRISUM (R228): Wrapping integer sum of the lanes by the fixed tree. -/
  | vrisum (h : Hand) (w : Word64)
  /-- MLOADW (R77): Queues a weight-tile load from the bay store into a slot. -/
  | mloadw (h : Hand) (w : Word64)
  /-- MLOADW_COMPLETE (R81): A weight load finishes: the slot is LOADED, records its source and is no longer STALE. -/
  | mloadwComplete (pb seq : Nat)
  /-- MSTREAM (R232): Queues a stream of input rows through the named slots into a sill set or sill lines. -/
  | mstream (h : Hand) (w : Word64)
  /-- MSTREAM_COMPLETE (R232): A stream finishes its rows, with any imprecise SLOT_STALE, LINE_RANGE or SILL_RANGE fault. -/
  | mstreamComplete (pb seq : Nat)
  /-- MDRAIN (R233): Rounds a sill set or sill lines once to the output format and writes the results. -/
  | mdrain (h : Hand) (w : Word64)
  /-- MCLEAR (R100): Zeroes a sill set or a range of sill lines. -/
  | mclear (h : Hand) (w : Word64)
  /-- MXFER_STORE (R234): Writes the 128 sill images of a set to the bay store. -/
  | mxferStore (h : Hand) (w : Word64)
  /-- MXFER_ADD (R234): Adds sill images exactly into a set. -/
  | mxferAdd (h : Hand) (w : Word64)
  /-- MXFER_LOAD (R234): Replaces each sill of a set with its image. -/
  | mxferLoad (h : Hand) (w : Word64)
  /-- MSTAT (R235): Returns the matrix status sampled at issue. -/
  | mstat (h : Hand) (w : Word64)
  /-- LD (R191): Scalar load, zero-extended. -/
  | ld (h : Hand) (w : Word64)
  /-- LDS (R191): Scalar load, sign-extended. -/
  | lds (h : Hand) (w : Word64)
  /-- ST (R191): Scalar store. -/
  | st (h : Hand) (w : Word64)
  /-- VLD (R236): Vector load from the own bay store. -/
  | vld (h : Hand) (w : Word64)
  /-- VST (R236): Vector store to the own bay store. -/
  | vst (h : Hand) (w : Word64)
  /-- COPY (R237): Queues a DMA copy of OPT × 64 bytes. -/
  | copy (h : Hand) (w : Word64)
  /-- SCOPY (R237): Queues a strided DMA copy by descriptors. -/
  | scopy (h : Hand) (w : Word64)
  /-- DLD (R182): Loads a 24-byte stream descriptor. -/
  | dld (h : Hand) (w : Word64)
  /-- DST (R182): Stores a stream descriptor. -/
  | dst (h : Hand) (w : Word64)
  /-- PREF (R196): Queues a prefetch copy into the own store whose reads may run ahead. -/
  | pref (h : Hand) (w : Word64)
  /-- DMA_TRANSFER_COMPLETE (R195): A DMA transfer finishes its writes and, with PE, signals its peg after they are visible. -/
  | dmaTransferComplete (pb seq : Nat)
  /-- JGATHER (R262): Gathers indexed rows into dense 128-row tiles, with padding. -/
  | jgather (h : Hand) (w : Word64)
  /-- JSCATO (R265): Ordered scatter-add of rows by index. -/
  | jscato (h : Hand) (w : Word64)
  /-- JSCATU (R268): Scatter-add in arrival order, counted as a timing-dependent choice. -/
  | jscatu (h : Hand) (w : Word64)
  /-- JSEGPACK (R270): Packs CSR segments into block-sparse tiles. -/
  | jsegpack (h : Hand) (w : Word64)
  /-- JCOMPACT (R281): Copies the rows selected by a bitmap. -/
  | jcompact (h : Hand) (w : Word64)
  /-- JSORT (R277): Stable radix sort of keys with payloads. -/
  | jsort (h : Hand) (w : Word64)
  /-- JHPARTO (R278): Hash partition, keeping input order within each bucket. -/
  | jhparto (h : Hand) (w : Word64)
  /-- JHPARTU (R278): Hash partition in arrival order, counted as a timing-dependent choice. -/
  | jhpartu (h : Hand) (w : Word64)
  /-- JISECT (R279): Sorted-set intersection writing index pairs. -/
  | jisect (h : Hand) (w : Word64)
  /-- JTOPK (R280): Writes the top-k keys with their indices. -/
  | jtopk (h : Hand) (w : Word64)
  /-- JSTAT (R252): Returns the number of the bay's jointer commands outstanding. -/
  | jstat (h : Hand) (w : Word64)
  /-- JWAIT (R252): Waits until at most OPT[4:0] jointer commands are outstanding. -/
  | jwait (h : Hand) (w : Word64)
  /-- JOINTER_COMMAND_COMPLETE (R259): A jointer command finishes; it writes its result word and then signals its peg. -/
  | jointerCommandComplete (pb seq : Nat)
  /-- PADD (R328): Adds a value to a peg's count with release ordering. -/
  | padd (h : Hand) (w : Word64)
  /-- PSET (R328): Sets a peg's count with release ordering. -/
  | pset (h : Hand) (w : Word64)
  /-- PARRIVE (R245): Adds 1 to a peg and waits until the count reaches the target. -/
  | parrive (h : Hand) (w : Word64)
  /-- PWAIT (R328): Waits until a peg's count is at least the value, with acquire ordering. -/
  | pwait (h : Hand) (w : Word64)
  /-- PWANY (R240): Waits on a range of pegs and returns the lowest one satisfied. -/
  | pwany (h : Hand) (w : Word64)
  /-- PEG_WAIT_RELEASE (R331): A peg operation satisfies or poisons waiting bays, queued jobs, collectives or flips and releases them. -/
  | pegWaitRelease (w : Waiter)
  /-- TREAD (R208): Reads working time into a scalar register. -/
  | tread (h : Hand) (w : Word64)
  /-- TWAIT (R241): Waits until working time reaches a target, compared modularly. -/
  | twait (h : Hand) (w : Word64)
  /-- TWAIT_REACHED (R197): Working time reaches a waiting TWAIT's target, and the wait completes. -/
  | twaitReached (h : Hand)
  /-- PCOUNT (R328): Reads a peg's count and poison bit. -/
  | pcount (h : Hand) (w : Word64)
  /-- PTARGET (R328): Reads a peg's target. -/
  | ptarget (h : Hand) (w : Word64)
  /-- PSTAMP (R328): Reads the working time of a peg's last signal. -/
  | pstamp (h : Hand) (w : Word64)
  /-- MFSR (R208): Reads a special register. -/
  | mfsr (h : Hand) (w : Word64)
  /-- MTSR (R242): Writes FLAGS; any other special register faults. -/
  | mtsr (h : Hand) (w : Word64)
  /-- PLBFOLD (R242): Folds a value into the plumb signature; plumb program only. -/
  | plbfold (h : Hand) (w : Word64)
  /-- PLBGOLD (R242): Reads a golden word from fuse-ROM; plumb program only. -/
  | plbgold (h : Hand) (w : Word64)
  /-- PLBDONE (R459): Compares the plumb signature with the gold value; a pass or a mismatch ends the run. -/
  | plbdone (h : Hand) (w : Word64)
  /-- SUBMIT_JOB (R295): A committed SUBMIT of a JOB descriptor is tested and allocates a QUEUED dowel, returned in TICKET. -/
  | submitJob (init window addr : Nat)
  /-- SUBMIT_BATCH (R310): A committed SUBMIT of a BATCH allocates CHILDCOUNT consecutive slots. -/
  | submitBatch (init window addr : Nat)
  /-- SUBMIT_REGION_SWAP (R360): A committed SUBMIT of a REGION_SWAP reads its argument block and queues the swap of one swap group. -/
  | submitRegionSwap (init window addr : Nat)
  /-- SUBMIT_PLANE_FLIP (R596): A committed SUBMIT of a PLANE_FLIP queues a flip of one display plane. -/
  | submitPlaneFlip (init window addr : Nat)
  /-- TICKET_READ (R298): A read of TICKET stalls until the latest submission on the window is decided. -/
  | ticketRead (init window : Nat)
  /-- BATCH_CHILD_FETCH (R311): The command processor fetches and tests the next child descriptor of a batch. -/
  | batchChildFetch (slot : Nat)
  /-- JOB_START (R374): A queued job whose waits are satisfied and whose bays are free starts on all its bays. -/
  | jobStart (slot : Nat)
  /-- JOB_END (R309): The last bay of a job leaves RUNNING; the job ends and its deadline is judged. -/
  | jobEnd (slot : Nat)
  /-- JOB_COMPLETE (R313): A job or update becomes terminal: writes are made visible, the record is written, pegs are signalled or poisoned and an MSI is sent. -/
  | jobComplete (slot : Nat)
  /-- DOWEL_QUERY (R319): Writing a handle latches the slot's state for the writing initiator. -/
  | dowelQuery (init part : Nat) (handle : Word32)
  /-- DOWEL_CANCEL (R320): Writing a handle cancels a queued or running dowel. -/
  | dowelCancel (init part : Nat) (handle : Word32)
  /-- DOWEL_RELEASE (R322): Writing a handle frees a terminal slot. -/
  | dowelRelease (init part : Nat) (handle : Word32)
  /-- PEG_COUNT_WRITE (R328): A register write to PEG_COUNT is a set of the peg. -/
  | pegCountWrite (init peg : Nat) (v : Word32)
  /-- PEG_ADD_WRITE (R328): A register write to PEG_ADD is an add to the peg. -/
  | pegAddWrite (init peg : Nat) (v : Word32)
  /-- PEG_STATUS_CLEAR (R330): Writing CLEAR clears poison and saturation and sets the count to 0. -/
  | pegStatusClear (init peg : Nat)
  /-- REGION_UPDATE_TAKE_EFFECT (R56): A running region update takes effect or faults, and the queued request starts running. -/
  | regionUpdateTakeEffect (region : Nat)
  /-- REGION_SWAP_APPLY (R360): A running swap exchanges the permissions of its group's two entries at the beat start. -/
  | regionSwapApply (part group : Nat)
  /-- PARTITION_CONFIG_RECORD (R347): A sealed RECORD operation is validated and queued to replace one partition record. -/
  | partitionConfigRecord
  /-- PARTITION_CONFIG_REGIONS (R347): A sealed REGIONS operation is validated and queued to replace a region table. -/
  | partitionConfigRegions
  /-- PARTITION_CONFIG_WHEELS (R351): A sealed WHEELS operation is validated and queued to replace both wheels. -/
  | partitionConfigWheels
  /-- PARTITION_CONFIG_APPLY (R349): A queued partition operation is revalidated and takes effect once its conditions hold. -/
  | partitionConfigApply (region : Nat)
  /-- PART_CHECK (R349): PART's 10 µs check applies pending operations when BEAT = 0 and starts contest windows. -/
  | partCheck
  /-- TABLE_SCAN (R48): PART re-verifies every region table and the partition table at least every 100 µs. -/
  | tableScan
  /-- RESOURCE_ZEROING_DONE (R354): The zeroing of a released bay store or loft granule completes. -/
  | resourceZeroingDone (granule : Bool) (n : Nat)
  /-- PART_CTRL_LOCK (R355): Writing 1 to LOCK closes the partition lock on RWL fields. -/
  | partCtrlLock (init part : Nat)
  /-- BEAT_START (R353): A partition's beat starts; its kerf schedule restarts and its contest window restarts. -/
  | beatStart (part : Nat)
  /-- KERF_ENTRY_START (R372): A kerf schedule entry or the open tail begins, and the scheduler chooses jobs for the bays. -/
  | kerfEntryStart (part : Nat)
  /-- KERF_DRAIN_COMPLETE (R378): Every issued command of the outgoing job has completed; the bay enters SAVING. -/
  | kerfDrainComplete (pb : Nat)
  /-- KERF_OVERRUN (R382): A drain that exceeds DRAIN_LIMIT raises KERF_OVERRUN. -/
  | kerfOverrun (pb : Nat)
  /-- SAVE_COMPLETE (R380): A save image is written; the bay becomes IDLE. -/
  | saveComplete (pb : Nat)
  /-- RESTORE_COMPLETE (R378): A restore and its slot reload finish; the bay is RUNNING. -/
  | restoreComplete (pb : Nat)
  /-- GIRT_WINDOW_START (R365): A 10,000-cycle budget window starts; every girt's used units reset. -/
  | girtWindowStart
  /-- WHEEL_SLOT_START (R366): A 128-cycle wheel slot begins and its owning girt gains level 16. -/
  | wheelSlotStart (dram loft : Bool)
  /-- GIRT_GRANT (R364): A DRAM channel or loft bank grants a request by girt level and charges its units. -/
  | girtGrant (target : Nat) (reqs : List GirtReq)
  /-- BAY_FENCE (R107): A fence event isolates a bay, dropping its unstarted commands and further writes. -/
  | bayFence (pb cause : Nat)
  /-- BAY_HANG (R106): A RUNNING bay retires nothing and makes no progress for 1,048,576 cycles, which is a fence event. -/
  | bayHang (pb : Nat)
  /-- BAY_DOMAIN_FAULT (R477): A bay's clock or VDD_BAY domain monitor fails, raising BAY_DOMAIN and fencing the bay. -/
  | bayDomainFault (pb : Nat)
  /-- RETIREMENT_POINT (R430): The fabric controller commits the new map of a logical number; the fenced bay is RETIRED. -/
  | retirementPoint (lb : Nat)
  /-- JOB_REPLAY (R431): After a retirement point, a job is restarted from its entry panel after its peg journal is restored. -/
  | jobReplay (slot : Nat)
  /-- SPARE_PERIODIC_PLUMB (R437): Every 100 ms the fabric controller runs a plumb run on each spare bay. -/
  | sparePeriodicPlumb (pb : Nat)
  /-- JOINTER_HANG (R438): A jointer with a running command makes no request for 1,048,576 cycles and is retired in favour of a spare. -/
  | jointerHang (pj : Nat)
  /-- PATROL_ROW_TEST (R444): The memory patrol tests one row of an eligible target with write patterns and restores it. -/
  | patrolRowTest (loft : Bool) (unit : Nat) (bad : Bool)
  /-- PLUMB_SCHEDULED_START (R460): The fabric controller starts a bay's scheduled plumb run at its first IDLE point after the lead time. -/
  | plumbScheduledStart (pb : Nat)
  /-- PLUMB_GATED_START (R465): A held job's end starts plumb runs on each of its bays when they are IDLE. -/
  | plumbGatedStart (slot : Nat)
  /-- GATED_RELEASE (R465): All of a held job's gated plumb runs pass, and the job's completion is released. -/
  | gatedRelease (slot : Nat)
  /-- PLUMB_OVERDUE (R461): At a beat end, the island finds a bay without a passed run in the beat and raises PLUMB_OVERDUE. -/
  | plumbOverdue (part : Nat)
  /-- PLUMB_PERIOD_OVERDUE (R462): With BEAT = 0, 2 × PERIOD ms pass without a passed run, raising PLUMB_OVERDUE. -/
  | plumbPeriodOverdue (lb : Nat)
  /-- AGE_EVENT (R470): An age channel takes a result event, reads the capture word and judges the age against LIMIT. -/
  | ageEvent (a : Nat)
  /-- AGE_GAP (R471): The 1 µs evaluation finds no event for longer than LIMIT and raises AGEn once per gap. -/
  | ageGap (a : Nat)
  /-- DIN_SAMPLE (R474): A dual-channel pair is sampled every 10 µs, updating the count and the resolved value. -/
  | dinSample (n : Nat) (a b : Bool)
  /-- CLOCK_MONITOR_WINDOW (R476): A 1,000-cycle monitor window ends, and each monitored clock's count is judged. -/
  | clockMonitorWindow (src count : Nat)
  /-- VOLTAGE_EXCURSION (R477): A rail stays outside its window for 1 µs, raising its monitor fault. -/
  | voltageExcursion (src mv : Nat)
  /-- TEMPERATURE_SAMPLE (R477): The highest of the 16 sensors is sampled every 100 µs and judged against the thresholds. -/
  | temperatureSample (t : List Nat)
  /-- LOCKSTEP_MISMATCH (R479): The cores of a lockstep pair disagree, raising LOCKSTEP. -/
  | lockstepMismatch (pair : Nat)
  /-- ISLAND_BIST_STEP (R479): Each 1 ms the island tests 4 KiB of its SRAM; a failure raises ISLAND_BIST. -/
  | islandBistStep (bad : Bool)
  /-- SAFETY_KICK (R480): A write to SAFETY_KICK is judged as a kick of the island watchdog. -/
  | safetyKick (init : Nat) (v : Word32)
  /-- SAFE_WDOG (R480): A kick not arriving within 10 ms raises SAFE_WDOG. -/
  | safeWdog
  /-- FAULT_PHASE_BOUNDARY (R488): A 500 µs (or 125 µs) phase of the FAULT pin grid ends, toggling or resuming the pins. -/
  | faultPhaseBoundary
  /-- SAFETY_CTRL_RUN (R488): The island sets RUN once; the FAULT pins start toggling and the watchdog starts. -/
  | safetyCtrlRun (init : Nat)
  /-- SAFETY_PSTOP_RELEASE (R492): P0 writes 1 to a STOPPED partition's bit to release it. -/
  | safetyPstopRelease (init part : Nat)
  /-- SAFETY_SWRAISE (R481): A write raises one of the software fault sources SW0–SW15. -/
  | safetySwraise (init : Nat) (v : Word32)
  /-- SAFETY_SRC_PEND_CLEAR (R487): A W1C write clears the PEND bit of a MINOR or MAJOR source. -/
  | safetySrcPendClear (init src : Nat)
  /-- FAULT_CLEAR_CRITICAL (R487): A sealed command clears the PEND bit of one CRITICAL source, or of all of them. -/
  | faultClearCritical
  /-- SAFE_STATE_EXIT (R494): A sealed command leaves safe state when no CRITICAL source is pending. -/
  | safeStateExit
  /-- TB_DOMAIN_LOSS (R512): A valid domain's SYNC timeout expires; it becomes invalid and may cause an automatic switch. -/
  | tbDomainLoss (d : Nat)
  /-- TB_DOM_SYNC (R512): Writing SYNC makes the domain valid and restarts its timeout. -/
  | tbDomSync (init d : Nat)
  /-- TB_DOM_DROP (R512): Writing DROP makes the domain invalid without a fault. -/
  | tbDomDrop (init d : Nat)
  /-- TB_CTRL_SEL (R514): Writing SEL requests a switch to a valid other domain, or raises SELREF. -/
  | tbCtrlSel (init d : Nat)
  /-- TB_DOM_STEP (R518): Writing a signed step request to a domain; only the last one before the tick is kept. -/
  | tbDomStep (init d : Nat) (v : Word32)
  /-- UNSEALED_STEP_APPLY (R517): At the next tick a step request is applied, absorbed by the bridge, or refused beyond the jump limit. -/
  | unsealedStepApply (d : Nat)
  /-- TIME_FORCE_STEP (R519): A sealed step of working time or of a domain, of any size, is accepted and queued for the next tick. -/
  | timeForceStep
  /-- FORCE_STEP_APPLY (R519): At the first tick after acceptance the forced step is applied and its dowel completes. -/
  | forceStepApply
  /-- BRIDGE_DECAY_STEP (R516): The decay counter reaches DECAY and the bridge moves 1 ns toward zero. -/
  | bridgeDecayStep
  /-- WRAP (R510): Bit 31 of working time falls, raising the WRAP event. -/
  | wrap
  /-- HALF (R510): Bit 31 of working time rises, raising the HALF event. -/
  | half
  /-- TB_TS_RECORD_POP (R524): Reading word 0 of a timestamp queue pops the head record into a latch. -/
  | tbTsRecordPop (init port : Nat) (tx : Bool)
  /-- TCAP_EDGE (R525): A matching edge on TCAPn is stamped and queued, or dropped when the queue is full. -/
  | tcapEdge (n : Nat) (rise : Bool)
  /-- TCAP_HEAD_READ (R526): Reading TCAP_HEAD pops the head record into the latch. -/
  | tcapHeadRead (init n : Nat)
  /-- TCAP_AGED (R527): An unread capture record reaches 2^31 ns of age and is marked AGED. -/
  | tcapAged (n : Nat)
  /-- TPULSE_ARM (R530): Writing ARM arms a pulse output, firing late when START is already reached. -/
  | tpulseArm (init n : Nat)
  /-- TPULSE_FIRE (R528): An armed output's target is reached; the output goes active and the next target is set. -/
  | tpulseFire (n : Nat)
  /-- TPULSE_WIDTH_END (R528): WIDTH ticks after the edge, the output returns to its inactive level. -/
  | tpulseWidthEnd (n : Nat)
  /-- CSI_FRAME_START (R549): An FS packet opens a camera frame in the next slot, or it is discarded into the gap count. -/
  | csiFrameStart (port vc cnt : Nat) (ecc : Bool)
  /-- CSI_FRAME_END (R553): An FE packet closes the open camera frame. -/
  | csiFrameEnd (port vc : Nat) (ecc : Bool)
  /-- CSI_LONG_PACKET (R554): A long packet is written as the next line of the open camera frame, padded, cut or discarded. -/
  | csiLongPacket (port vc dt : Nat) (data : List Byte) (ecc full : Bool)
  /-- CSI_EMBEDDED_PACKET (R560): An embedded-data packet supplies the frame counter to contexts with CNTSRC = 2. -/
  | csiEmbeddedPacket (port vc : Nat) (data : List Byte) (ecc : Bool)
  /-- CSI_FRAME_TIMEOUT (R553): TIMEOUT ms pass after SOFTIME without an FE, closing the camera frame with NOFE. -/
  | csiFrameTimeout (n : Nat)
  /-- INTAKE_CTX_DISABLE (R553): Writing EN = 0 closes an open camera frame with ABORT. -/
  | intakeCtxDisable (init n : Nat)
  /-- FRAME_CLOSE_COMPLETE (R563): Fills are written and the descriptor is closed; the peg is added, an MSI is sent and INTAKE_CTX may be raised. -/
  | frameCloseComplete (n : Nat)
  /-- GFX_BIND (R574): A render job becoming RUNNING binds the front end, which reads and tests its render pass block. -/
  | gfxBind (slot : Nat)
  /-- GFX_PACKET_ISSUE (R576): The front end writes a vertex, fragment or END packet to a bay's free mailbox slot and adds its work peg. -/
  | gfxPacketIssue
  /-- GFX_PACKET_RETURN (R577): A bay's DONE word reaches a packet's number, and the front end reads its outputs. -/
  | gfxPacketReturn (rank : Nat)
  /-- GFX_FRAGMENT_RETIRE (R582): The ordering scoreboard retires a fragment in draw order and blends it into the tile buffer. -/
  | gfxFragmentRetire
  /-- GFX_TILE_WRITEOUT (R585): A finished tile is signed, and it is written or skipped against the signature table. -/
  | gfxTileWriteout
  /-- FILLER_JOB_START (R589): A filler job starts on the second hand context once the render job runs on all its bays. -/
  | fillerJobStart (slot : Nat)
  /-- VERTICAL_BLANKING (R592): A pipe enters vertical blanking; pending flips and plane changes latch. -/
  | verticalBlanking (pipe : Nat)
  /-- DISPLAY_LINE_UNDERRUN (R595): A line whose pixels are late shows BG for the rest of the line and is counted. -/
  | displayLineUnderrun (pipe x line : Nat)
  /-- OUTPUT_WATCH_SIGNATURE (R599): A display frame's watch signature is handed to the island and compared with the expected values. -/
  | outputWatchSignature (pipe : Nat)
  /-- OUTPUT_WATCH_MISSING (R599): No signature arrives within 3 display-frame periods, raising OUTPUT_WATCH with MISSING. -/
  | outputWatchMissing (pipe : Nat)
  /-- DISP_AUX_GO (R600): Writing GO starts an AUX transaction on a DisplayPort transmitter. -/
  | dispAuxGo (init pipe : Nat) (v : Word32)
  /-- AUX_TRANSACTION_DONE (R600): An AUX transaction ends with a reply or a timeout. -/
  | auxTransactionDone (pipe reply : Nat) (data : List Byte)
  /-- HPD_EVENT (R600): A hot-plug level change or IRQ_HPD pulse arrives on DPi_HPD. -/
  | hpdEvent (pipe : Nat) (level irq : Bool)
  /-- ETHERNET_FRAME_RECEIVE (R615): An Ethernet frame on a zone or MGMT port is matched against the rules and handled by the acting rule. -/
  | ethernetFrameReceive (port : Nat) (l : List Byte)
  /-- CAN_FRAME_RECEIVE (R615): A received CAN frame is timestamped and handled by the acting CAN rule. -/
  | canFrameReceive (k : Nat) (f : CanFrame)
  /-- GW_TX_CMD (R623): Writing the length commits a host transmission into the partition's transmit queue. -/
  | gwTxCmd (init p : Nat) (v : Word32)
  /-- HOST_FRAME_PROCESS (R623): The gateway reads a queued host frame and matches it as a host frame of its partition. -/
  | hostFrameProcess (p : Nat)
  /-- GW_RX_HEAD_READ (R624): Reading GW_RX_HEAD pops a receive record into the latch. -/
  | gwRxHeadRead (init p : Nat)
  /-- GW_RULE_LOAD_GO (R617): Writing GO starts loading a run of gateway rules. -/
  | gwRuleLoadGo (init : Nat) (v : Word32)
  /-- GW_RULE_LOAD_COMMIT (R617): The loaded rules are verified and replace the old run as one version. -/
  | gwRuleLoadCommit
  /-- EGRESS_FRAME_SEND (R620): A port starts the highest-class queued frame whose gate is open and which fits before the gate closes. -/
  | egressFrameSend (port : Nat)
  /-- GATE_ENTRY_START (R621): The next gate control list entry begins, changing the gate states. -/
  | gateEntryStart (port : Nat)
  /-- TAS_COMMIT (R621): Writing COMMIT copies the admin gate list for takeover at a cycle start at or after BASE. -/
  | tasCommit (init port : Nat) (v : Word32)
  /-- GATE_LIST_TAKEOVER (R621): The committed list becomes operational at its cycle start. -/
  | gateListTakeover (port : Nat)
  /-- CAN_FRAME_TRANSMIT (R611): A CAN controller sends its highest-priority queued frame, stamping it. -/
  | canFrameTransmit (k : Nat)
  /-- CAN_BUSOFF_RECOVERY (R611): After 128 × 11 recessive bits, a bus-off controller recovers automatically. -/
  | canBusoffRecovery (k : Nat)
  /-- SUP_WRITE (R610): A SUP WRITE transaction hands one sealed command frame to the seal unit when SUP_CS_N rises. -/
  | supWrite (bytes : List Byte)
  /-- SUP_READ (R610): A SUP READ transaction shifts out the pending response. -/
  | supRead (n : Nat)
  /-- SEAL_SW_CTRL (R628): Writing LEN submits the software frame window to the seal unit. -/
  | sealSwCtrl (init : Nat) (v : Word32)
  /-- SEAL_FRAME_TAKE (R632): The seal unit takes a waiting frame and tests its length, check word, format, key, epoch, sequence and tag. -/
  | sealFrameTake
  /-- REPAIR_COMMIT (R441): A sealed command burns one entry into the field repair log. -/
  | repairCommit
  /-- REPAIR_BURN_COMPLETE (R441): The burn is verified, USED increments and the dowel completes. -/
  | repairBurnComplete (ok : Bool)
  /-- SCRIBE_ENABLE (R772): A sealed command in PRODUCTION raises SCRIBE_ENABLED and schedules the scribe pin enable. -/
  | scribeEnable
  /-- SCRIBE_PATTERN_START (R772): At the next FAULT phase boundary the pins change to the 4 kHz pattern. -/
  | scribePatternStart
  /-- SCRIBE_DRIVER_ENABLE (R772): 125 µs later the scribe drivers are enabled and the dowel completes. -/
  | scribeDriverEnable
  /-- FIRMWARE_ACCEPT (R742): A sealed command verifies a flash bank's image and writes a new boot record selecting it. -/
  | firmwareAccept (readOk : Bool)
  /-- KEY_REVOKE (R634): A sealed command revokes a key slot. -/
  | keyRevoke
  /-- ACCORD_OVERRIDE_REJOIN (R673): A sealed REJOIN takes a STANDALONE device back into JOINING. -/
  | accordOverrideRejoin
  /-- ACCORD_OVERRIDE_LEAVE (R673): A sealed LEAVE tells the peer and splits the pair. -/
  | accordOverrideLeave
  /-- GRADE_LOCK (R424): A sealed command locks the reported grade until reset. -/
  | gradeLock
  /-- IDENTITY_REPORT (R418): A request with a nonce returns the tagged 64-byte identity report. -/
  | identityReport
  /-- STATUS_QUERY (R634): Returns the epoch, safe-state, hold and lifecycle status. -/
  | statusQuery
  /-- RESULT_QUERY (R634): Returns the state and fault code of one of the seal unit's last 16 dowels. -/
  | resultQuery
  /-- TRUSS_TRAINING (R644): Link training tests every lane with PRBS31 and sets the link width. -/
  | trussTraining (rx tx : Nat)
  /-- TRUSS_TRAINING_COMPLETE (R651): Training completes, and the device moves to JOINING or back to STANDALONE. -/
  | trussTrainingComplete
  /-- TRUSS_LANE_RETIRE (R645): A lane with more than 16 invalid sync headers in 1 ms is retired and the link retrains. -/
  | trussLaneRetire (lane : Nat)
  /-- FLIT_RECEIVE (R647): A sequenced flit is accepted in order or discarded with a NAK. -/
  | flitReceive (f : Flit)
  /-- FLIT_NAK (R647): A received NAK makes the sender resend from the first flit not acknowledged. -/
  | flitNak (f : Flit)
  /-- FLIT_WRITE (R660): A received WRITE flit writes into a local window and may signal a peg. -/
  | flitWrite
  /-- FLIT_READ (R646): A received READ flit reads a local window and answers with RDATA. -/
  | flitRead
  /-- FLIT_RDATA (R646): A received RDATA flit completes an outstanding remote read. -/
  | flitRdata
  /-- FLIT_CONTROL (R657): A CONTROL flit carries firmware control such as spanning-job starts, ends, faults and LEAVE. -/
  | flitControl
  /-- FLIT_RETRY_LIMIT (R648): A flit sent 8 times unacknowledged forces a retrain; a failed retrain takes the link down. -/
  | flitRetryLimit
  /-- ACCORD_SEND (R653): Every 1 ms the device sends its accord record. -/
  | accordSend
  /-- ACCORD_RECEIVE (R654): A received accord is tested in order, leading to JOINED, HELD, STANDALONE or a split. -/
  | accordReceive
  /-- HEARTBEAT_SEND (R669): Every 100 µs in JOINED the device sends a HEARTBEAT flit. -/
  | heartbeatSend
  /-- HEARTBEAT_RECEIVE (R669): A received heartbeat records the peer's state and time. -/
  | heartbeatReceive
  /-- HEARTBEAT_LOSS (R669): 300 µs pass without a heartbeat, and the device splits. -/
  | heartbeatLoss
  /-- TIME_FLIT_SEND (R665): Every 10 µs the primary sends a TIME flit. -/
  | timeFlitSend
  /-- TIME_FLIT_RECEIVE (R666): A TIME flit updates the link delay or the secondary's error and steering, including carried steps. -/
  | timeFlitReceive
  /-- SPANNING_JOB_START (R658): Both devices start a spanning job's bays at the shared working time S. -/
  | spanningJobStart (slot : Nat)
  /-- MAILBOX_DOORBELL (R685): Advancing MB_PI of a request mailbox hands requests to firmware. -/
  | mailboxDoorbell (init m : Nat) (v : Word32)
  /-- MAILBOX_REQUEST_TAKE (R689): Firmware takes the next request of a mailbox and tests it in order. -/
  | mailboxRequestTake (m : Nat)
  /-- FW_VERSION (R690): Returns the firmware and message-format versions. -/
  | fwVersion (m : Nat)
  /-- COLL_CREATE (R696): Creates a collective and returns its dowel handle. -/
  | collCreate (m : Nat)
  /-- PEG_SIGNAL (R694): Firmware adds to, or sets, a peg of another partition allowed by the route table. -/
  | pegSignal (m : Nat)
  /-- MESSAGE_POST (R694): Firmware posts data to another partition as a POSTED notice. -/
  | messagePost (m : Nat)
  /-- PLUMB_STATUS (R693): Returns the plumb history of one logical bay. -/
  | plumbStatus (m : Nat)
  /-- REPAIR_LIST (R693): Returns the pending field repair entries. -/
  | repairList (m : Nat)
  /-- COLL_CONTRIBUTION_TAKE (R699): A participant's go peg reaches THR, and firmware takes its contribution. -/
  | collContributionTake (n r : Nat)
  /-- COLL_RESULT_WRITE (R699): With every contribution taken, firmware writes the results, makes them visible and adds RESPEG. -/
  | collResultWrite (n : Nat)
  /-- COLL_COMPLETE (R701): A collective completes when RESPEG is added, or when its owner becomes terminal. -/
  | collComplete (n : Nat)
  /-- CRP_BAY_CLK_REQ (R714): Writing REQ requests a bay clock step. -/
  | crpBayClkReq (init : Nat) (v : Word32)
  /-- BAY_CLOCK_STEP (R715): Once no bay is in PLUMB, the bay divider changes at a shared edge. -/
  | bayClockStep
  /-- THROTTLE_STEP_SLOWER (R741): At each 1 ms boundary under THERM_WARN, the throttle limit moves one step slower. -/
  | throttleStepSlower
  /-- THROTTLE_STEP_FASTER (R741): After 10 ms below 110 °C, the throttle limit moves one step faster. -/
  | throttleStepFaster
  /-- CRP_PIX_FRAC (R719): Writing CRP_PIX_FRAC applies a new pixel clock divisor. -/
  | crpPixFrac (init n : Nat) (v : Word32)
  /-- PIXEL_PLL_LOCK (R717): A pixel clock's cleanup PLL locks and LOCK reads 1. -/
  | pixelPllLock (n : Nat)
  /-- POWER_ON_RESET (R727): The power-on detector or PORST_N low causes a cold reset of every domain and a full boot. -/
  | powerOnReset (porst role flip : Bool) (flash : List (Nat × List Byte))
  /-- WRST_N_RESET (R727): WRST_N held low causes a warm reset of CORE and APP. -/
  | wrstNReset
  /-- CRP_RST_CTRL_WARM (R729): A keyed write starts a warm reset. -/
  | crpRstCtrlWarm (init : Nat) (v : Word32)
  /-- CRP_RST_CTRL_APP (R729): A keyed write starts an application reset of the harts. -/
  | crpRstCtrlApp (init : Nat) (v : Word32)
  /-- ROOT_PLL_LOCK (R711): The root PLL locks after reset release. -/
  | rootPllLock
  /-- MEMORY_BIST_DONE (R426): Memory BIST and row repair on every macro complete. -/
  | memoryBistDone (rows : List (Nat × Nat)) (panels : Nat)
  /-- DRAM_TRAINING_DONE (R735): DRAM training completes, and the application image read starts. -/
  | dramTrainingDone (ok : Bool) (bytes : Nat)
  /-- BOOT_IMAGES_VERIFIED (R733): The island and fabric controller images are read and verified. -/
  | bootImagesVerified (readOk : Bool) (cfg : BootCfg)
  /-- APP_IMAGE_VERIFIED (R733): The application image is read into DRAM and verified. -/
  | appImageVerified (readOk : Bool)
  /-- BAY_BIST_DONE (R426): Bay BIST with plumb runs and jointer BIST complete. -/
  | bayBistDone (bays jointers : Nat)
  /-- BOOT_MAP_AND_GRADE (R421): The boot builds the map and grade, applies the configuration section, lifecycle requests and early writes. -/
  | bootMapAndGrade
  /-- FABRIC_CONTROLLER_START (R735): The fabric controller starts at its entry and sets FC_STATUS.RUN. -/
  | fabricControllerStart
  /-- APP_HART_RELEASE (R735): Application harts are released once island software has set RUN and the application image is verified. -/
  | appHartRelease
  /-- BAY_CLOCK_GATE (R740): A bay IDLE for 100 µs has its clock gated. -/
  | bayClockGate (pb : Nat)
  /-- EXTEST (R779): JTAG instruction that drives pins from the boundary register. -/
  | extest (wrst : Bool)
  /-- IDCODE (R778): JTAG instruction that selects the identification register. -/
  | idcode
  /-- SAMPLE_PRELOAD (R777): JTAG instruction that samples pins and loads the boundary register. -/
  | samplePreload (pins load : Nat)
  /-- CLAMP (R779): JTAG instruction that holds pins from the boundary register and selects BYPASS. -/
  | clamp (wrst : Bool)
  /-- HIGHZ (R779): JTAG instruction that turns boundary-scan outputs off. -/
  | highz (wrst : Bool)
  /-- FUSE_PROG (R425): JTAG instruction that writes identity and repair fuses. -/
  | fuseProg (item : FuseItem)
  /-- KEY_PROG (R630): JTAG instruction that writes a key slot and its attributes. -/
  | keyProg (image : Bool) (k : Nat) (key : List Byte) (attr : Word32)
  /-- ISLAND_LOAD (R738): JTAG instruction that loads an unsigned island image in TEST. -/
  | islandLoad (o : Nat) (l : List Byte)
  /-- DEBUG (R770): JTAG debug transport of the island and fabric controller cores. -/
  | debug
  /-- LIFECYCLE (R784): JTAG instruction that burns the next allowed lifecycle state. -/
  | lifecycle (target : Nat)
  /-- BYPASS (R777): JTAG one-bit bypass instruction. -/
  | bypass
  /-- TAP_RESET (R777): TRST_N low holds the TAP in Test-Logic-Reset with IDCODE selected. -/
  | tapReset
  /-- REGISTER_READ (R37): A read of register space: a low-word read of a 64-bit pair loads the initiator's read latch, and a read of a hole, a foreign partition page or a bad width ends in an access error. -/
  | registerRead (init addr size : Nat)
  /-- MDRAIN_COMPLETE (R233): A queued MDRAIN finishes writing its rounded rows and delivers its flags. -/
  | mdrainComplete (pb seq : Nat)
  /-- MXFER_COMPLETE (R234): A queued MXFER finishes its 128 images, an ADD raising SILL_RANGE imprecisely on columns out of range. -/
  | mxferComplete (pb seq : Nat)
  /-- MCLEAR_COMPLETE (R100): A queued MCLEAR finishes zeroing its sill set or line range. -/
  | mclearComplete (pb seq : Nat)
  /-- KEY_REVOKE_COMPLETE (R634): REVOKED is set in the key slot within 2 ms and the KEY_REVOKE dowel completes. -/
  | keyRevokeComplete (k : Nat)
  /-- FIRMWARE_ACCEPT_DONE (R742): The new boot record is written and read back, and the FIRMWARE_ACCEPT dowel completes within 200 ms. -/
  | firmwareAcceptDone (ok : Bool)
  /-- REJOIN_TIMEOUT (R673): 100 ms pass after a REJOIN without the peer in JOINING; the dowel completes DONE_FAULT 0x9105 and the device returns to STANDALONE. -/
  | rejoinTimeout
  /-- ROOT_PLL_LOCK_TIMEOUT (R737): The root PLL has not locked within 10 ms of reset release, and the boot stops with code PLL. -/
  | rootPllLockTimeout
  /-- ROOT_PLL_LOCK_LOSS (R17): The root PLL loses lock and CRP_PLL_STAT.LOCK falls. -/
  | rootPllLockLoss
  /-- PIXEL_PLL_LOCK_LOSS (R748): A pixel clock's cleanup PLL loses lock while its pipe is enabled, and LOCK falls. -/
  | pixelPllLockLoss (n : Nat)
  /-- VOLTAGE_RETURN (R489): A rail that was outside its window returns inside it, ending a persisting VDD_SAFE fault hold. -/
  | voltageReturn (src : Nat)
  /-- CAN_BUS_ERROR (R611): A CAN controller detects a bus error, signals it, updates TEC or REC, and may enter bus-off. -/
  | canBusError (k : Nat) (tx eight : Bool)
  /-- PORT_LINK_CHANGE (R608): A zone or MGMT port's link goes up or down or changes speed by in-band exchange, updating GW_PORT_CFG.SPEED. -/
  | portLinkChange (port speed : Nat)
  /-- ULPS_ENTRY (R541): A CSI-2 port's lanes enter ULPS and INTAKE_PORT_STAT.ULPS is set. -/
  | ulpsEntry (port : Nat)
  /-- ULPS_EXIT (R541): A CSI-2 port's lanes leave ULPS and INTAKE_PORT_STAT.ULPS clears. -/
  | ulpsExit (port : Nat)
  /-- DESKEW_SEQUENCE (R541): A CSI-2 port completes an initial or periodic deskew sequence and sets INTAKE_PORT_STAT.DESKEW. -/
  | deskewSequence (port : Nat)
  /-- HS_BURST_START (R541): A high-speed burst begins on a CSI-2 port and INTAKE_PORT_STAT.HS is set. -/
  | hsBurstStart (port : Nat)
  /-- HS_BURST_END (R541): A high-speed burst ends on a CSI-2 port and INTAKE_PORT_STAT.HS clears. -/
  | hsBurstEnd (port : Nat)
  deriving DecidableEq, Repr

end Sys2Proof
end

