-- ==== Sys2Proof/Decode.lean ====
section
/-!
DEFINITION. The command that a word of the operation table spells. The table gives no row bits (every row's `fields` is empty): the
commands are accesses and events, and a Penyca word is an operand, which `Machine/Opcode.lean` reads (R205).
-/

namespace Sys2Proof

/-- No word spells a command. -/
def decodeTableWord (_nbits _w : Nat) : Option Instr := none

end Sys2Proof
end

