-- ==== Sys2Proof/Config.lean ====
section
/-!
DEFINITION. The values the manual leaves open, as opaque constants: nothing in Lean can evaluate them, so a theorem
about a next state that holds one of them holds for every value of it.
Each reads a plain counter of State (State.freeCtr) that the step advances when it takes a value.
-/

namespace Sys2Proof.Config

/-- A free 64-bit value: the `n`-th value the machine took from outside the manual's statements. -/
opaque freeValue : Nat → BitVec 64

/-- A free boolean choice, indexed like `freeValue`. -/
opaque freeBool : Nat → Bool

/-- A byte of the twin's memory that no RDATA flit has returned, by address. -/
opaque farByte : Nat → BitVec 8

/-! The graphics front end (chapter 15): values that its rules use and do not state, as functions of what they depend on. -/

/-- A 32-bit word of the vertex that clipping against a plane makes on the edge between two vertices. -/
opaque gfxCut (plane : Nat) (inside outside : List Byte) (word : Nat) : BitVec 32

/-- The interpolated FP32 depth of a triangle (its vertices) at a position in 1/256 pixel. -/
opaque gfxDepth (tri : List Byte) (x y : Int) : BitVec 32

/-- Barycentric coordinate 1 or 2 of a triangle at a position in 1/256 pixel. -/
opaque gfxBary (tri : List Byte) (x y : Int) (i : Nat) : BitVec 32

/-- The UNORM value of a NaN, by width in bits and pattern. -/
opaque unormOfNan (n bits : Nat) : Nat

end Sys2Proof.Config
end

