-- ==== Sys2Proof/Machine/Bits.lean ====
section
/-!
DEFINITION. Bit-field, sign-extension and byte-order helpers: the manual's bit ranges [hi:lo], little-endian byte
order of multi-byte fields (chapter 0), two's complement reading.
-/

namespace Sys2Proof.Machine

/-- Bits [lo+len-1:lo] of a natural number. -/
def nfld (x lo len : Nat) : Nat := (x >>> lo) % 2 ^ len

/-- Bits [lo+len-1:lo] of a bit vector, as a number. -/
def fld {n : Nat} (w : BitVec n) (lo len : Nat) : Nat := nfld w.toNat lo len

/-- One bit of a bit vector. -/
def bitAt {n : Nat} (w : BitVec n) (i : Nat) : Bool := w.getLsbD i

/-- Replace bits [lo+len-1:lo] by the low bits of `v`. -/
def setFld {n : Nat} (w : BitVec n) (lo len v : Nat) : BitVec n :=
  let m : BitVec n := BitVec.ofNat n ((2 ^ len - 1) <<< lo)
  (w &&& ~~~m) ||| (BitVec.ofNat n ((v % 2 ^ len) <<< lo))

/-- A boolean as bit `lo`. -/
def bitN (b : Bool) (lo : Nat) : Nat := if b then 2 ^ lo else 0

/-- Little-endian value of a byte list: byte 0 is least significant. -/
def leVal : List Byte → Nat
  | [] => 0
  | b :: t => b.toNat + 256 * leVal t

/-- The low `n` bytes of a number, little-endian. -/
def leBytes : Nat → Nat → List Byte
  | 0, _ => []
  | n + 1, v => BitVec.ofNat 8 v :: leBytes n (v / 256)

/-- Big-endian value of a byte list, for network structures that state that order. -/
def beVal (l : List Byte) : Nat := leVal l.reverse

/-- The low `n` bytes of a number, big-endian. -/
def beBytes (n v : Nat) : List Byte := (leBytes n v).reverse

/-- `n` bytes of a list from offset `o`, zero where the list ends. -/
def bytesAt (l : List Byte) (o n : Nat) : List Byte :=
  let s := (l.drop o).take n
  s ++ List.replicate (n - s.length) 0

/-- The little-endian number of `n` bytes at offset `o` of a structure. -/
def leAt (l : List Byte) (o n : Nat) : Nat := leVal (bytesAt l o n)

/-- The big-endian number of `n` bytes at offset `o` of a structure. -/
def beAt (l : List Byte) (o n : Nat) : Nat := beVal (bytesAt l o n)

/-- Two's complement reading of an `n`-bit number. -/
def sintOf (n : Nat) (x : Nat) : Int :=
  let y := x % 2 ^ n
  if n ≠ 0 ∧ 2 ^ (n - 1) ≤ y then (y : Int) - (2 ^ n : Nat) else (y : Int)

/-- The `n`-bit two's complement pattern of an integer. -/
def sintTo (n : Nat) (v : Int) : Nat := (v % ((2 ^ n : Nat) : Int)).toNat

/-- The number of bits of a natural number: 0 for 0. -/
def bitLen (m : Nat) : Nat := if m = 0 then 0 else Nat.log2 m + 1

/-- The numbers lo, lo+1, …, lo+n-1. -/
def rangeFrom (lo n : Nat) : List Nat := (List.range n).map (fun i => lo + i)

/-- Round `x` up to a multiple of `a`. -/
def alignUp (x a : Nat) : Nat := (x + a - 1) / a * a

/-- Two half-open address ranges [a, a+n) and [b, b+m) meet. -/
def rangesMeet (a n b m : Nat) : Bool := decide (0 < n) && decide (0 < m) && decide (a < b + m) && decide (b < a + n)

end Sys2Proof.Machine
end

