-- ==== Sys2Proof/Machine/Crc.lean ====
section
/-!
DEFINITION. The control check word: CRC-32C as the manual states it (R43), over the covered bytes in ascending address
order, stored little-endian.
-/

namespace Sys2Proof.Machine

/-- One bit of the reflected CRC-32C division; 0x82F63B78 is the reflection of 0x1EDC6F41 (R43). -/
def crcBit (c : Word32) : Word32 :=
  if c.getLsbD 0 then (c >>> 1) ^^^ 0x82F63B78#32 else c >>> 1

/-- Eight bits of the division. -/
def crcByte (c : Word32) (b : Byte) : Word32 :=
  let x := c ^^^ b.zeroExtend 32
  crcBit (crcBit (crcBit (crcBit (crcBit (crcBit (crcBit (crcBit x)))))))

/-- The running CRC over a list of bytes. -/
def crcRun (c : Word32) : List Byte → Word32
  | [] => c
  | b :: t => crcRun (crcByte c b) t

/-- CRC-32C of a byte list: initial value and final XOR 0xFFFF_FFFF (R43). -/
def crc32c (l : List Byte) : Word32 := crcRun 0xFFFFFFFF#32 l ^^^ 0xFFFFFFFF#32

/-- A structure whose last four bytes are the check word of all preceding bytes (R45). -/
def checkOk (l : List Byte) : Bool :=
  decide (4 ≤ l.length) &&
    decide (leVal (l.drop (l.length - 4)) = (crc32c (l.take (l.length - 4))).toNat)

/-- Append the check word, little-endian (R43). -/
def withCheck (l : List Byte) : List Byte := l ++ leBytes 4 (crc32c l).toNat

end Sys2Proof.Machine
end

