-- ==== Sys2Proof/Machine/RegMap.lean ====
section
/-!
DEFINITION. The place of every register of the device: the register block table (R33) and the offset table of each
chapter. A register is named by its physical address; a pair by the address of its low word, its high word 4 above.
-/

namespace Sys2Proof.Machine.Reg

/-- The base of register space (R26). -/
def spaceBase : Addr := 0x002000000000

/-- The number of bytes of register space: 0x0020_0000_0000–0x0020_013F_FFFF (R26). -/
def spaceSize : Nat := 0x1400000

/-- Block GLOBAL (R33). -/
def GLOBAL : Addr := 0x002000000000
/-- Block CRP (R33). -/
def CRP : Addr := 0x002000100000
/-- Block CMDPROC (R33). -/
def CMDPROC : Addr := 0x002000200000
/-- Block PEG (R33). -/
def PEG : Addr := 0x002000300000
/-- Block DOWEL (R33). -/
def DOWEL : Addr := 0x002000400000
/-- Block PART (R33). -/
def PART : Addr := 0x002000500000
/-- Block GIRT (R33). -/
def GIRT : Addr := 0x002000600000
/-- Block TIMEBASE (R33). -/
def TIMEBASE : Addr := 0x002000700000
/-- Block SAFETY (R33). -/
def SAFETY : Addr := 0x002000800000
/-- Block INTAKE (R33). -/
def INTAKE : Addr := 0x002000900000
/-- Block GFX (R33). -/
def GFX : Addr := 0x002000A00000
/-- Block DISP (R33). -/
def DISP : Addr := 0x002000B00000
/-- Block GATEWAY (R33). -/
def GATEWAY : Addr := 0x002000C00000
/-- Block TRUSS (R33). -/
def TRUSS : Addr := 0x002000D00000
/-- Block MAILBOX (R33). -/
def MAILBOX : Addr := 0x002000E00000
/-- Block SEAL (R33). -/
def SEAL : Addr := 0x002000F00000
/-- Block SCRIBE (R33). -/
def SCRIBE : Addr := 0x002001000000
/-- Block BAY (R33). -/
def BAY : Addr := 0x002001100000
/-- Block JOINTER (R33). -/
def JOINTER : Addr := 0x002001200000

/-- The page of a logical bay of this device, LB n mod 32: BAY_LO or BAY_HI (R33). -/
def bayPage (n : Nat) : Addr := (if n % 32 < 16 then BAY else 0x002001300000) + n % 16 * 0x10000

/-- GLOBAL_DEVID. -/
def GLOBAL_DEVID : Addr := GLOBAL + 0x0
/-- GLOBAL_GRADE. -/
def GLOBAL_GRADE : Addr := GLOBAL + 0x4
/-- GLOBAL_LOT (pair). -/
def GLOBAL_LOT : Addr := GLOBAL + 0x8
/-- GLOBAL_DIEPOS. -/
def GLOBAL_DIEPOS : Addr := GLOBAL + 0x10
/-- GLOBAL_SERIAL. -/
def GLOBAL_SERIAL : Addr := GLOBAL + 0x14
/-- GLOBAL_LIFECYCLE. -/
def GLOBAL_LIFECYCLE : Addr := GLOBAL + 0x18
/-- GLOBAL_REPAIR_DIGEST (pair). -/
def GLOBAL_REPAIR_DIGEST : Addr := GLOBAL + 0x20
/-- GLOBAL_FIELD_LOG. -/
def GLOBAL_FIELD_LOG : Addr := GLOBAL + 0x28
/-- GLOBAL_HOLE_ADDR (pair). -/
def GLOBAL_HOLE_ADDR : Addr := GLOBAL + 0x30
/-- GLOBAL_HOLE_INFO. -/
def GLOBAL_HOLE_INFO : Addr := GLOBAL + 0x38
/-- GLOBAL_HOLE_CNT. -/
def GLOBAL_HOLE_CNT : Addr := GLOBAL + 0x40
/-- GLOBAL_RSVD_CNT. -/
def GLOBAL_RSVD_CNT : Addr := GLOBAL + 0x44
/-- GLOBAL_TIE_IRQ. -/
def GLOBAL_TIE_IRQ : Addr := GLOBAL + 0x48
/-- GLOBAL_DROP. -/
def GLOBAL_DROP : Addr := GLOBAL + 0x50
/-- GLOBAL_SPARES. -/
def GLOBAL_SPARES : Addr := GLOBAL + 0x54
/-- GLOBAL_BIST. -/
def GLOBAL_BIST : Addr := GLOBAL + 0x58
/-- GLOBAL_PENDING. -/
def GLOBAL_PENDING : Addr := GLOBAL + 0x5C
/-- GLOBAL_PATROL_CFG. -/
def GLOBAL_PATROL_CFG : Addr := GLOBAL + 0x60
/-- GLOBAL_PATROL_POS. -/
def GLOBAL_PATROL_POS : Addr := GLOBAL + 0x64
/-- GLOBAL_PATROL_CNT. -/
def GLOBAL_PATROL_CNT : Addr := GLOBAL + 0x68
/-- GLOBAL_SUBST_CNT. -/
def GLOBAL_SUBST_CNT : Addr := GLOBAL + 0x6C
/-- BAY_STATE. -/
def BAY_STATE (n : Nat) : Addr := bayPage n + 0x0
/-- BAY_MAP. -/
def BAY_MAP (n : Nat) : Addr := bayPage n + 0x4
/-- BAY_FLAGS. -/
def BAY_FLAGS (n : Nat) : Addr := bayPage n + 0x8
/-- BAY_FENCE. -/
def BAY_FENCE (n : Nat) : Addr := bayPage n + 0xC
/-- BAY_PLUMBSIG (pair). -/
def BAY_PLUMBSIG (n : Nat) : Addr := bayPage n + 0x10
/-- BAY_SLOTS. -/
def BAY_SLOTS (n : Nat) : Addr := bayPage n + 0x18
/-- BAY_BUSY_CNT. -/
def BAY_BUSY_CNT (n : Nat) : Addr := bayPage n + 0x20
/-- BAY_ARRAY_CNT. -/
def BAY_ARRAY_CNT (n : Nat) : Addr := bayPage n + 0x24
/-- BAY_CONFLICT_CNT. -/
def BAY_CONFLICT_CNT (n : Nat) : Addr := bayPage n + 0x28
/-- BAY_STALE_CNT. -/
def BAY_STALE_CNT (n : Nat) : Addr := bayPage n + 0x2C
/-- BAY_JOB. -/
def BAY_JOB (n : Nat) : Addr := bayPage n + 0x30
/-- BAY_FAULT. -/
def BAY_FAULT (n : Nat) : Addr := bayPage n + 0x40
/-- BAY_PROGID. -/
def BAY_PROGID (n : Nat) : Addr := bayPage n + 0x44
/-- BAY_FAULT_PC (pair). -/
def BAY_FAULT_PC (n : Nat) : Addr := bayPage n + 0x48
/-- BAY_ICHECK_CNT. -/
def BAY_ICHECK_CNT (n : Nat) : Addr := bayPage n + 0x50
/-- BAY_PANEL_MISS_CNT. -/
def BAY_PANEL_MISS_CNT (n : Nat) : Addr := bayPage n + 0x54
/-- JOINTER_MAP. -/
def JOINTER_MAP (k : Nat) : Addr := JOINTER + 0x0 + k * 0x10000
/-- JOINTER_STATE. -/
def JOINTER_STATE (k : Nat) : Addr := JOINTER + 0x4 + k * 0x10000
/-- JOINTER_FAULT. -/
def JOINTER_FAULT (k : Nat) : Addr := JOINTER + 0x8 + k * 0x10000
/-- JOINTER_CMD_CNT. -/
def JOINTER_CMD_CNT (k : Nat) : Addr := JOINTER + 0x10 + k * 0x10000
/-- JOINTER_RANGE_CNT. -/
def JOINTER_RANGE_CNT (k : Nat) : Addr := JOINTER + 0x14 + k * 0x10000
/-- JOINTER_REFETCH_CNT. -/
def JOINTER_REFETCH_CNT (k : Nat) : Addr := JOINTER + 0x18 + k * 0x10000
/-- JOINTER_DROP_CNT. -/
def JOINTER_DROP_CNT (k : Nat) : Addr := JOINTER + 0x1C + k * 0x10000
/-- JOINTER_BUSY_CNT. -/
def JOINTER_BUSY_CNT (k : Nat) : Addr := JOINTER + 0x20 + k * 0x10000
/-- CMDPROC_SUBMIT (pair). -/
def CMDPROC_SUBMIT (w : Nat) : Addr := CMDPROC + 0x0 + w * 0x1000
/-- CMDPROC_TICKET. -/
def CMDPROC_TICKET (w : Nat) : Addr := CMDPROC + 0x8 + w * 0x1000
/-- CMDPROC_TICKETN. -/
def CMDPROC_TICKETN (w : Nat) : Addr := CMDPROC + 0xC + w * 0x1000
/-- CMDPROC_WIN_CFG. -/
def CMDPROC_WIN_CFG (w : Nat) : Addr := CMDPROC + 0x10 + w * 0x1000
/-- CMDPROC_WIN_LOST. -/
def CMDPROC_WIN_LOST (w : Nat) : Addr := CMDPROC + 0x14 + w * 0x1000
/-- CMDPROC_REJECT_CNT. -/
def CMDPROC_REJECT_CNT (p : Nat) : Addr := CMDPROC + 0x40000 + p * 0x1000
/-- CMDPROC_SPEC_DROP. -/
def CMDPROC_SPEC_DROP (p : Nat) : Addr := CMDPROC + 0x40004 + p * 0x1000
/-- CMDPROC_STALE_REFETCH. -/
def CMDPROC_STALE_REFETCH (p : Nat) : Addr := CMDPROC + 0x40008 + p * 0x1000
/-- CMDPROC_RING_DROP. -/
def CMDPROC_RING_DROP (p : Nat) : Addr := CMDPROC + 0x4000C + p * 0x1000
/-- CMDPROC_RING_BASE (pair). -/
def CMDPROC_RING_BASE (p r : Nat) : Addr := CMDPROC + 0x40100 + p * 0x1000 + r * 0x20
/-- CMDPROC_RING_CFG. -/
def CMDPROC_RING_CFG (p r : Nat) : Addr := CMDPROC + 0x40108 + p * 0x1000 + r * 0x20
/-- CMDPROC_RING_PI. -/
def CMDPROC_RING_PI (p r : Nat) : Addr := CMDPROC + 0x4010C + p * 0x1000 + r * 0x20
/-- CMDPROC_RING_CI. -/
def CMDPROC_RING_CI (p r : Nat) : Addr := CMDPROC + 0x40110 + p * 0x1000 + r * 0x20
/-- CMDPROC_RING_STAT. -/
def CMDPROC_RING_STAT (p r : Nat) : Addr := CMDPROC + 0x40114 + p * 0x1000 + r * 0x20
/-- DOWEL_QUERY. -/
def DOWEL_QUERY (p : Nat) : Addr := DOWEL + 0x0 + p * 0x1000
/-- DOWEL_STATE. -/
def DOWEL_STATE (p : Nat) : Addr := DOWEL + 0x4 + p * 0x1000
/-- DOWEL_CANCEL. -/
def DOWEL_CANCEL (p : Nat) : Addr := DOWEL + 0x8 + p * 0x1000
/-- DOWEL_RELEASE. -/
def DOWEL_RELEASE (p : Nat) : Addr := DOWEL + 0xC + p * 0x1000
/-- DOWEL_INUSE. -/
def DOWEL_INUSE (p : Nat) : Addr := DOWEL + 0x10 + p * 0x1000
/-- DOWEL_QUOTA. -/
def DOWEL_QUOTA (p : Nat) : Addr := DOWEL + 0x14 + p * 0x1000
/-- DOWEL_IGNORED_CNT. -/
def DOWEL_IGNORED_CNT (p : Nat) : Addr := DOWEL + 0x18 + p * 0x1000
/-- PEG_COUNT. -/
def PEG_COUNT (n : Nat) : Addr := PEG + 0x0 + n * 0x20
/-- PEG_ADD. -/
def PEG_ADD (n : Nat) : Addr := PEG + 0x4 + n * 0x20
/-- PEG_TARGET. -/
def PEG_TARGET (n : Nat) : Addr := PEG + 0x8 + n * 0x20
/-- PEG_STAMP. -/
def PEG_STAMP (n : Nat) : Addr := PEG + 0xC + n * 0x20
/-- PEG_STATUS. -/
def PEG_STATUS (n : Nat) : Addr := PEG + 0x10 + n * 0x20
/-- PEG_RANGE. -/
def PEG_RANGE (p : Nat) : Addr := PEG + 0x80000 + p * 0x4
/-- PART_CTRL. -/
def PART_CTRL (p : Nat) : Addr := PART + 0x0 + p * 0x1000
/-- PART_STATUS. -/
def PART_STATUS (p : Nat) : Addr := PART + 0x4 + p * 0x1000
/-- PART_KERF. -/
def PART_KERF (p : Nat) : Addr := PART + 0x8 + p * 0x1000
/-- PART_KERF_CFG. -/
def PART_KERF_CFG (p : Nat) : Addr := PART + 0xC + p * 0x1000
/-- PART_VIOL_ADDR (pair). -/
def PART_VIOL_ADDR (p : Nat) : Addr := PART + 0x10 + p * 0x1000
/-- PART_VIOL_INFO. -/
def PART_VIOL_INFO (p : Nat) : Addr := PART + 0x18 + p * 0x1000
/-- PART_VIOL_CNT. -/
def PART_VIOL_CNT (p : Nat) : Addr := PART + 0x20 + p * 0x1000
/-- PART_TIE. -/
def PART_TIE (p : Nat) : Addr := PART + 0x24 + p * 0x1000
/-- PART_SWITCH_CNT. -/
def PART_SWITCH_CNT (p : Nat) : Addr := PART + 0x28 + p * 0x1000
/-- PART_OVERRUN_CNT. -/
def PART_OVERRUN_CNT (p : Nat) : Addr := PART + 0x2C + p * 0x1000
/-- PART_DIVERGENCE. -/
def PART_DIVERGENCE (p : Nat) : Addr := PART + 0x30 + p * 0x1000
/-- PART_DIV_JSCAT. -/
def PART_DIV_JSCAT (p : Nat) : Addr := PART + 0x34 + p * 0x1000
/-- PART_DIV_JHPART. -/
def PART_DIV_JHPART (p : Nat) : Addr := PART + 0x38 + p * 0x1000
/-- PART_DIV_PWANY. -/
def PART_DIV_PWANY (p : Nat) : Addr := PART + 0x3C + p * 0x1000
/-- PART_DIV_FPARR. -/
def PART_DIV_FPARR (p : Nat) : Addr := PART + 0x40 + p * 0x1000
/-- PART_DIV_CONTEST. -/
def PART_DIV_CONTEST (p : Nat) : Addr := PART + 0x44 + p * 0x1000
/-- PART_CONTEST_COVER. -/
def PART_CONTEST_COVER (p : Nat) : Addr := PART + 0x48 + p * 0x1000
/-- GIRT_LAT. -/
def GIRT_LAT (p t c : Nat) : Addr := GIRT + 0x0 + p * 0x1000 + t * 0x100 + c * 0x20
/-- GIRT_LEVEL. -/
def GIRT_LEVEL (p t c : Nat) : Addr := GIRT + 0x4 + p * 0x1000 + t * 0x100 + c * 0x20
/-- GIRT_USED. -/
def GIRT_USED (p t c : Nat) : Addr := GIRT + 0x8 + p * 0x1000 + t * 0x100 + c * 0x20
/-- GIRT_MISS_CNT. -/
def GIRT_MISS_CNT (p t c : Nat) : Addr := GIRT + 0xC + p * 0x1000 + t * 0x100 + c * 0x20
/-- GIRT_FORFEIT_CNT. -/
def GIRT_FORFEIT_CNT (p t c : Nat) : Addr := GIRT + 0x10 + p * 0x1000 + t * 0x100 + c * 0x20
/-- GIRT_DEMOTE_CNT. -/
def GIRT_DEMOTE_CNT (p t c : Nat) : Addr := GIRT + 0x14 + p * 0x1000 + t * 0x100 + c * 0x20
/-- GIRT_MISS_STAT. -/
def GIRT_MISS_STAT (p : Nat) : Addr := GIRT + 0x800 + p * 0x1000
/-- GIRT_IRQ. -/
def GIRT_IRQ (p : Nat) : Addr := GIRT + 0x804 + p * 0x1000
/-- TB_NOW. -/
def TB_NOW : Addr := TIMEBASE + 0x0
/-- TB_CTRL. -/
def TB_CTRL : Addr := TIMEBASE + 0x1000
/-- TB_STATUS. -/
def TB_STATUS : Addr := TIMEBASE + 0x1004
/-- TB_BRIDGE. -/
def TB_BRIDGE : Addr := TIMEBASE + 0x1008
/-- TB_DECAY. -/
def TB_DECAY : Addr := TIMEBASE + 0x100C
/-- TB_JUMP_LIMIT. -/
def TB_JUMP_LIMIT : Addr := TIMEBASE + 0x1010
/-- TB_EVENT. -/
def TB_EVENT : Addr := TIMEBASE + 0x1014
/-- TB_IRQ. -/
def TB_IRQ : Addr := TIMEBASE + 0x1018
/-- TB_STEP_LAST. -/
def TB_STEP_LAST : Addr := TIMEBASE + 0x101C
/-- TB_JUMP_CNT. -/
def TB_JUMP_CNT : Addr := TIMEBASE + 0x1020
/-- TB_DOM_TIME. -/
def TB_DOM_TIME (d : Nat) : Addr := TIMEBASE + 0x2000 + d * 0x1000
/-- TB_DOM_FRAC. -/
def TB_DOM_FRAC (d : Nat) : Addr := TIMEBASE + 0x2004 + d * 0x1000
/-- TB_DOM_RATE. -/
def TB_DOM_RATE (d : Nat) : Addr := TIMEBASE + 0x2008 + d * 0x1000
/-- TB_DOM_STEP. -/
def TB_DOM_STEP (d : Nat) : Addr := TIMEBASE + 0x200C + d * 0x1000
/-- TB_DOM_SYNC. -/
def TB_DOM_SYNC (d : Nat) : Addr := TIMEBASE + 0x2010 + d * 0x1000
/-- TB_DOM_CFG. -/
def TB_DOM_CFG (d : Nat) : Addr := TIMEBASE + 0x2014 + d * 0x1000
/-- TB_TS_CFG. -/
def TB_TS_CFG (p : Nat) : Addr := TIMEBASE + 0x4000 + p * 0x1000
/-- TB_TSRX0. -/
def TB_TSRX0 (p : Nat) : Addr := TIMEBASE + 0x4010 + p * 0x1000
/-- TB_TSRX1. -/
def TB_TSRX1 (p : Nat) : Addr := TIMEBASE + 0x4014 + p * 0x1000
/-- TB_TSRX2. -/
def TB_TSRX2 (p : Nat) : Addr := TIMEBASE + 0x4018 + p * 0x1000
/-- TB_TSRX3. -/
def TB_TSRX3 (p : Nat) : Addr := TIMEBASE + 0x401C + p * 0x1000
/-- TB_TSTX0. -/
def TB_TSTX0 (p : Nat) : Addr := TIMEBASE + 0x4020 + p * 0x1000
/-- TB_TSTX1. -/
def TB_TSTX1 (p : Nat) : Addr := TIMEBASE + 0x4024 + p * 0x1000
/-- TB_TSTX2. -/
def TB_TSTX2 (p : Nat) : Addr := TIMEBASE + 0x4028 + p * 0x1000
/-- TB_TSTX3. -/
def TB_TSTX3 (p : Nat) : Addr := TIMEBASE + 0x402C + p * 0x1000
/-- TB_TSRX_LOST. -/
def TB_TSRX_LOST (p : Nat) : Addr := TIMEBASE + 0x4030 + p * 0x1000
/-- TB_TSTX_LOST. -/
def TB_TSTX_LOST (p : Nat) : Addr := TIMEBASE + 0x4034 + p * 0x1000
/-- TCAP_CFG. -/
def TCAP_CFG (n : Nat) : Addr := TIMEBASE + 0x10000 + n * 0x1000
/-- TCAP_HEAD. -/
def TCAP_HEAD (n : Nat) : Addr := TIMEBASE + 0x10004 + n * 0x1000
/-- TCAP_TIME. -/
def TCAP_TIME (n : Nat) : Addr := TIMEBASE + 0x10008 + n * 0x1000
/-- TCAP_LOST. -/
def TCAP_LOST (n : Nat) : Addr := TIMEBASE + 0x1000C + n * 0x1000
/-- TPULSE_CFG. -/
def TPULSE_CFG (n : Nat) : Addr := TIMEBASE + 0x20000 + n * 0x1000
/-- TPULSE_START. -/
def TPULSE_START (n : Nat) : Addr := TIMEBASE + 0x20004 + n * 0x1000
/-- TPULSE_PERIOD. -/
def TPULSE_PERIOD (n : Nat) : Addr := TIMEBASE + 0x20008 + n * 0x1000
/-- TPULSE_WIDTH. -/
def TPULSE_WIDTH (n : Nat) : Addr := TIMEBASE + 0x2000C + n * 0x1000
/-- TPULSE_NEXT. -/
def TPULSE_NEXT (n : Nat) : Addr := TIMEBASE + 0x20010 + n * 0x1000
/-- TPULSE_SKIP. -/
def TPULSE_SKIP (n : Nat) : Addr := TIMEBASE + 0x20014 + n * 0x1000
/-- SAFETY_CTRL. -/
def SAFETY_CTRL : Addr := SAFETY + 0x0
/-- SAFETY_KICK. -/
def SAFETY_KICK : Addr := SAFETY + 0x4
/-- SAFETY_PSTOP. -/
def SAFETY_PSTOP : Addr := SAFETY + 0x8
/-- SAFETY_SWRAISE. -/
def SAFETY_SWRAISE : Addr := SAFETY + 0xC
/-- SAFETY_LOG_PI. -/
def SAFETY_LOG_PI : Addr := SAFETY + 0x10
/-- SAFETY_LOG_CI. -/
def SAFETY_LOG_CI : Addr := SAFETY + 0x14
/-- SAFETY_LOG_LOST. -/
def SAFETY_LOG_LOST : Addr := SAFETY + 0x18
/-- SAFETY_LOG_SUPPRESS. -/
def SAFETY_LOG_SUPPRESS : Addr := SAFETY + 0x1C
/-- SAFETY_TIE. -/
def SAFETY_TIE : Addr := SAFETY + 0x20
/-- SAFETY_PLUMB_GOLD (pair). -/
def SAFETY_PLUMB_GOLD : Addr := SAFETY + 0x28
/-- SAFETY_PLUMB_CFG. -/
def SAFETY_PLUMB_CFG (p : Nat) : Addr := SAFETY + 0x40 + p * 0x4
/-- SAFETY_DIN_CFG. -/
def SAFETY_DIN_CFG (n : Nat) : Addr := SAFETY + 0x80 + n * 0x4
/-- SAFETY_DIN_STAT. -/
def SAFETY_DIN_STAT (n : Nat) : Addr := SAFETY + 0x90 + n * 0x4
/-- SAFETY_TEMP. -/
def SAFETY_TEMP (s : Nat) : Addr := SAFETY + 0xC0 + s * 0x4
/-- SAFETY_REACT_LO. -/
def SAFETY_REACT_LO (e : Nat) : Addr := SAFETY + 0x800 + e * 0x8
/-- SAFETY_REACT_HI. -/
def SAFETY_REACT_HI (e : Nat) : Addr := SAFETY + 0x804 + e * 0x8
/-- SAFETY_AGE_CFG. -/
def SAFETY_AGE_CFG (a : Nat) : Addr := SAFETY + 0x1000 + a * 0x20
/-- SAFETY_AGE_LIMIT. -/
def SAFETY_AGE_LIMIT (a : Nat) : Addr := SAFETY + 0x1004 + a * 0x20
/-- SAFETY_AGE_CAPADDR (pair). -/
def SAFETY_AGE_CAPADDR (a : Nat) : Addr := SAFETY + 0x1008 + a * 0x20
/-- SAFETY_AGE_LAST. -/
def SAFETY_AGE_LAST (a : Nat) : Addr := SAFETY + 0x1010 + a * 0x20
/-- SAFETY_AGE_ARRIVE. -/
def SAFETY_AGE_ARRIVE (a : Nat) : Addr := SAFETY + 0x1014 + a * 0x20
/-- SAFETY_SRC. -/
def SAFETY_SRC (s : Nat) : Addr := SAFETY + 0x2000 + s * 0x4
/-- INTAKE_PORT_CFG. -/
def INTAKE_PORT_CFG (p : Nat) : Addr := INTAKE + 0x0 + p * 0x1000
/-- INTAKE_PORT_STAT. -/
def INTAKE_PORT_STAT (p : Nat) : Addr := INTAKE + 0x4 + p * 0x1000
/-- INTAKE_PORT_DISC. -/
def INTAKE_PORT_DISC (p : Nat) : Addr := INTAKE + 0x8 + p * 0x1000
/-- INTAKE_PORT_OVF. -/
def INTAKE_PORT_OVF (p : Nat) : Addr := INTAKE + 0xC + p * 0x1000
/-- INTAKE_TIE. -/
def INTAKE_TIE (p : Nat) : Addr := INTAKE + 0x10 + p * 0x1000
/-- INTAKE_CTX_CFG. -/
def INTAKE_CTX_CFG (n : Nat) : Addr := INTAKE + 0x10000 + n * 0x1000
/-- INTAKE_CTX_SIZE. -/
def INTAKE_CTX_SIZE (n : Nat) : Addr := INTAKE + 0x10004 + n * 0x1000
/-- INTAKE_CTX_STRIDE. -/
def INTAKE_CTX_STRIDE (n : Nat) : Addr := INTAKE + 0x10008 + n * 0x1000
/-- INTAKE_CTX_BUF (pair). -/
def INTAKE_CTX_BUF (n : Nat) : Addr := INTAKE + 0x10010 + n * 0x1000
/-- INTAKE_CTX_DESC (pair). -/
def INTAKE_CTX_DESC (n : Nat) : Addr := INTAKE + 0x10018 + n * 0x1000
/-- INTAKE_CTX_FSTRIDE. -/
def INTAKE_CTX_FSTRIDE (n : Nat) : Addr := INTAKE + 0x10020 + n * 0x1000
/-- INTAKE_CTX_RING. -/
def INTAKE_CTX_RING (n : Nat) : Addr := INTAKE + 0x10024 + n * 0x1000
/-- INTAKE_CTX_PEG. -/
def INTAKE_CTX_PEG (n : Nat) : Addr := INTAKE + 0x10028 + n * 0x1000
/-- INTAKE_CTX_TEST. -/
def INTAKE_CTX_TEST (n : Nat) : Addr := INTAKE + 0x1002C + n * 0x1000
/-- INTAKE_CTX_TRIG. -/
def INTAKE_CTX_TRIG (n : Nat) : Addr := INTAKE + 0x10030 + n * 0x1000
/-- INTAKE_CTX_FAULT. -/
def INTAKE_CTX_FAULT (n : Nat) : Addr := INTAKE + 0x10034 + n * 0x1000
/-- INTAKE_CTX_STAT. -/
def INTAKE_CTX_STAT (n : Nat) : Addr := INTAKE + 0x10038 + n * 0x1000
/-- INTAKE_CTX_ORPHAN. -/
def INTAKE_CTX_ORPHAN (n : Nat) : Addr := INTAKE + 0x1003C + n * 0x1000
/-- GFX_CFG. -/
def GFX_CFG : Addr := GFX + 0x0
/-- GFX_FILL. -/
def GFX_FILL : Addr := GFX + 0x4
/-- GFX_BOUND. -/
def GFX_BOUND : Addr := GFX + 0x8
/-- GFX_STAT. -/
def GFX_STAT : Addr := GFX + 0xC
/-- GFX_TILE_WRITE_CNT. -/
def GFX_TILE_WRITE_CNT : Addr := GFX + 0x10
/-- GFX_TILE_SKIP_CNT. -/
def GFX_TILE_SKIP_CNT : Addr := GFX + 0x14
/-- GFX_TILE_FORCE_CNT. -/
def GFX_TILE_FORCE_CNT : Addr := GFX + 0x18
/-- GFX_FRAG_CNT. -/
def GFX_FRAG_CNT : Addr := GFX + 0x1C
/-- DISP_PIPE_CFG. -/
def DISP_PIPE_CFG (i : Nat) : Addr := DISP + 0x0 + i * 0x1000
/-- DISP_HTIME. -/
def DISP_HTIME (i : Nat) : Addr := DISP + 0x4 + i * 0x1000
/-- DISP_HSYNC. -/
def DISP_HSYNC (i : Nat) : Addr := DISP + 0x8 + i * 0x1000
/-- DISP_VTIME. -/
def DISP_VTIME (i : Nat) : Addr := DISP + 0xC + i * 0x1000
/-- DISP_VSYNC. -/
def DISP_VSYNC (i : Nat) : Addr := DISP + 0x10 + i * 0x1000
/-- DISP_BG. -/
def DISP_BG (i : Nat) : Addr := DISP + 0x14 + i * 0x1000
/-- DISP_PIPE_STAT. -/
def DISP_PIPE_STAT (i : Nat) : Addr := DISP + 0x18 + i * 0x1000
/-- DISP_UNDERRUN_CNT. -/
def DISP_UNDERRUN_CNT (i : Nat) : Addr := DISP + 0x1C + i * 0x1000
/-- DISP_LINK. -/
def DISP_LINK (i : Nat) : Addr := DISP + 0x20 + i * 0x1000
/-- DISP_AUX_CMD. -/
def DISP_AUX_CMD (i : Nat) : Addr := DISP + 0x24 + i * 0x1000
/-- DISP_AUX_STAT. -/
def DISP_AUX_STAT (i : Nat) : Addr := DISP + 0x28 + i * 0x1000
/-- DISP_AUX_DATA0. -/
def DISP_AUX_DATA0 (i : Nat) : Addr := DISP + 0x30 + i * 0x1000
/-- DISP_AUX_DATA1. -/
def DISP_AUX_DATA1 (i : Nat) : Addr := DISP + 0x34 + i * 0x1000
/-- DISP_AUX_DATA2. -/
def DISP_AUX_DATA2 (i : Nat) : Addr := DISP + 0x38 + i * 0x1000
/-- DISP_AUX_DATA3. -/
def DISP_AUX_DATA3 (i : Nat) : Addr := DISP + 0x3C + i * 0x1000
/-- DISP_PL_CFG. -/
def DISP_PL_CFG (q : Nat) : Addr := DISP + 0x10000 + q * 0x1000
/-- DISP_PL_BASE (pair). -/
def DISP_PL_BASE (q : Nat) : Addr := DISP + 0x10008 + q * 0x1000
/-- DISP_PL_PITCH. -/
def DISP_PL_PITCH (q : Nat) : Addr := DISP + 0x10010 + q * 0x1000
/-- DISP_PL_SIZE. -/
def DISP_PL_SIZE (q : Nat) : Addr := DISP + 0x10014 + q * 0x1000
/-- DISP_PL_POS. -/
def DISP_PL_POS (q : Nat) : Addr := DISP + 0x10018 + q * 0x1000
/-- DISP_WATCH_WIN. -/
def DISP_WATCH_WIN (i : Nat) : Addr := DISP + 0x40000 + i * 0x1000
/-- DISP_WATCH_SIZE. -/
def DISP_WATCH_SIZE (i : Nat) : Addr := DISP + 0x40004 + i * 0x1000
/-- DISP_WATCH_CFG. -/
def DISP_WATCH_CFG (i : Nat) : Addr := DISP + 0x40008 + i * 0x1000
/-- DISP_WATCH_STAT. -/
def DISP_WATCH_STAT (i : Nat) : Addr := DISP + 0x4000C + i * 0x1000
/-- DISP_WATCH_LAST (pair). -/
def DISP_WATCH_LAST (i : Nat) : Addr := DISP + 0x40010 + i * 0x1000
/-- DISP_WATCH_EXP (pair). -/
def DISP_WATCH_EXP (i k : Nat) : Addr := DISP + 0x40040 + i * 0x1000 + k * 0x8
/-- GW_RULE_LOAD (pair). -/
def GW_RULE_LOAD : Addr := GATEWAY + 0x0
/-- GW_RULE_CTRL. -/
def GW_RULE_CTRL : Addr := GATEWAY + 0x8
/-- GW_RULE_STAT. -/
def GW_RULE_STAT : Addr := GATEWAY + 0xC
/-- GW_CANTUN_DMAC (pair). -/
def GW_CANTUN_DMAC : Addr := GATEWAY + 0x10
/-- GW_CANTUN. -/
def GW_CANTUN : Addr := GATEWAY + 0x18
/-- GW_TIE. -/
def GW_TIE : Addr := GATEWAY + 0x1C
/-- GW_MISS_CNT. -/
def GW_MISS_CNT : Addr := GATEWAY + 0x20
/-- GW_PORT_CFG. -/
def GW_PORT_CFG (n : Nat) : Addr := GATEWAY + 0x10000 + n * 0x1000
/-- GW_PORT_MAC (pair). -/
def GW_PORT_MAC (n : Nat) : Addr := GATEWAY + 0x10008 + n * 0x1000
/-- GW_TAS_CTRL. -/
def GW_TAS_CTRL (n : Nat) : Addr := GATEWAY + 0x10010 + n * 0x1000
/-- GW_TAS_BASE. -/
def GW_TAS_BASE (n : Nat) : Addr := GATEWAY + 0x10014 + n * 0x1000
/-- GW_PORT_DROP. -/
def GW_PORT_DROP (n : Nat) : Addr := GATEWAY + 0x10018 + n * 0x1000
/-- GW_TAS_LIST0. -/
def GW_TAS_LIST0 (n e : Nat) : Addr := GATEWAY + 0x10800 + n * 0x1000 + e * 0x8
/-- GW_TAS_LIST1. -/
def GW_TAS_LIST1 (n e : Nat) : Addr := GATEWAY + 0x10804 + n * 0x1000 + e * 0x8
/-- GW_CAN_CTRL. -/
def GW_CAN_CTRL (n : Nat) : Addr := GATEWAY + 0x20000 + n * 0x1000
/-- GW_CAN_NBT. -/
def GW_CAN_NBT (n : Nat) : Addr := GATEWAY + 0x20004 + n * 0x1000
/-- GW_CAN_DBT. -/
def GW_CAN_DBT (n : Nat) : Addr := GATEWAY + 0x20008 + n * 0x1000
/-- GW_CAN_STAT. -/
def GW_CAN_STAT (n : Nat) : Addr := GATEWAY + 0x2000C + n * 0x1000
/-- GW_CAN_DROP. -/
def GW_CAN_DROP (n : Nat) : Addr := GATEWAY + 0x20010 + n * 0x1000
/-- GW_FILTER0. -/
def GW_FILTER0 (f : Nat) : Addr := GATEWAY + 0x30000 + f * 0x8
/-- GW_FILTER1. -/
def GW_FILTER1 (f : Nat) : Addr := GATEWAY + 0x30004 + f * 0x8
/-- GW_METER0. -/
def GW_METER0 (m : Nat) : Addr := GATEWAY + 0x30400 + m * 0x10
/-- GW_METER1. -/
def GW_METER1 (m : Nat) : Addr := GATEWAY + 0x30404 + m * 0x10
/-- GW_METER2. -/
def GW_METER2 (m : Nat) : Addr := GATEWAY + 0x30408 + m * 0x10
/-- GW_METER3. -/
def GW_METER3 (m : Nat) : Addr := GATEWAY + 0x3040C + m * 0x10
/-- GW_TX_ADDR (pair). -/
def GW_TX_ADDR (p : Nat) : Addr := GATEWAY + 0x40000 + p * 0x1000
/-- GW_TX_CMD. -/
def GW_TX_CMD (p : Nat) : Addr := GATEWAY + 0x40008 + p * 0x1000
/-- GW_TX_STAT. -/
def GW_TX_STAT (p : Nat) : Addr := GATEWAY + 0x4000C + p * 0x1000
/-- GW_RX_BASE (pair). -/
def GW_RX_BASE (p : Nat) : Addr := GATEWAY + 0x40010 + p * 0x1000
/-- GW_RX_CFG. -/
def GW_RX_CFG (p : Nat) : Addr := GATEWAY + 0x40018 + p * 0x1000
/-- GW_RX_CI. -/
def GW_RX_CI (p : Nat) : Addr := GATEWAY + 0x4001C + p * 0x1000
/-- GW_RX_HEAD. -/
def GW_RX_HEAD (p : Nat) : Addr := GATEWAY + 0x40020 + p * 0x1000
/-- GW_RX_TIME. -/
def GW_RX_TIME (p : Nat) : Addr := GATEWAY + 0x40024 + p * 0x1000
/-- GW_RX_DROP. -/
def GW_RX_DROP (p : Nat) : Addr := GATEWAY + 0x40028 + p * 0x1000
/-- SEAL_EPOCH. -/
def SEAL_EPOCH : Addr := SEAL + 0x0
/-- SEAL_SRC_CFG. -/
def SEAL_SRC_CFG : Addr := SEAL + 0x4
/-- SEAL_IP4. -/
def SEAL_IP4 : Addr := SEAL + 0x8
/-- SEAL_MAC (pair). -/
def SEAL_MAC : Addr := SEAL + 0x10
/-- SEAL_KEY_ATTR. -/
def SEAL_KEY_ATTR (k : Nat) : Addr := SEAL + 0x20 + k * 0x4
/-- SEAL_LASTSEQ. -/
def SEAL_LASTSEQ (k : Nat) : Addr := SEAL + 0x40 + k * 0x4
/-- SEAL_SW_CTRL. -/
def SEAL_SW_CTRL : Addr := SEAL + 0x60
/-- SEAL_SW_STAT. -/
def SEAL_SW_STAT : Addr := SEAL + 0x64
/-- SEAL_REJ_CNT. -/
def SEAL_REJ_CNT : Addr := SEAL + 0x68
/-- SEAL_ACC_CNT. -/
def SEAL_ACC_CNT : Addr := SEAL + 0x6C
/-- TRUSS_CFG. -/
def TRUSS_CFG : Addr := TRUSS + 0x0
/-- TRUSS_STATE. -/
def TRUSS_STATE : Addr := TRUSS + 0x4
/-- TRUSS_LANES. -/
def TRUSS_LANES : Addr := TRUSS + 0x8
/-- TRUSS_PEER. -/
def TRUSS_PEER : Addr := TRUSS + 0xC
/-- TRUSS_PEER_LAST. -/
def TRUSS_PEER_LAST : Addr := TRUSS + 0x10
/-- TRUSS_PEER_SERIAL. -/
def TRUSS_PEER_SERIAL : Addr := TRUSS + 0x14
/-- TRUSS_TIME_ERR. -/
def TRUSS_TIME_ERR : Addr := TRUSS + 0x18
/-- TRUSS_DELAY. -/
def TRUSS_DELAY : Addr := TRUSS + 0x1C
/-- TRUSS_HDR_CNT. -/
def TRUSS_HDR_CNT : Addr := TRUSS + 0x20
/-- TRUSS_RETRY_CNT. -/
def TRUSS_RETRY_CNT : Addr := TRUSS + 0x24
/-- TRUSS_ACCORD_BAD. -/
def TRUSS_ACCORD_BAD : Addr := TRUSS + 0x28
/-- TRUSS_DISCARD. -/
def TRUSS_DISCARD : Addr := TRUSS + 0x2C
/-- MB_BASE (pair). -/
def MB_BASE (m : Nat) : Addr := MAILBOX + 0x0 + m * 0x1000
/-- MB_CFG. -/
def MB_CFG (m : Nat) : Addr := MAILBOX + 0x8 + m * 0x1000
/-- MB_PI. -/
def MB_PI (m : Nat) : Addr := MAILBOX + 0xC + m * 0x1000
/-- MB_CI. -/
def MB_CI (m : Nat) : Addr := MAILBOX + 0x10 + m * 0x1000
/-- MB_CHECK_CNT. -/
def MB_CHECK_CNT (m : Nat) : Addr := MAILBOX + 0x14 + m * 0x1000
/-- MB_NOTE_DROP. -/
def MB_NOTE_DROP (m : Nat) : Addr := MAILBOX + 0x18 + m * 0x1000
/-- FC_STATUS. -/
def FC_STATUS : Addr := MAILBOX + 0x20000
/-- FC_VERSION. -/
def FC_VERSION : Addr := MAILBOX + 0x20004
/-- FC_MSGVER. -/
def FC_MSGVER : Addr := MAILBOX + 0x20008
/-- FC_ROUTE. -/
def FC_ROUTE (p : Nat) : Addr := MAILBOX + 0x20010 + p * 0x4
/-- FC_RERUN_CNT. -/
def FC_RERUN_CNT : Addr := MAILBOX + 0x20030
/-- CRP_BAY_CLK. -/
def CRP_BAY_CLK : Addr := CRP + 0x0
/-- CRP_THROTTLE. -/
def CRP_THROTTLE : Addr := CRP + 0x4
/-- CRP_RST_CTRL. -/
def CRP_RST_CTRL : Addr := CRP + 0x8
/-- CRP_STEP_CNT. -/
def CRP_STEP_CNT : Addr := CRP + 0xC
/-- CRP_PIX_INT. -/
def CRP_PIX_INT (i : Nat) : Addr := CRP + 0x1000 + i * 0x10
/-- CRP_PIX_FRAC. -/
def CRP_PIX_FRAC (i : Nat) : Addr := CRP + 0x1004 + i * 0x10
/-- CRP_PIX_STAT. -/
def CRP_PIX_STAT (i : Nat) : Addr := CRP + 0x1008 + i * 0x10
/-- CRP_RST_CAUSE. -/
def CRP_RST_CAUSE : Addr := CRP + 0x2000
/-- CRP_BOOT_STAT. -/
def CRP_BOOT_STAT : Addr := CRP + 0x2004
/-- CRP_PLL_STAT. -/
def CRP_PLL_STAT : Addr := CRP + 0x2008
/-- SCRIBE_STATE. -/
def SCRIBE_STATE : Addr := SCRIBE + 0x0
/-- SCRIBE_CLKCFG. -/
def SCRIBE_CLKCFG : Addr := SCRIBE + 0x4
/-- SCRIBE_SEL. -/
def SCRIBE_SEL (g : Nat) : Addr := SCRIBE + 0x10 + g * 0x4
/-- SCRIBE_STRAPS. -/
def SCRIBE_STRAPS : Addr := SCRIBE + 0x20

end Sys2Proof.Machine.Reg
end

