-- ==== Sys2Proof/Machine/RegTable.lean ====
section
/-!
DEFINITION. The field tables of every register: which bits are a field, its access and reset value (R38–R41), and the
values the manual assigns (any other is a reserved encoding, R12, R39). A bit of no field is reserved (R38).
-/

namespace Sys2Proof.Machine

/-- The Access column of a field table. -/
inductive Acc where
  /-- read only -/
  | ro
  /-- read and write -/
  | rw
  /-- read and write while the owning partition's lock is open (R355) -/
  | rwl
  /-- a write of 1 clears the bit -/
  | w1c
  /-- a write of 1 sets the bit -/
  | w1s
  /-- write only; reads 0 -/
  | wo
  /-- changed by sealed commands only -/
  | sealed
  deriving DecidableEq, Repr

/-- One field: bits [lo+len-1:lo], its access, its reset value, and the lowest and highest values assigned. -/
structure RField where
  lo : Nat
  len : Nat
  acc : Acc
  rst : Nat
  mn : Nat
  mx : Nat
  deriving DecidableEq, Repr

/-- Whether a word stands alone or is a half of a 64-bit pair (R37). -/
inductive PairHalf where
  | single | low | high
  deriving DecidableEq, Repr

/-- One row: the address of the first instance, the (stride, count) of each index, and the fields. -/
structure RRow where
  base : Addr
  strides : List (Nat × Nat)
  half : PairHalf
  fields : List RField
  deriving DecidableEq, Repr

/-- Common counter format (R41). -/
def cntFields : List RField := [⟨31, 1, .wo, 0, 0, 1⟩, ⟨0, 31, .ro, 0, 0, 0x7FFFFFFF⟩]

/-- Block GLOBAL. -/
def regRowsGlobal0 : List RRow := [
  ⟨0x2000000000, [], .single, [⟨16, 16, .ro, 0x736, 0, 0xFFFF⟩, ⟨8, 8, .ro, 0x0, 0, 0xFF⟩, ⟨0, 8, .ro, 0x0, 0, 0xFF⟩]⟩,  -- GLOBAL_DEVID
  ⟨0x2000000004, [], .single, [⟨16, 8, .ro, 0x0, 0, 0xFF⟩, ⟨8, 8, .ro, 0x0, 0, 0xFF⟩, ⟨4, 4, .ro, 0x0, 0, 0xF⟩, ⟨3, 1, .ro, 0x0, 0, 0x1⟩, ⟨2, 1, .sealed, 0x0, 0, 0x1⟩]⟩,  -- GLOBAL_GRADE
  ⟨0x2000000008, [], .low, [⟨0, 32, .ro, 0x0, 0, 0xFFFFFFFF⟩]⟩,  -- GLOBAL_LOT
  ⟨0x200000000C, [], .high, [⟨0, 4, .ro, 0x0, 0, 0xF⟩]⟩,  -- GLOBAL_LOT.h
  ⟨0x2000000010, [], .single, [⟨16, 5, .ro, 0x0, 0, 0x1F⟩, ⟨8, 8, .ro, 0x0, 0, 0xFF⟩, ⟨0, 8, .ro, 0x0, 0, 0xFF⟩]⟩,  -- GLOBAL_DIEPOS
  ⟨0x2000000014, [], .single, [⟨0, 32, .ro, 0x0, 0, 0xFFFFFFFF⟩]⟩,  -- GLOBAL_SERIAL
  ⟨0x2000000018, [], .single, [⟨0, 3, .ro, 0x0, 0, 0x7⟩]⟩,  -- GLOBAL_LIFECYCLE
  ⟨0x2000000020, [], .low, [⟨0, 32, .ro, 0x0, 0, 0xFFFFFFFF⟩]⟩,  -- GLOBAL_REPAIR_DIGEST
  ⟨0x2000000024, [], .high, [⟨0, 32, .ro, 0x0, 0, 0xFFFFFFFF⟩]⟩,  -- GLOBAL_REPAIR_DIGEST.h
  ⟨0x2000000028, [], .single, [⟨0, 6, .ro, 0x0, 0, 0x3F⟩]⟩,  -- GLOBAL_FIELD_LOG
  ⟨0x2000000030, [], .low, [⟨0, 32, .ro, 0x0, 0, 0xFFFFFFFF⟩]⟩,  -- GLOBAL_HOLE_ADDR
  ⟨0x2000000034, [], .high, [⟨0, 16, .ro, 0x0, 0, 0xFFFF⟩]⟩,  -- GLOBAL_HOLE_ADDR.h
  ⟨0x2000000038, [], .single, [⟨31, 1, .w1c, 0x0, 0, 0x1⟩, ⟨8, 8, .ro, 0x0, 0, 0xFF⟩, ⟨0, 2, .ro, 0x0, 0, 0x3⟩]⟩,  -- GLOBAL_HOLE_INFO
  ⟨0x2000000040, [], .single, cntFields⟩,  -- GLOBAL_HOLE_CNT
  ⟨0x2000000044, [], .single, cntFields⟩,  -- GLOBAL_RSVD_CNT
  ⟨0x2000000048, [], .single, cntFields⟩,  -- GLOBAL_TIE_IRQ
  ⟨0x2000000050, [], .single, [⟨0, 32, .ro, 0x0, 0, 0xFFFFFFFF⟩]⟩,  -- GLOBAL_DROP
  ⟨0x2000000054, [], .single, [⟨16, 6, .ro, 0x0, 0, 0x3F⟩, ⟨8, 3, .ro, 0x0, 0, 0x7⟩, ⟨0, 1, .ro, 0x0, 0, 0x1⟩]⟩,  -- GLOBAL_SPARES
  ⟨0x2000000058, [], .single, [⟨16, 6, .ro, 0x0, 0, 0x3F⟩, ⟨8, 4, .ro, 0x0, 0, 0xF⟩, ⟨0, 6, .ro, 0x0, 0, 0x3F⟩]⟩,  -- GLOBAL_BIST
  ⟨0x200000005C, [], .single, [⟨0, 6, .ro, 0x0, 0, 0x3F⟩]⟩  -- GLOBAL_PENDING
  ]

/-- Block GLOBAL, continued. -/
def regRowsGlobal1 : List RRow := [
  ⟨0x2000000060, [], .single, [⟨31, 1, .rw, 0x0, 0, 0x1⟩, ⟨17, 1, .rw, 0x1, 0, 0x1⟩, ⟨16, 1, .rw, 0x1, 0, 0x1⟩, ⟨0, 16, .rw, 0xA, 1, 0xFFFF⟩]⟩,  -- GLOBAL_PATROL_CFG
  ⟨0x2000000064, [], .single, [⟨0, 32, .ro, 0x0, 0, 0xFFFFFFFF⟩]⟩,  -- GLOBAL_PATROL_POS
  ⟨0x2000000068, [], .single, cntFields⟩,  -- GLOBAL_PATROL_CNT
  ⟨0x200000006C, [], .single, cntFields⟩  -- GLOBAL_SUBST_CNT
  ]

/-- Block BAY. -/
def regRowsBay0 : List RRow := [
  ⟨0x2001100000, [(0x200000, 2), (0x10000, 16)], .single, [⟨16, 3, .ro, 0x0, 0, 0x7⟩, ⟨10, 1, .ro, 0x0, 0, 0x1⟩, ⟨9, 1, .ro, 0x0, 0, 0x1⟩, ⟨8, 1, .ro, 0x0, 0, 0x1⟩, ⟨0, 3, .ro, 0x0, 0, 0x7⟩]⟩,  -- BAY_STATE
  ⟨0x2001100004, [(0x200000, 2), (0x10000, 16)], .single, [⟨16, 6, .ro, 0x0, 0, 0x3F⟩, ⟨8, 6, .ro, 0x0, 0, 0x3F⟩, ⟨0, 4, .ro, 0x0, 0, 0xF⟩]⟩,  -- BAY_MAP
  ⟨0x2001100008, [(0x200000, 2), (0x10000, 16)], .single, [⟨5, 1, .ro, 0x0, 0, 0x1⟩, ⟨4, 1, .ro, 0x0, 0, 0x1⟩, ⟨3, 1, .ro, 0x0, 0, 0x1⟩, ⟨2, 1, .ro, 0x0, 0, 0x1⟩, ⟨1, 1, .ro, 0x0, 0, 0x1⟩, ⟨0, 1, .ro, 0x0, 0, 0x1⟩]⟩,  -- BAY_FLAGS
  ⟨0x200110000C, [(0x200000, 2), (0x10000, 16)], .single, [⟨31, 1, .w1c, 0x0, 0, 0x1⟩, ⟨8, 6, .ro, 0x0, 0, 0x3F⟩, ⟨0, 3, .ro, 0x0, 0, 0x7⟩]⟩,  -- BAY_FENCE
  ⟨0x2001100010, [(0x200000, 2), (0x10000, 16)], .low, [⟨0, 32, .ro, 0x0, 0, 0xFFFFFFFF⟩]⟩,  -- BAY_PLUMBSIG
  ⟨0x2001100014, [(0x200000, 2), (0x10000, 16)], .high, [⟨0, 32, .ro, 0x0, 0, 0xFFFFFFFF⟩]⟩,  -- BAY_PLUMBSIG.h
  ⟨0x2001100018, [(0x200000, 2), (0x10000, 16)], .single, [⟨12, 4, .ro, 0x0, 0, 0xF⟩, ⟨8, 4, .ro, 0x0, 0, 0xF⟩, ⟨4, 4, .ro, 0x0, 0, 0xF⟩, ⟨0, 4, .ro, 0x0, 0, 0xF⟩]⟩,  -- BAY_SLOTS
  ⟨0x2001100020, [(0x200000, 2), (0x10000, 16)], .single, cntFields⟩,  -- BAY_BUSY_CNT
  ⟨0x2001100024, [(0x200000, 2), (0x10000, 16)], .single, cntFields⟩,  -- BAY_ARRAY_CNT
  ⟨0x2001100028, [(0x200000, 2), (0x10000, 16)], .single, cntFields⟩,  -- BAY_CONFLICT_CNT
  ⟨0x200110002C, [(0x200000, 2), (0x10000, 16)], .single, cntFields⟩,  -- BAY_STALE_CNT
  ⟨0x2001100030, [(0x200000, 2), (0x10000, 16)], .single, [⟨0, 32, .ro, 0x0, 0, 0xFFFFFFFF⟩]⟩,  -- BAY_JOB
  ⟨0x2001100040, [(0x200000, 2), (0x10000, 16)], .single, [⟨31, 1, .w1c, 0x0, 0, 0x1⟩, ⟨16, 3, .ro, 0x0, 0, 0x7⟩, ⟨8, 8, .ro, 0x0, 0, 0xFF⟩, ⟨0, 8, .ro, 0x0, 0, 0xFF⟩]⟩,  -- BAY_FAULT
  ⟨0x2001100044, [(0x200000, 2), (0x10000, 16)], .single, [⟨0, 16, .ro, 0x0, 0, 0xFFFF⟩]⟩,  -- BAY_PROGID
  ⟨0x2001100048, [(0x200000, 2), (0x10000, 16)], .low, [⟨0, 32, .ro, 0x0, 0, 0xFFFFFFFF⟩]⟩,  -- BAY_FAULT_PC
  ⟨0x200110004C, [(0x200000, 2), (0x10000, 16)], .high, [⟨0, 16, .ro, 0x0, 0, 0xFFFF⟩]⟩,  -- BAY_FAULT_PC.h
  ⟨0x2001100050, [(0x200000, 2), (0x10000, 16)], .single, cntFields⟩,  -- BAY_ICHECK_CNT
  ⟨0x2001100054, [(0x200000, 2), (0x10000, 16)], .single, cntFields⟩  -- BAY_PANEL_MISS_CNT
  ]

/-- Block JOINTER. -/
def regRowsJointer0 : List RRow := [
  ⟨0x2001200000, [(0x10000, 8)], .single, [⟨16, 4, .ro, 0x0, 0, 0xF⟩, ⟨8, 4, .ro, 0x0, 0, 0xF⟩]⟩,  -- JOINTER_MAP
  ⟨0x2001200004, [(0x10000, 8)], .single, [⟨31, 1, .ro, 0x0, 0, 0x1⟩, ⟨28, 2, .ro, 0x0, 0, 0x3⟩, ⟨15, 5, .ro, 0x0, 0, 0x1F⟩, ⟨10, 5, .ro, 0x0, 0, 0x1F⟩, ⟨5, 5, .ro, 0x0, 0, 0x1F⟩, ⟨0, 5, .ro, 0x0, 0, 0x1F⟩]⟩,  -- JOINTER_STATE
  ⟨0x2001200008, [(0x10000, 8)], .single, [⟨31, 1, .w1c, 0x0, 0, 0x1⟩, ⟨24, 2, .ro, 0x0, 0, 0x3⟩, ⟨8, 8, .ro, 0x0, 0, 0xFF⟩, ⟨0, 8, .ro, 0x0, 0, 0xFF⟩]⟩,  -- JOINTER_FAULT
  ⟨0x2001200010, [(0x10000, 8)], .single, cntFields⟩,  -- JOINTER_CMD_CNT
  ⟨0x2001200014, [(0x10000, 8)], .single, cntFields⟩,  -- JOINTER_RANGE_CNT
  ⟨0x2001200018, [(0x10000, 8)], .single, cntFields⟩,  -- JOINTER_REFETCH_CNT
  ⟨0x200120001C, [(0x10000, 8)], .single, cntFields⟩,  -- JOINTER_DROP_CNT
  ⟨0x2001200020, [(0x10000, 8)], .single, cntFields⟩  -- JOINTER_BUSY_CNT
  ]

/-- Block CMDPROC. -/
def regRowsCmdproc0 : List RRow := [
  ⟨0x2000200000, [(0x1000, 64)], .low, [⟨0, 32, .wo, 0x0, 0, 0xFFFFFFFF⟩]⟩,  -- CMDPROC_SUBMIT
  ⟨0x2000200004, [(0x1000, 64)], .high, [⟨0, 16, .wo, 0x0, 0, 0xFFFF⟩]⟩,  -- CMDPROC_SUBMIT.h
  ⟨0x2000200008, [(0x1000, 64)], .single, [⟨0, 32, .ro, 0x0, 0, 0xFFFFFFFF⟩]⟩,  -- CMDPROC_TICKET
  ⟨0x200020000C, [(0x1000, 64)], .single, [⟨0, 7, .ro, 0x0, 0, 0x7F⟩]⟩,  -- CMDPROC_TICKETN
  ⟨0x2000200010, [(0x1000, 64)], .single, [⟨31, 1, .sealed, 0x0, 0, 0x1⟩, ⟨0, 3, .sealed, 0x0, 0, 0x7⟩]⟩,  -- CMDPROC_WIN_CFG
  ⟨0x2000200014, [(0x1000, 64)], .single, cntFields⟩,  -- CMDPROC_WIN_LOST
  ⟨0x2000240000, [(0x1000, 8)], .single, cntFields⟩,  -- CMDPROC_REJECT_CNT
  ⟨0x2000240004, [(0x1000, 8)], .single, cntFields⟩,  -- CMDPROC_SPEC_DROP
  ⟨0x2000240008, [(0x1000, 8)], .single, cntFields⟩,  -- CMDPROC_STALE_REFETCH
  ⟨0x200024000C, [(0x1000, 8)], .single, cntFields⟩,  -- CMDPROC_RING_DROP
  ⟨0x2000240100, [(0x1000, 8), (0x20, 8)], .low, [⟨12, 20, .rwl, 0x0, 0, 0xFFFFF⟩]⟩,  -- CMDPROC_RING_BASE
  ⟨0x2000240104, [(0x1000, 8), (0x20, 8)], .high, [⟨0, 16, .rwl, 0x0, 0, 0xFFFF⟩]⟩,  -- CMDPROC_RING_BASE.h
  ⟨0x2000240108, [(0x1000, 8), (0x20, 8)], .single, [⟨31, 1, .rwl, 0x0, 0, 0x1⟩, ⟨8, 5, .rwl, 0x4, 4, 0x10⟩, ⟨0, 8, .rwl, 0x0, 0, 0xF⟩]⟩,  -- CMDPROC_RING_CFG
  ⟨0x200024010C, [(0x1000, 8), (0x20, 8)], .single, [⟨0, 17, .ro, 0x0, 0, 0x1FFFF⟩]⟩,  -- CMDPROC_RING_PI
  ⟨0x2000240110, [(0x1000, 8), (0x20, 8)], .single, [⟨0, 17, .rw, 0x0, 0, 0x1FFFF⟩]⟩,  -- CMDPROC_RING_CI
  ⟨0x2000240114, [(0x1000, 8), (0x20, 8)], .single, [⟨31, 1, .w1c, 0x0, 0, 0x1⟩, ⟨30, 1, .w1c, 0x0, 0, 0x1⟩]⟩  -- CMDPROC_RING_STAT
  ]

/-- Block DOWEL. -/
def regRowsDowel0 : List RRow := [
  ⟨0x2000400000, [(0x1000, 8)], .single, [⟨0, 32, .wo, 0x0, 0, 0xFFFFFFFF⟩]⟩,  -- DOWEL_QUERY
  ⟨0x2000400004, [(0x1000, 8)], .single, [⟨16, 16, .ro, 0x0, 0, 0xFFFF⟩, ⟨0, 4, .ro, 0x0, 0, 0xF⟩]⟩,  -- DOWEL_STATE
  ⟨0x2000400008, [(0x1000, 8)], .single, [⟨0, 32, .wo, 0x0, 0, 0xFFFFFFFF⟩]⟩,  -- DOWEL_CANCEL
  ⟨0x200040000C, [(0x1000, 8)], .single, [⟨0, 32, .wo, 0x0, 0, 0xFFFFFFFF⟩]⟩,  -- DOWEL_RELEASE
  ⟨0x2000400010, [(0x1000, 8)], .single, [⟨0, 17, .ro, 0x0, 0, 0x1FFFF⟩]⟩,  -- DOWEL_INUSE
  ⟨0x2000400014, [(0x1000, 8)], .single, [⟨0, 17, .sealed, 0x0, 0, 0x1FFFF⟩]⟩,  -- DOWEL_QUOTA
  ⟨0x2000400018, [(0x1000, 8)], .single, cntFields⟩  -- DOWEL_IGNORED_CNT
  ]

/-- Block PEG. -/
def regRowsPeg0 : List RRow := [
  ⟨0x2000300000, [(0x20, 2048)], .single, [⟨0, 32, .rw, 0x0, 0, 0xFFFFFFFF⟩]⟩,  -- PEG_COUNT
  ⟨0x2000300004, [(0x20, 2048)], .single, [⟨0, 32, .wo, 0x0, 0, 0xFFFFFFFF⟩]⟩,  -- PEG_ADD
  ⟨0x2000300008, [(0x20, 2048)], .single, [⟨0, 32, .rw, 0x0, 0, 0xFFFFFFFF⟩]⟩,  -- PEG_TARGET
  ⟨0x200030000C, [(0x20, 2048)], .single, [⟨0, 32, .ro, 0x0, 0, 0xFFFFFFFF⟩]⟩,  -- PEG_STAMP
  ⟨0x2000300010, [(0x20, 2048)], .single, [⟨31, 1, .wo, 0x0, 0, 0x1⟩, ⟨1, 1, .ro, 0x0, 0, 0x1⟩, ⟨0, 1, .ro, 0x0, 0, 0x1⟩]⟩,  -- PEG_STATUS
  ⟨0x2000380000, [(0x4, 8)], .single, [⟨16, 6, .sealed, 0x0, 0, 0x3F⟩, ⟨0, 5, .sealed, 0x0, 0, 0x1F⟩]⟩  -- PEG_RANGE
  ]

/-- Block PART. -/
def regRowsPart0 : List RRow := [
  ⟨0x2000500000, [(0x1000, 8)], .single, [⟨0, 1, .w1s, 0x0, 0, 0x1⟩]⟩,  -- PART_CTRL
  ⟨0x2000500004, [(0x1000, 8)], .single, [⟨3, 1, .ro, 0x0, 0, 0x1⟩, ⟨2, 1, .ro, 0x0, 0, 0x1⟩, ⟨1, 1, .ro, 0x0, 0, 0x1⟩, ⟨0, 1, .ro, 0x0, 0, 0x1⟩]⟩,  -- PART_STATUS
  ⟨0x2000500008, [(0x1000, 8)], .single, [⟨8, 1, .ro, 0x0, 0, 0x1⟩, ⟨0, 5, .ro, 0x0, 0, 0x1F⟩]⟩,  -- PART_KERF
  ⟨0x200050000C, [(0x1000, 8)], .single, [⟨0, 16, .rwl, 0x2B, 1, 0xFFFF⟩]⟩,  -- PART_KERF_CFG
  ⟨0x2000500010, [(0x1000, 8)], .low, [⟨0, 32, .ro, 0x0, 0, 0xFFFFFFFF⟩]⟩,  -- PART_VIOL_ADDR
  ⟨0x2000500014, [(0x1000, 8)], .high, [⟨0, 16, .ro, 0x0, 0, 0xFFFF⟩]⟩,  -- PART_VIOL_ADDR.h
  ⟨0x2000500018, [(0x1000, 8)], .single, [⟨31, 1, .w1c, 0x0, 0, 0x1⟩, ⟨8, 8, .ro, 0x0, 0, 0xFF⟩, ⟨4, 3, .ro, 0x0, 0, 0x7⟩, ⟨0, 2, .ro, 0x0, 0, 0x3⟩]⟩,  -- PART_VIOL_INFO
  ⟨0x2000500020, [(0x1000, 8)], .single, cntFields⟩,  -- PART_VIOL_CNT
  ⟨0x2000500024, [(0x1000, 8)], .single, cntFields⟩,  -- PART_TIE
  ⟨0x2000500028, [(0x1000, 8)], .single, cntFields⟩,  -- PART_SWITCH_CNT
  ⟨0x200050002C, [(0x1000, 8)], .single, cntFields⟩,  -- PART_OVERRUN_CNT
  ⟨0x2000500030, [(0x1000, 8)], .single, [⟨0, 32, .ro, 0x0, 0, 0xFFFFFFFF⟩]⟩,  -- PART_DIVERGENCE
  ⟨0x2000500034, [(0x1000, 8)], .single, cntFields⟩,  -- PART_DIV_JSCAT
  ⟨0x2000500038, [(0x1000, 8)], .single, cntFields⟩,  -- PART_DIV_JHPART
  ⟨0x200050003C, [(0x1000, 8)], .single, cntFields⟩,  -- PART_DIV_PWANY
  ⟨0x2000500040, [(0x1000, 8)], .single, cntFields⟩,  -- PART_DIV_FPARR
  ⟨0x2000500044, [(0x1000, 8)], .single, cntFields⟩,  -- PART_DIV_CONTEST
  ⟨0x2000500048, [(0x1000, 8)], .single, [⟨0, 7, .ro, 0x0, 0, 0x7F⟩]⟩  -- PART_CONTEST_COVER
  ]

/-- Block GIRT. -/
def regRowsGirt0 : List RRow := [
  ⟨0x2000600000, [(0x1000, 8), (0x100, 2), (0x20, 8)], .single, [⟨0, 20, .ro, 0x0, 0, 0xFFFFF⟩]⟩,  -- GIRT_LAT
  ⟨0x2000600004, [(0x1000, 8), (0x100, 2), (0x20, 8)], .single, [⟨0, 5, .ro, 0x0, 0, 0x1F⟩]⟩,  -- GIRT_LEVEL
  ⟨0x2000600008, [(0x1000, 8), (0x100, 2), (0x20, 8)], .single, [⟨0, 24, .ro, 0x0, 0, 0xFFFFFF⟩]⟩,  -- GIRT_USED
  ⟨0x200060000C, [(0x1000, 8), (0x100, 2), (0x20, 8)], .single, cntFields⟩,  -- GIRT_MISS_CNT
  ⟨0x2000600010, [(0x1000, 8), (0x100, 2), (0x20, 8)], .single, cntFields⟩,  -- GIRT_FORFEIT_CNT
  ⟨0x2000600014, [(0x1000, 8), (0x100, 2), (0x20, 8)], .single, cntFields⟩,  -- GIRT_DEMOTE_CNT
  ⟨0x2000600800, [(0x1000, 8)], .single, [⟨0, 16, .w1c, 0x0, 0, 0xFFFF⟩]⟩,  -- GIRT_MISS_STAT
  ⟨0x2000600804, [(0x1000, 8)], .single, [⟨31, 1, .rwl, 0x0, 0, 0x1⟩, ⟨0, 4, .rwl, 0x0, 0, 0xF⟩]⟩  -- GIRT_IRQ
  ]

/-- Block TIMEBASE. -/
def regRowsTimebase0 : List RRow := [
  ⟨0x2000700000, [], .single, [⟨0, 32, .ro, 0x0, 0, 0xFFFFFFFF⟩]⟩,  -- TB_NOW
  ⟨0x2000701000, [], .single, [⟨31, 1, .rwl, 0x1, 0, 0x1⟩, ⟨0, 1, .rwl, 0x0, 0, 0x1⟩]⟩,  -- TB_CTRL
  ⟨0x2000701004, [], .single, [⟨4, 1, .ro, 0x1, 0, 0x1⟩, ⟨3, 1, .ro, 0x1, 0, 0x1⟩, ⟨2, 1, .ro, 0x0, 0, 0x1⟩, ⟨1, 1, .ro, 0x0, 0, 0x1⟩, ⟨0, 1, .ro, 0x0, 0, 0x1⟩]⟩,  -- TB_STATUS
  ⟨0x2000701008, [], .single, [⟨0, 32, .ro, 0x0, 0, 0xFFFFFFFF⟩]⟩,  -- TB_BRIDGE
  ⟨0x200070100C, [], .single, [⟨0, 20, .rwl, 0x1388, 5000, 0xFFFFF⟩]⟩,  -- TB_DECAY
  ⟨0x2000701010, [], .single, [⟨0, 20, .rwl, 0x3E8, 1, 0xF4240⟩]⟩,  -- TB_JUMP_LIMIT
  ⟨0x2000701014, [], .single, [⟨0, 8, .w1c, 0x0, 0, 0xFF⟩]⟩,  -- TB_EVENT
  ⟨0x2000701018, [], .single, [⟨8, 8, .rwl, 0x0, 0, 0xFF⟩, ⟨0, 4, .rwl, 0x0, 0, 0xF⟩]⟩,  -- TB_IRQ
  ⟨0x200070101C, [], .single, [⟨0, 32, .ro, 0x0, 0, 0xFFFFFFFF⟩]⟩,  -- TB_STEP_LAST
  ⟨0x2000701020, [], .single, cntFields⟩,  -- TB_JUMP_CNT
  ⟨0x2000702000, [(0x1000, 2)], .single, [⟨0, 32, .ro, 0x0, 0, 0xFFFFFFFF⟩]⟩,  -- TB_DOM_TIME
  ⟨0x2000702004, [(0x1000, 2)], .single, [⟨0, 32, .ro, 0x0, 0, 0xFFFFFFFF⟩]⟩,  -- TB_DOM_FRAC
  ⟨0x2000702008, [(0x1000, 2)], .single, [⟨0, 32, .rw, 0x0, 0, 0xFFFFFFFF⟩]⟩,  -- TB_DOM_RATE
  ⟨0x200070200C, [(0x1000, 2)], .single, [⟨0, 32, .wo, 0x0, 0, 0xFFFFFFFF⟩]⟩,  -- TB_DOM_STEP
  ⟨0x2000702010, [(0x1000, 2)], .single, [⟨1, 1, .wo, 0x0, 0, 0x1⟩, ⟨0, 1, .wo, 0x0, 0, 0x1⟩]⟩,  -- TB_DOM_SYNC
  ⟨0x2000702014, [(0x1000, 2)], .single, [⟨0, 16, .rw, 0x0, 0, 0xFFFF⟩]⟩,  -- TB_DOM_CFG
  ⟨0x2000704000, [(0x1000, 4)], .single, [⟨31, 1, .rw, 0x0, 0, 0x1⟩, ⟨16, 12, .rw, 0x0, 0, 0xFFF⟩, ⟨0, 12, .rw, 0x0, 0, 0xFFF⟩]⟩,  -- TB_TS_CFG
  ⟨0x2000704010, [(0x1000, 4)], .single, [⟨31, 1, .ro, 0x0, 0, 0x1⟩, ⟨24, 4, .ro, 0x0, 0, 0xF⟩, ⟨16, 8, .ro, 0x0, 0, 0xFF⟩, ⟨0, 16, .ro, 0x0, 0, 0xFFFF⟩]⟩,  -- TB_TSRX0
  ⟨0x2000704014, [(0x1000, 4)], .single, [⟨0, 32, .ro, 0x0, 0, 0xFFFFFFFF⟩]⟩,  -- TB_TSRX1
  ⟨0x2000704018, [(0x1000, 4)], .single, [⟨0, 32, .ro, 0x0, 0, 0xFFFFFFFF⟩]⟩  -- TB_TSRX2
  ]

/-- Block TIMEBASE, continued. -/
def regRowsTimebase1 : List RRow := [
  ⟨0x200070401C, [(0x1000, 4)], .single, []⟩,  -- TB_TSRX3
  ⟨0x2000704020, [(0x1000, 4)], .single, [⟨31, 1, .ro, 0x0, 0, 0x1⟩, ⟨24, 4, .ro, 0x0, 0, 0xF⟩, ⟨16, 8, .ro, 0x0, 0, 0xFF⟩, ⟨0, 16, .ro, 0x0, 0, 0xFFFF⟩]⟩,  -- TB_TSTX0
  ⟨0x2000704024, [(0x1000, 4)], .single, [⟨0, 32, .ro, 0x0, 0, 0xFFFFFFFF⟩]⟩,  -- TB_TSTX1
  ⟨0x2000704028, [(0x1000, 4)], .single, [⟨0, 32, .ro, 0x0, 0, 0xFFFFFFFF⟩]⟩,  -- TB_TSTX2
  ⟨0x200070402C, [(0x1000, 4)], .single, []⟩,  -- TB_TSTX3
  ⟨0x2000704030, [(0x1000, 4)], .single, cntFields⟩,  -- TB_TSRX_LOST
  ⟨0x2000704034, [(0x1000, 4)], .single, cntFields⟩,  -- TB_TSTX_LOST
  ⟨0x2000710000, [(0x1000, 16)], .single, [⟨31, 1, .rw, 0x0, 0, 0x1⟩, ⟨30, 1, .rw, 0x0, 0, 0x1⟩, ⟨4, 2, .rw, 0x1, 1, 0x3⟩, ⟨0, 4, .rw, 0x0, 0, 0xF⟩]⟩,  -- TCAP_CFG
  ⟨0x2000710004, [(0x1000, 16)], .single, [⟨31, 1, .ro, 0x0, 0, 0x1⟩, ⟨30, 1, .ro, 0x0, 0, 0x1⟩, ⟨29, 1, .ro, 0x0, 0, 0x1⟩, ⟨0, 4, .ro, 0x0, 0, 0xF⟩]⟩,  -- TCAP_HEAD
  ⟨0x2000710008, [(0x1000, 16)], .single, [⟨0, 32, .ro, 0x0, 0, 0xFFFFFFFF⟩]⟩,  -- TCAP_TIME
  ⟨0x200071000C, [(0x1000, 16)], .single, cntFields⟩,  -- TCAP_LOST
  ⟨0x2000720000, [(0x1000, 8)], .single, [⟨31, 1, .rw, 0x0, 0, 0x1⟩, ⟨30, 1, .rw, 0x0, 0, 0x1⟩, ⟨29, 1, .w1c, 0x0, 0, 0x1⟩]⟩,  -- TPULSE_CFG
  ⟨0x2000720004, [(0x1000, 8)], .single, [⟨0, 32, .rw, 0x0, 0, 0xFFFFFFFF⟩]⟩,  -- TPULSE_START
  ⟨0x2000720008, [(0x1000, 8)], .single, [⟨0, 32, .rw, 0x0, 0, 0xFFFFFFFF⟩]⟩,  -- TPULSE_PERIOD
  ⟨0x200072000C, [(0x1000, 8)], .single, [⟨0, 16, .rw, 0x1, 1, 0xFFFF⟩]⟩,  -- TPULSE_WIDTH
  ⟨0x2000720010, [(0x1000, 8)], .single, [⟨0, 32, .ro, 0x0, 0, 0xFFFFFFFF⟩]⟩,  -- TPULSE_NEXT
  ⟨0x2000720014, [(0x1000, 8)], .single, cntFields⟩  -- TPULSE_SKIP
  ]

/-- Block SAFETY. -/
def regRowsSafety0 : List RRow := [
  ⟨0x2000800000, [], .single, [⟨3, 1, .ro, 0x0, 0, 0x1⟩, ⟨2, 1, .ro, 0x0, 0, 0x1⟩, ⟨1, 1, .ro, 0x1, 0, 0x1⟩, ⟨0, 1, .w1s, 0x0, 0, 0x1⟩]⟩,  -- SAFETY_CTRL
  ⟨0x2000800004, [], .single, [⟨0, 16, .wo, 0x0, 0, 0xFFFF⟩]⟩,  -- SAFETY_KICK
  ⟨0x2000800008, [], .single, [⟨0, 8, .w1c, 0x0, 0, 0xFF⟩]⟩,  -- SAFETY_PSTOP
  ⟨0x200080000C, [], .single, [⟨0, 4, .wo, 0x0, 0, 0xF⟩]⟩,  -- SAFETY_SWRAISE
  ⟨0x2000800010, [], .single, [⟨0, 11, .ro, 0x0, 0, 0x7FF⟩]⟩,  -- SAFETY_LOG_PI
  ⟨0x2000800014, [], .single, [⟨0, 11, .rw, 0x0, 0, 0x7FF⟩]⟩,  -- SAFETY_LOG_CI
  ⟨0x2000800018, [], .single, cntFields⟩,  -- SAFETY_LOG_LOST
  ⟨0x200080001C, [], .single, cntFields⟩,  -- SAFETY_LOG_SUPPRESS
  ⟨0x2000800020, [], .single, cntFields⟩,  -- SAFETY_TIE
  ⟨0x2000800028, [], .low, [⟨0, 32, .ro, 0x0, 0, 0xFFFFFFFF⟩]⟩,  -- SAFETY_PLUMB_GOLD
  ⟨0x200080002C, [], .high, [⟨0, 32, .ro, 0x0, 0, 0xFFFFFFFF⟩]⟩,  -- SAFETY_PLUMB_GOLD.h
  ⟨0x2000800040, [(0x4, 8)], .single, [⟨31, 1, .rw, 0x0, 0, 0x1⟩, ⟨16, 8, .rw, 0xA, 1, 0xFF⟩, ⟨0, 10, .rw, 0x64, 1, 0x3E8⟩]⟩,  -- SAFETY_PLUMB_CFG
  ⟨0x2000800080, [(0x4, 4)], .single, [⟨31, 1, .rw, 0x0, 0, 0x1⟩, ⟨30, 1, .rw, 0x0, 0, 0x1⟩, ⟨29, 1, .rw, 0x0, 0, 0x1⟩, ⟨0, 16, .rw, 0x1, 1, 0xFFFF⟩]⟩,  -- SAFETY_DIN_CFG
  ⟨0x2000800090, [(0x4, 4)], .single, [⟨31, 1, .w1c, 0x0, 0, 0x1⟩, ⟨16, 1, .ro, 0x0, 0, 0x1⟩, ⟨0, 16, .ro, 0x0, 0, 0xFFFF⟩]⟩,  -- SAFETY_DIN_STAT
  ⟨0x20008000C0, [(0x4, 16)], .single, [⟨0, 16, .ro, 0x0, 0, 0xFFFF⟩]⟩,  -- SAFETY_TEMP
  ⟨0x2000800800, [(0x8, 64)], .single, [⟨16, 9, .rw, 0x0, 0, 0x1FF⟩, ⟨0, 9, .rw, 0x0, 0, 0x1FF⟩]⟩,  -- SAFETY_REACT_LO
  ⟨0x2000800804, [(0x8, 64)], .single, [⟨31, 1, .rw, 0x0, 0, 0x1⟩, ⟨12, 3, .rw, 0x0, 0, 0x7⟩, ⟨8, 3, .rw, 0x0, 0, 0x7⟩, ⟨6, 2, .rw, 0x0, 0, 0x3⟩, ⟨0, 4, .rw, 0x0, 0, 0xF⟩]⟩,  -- SAFETY_REACT_HI
  ⟨0x2000801000, [(0x20, 64)], .single, [⟨31, 1, .rw, 0x0, 0, 0x1⟩, ⟨30, 1, .rw, 0x0, 0, 0x1⟩, ⟨16, 11, .rw, 0x0, 0, 0x7FF⟩, ⟨0, 10, .rw, 0x0, 0, 0x3FF⟩]⟩,  -- SAFETY_AGE_CFG
  ⟨0x2000801004, [(0x20, 64)], .single, [⟨0, 20, .rw, 0x3E8, 1, 0xF4240⟩]⟩,  -- SAFETY_AGE_LIMIT
  ⟨0x2000801008, [(0x20, 64)], .low, [⟨2, 30, .rw, 0x0, 0, 0x3FFFFFFF⟩]⟩  -- SAFETY_AGE_CAPADDR
  ]

/-- Block SAFETY, continued. -/
def regRowsSafety1 : List RRow := [
  ⟨0x200080100C, [(0x20, 64)], .high, [⟨0, 16, .rw, 0x0, 0, 0xFFFF⟩]⟩,  -- SAFETY_AGE_CAPADDR.h
  ⟨0x2000801010, [(0x20, 64)], .single, [⟨0, 32, .ro, 0x0, 0, 0xFFFFFFFF⟩]⟩,  -- SAFETY_AGE_LAST
  ⟨0x2000801014, [(0x20, 64)], .single, [⟨0, 32, .ro, 0x0, 0, 0xFFFFFFFF⟩]⟩,  -- SAFETY_AGE_ARRIVE
  ⟨0x2000802000, [(0x4, 512)], .single, [⟨31, 1, .w1c, 0x0, 0, 0x1⟩, ⟨29, 2, .ro, 0x0, 0, 0x3⟩, ⟨0, 16, .ro, 0x0, 0, 0xFFFF⟩]⟩  -- SAFETY_SRC
  ]

/-- Block INTAKE. -/
def regRowsIntake0 : List RRow := [
  ⟨0x2000900000, [(0x1000, 4)], .single, [⟨31, 1, .rw, 0x0, 0, 0x1⟩, ⟨0, 2, .rw, 0x2, 0, 0x2⟩]⟩,  -- INTAKE_PORT_CFG
  ⟨0x2000900004, [(0x1000, 4)], .single, [⟨2, 1, .ro, 0x0, 0, 0x1⟩, ⟨1, 1, .ro, 0x0, 0, 0x1⟩, ⟨0, 1, .ro, 0x0, 0, 0x1⟩]⟩,  -- INTAKE_PORT_STAT
  ⟨0x2000900008, [(0x1000, 4)], .single, cntFields⟩,  -- INTAKE_PORT_DISC
  ⟨0x200090000C, [(0x1000, 4)], .single, cntFields⟩,  -- INTAKE_PORT_OVF
  ⟨0x2000900010, [(0x1000, 4)], .single, cntFields⟩,  -- INTAKE_TIE
  ⟨0x2000910000, [(0x1000, 16)], .single, [⟨31, 1, .rwl, 0x0, 0, 0x1⟩, ⟨25, 2, .rwl, 0x0, 0, 0x2⟩, ⟨24, 1, .rwl, 0x0, 0, 0x1⟩, ⟨22, 2, .rwl, 0x0, 0, 0x3⟩, ⟨18, 4, .rwl, 0x0, 0, 0xF⟩, ⟨8, 8, .rwl, 0x2A, 0, 0xFF⟩, ⟨0, 8, .rwl, 0x0, 0, 0xFF⟩]⟩,  -- INTAKE_CTX_CFG
  ⟨0x2000910004, [(0x1000, 16)], .single, [⟨16, 14, .rwl, 0x1, 1, 0x3FFF⟩, ⟨0, 14, .rwl, 0x1, 0, 0x1FFF⟩]⟩,  -- INTAKE_CTX_SIZE
  ⟨0x2000910008, [(0x1000, 16)], .single, [⟨0, 16, .rwl, 0x1, 0, 0xFFFF⟩]⟩,  -- INTAKE_CTX_STRIDE
  ⟨0x2000910010, [(0x1000, 16)], .low, [⟨12, 20, .rwl, 0x0, 0, 0xFFFFF⟩]⟩,  -- INTAKE_CTX_BUF
  ⟨0x2000910014, [(0x1000, 16)], .high, [⟨0, 16, .rwl, 0x0, 0, 0xFFFF⟩]⟩,  -- INTAKE_CTX_BUF.h
  ⟨0x2000910018, [(0x1000, 16)], .low, [⟨6, 26, .rwl, 0x0, 0, 0x3FFFFFF⟩]⟩,  -- INTAKE_CTX_DESC
  ⟨0x200091001C, [(0x1000, 16)], .high, [⟨0, 16, .rwl, 0x0, 0, 0xFFFF⟩]⟩,  -- INTAKE_CTX_DESC.h
  ⟨0x2000910020, [(0x1000, 16)], .single, [⟨12, 20, .rwl, 0x0, 0, 0xFFFFF⟩]⟩,  -- INTAKE_CTX_FSTRIDE
  ⟨0x2000910024, [(0x1000, 16)], .single, [⟨31, 1, .rwl, 0x0, 0, 0x1⟩, ⟨16, 11, .rwl, 0x0, 0, 0x7FF⟩, ⟨0, 7, .rwl, 0x2, 2, 0x40⟩]⟩,  -- INTAKE_CTX_RING
  ⟨0x2000910028, [(0x1000, 16)], .single, [⟨31, 1, .rwl, 0x0, 0, 0x1⟩, ⟨30, 1, .rwl, 0x0, 0, 0x1⟩, ⟨16, 11, .rwl, 0x0, 0, 0x7FF⟩, ⟨0, 4, .rwl, 0x0, 0, 0xF⟩]⟩,  -- INTAKE_CTX_PEG
  ⟨0x200091002C, [(0x1000, 16)], .single, [⟨24, 8, .rwl, 0x1, 1, 0xFF⟩, ⟨16, 8, .rwl, 0x10, 1, 0xFF⟩, ⟨8, 8, .rwl, 0x8, 1, 0xFF⟩]⟩,  -- INTAKE_CTX_TEST
  ⟨0x2000910030, [(0x1000, 16)], .single, [⟨30, 2, .rwl, 0x0, 0, 0x2⟩, ⟨24, 4, .rwl, 0x0, 0, 0xF⟩, ⟨12, 12, .rwl, 0x0, 0, 0xFFF⟩, ⟨0, 12, .rwl, 0x0, 0, 0xFFF⟩]⟩,  -- INTAKE_CTX_TRIG
  ⟨0x2000910034, [(0x1000, 16)], .single, [⟨16, 16, .rwl, 0x0, 0, 0xFFFF⟩, ⟨0, 13, .rwl, 0x0, 0, 0x1FFF⟩]⟩,  -- INTAKE_CTX_FAULT
  ⟨0x2000910038, [(0x1000, 16)], .single, [⟨0, 32, .ro, 0x0, 0, 0xFFFFFFFF⟩]⟩,  -- INTAKE_CTX_STAT
  ⟨0x200091003C, [(0x1000, 16)], .single, cntFields⟩  -- INTAKE_CTX_ORPHAN
  ]

/-- Block GFX. -/
def regRowsGfx0 : List RRow := [
  ⟨0x2000A00000, [], .single, [⟨31, 1, .rwl, 0x0, 0, 0x1⟩, ⟨19, 1, .rwl, 0x0, 0, 0x1⟩, ⟨16, 3, .rwl, 0x0, 0, 0x7⟩, ⟨0, 16, .rwl, 0x0, 0, 0xFFFF⟩]⟩,  -- GFX_CFG
  ⟨0x2000A00004, [], .single, [⟨0, 5, .rwl, 0x10, 1, 0x13⟩]⟩,  -- GFX_FILL
  ⟨0x2000A00008, [], .single, [⟨0, 32, .ro, 0x0, 0, 0xFFFFFFFF⟩]⟩,  -- GFX_BOUND
  ⟨0x2000A0000C, [], .single, [⟨1, 1, .ro, 0x0, 0, 0x1⟩, ⟨0, 1, .ro, 0x0, 0, 0x1⟩]⟩,  -- GFX_STAT
  ⟨0x2000A00010, [], .single, cntFields⟩,  -- GFX_TILE_WRITE_CNT
  ⟨0x2000A00014, [], .single, cntFields⟩,  -- GFX_TILE_SKIP_CNT
  ⟨0x2000A00018, [], .single, cntFields⟩,  -- GFX_TILE_FORCE_CNT
  ⟨0x2000A0001C, [], .single, cntFields⟩  -- GFX_FRAG_CNT
  ]

/-- Block DISP. -/
def regRowsDisp0 : List RRow := [
  ⟨0x2000B00000, [(0x1000, 4)], .single, [⟨31, 1, .rwl, 0x0, 0, 0x1⟩, ⟨0, 1, .rwl, 0x0, 0, 0x1⟩]⟩,  -- DISP_PIPE_CFG
  ⟨0x2000B00004, [(0x1000, 4)], .single, [⟨16, 16, .rwl, 0x0, 0, 0xFFFF⟩, ⟨0, 16, .rwl, 0x0, 64, 0xF00⟩]⟩,  -- DISP_HTIME
  ⟨0x2000B00008, [(0x1000, 4)], .single, [⟨31, 1, .rwl, 0x0, 0, 0x1⟩, ⟨16, 15, .rwl, 0x0, 0, 0x7FFF⟩, ⟨0, 16, .rwl, 0x0, 0, 0xFFFF⟩]⟩,  -- DISP_HSYNC
  ⟨0x2000B0000C, [(0x1000, 4)], .single, [⟨16, 16, .rwl, 0x0, 0, 0xFFFF⟩, ⟨0, 16, .rwl, 0x0, 64, 0x870⟩]⟩,  -- DISP_VTIME
  ⟨0x2000B00010, [(0x1000, 4)], .single, [⟨31, 1, .rwl, 0x0, 0, 0x1⟩, ⟨16, 15, .rwl, 0x0, 0, 0x7FFF⟩, ⟨0, 16, .rwl, 0x0, 0, 0xFFFF⟩]⟩,  -- DISP_VSYNC
  ⟨0x2000B00014, [(0x1000, 4)], .single, [⟨0, 30, .rwl, 0x0, 0, 0x3FFFFFFF⟩]⟩,  -- DISP_BG
  ⟨0x2000B00018, [(0x1000, 4)], .single, [⟨16, 16, .ro, 0x0, 0, 0xFFFF⟩, ⟨0, 16, .ro, 0x0, 0, 0xFFFF⟩]⟩,  -- DISP_PIPE_STAT
  ⟨0x2000B0001C, [(0x1000, 4)], .single, cntFields⟩,  -- DISP_UNDERRUN_CNT
  ⟨0x2000B00020, [(0x1000, 4)], .single, [⟨31, 1, .rwl, 0x0, 0, 0x1⟩, ⟨10, 1, .rwl, 0x0, 0, 0x1⟩, ⟨8, 2, .rwl, 0x0, 0, 0x3⟩, ⟨4, 2, .rwl, 0x2, 0, 0x2⟩, ⟨0, 2, .rwl, 0x0, 0, 0x3⟩]⟩,  -- DISP_LINK
  ⟨0x2000B00024, [(0x1000, 4)], .single, [⟨31, 1, .w1s, 0x0, 0, 0x1⟩, ⟨24, 4, .rwl, 0x0, 0, 0xF⟩, ⟨4, 20, .rwl, 0x0, 0, 0xFFFFF⟩, ⟨0, 4, .rwl, 0x0, 0, 0xF⟩]⟩,  -- DISP_AUX_CMD
  ⟨0x2000B00028, [(0x1000, 4)], .single, [⟨31, 1, .w1c, 0x0, 0, 0x1⟩, ⟨17, 1, .ro, 0x0, 0, 0x1⟩, ⟨16, 1, .w1c, 0x0, 0, 0x1⟩, ⟨0, 4, .ro, 0x0, 0, 0xF⟩]⟩,  -- DISP_AUX_STAT
  ⟨0x2000B00030, [(0x1000, 4)], .single, [⟨0, 32, .rw, 0x0, 0, 0xFFFFFFFF⟩]⟩,  -- DISP_AUX_DATA0
  ⟨0x2000B00034, [(0x1000, 4)], .single, [⟨0, 32, .rw, 0x0, 0, 0xFFFFFFFF⟩]⟩,  -- DISP_AUX_DATA1
  ⟨0x2000B00038, [(0x1000, 4)], .single, [⟨0, 32, .rw, 0x0, 0, 0xFFFFFFFF⟩]⟩,  -- DISP_AUX_DATA2
  ⟨0x2000B0003C, [(0x1000, 4)], .single, [⟨0, 32, .rw, 0x0, 0, 0xFFFFFFFF⟩]⟩,  -- DISP_AUX_DATA3
  ⟨0x2000B10000, [(0x1000, 24)], .single, [⟨31, 1, .rwl, 0x0, 0, 0x1⟩, ⟨24, 2, .ro, 0x0, 0, 0x3⟩, ⟨0, 10, .rwl, 0x3FF, 0, 0x3FF⟩]⟩,  -- DISP_PL_CFG
  ⟨0x2000B10008, [(0x1000, 24)], .low, [⟨6, 26, .ro, 0x0, 0, 0x3FFFFFF⟩]⟩,  -- DISP_PL_BASE
  ⟨0x2000B1000C, [(0x1000, 24)], .high, [⟨0, 16, .ro, 0x0, 0, 0xFFFF⟩]⟩,  -- DISP_PL_BASE.h
  ⟨0x2000B10010, [(0x1000, 24)], .single, [⟨0, 17, .ro, 0x0, 0, 0x1FFFF⟩]⟩,  -- DISP_PL_PITCH
  ⟨0x2000B10014, [(0x1000, 24)], .single, [⟨16, 13, .rwl, 0x0, 1, 0x870⟩, ⟨0, 13, .rwl, 0x0, 1, 0xF00⟩]⟩  -- DISP_PL_SIZE
  ]

/-- Block DISP, continued. -/
def regRowsDisp1 : List RRow := [
  ⟨0x2000B10018, [(0x1000, 24)], .single, [⟨16, 13, .rwl, 0x0, 0, 0x1FFF⟩, ⟨0, 13, .rwl, 0x0, 0, 0x1FFF⟩]⟩,  -- DISP_PL_POS
  ⟨0x2000B40000, [(0x1000, 4)], .single, [⟨16, 12, .rw, 0x0, 0, 0xFFF⟩, ⟨0, 12, .rw, 0x0, 0, 0xFFF⟩]⟩,  -- DISP_WATCH_WIN
  ⟨0x2000B40004, [(0x1000, 4)], .single, [⟨16, 11, .rw, 0x1, 1, 0x400⟩, ⟨0, 11, .rw, 0x1, 2, 0x400⟩]⟩,  -- DISP_WATCH_SIZE
  ⟨0x2000B40008, [(0x1000, 4)], .single, [⟨31, 1, .rw, 0x0, 0, 0x1⟩, ⟨8, 8, .rw, 0x0, 0, 0xFF⟩, ⟨0, 8, .rw, 0x1, 1, 0xFF⟩]⟩,  -- DISP_WATCH_CFG
  ⟨0x2000B4000C, [(0x1000, 4)], .single, [⟨31, 1, .w1c, 0x0, 0, 0x1⟩, ⟨0, 8, .ro, 0x0, 0, 0xFF⟩]⟩,  -- DISP_WATCH_STAT
  ⟨0x2000B40010, [(0x1000, 4)], .low, [⟨0, 32, .ro, 0x0, 0, 0xFFFFFFFF⟩]⟩,  -- DISP_WATCH_LAST
  ⟨0x2000B40014, [(0x1000, 4)], .high, [⟨0, 32, .ro, 0x0, 0, 0xFFFFFFFF⟩]⟩,  -- DISP_WATCH_LAST.h
  ⟨0x2000B40040, [(0x1000, 4), (0x8, 8)], .low, [⟨0, 32, .rw, 0x0, 0, 0xFFFFFFFF⟩]⟩,  -- DISP_WATCH_EXP
  ⟨0x2000B40044, [(0x1000, 4), (0x8, 8)], .high, [⟨0, 32, .rw, 0x0, 0, 0xFFFFFFFF⟩]⟩  -- DISP_WATCH_EXP.h
  ]

/-- Block GATEWAY. -/
def regRowsGateway0 : List RRow := [
  ⟨0x2000C00000, [], .low, [⟨0, 32, .rw, 0x0, 0, 0xFFFFFFFF⟩]⟩,  -- GW_RULE_LOAD
  ⟨0x2000C00004, [], .high, [⟨0, 16, .rw, 0x0, 0, 0xFFFF⟩]⟩,  -- GW_RULE_LOAD.h
  ⟨0x2000C00008, [], .single, [⟨31, 1, .wo, 0x0, 0, 0x1⟩, ⟨16, 11, .rw, 0x1, 1, 0x400⟩, ⟨0, 10, .rw, 0x0, 0, 0x3FF⟩]⟩,  -- GW_RULE_CTRL
  ⟨0x2000C0000C, [], .single, [⟨31, 1, .ro, 0x0, 0, 0x1⟩, ⟨30, 1, .w1c, 0x0, 0, 0x1⟩, ⟨29, 1, .w1c, 0x0, 0, 0x1⟩, ⟨0, 10, .ro, 0x0, 0, 0x3FF⟩]⟩,  -- GW_RULE_STAT
  ⟨0x2000C00010, [], .low, [⟨0, 32, .rw, 0x0, 0, 0xFFFFFFFF⟩]⟩,  -- GW_CANTUN_DMAC
  ⟨0x2000C00014, [], .high, [⟨0, 16, .rw, 0x0, 0, 0xFFFF⟩]⟩,  -- GW_CANTUN_DMAC.h
  ⟨0x2000C00018, [], .single, [⟨0, 16, .rw, 0x88B5, 0, 0xFFFF⟩]⟩,  -- GW_CANTUN
  ⟨0x2000C0001C, [], .single, cntFields⟩,  -- GW_TIE
  ⟨0x2000C00020, [], .single, cntFields⟩,  -- GW_MISS_CNT
  ⟨0x2000C10000, [(0x1000, 5)], .single, [⟨31, 1, .rw, 0x0, 0, 0x1⟩, ⟨0, 3, .ro, 0x0, 0, 0x7⟩]⟩,  -- GW_PORT_CFG
  ⟨0x2000C10008, [(0x1000, 5)], .low, [⟨0, 32, .rw, 0x0, 0, 0xFFFFFFFF⟩]⟩,  -- GW_PORT_MAC
  ⟨0x2000C1000C, [(0x1000, 5)], .high, [⟨0, 16, .rw, 0x0, 0, 0xFFFF⟩]⟩,  -- GW_PORT_MAC.h
  ⟨0x2000C10010, [(0x1000, 5)], .single, [⟨31, 1, .rw, 0x0, 0, 0x1⟩, ⟨30, 1, .wo, 0x0, 0, 0x1⟩, ⟨29, 1, .ro, 0x0, 0, 0x1⟩, ⟨0, 9, .rw, 0x1, 1, 0x100⟩]⟩,  -- GW_TAS_CTRL
  ⟨0x2000C10014, [(0x1000, 5)], .single, [⟨0, 32, .rw, 0x0, 0, 0xFFFFFFFF⟩]⟩,  -- GW_TAS_BASE
  ⟨0x2000C10018, [(0x1000, 5)], .single, cntFields⟩,  -- GW_PORT_DROP
  ⟨0x2000C10800, [(0x1000, 5), (0x8, 256)], .single, [⟨0, 8, .rw, 0x0, 0, 0xFF⟩]⟩,  -- GW_TAS_LIST0
  ⟨0x2000C10804, [(0x1000, 5), (0x8, 256)], .single, [⟨0, 32, .rw, 0x0, 8, 0x40000000⟩]⟩,  -- GW_TAS_LIST1
  ⟨0x2000C20000, [(0x1000, 8)], .single, [⟨31, 1, .rw, 0x0, 0, 0x1⟩, ⟨2, 1, .rw, 0x0, 0, 0x1⟩, ⟨1, 1, .rw, 0x0, 0, 0x1⟩, ⟨0, 1, .rw, 0x1, 0, 0x1⟩]⟩,  -- GW_CAN_CTRL
  ⟨0x2000C20004, [(0x1000, 8)], .single, [⟨24, 8, .rw, 0x0, 0, 0xFF⟩, ⟨16, 8, .rw, 0x1, 0, 0xFF⟩, ⟨8, 8, .rw, 0x1, 0, 0xFF⟩, ⟨0, 8, .rw, 0x0, 0, 0xFF⟩]⟩,  -- GW_CAN_NBT
  ⟨0x2000C20008, [(0x1000, 8)], .single, [⟨24, 8, .rw, 0x0, 0, 0xFF⟩, ⟨16, 8, .rw, 0x1, 0, 0xFF⟩, ⟨8, 8, .rw, 0x1, 0, 0xFF⟩, ⟨0, 8, .rw, 0x0, 0, 0xFF⟩]⟩  -- GW_CAN_DBT
  ]

/-- Block GATEWAY, continued. -/
def regRowsGateway1 : List RRow := [
  ⟨0x2000C2000C, [(0x1000, 8)], .single, [⟨24, 1, .ro, 0x0, 0, 0x1⟩, ⟨16, 8, .rw, 0x0, 0, 0x7F⟩, ⟨8, 8, .ro, 0x0, 0, 0xFF⟩, ⟨0, 8, .ro, 0x0, 0, 0xFF⟩]⟩,  -- GW_CAN_STAT
  ⟨0x2000C20010, [(0x1000, 8)], .single, cntFields⟩,  -- GW_CAN_DROP
  ⟨0x2000C30000, [(0x8, 32)], .single, [⟨0, 16, .rw, 0x0, 0, 0xFFFF⟩, ⟨16, 5, .rw, 0x0, 0, 0x1F⟩, ⟨21, 1, .rw, 0x0, 0, 0x1⟩, ⟨22, 1, .rw, 0x0, 0, 0x1⟩]⟩,  -- GW_FILTER0
  ⟨0x2000C30004, [(0x8, 32)], .single, []⟩,  -- GW_FILTER1
  ⟨0x2000C30400, [(0x10, 32)], .single, [⟨0, 32, .rw, 0x0, 0, 0xFFFFFFFF⟩]⟩,  -- GW_METER0
  ⟨0x2000C30404, [(0x10, 32)], .single, [⟨0, 32, .rw, 0x0, 0, 0xFFFFFFFF⟩]⟩,  -- GW_METER1
  ⟨0x2000C30408, [(0x10, 32)], .single, [⟨0, 32, .rw, 0x0, 0, 0xFFFFFFFF⟩]⟩,  -- GW_METER2
  ⟨0x2000C3040C, [(0x10, 32)], .single, [⟨0, 16, .rw, 0x0, 0, 0xFFFF⟩, ⟨16, 2, .rw, 0x0, 0, 0x3⟩]⟩,  -- GW_METER3
  ⟨0x2000C40000, [(0x1000, 8)], .low, [⟨0, 32, .wo, 0x0, 0, 0xFFFFFFFF⟩]⟩,  -- GW_TX_ADDR
  ⟨0x2000C40004, [(0x1000, 8)], .high, [⟨0, 16, .wo, 0x0, 0, 0xFFFF⟩]⟩,  -- GW_TX_ADDR.h
  ⟨0x2000C40008, [(0x1000, 8)], .single, [⟨0, 11, .wo, 0x0, 60, 0x7CC⟩]⟩,  -- GW_TX_CMD
  ⟨0x2000C4000C, [(0x1000, 8)], .single, [⟨31, 1, .w1c, 0x0, 0, 0x1⟩, ⟨0, 6, .ro, 0x0, 0, 0x3F⟩]⟩,  -- GW_TX_STAT
  ⟨0x2000C40010, [(0x1000, 8)], .low, [⟨12, 20, .rwl, 0x0, 0, 0xFFFFF⟩]⟩,  -- GW_RX_BASE
  ⟨0x2000C40014, [(0x1000, 8)], .high, [⟨0, 16, .rwl, 0x0, 0, 0xFFFF⟩]⟩,  -- GW_RX_BASE.h
  ⟨0x2000C40018, [(0x1000, 8)], .single, [⟨31, 1, .rwl, 0x0, 0, 0x1⟩, ⟨0, 4, .rwl, 0x4, 4, 0x8⟩]⟩,  -- GW_RX_CFG
  ⟨0x2000C4001C, [(0x1000, 8)], .single, [⟨0, 9, .rw, 0x0, 0, 0x1FF⟩]⟩,  -- GW_RX_CI
  ⟨0x2000C40020, [(0x1000, 8)], .single, [⟨31, 1, .ro, 0x0, 0, 0x1⟩, ⟨24, 5, .ro, 0x0, 0, 0x1F⟩, ⟨14, 10, .ro, 0x0, 0, 0x3FF⟩, ⟨0, 11, .ro, 0x0, 0, 0x7FF⟩]⟩,  -- GW_RX_HEAD
  ⟨0x2000C40024, [(0x1000, 8)], .single, [⟨0, 32, .ro, 0x0, 0, 0xFFFFFFFF⟩]⟩,  -- GW_RX_TIME
  ⟨0x2000C40028, [(0x1000, 8)], .single, cntFields⟩  -- GW_RX_DROP
  ]

/-- Block SEAL. -/
def regRowsSeal0 : List RRow := [
  ⟨0x2000F00000, [], .single, [⟨0, 32, .ro, 0x0, 0, 0xFFFFFFFF⟩]⟩,  -- SEAL_EPOCH
  ⟨0x2000F00004, [], .single, [⟨31, 1, .rw, 0x1, 0, 0x1⟩, ⟨30, 1, .rw, 0x0, 0, 0x1⟩, ⟨0, 4, .rw, 0x0, 0, 0xF⟩]⟩,  -- SEAL_SRC_CFG
  ⟨0x2000F00008, [], .single, [⟨0, 32, .rw, 0x0, 0, 0xFFFFFFFF⟩]⟩,  -- SEAL_IP4
  ⟨0x2000F00010, [], .low, [⟨0, 32, .rw, 0x0, 0, 0xFFFFFFFF⟩]⟩,  -- SEAL_MAC
  ⟨0x2000F00014, [], .high, [⟨0, 16, .rw, 0x0, 0, 0xFFFF⟩]⟩,  -- SEAL_MAC.h
  ⟨0x2000F00020, [(0x4, 8)], .single, [⟨31, 1, .ro, 0x0, 0, 0x1⟩, ⟨30, 1, .ro, 0x0, 0, 0x1⟩, ⟨24, 3, .ro, 0x0, 0, 0x7⟩, ⟨0, 11, .ro, 0x0, 0, 0x7FF⟩]⟩,  -- SEAL_KEY_ATTR
  ⟨0x2000F00040, [(0x4, 8)], .single, [⟨0, 32, .ro, 0x0, 0, 0xFFFFFFFF⟩]⟩,  -- SEAL_LASTSEQ
  ⟨0x2000F00060, [], .single, [⟨0, 10, .wo, 0x0, 0, 0x3FF⟩]⟩,  -- SEAL_SW_CTRL
  ⟨0x2000F00064, [], .single, [⟨31, 1, .w1c, 0x0, 0, 0x1⟩, ⟨0, 10, .ro, 0x0, 0, 0x3FF⟩]⟩,  -- SEAL_SW_STAT
  ⟨0x2000F00068, [], .single, cntFields⟩,  -- SEAL_REJ_CNT
  ⟨0x2000F0006C, [], .single, cntFields⟩  -- SEAL_ACC_CNT
  ]

/-- Block TRUSS. -/
def regRowsTruss0 : List RRow := [
  ⟨0x2000D00000, [], .single, [⟨31, 1, .ro, 0x0, 0, 0x1⟩, ⟨30, 1, .ro, 0x0, 0, 0x1⟩, ⟨0, 16, .ro, 0x0, 0, 0xFFFF⟩]⟩,  -- TRUSS_CFG
  ⟨0x2000D00004, [], .single, [⟨29, 3, .ro, 0x0, 0, 0x7⟩, ⟨27, 2, .ro, 0x0, 0, 0x3⟩, ⟨26, 1, .ro, 0x0, 0, 0x1⟩, ⟨25, 1, .ro, 0x0, 0, 0x1⟩, ⟨24, 1, .ro, 0x0, 0, 0x1⟩, ⟨23, 1, .ro, 0x0, 0, 0x1⟩, ⟨8, 8, .ro, 0x0, 0, 0xFF⟩, ⟨0, 8, .ro, 0x0, 0, 0xFF⟩]⟩,  -- TRUSS_STATE
  ⟨0x2000D00008, [], .single, [⟨0, 18, .ro, 0x0, 0, 0x3FFFF⟩]⟩,  -- TRUSS_LANES
  ⟨0x2000D0000C, [], .single, [⟨29, 3, .ro, 0x0, 0, 0x7⟩, ⟨2, 1, .ro, 0x0, 0, 0x1⟩, ⟨1, 1, .ro, 0x0, 0, 0x1⟩, ⟨0, 1, .ro, 0x0, 0, 0x1⟩]⟩,  -- TRUSS_PEER
  ⟨0x2000D00010, [], .single, [⟨0, 32, .ro, 0x0, 0, 0xFFFFFFFF⟩]⟩,  -- TRUSS_PEER_LAST
  ⟨0x2000D00014, [], .single, [⟨0, 32, .ro, 0x0, 0, 0xFFFFFFFF⟩]⟩,  -- TRUSS_PEER_SERIAL
  ⟨0x2000D00018, [], .single, [⟨0, 32, .ro, 0x0, 0, 0xFFFFFFFF⟩]⟩,  -- TRUSS_TIME_ERR
  ⟨0x2000D0001C, [], .single, [⟨0, 16, .ro, 0x0, 0, 0xFFFF⟩]⟩,  -- TRUSS_DELAY
  ⟨0x2000D00020, [], .single, cntFields⟩,  -- TRUSS_HDR_CNT
  ⟨0x2000D00024, [], .single, cntFields⟩,  -- TRUSS_RETRY_CNT
  ⟨0x2000D00028, [], .single, cntFields⟩,  -- TRUSS_ACCORD_BAD
  ⟨0x2000D0002C, [], .single, cntFields⟩  -- TRUSS_DISCARD
  ]

/-- Block MAILBOX. -/
def regRowsMailbox0 : List RRow := [
  ⟨0x2000E00000, [(0x1000, 18)], .low, [⟨12, 20, .rwl, 0x0, 0, 0xFFFFF⟩]⟩,  -- MB_BASE
  ⟨0x2000E00004, [(0x1000, 18)], .high, [⟨0, 16, .rwl, 0x0, 0, 0xFFFF⟩]⟩,  -- MB_BASE.h
  ⟨0x2000E00008, [(0x1000, 18)], .single, [⟨31, 1, .rwl, 0x0, 0, 0x1⟩, ⟨30, 1, .rwl, 0x0, 0, 0x1⟩, ⟨8, 4, .rwl, 0x0, 0, 0xF⟩, ⟨0, 4, .rwl, 0x2, 2, 0x8⟩]⟩,  -- MB_CFG
  ⟨0x2000E0000C, [(0x1000, 18)], .single, [⟨0, 9, .rw, 0x0, 0, 0x1FF⟩]⟩,  -- MB_PI
  ⟨0x2000E00010, [(0x1000, 18)], .single, [⟨0, 9, .rw, 0x0, 0, 0x1FF⟩]⟩,  -- MB_CI
  ⟨0x2000E00014, [(0x1000, 18)], .single, cntFields⟩,  -- MB_CHECK_CNT
  ⟨0x2000E00018, [(0x1000, 18)], .single, cntFields⟩,  -- MB_NOTE_DROP
  ⟨0x2000E20000, [], .single, [⟨31, 1, .ro, 0x0, 0, 0x1⟩, ⟨0, 7, .ro, 0x0, 0, 0x7F⟩]⟩,  -- FC_STATUS
  ⟨0x2000E20004, [], .single, [⟨24, 8, .ro, 0x0, 0, 0xFF⟩, ⟨16, 8, .ro, 0x0, 0, 0xFF⟩, ⟨0, 16, .ro, 0x0, 0, 0xFFFF⟩]⟩,  -- FC_VERSION
  ⟨0x2000E20008, [], .single, [⟨8, 8, .ro, 0x0, 0, 0xFF⟩, ⟨0, 8, .ro, 0x0, 0, 0xFF⟩]⟩,  -- FC_MSGVER
  ⟨0x2000E20010, [(0x4, 8)], .single, [⟨0, 8, .ro, 0x0, 0, 0xFF⟩]⟩,  -- FC_ROUTE
  ⟨0x2000E20030, [], .single, cntFields⟩  -- FC_RERUN_CNT
  ]

/-- Block CRP. -/
def regRowsCrp0 : List RRow := [
  ⟨0x2000100000, [], .single, [⟨16, 2, .ro, 0x2, 0, 0x3⟩, ⟨0, 2, .rw, 0x2, 0, 0x3⟩]⟩,  -- CRP_BAY_CLK
  ⟨0x2000100004, [], .single, [⟨31, 1, .ro, 0x0, 0, 0x1⟩, ⟨16, 2, .ro, 0x0, 0, 0x3⟩]⟩,  -- CRP_THROTTLE
  ⟨0x2000100008, [], .single, [⟨16, 16, .wo, 0x0, 0, 0xFFFF⟩, ⟨1, 1, .wo, 0x0, 0, 0x1⟩, ⟨0, 1, .wo, 0x0, 0, 0x1⟩]⟩,  -- CRP_RST_CTRL
  ⟨0x200010000C, [], .single, cntFields⟩,  -- CRP_STEP_CNT
  ⟨0x2000101000, [(0x10, 4)], .single, [⟨0, 9, .rw, 0x50, 20, 0x1FF⟩]⟩,  -- CRP_PIX_INT
  ⟨0x2000101004, [(0x10, 4)], .single, [⟨0, 24, .rw, 0x0, 0, 0xFFFFFF⟩]⟩,  -- CRP_PIX_FRAC
  ⟨0x2000101008, [(0x10, 4)], .single, [⟨0, 1, .ro, 0x0, 0, 0x1⟩]⟩,  -- CRP_PIX_STAT
  ⟨0x2000102000, [], .single, [⟨3, 1, .w1c, 0x0, 0, 0x1⟩, ⟨0, 3, .ro, 0x0, 0, 0x7⟩]⟩,  -- CRP_RST_CAUSE
  ⟨0x2000102004, [], .single, [⟨31, 1, .ro, 0x0, 0, 0x1⟩, ⟨24, 4, .ro, 0x0, 0, 0xF⟩, ⟨16, 8, .ro, 0x0, 0, 0xFF⟩, ⟨2, 1, .ro, 0x0, 0, 0x1⟩, ⟨1, 1, .ro, 0x0, 0, 0x1⟩, ⟨0, 1, .ro, 0x0, 0, 0x1⟩]⟩,  -- CRP_BOOT_STAT
  ⟨0x2000102008, [], .single, [⟨1, 1, .ro, 0x0, 0, 0x1⟩, ⟨0, 1, .ro, 0x0, 0, 0x1⟩]⟩  -- CRP_PLL_STAT
  ]

/-- Block SCRIBE. -/
def regRowsScribe0 : List RRow := [
  ⟨0x2001000000, [], .single, [⟨1, 1, .ro, 0x0, 0, 0x1⟩, ⟨0, 1, .ro, 0x0, 0, 0x1⟩]⟩,  -- SCRIBE_STATE
  ⟨0x2001000004, [], .single, [⟨16, 3, .rw, 0x2, 0, 0x4⟩, ⟨0, 8, .rw, 0x3, 0, 0xFF⟩]⟩,  -- SCRIBE_CLKCFG
  ⟨0x2001000010, [(0x4, 4)], .single, [⟨24, 6, .rw, 0x0, 0, 0x3F⟩, ⟨8, 4, .rw, 0x0, 0, 0xF⟩, ⟨4, 4, .rw, 0x0, 0, 0xF⟩, ⟨0, 4, .rw, 0x0, 0, 0xF⟩]⟩,  -- SCRIBE_SEL
  ⟨0x2001000020, [], .single, [⟨1, 1, .ro, 0x0, 0, 0x1⟩, ⟨0, 1, .ro, 0x0, 0, 0x1⟩]⟩  -- SCRIBE_STRAPS
  ]

/-- Every register row. -/
def regRows : List RRow :=
  regRowsGlobal0 ++ regRowsGlobal1 ++ regRowsBay0 ++ regRowsJointer0 ++
  regRowsCmdproc0 ++ regRowsDowel0 ++ regRowsPeg0 ++ regRowsPart0 ++
  regRowsGirt0 ++ regRowsTimebase0 ++ regRowsTimebase1 ++ regRowsSafety0 ++
  regRowsSafety1 ++ regRowsIntake0 ++ regRowsGfx0 ++ regRowsDisp0 ++
  regRowsDisp1 ++ regRowsGateway0 ++ regRowsGateway1 ++ regRowsSeal0 ++
  regRowsTruss0 ++ regRowsMailbox0 ++ regRowsCrp0 ++ regRowsScribe0

/-- `off` is a sum of index × stride with every index below its count, strides in descending order. -/
def stridesHit : List (Nat × Nat) → Nat → Bool
  | [], off => decide (off = 0)
  | (s, c) :: t, off => decide (off / s < c) && stridesHit t (off % s)

/-- The row holds address `a`. -/
def RRow.holds (r : RRow) (a : Addr) : Bool := decide (r.base ≤ a) && stridesHit r.strides (a - r.base)

/-- The row of address `a`, if a register stands there (R33, R35). -/
def regRow (a : Addr) : Option RRow := regRows.find? (fun r => r.holds a)

/-- The reset value of a row: every field's (R40). -/
def RRow.reset (r : RRow) : Word32 :=
  BitVec.ofNat 32 (r.fields.foldl (fun acc f => acc + f.rst * 2 ^ f.lo) 0)

/-- The reset value of the word at `a`. -/
def regReset (a : Addr) : Word32 := ((regRow a).map RRow.reset).getD 0

end Sys2Proof.Machine
end

