-- ==== Sys2Proof/Machine/Flags.lean ====
section
/-!
DEFINITION. The sticky arithmetic flags of R102 and the FLAGS special register of chapter 4: every flag computation of
the vector pipes, the drain path and the chunk adder ends in one of these records, ORed into the bay's FLAGS (R160).
-/

namespace Sys2Proof.Machine

/-- The six sticky flags (R102). -/
structure FFlags where
  /-- invalid -/
  nv : Bool := false
  /-- divide-by-zero -/
  dz : Bool := false
  /-- overflow -/
  ovf : Bool := false
  /-- underflow -/
  unf : Bool := false
  /-- inexact -/
  nx : Bool := false
  /-- WINDOW_LOSS -/
  wloss : Bool := false
  deriving DecidableEq, Repr

/-- No flag raised. -/
def FFlags.none : FFlags := {}

/-- Several flag events are ORed, and none is lost (R160). -/
def FFlags.or (a b : FFlags) : FFlags :=
  { nv := a.nv || b.nv, dz := a.dz || b.dz, ovf := a.ovf || b.ovf,
    unf := a.unf || b.unf, nx := a.nx || b.nx, wloss := a.wloss || b.wloss }

/-- The flags as bits [5:0] of FLAGS and BAY_FLAGS: NV, DZ, OF, UF, NX, WLOSS from bit 0 up. -/
def FFlags.toBits (f : FFlags) : Nat :=
  bitN f.nv 0 + bitN f.dz 1 + bitN f.ovf 2 + bitN f.unf 3 + bitN f.nx 4 + bitN f.wloss 5

/-- The flags read from bits [5:0] of a word. -/
def FFlags.ofNat (x : Nat) : FFlags :=
  { nv := x.testBit 0, dz := x.testBit 1, ovf := x.testBit 2,
    unf := x.testBit 3, nx := x.testBit 4, wloss := x.testBit 5 }

/-- Raise invalid. -/
def FFlags.invalid : FFlags := { nv := true }

/-- Raise inexact when `b`. -/
def FFlags.inexact (b : Bool) : FFlags := { nx := b }

/-- The FLAGS special register: the sticky bits, and FTZ in bit 8 (chapter 4, R157). -/
structure HandFlags where
  /-- sticky bits [5:0] -/
  sticky : FFlags := {}
  /-- FTZ, bit 8 -/
  ftz : Bool := false
  deriving DecidableEq, Repr

/-- FLAGS as the 64-bit value MFSR returns; reserved bits read 0. -/
def HandFlags.toWord (f : HandFlags) : Word64 :=
  BitVec.ofNat 64 (f.sticky.toBits + bitN f.ftz 8)

/-- FLAGS as an MTSR writes it. -/
def HandFlags.ofWord (w : Word64) : HandFlags :=
  { sticky := FFlags.ofNat w.toNat, ftz := w.toNat.testBit 8 }

end Sys2Proof.Machine
end

