-- ==== Sys2Proof/Machine/Float.lean ====
section
/-!
DEFINITION. The number formats of chapter 4 and their one rounding. A finite value is an exact dyadic number
(sign, magnitude, exponent), so nothing is lost before the single rounding of R140, R151 and R155. Integer formats are
two's complement (R118).
-/

namespace Sys2Proof.Machine

/-- The ten formats of the format table (R117). -/
inductive Fmt where
  | int4 | int8 | int16 | int32 | e4m3 | e5m2 | fp16 | bf16 | bf16x | fp32
  deriving DecidableEq, Repr

/-- A format code; 0xA–0xF are reserved (R117). -/
def Fmt.ofCode : Nat → Option Fmt
  | 0 => some .int4 | 1 => some .int8 | 2 => some .int16 | 3 => some .int32 | 4 => some .e4m3
  | 5 => some .e5m2 | 6 => some .fp16 | 7 => some .bf16 | 8 => some .bf16x | 9 => some .fp32
  | _ => none

/-- The format code of R117. -/
def Fmt.code : Fmt → Nat
  | .int4 => 0 | .int8 => 1 | .int16 => 2 | .int32 => 3 | .e4m3 => 4
  | .e5m2 => 5 | .fp16 => 6 | .bf16 => 7 | .bf16x => 8 | .fp32 => 9

/-- Width in bits. -/
def Fmt.width : Fmt → Nat
  | .int4 => 4 | .int8 => 8 | .int16 => 16 | .int32 => 32 | .e4m3 => 8
  | .e5m2 => 8 | .fp16 => 16 | .bf16 => 16 | .bf16x => 16 | .fp32 => 32

/-- The integer formats. -/
def Fmt.isInt : Fmt → Bool
  | .int4 | .int8 | .int16 | .int32 => true
  | .e4m3 | .e5m2 | .fp16 | .bf16 | .bf16x | .fp32 => false

/-- Accepted as a matrix operand (R120). -/
def Fmt.matrixOk : Fmt → Bool
  | .int4 | .int8 | .e4m3 | .e5m2 | .fp16 | .bf16 | .bf16x => true
  | .int16 | .int32 | .fp32 => false

/-- Accepted as a drain output (R120). -/
def Fmt.drainOk : Fmt → Bool
  | .bf16x => false
  | .int4 | .int8 | .int16 | .int32 | .e4m3 | .e5m2 | .fp16 | .bf16 | .fp32 => true

/-- Accepted by vector arithmetic (R120). -/
def Fmt.vectorOk : Fmt → Bool
  | .int8 | .int16 | .int32 | .fp16 | .bf16 | .fp32 => true
  | .int4 | .e4m3 | .e5m2 | .bf16x => false

/-- Accepted by vector conversion (R120). -/
def Fmt.convertOk : Fmt → Bool := Fmt.drainOk

/-- A floating-point lane format of vector arithmetic (R151). -/
def Fmt.vectorFp : Fmt → Bool
  | .fp16 | .bf16 | .fp32 => true
  | .int4 | .int8 | .int16 | .int32 | .e4m3 | .e5m2 | .bf16x => false

/-- Fraction bits of a floating-point format. -/
def Fmt.mbits : Fmt → Nat
  | .e4m3 => 3 | .e5m2 => 2 | .fp16 => 10 | .bf16 | .bf16x => 7 | .fp32 => 23
  | .int4 | .int8 | .int16 | .int32 => 0

/-- Exponent bits of a floating-point format. -/
def Fmt.ebits : Fmt → Nat
  | .e4m3 => 4 | .e5m2 => 5 | .fp16 => 5 | .bf16 | .bf16x | .fp32 => 8
  | .int4 | .int8 | .int16 | .int32 => 0

/-- Exponent bias (R117). -/
def Fmt.bias : Fmt → Nat
  | .e4m3 => 7 | .e5m2 => 15 | .fp16 => 15 | .bf16 | .bf16x | .fp32 => 127
  | .int4 | .int8 | .int16 | .int32 => 0

/-- The default NaN pattern (R117). -/
def Fmt.defaultNaN : Fmt → Nat
  | .e4m3 => 0x7F | .e5m2 => 0x7E | .fp16 => 0x7E00 | .bf16 | .bf16x => 0x7FC0 | .fp32 => 0x7FC00000
  | .int4 | .int8 | .int16 | .int32 => 0

/-- The pattern of the largest finite magnitude (R117). -/
def Fmt.maxFinite : Fmt → Nat
  | .e4m3 => 0x7E | .e5m2 => 0x7B | .fp16 => 0x7BFF | .bf16 | .bf16x => 0x7F7F | .fp32 => 0x7F7FFFFF
  | .int4 => 7 | .int8 => 0x7F | .int16 => 0x7FFF | .int32 => 0x7FFFFFFF

/-- The pattern of +∞; E4M3 has none (R117). -/
def Fmt.infPattern : Fmt → Nat
  | .e4m3 => 0x7F | .e5m2 => 0x7C | .fp16 => 0x7C00 | .bf16 | .bf16x => 0x7F80 | .fp32 => 0x7F800000
  | .int4 | .int8 | .int16 | .int32 => 0

/-- A number as an operation reads it: a NaN, an infinity, or the exact value ±m·2^e. -/
inductive FVal where
  /-- a NaN; signalling when set (R117) -/
  | nan (sig : Bool)
  /-- an infinity -/
  | inf (neg : Bool)
  /-- the exact value (−1)^neg · m · 2^e -/
  | fin (neg : Bool) (m : Nat) (e : Int)
  deriving DecidableEq, Repr

/-- A zero of the given sign. -/
def FVal.zero (neg : Bool) : FVal := .fin neg 0 0

/-- The value of a bit pattern in a format (R117, R118). -/
def Fmt.decode (f : Fmt) (x : Nat) : FVal :=
  if f.isInt then
    let v := sintOf f.width x
    .fin (decide (v < 0)) v.natAbs 0
  else
    let neg := x.testBit (f.width - 1)
    let ex := nfld x f.mbits f.ebits
    let fr := nfld x 0 f.mbits
    let top := 2 ^ f.ebits - 1
    if f = .e4m3 ∧ ex = top ∧ fr = 7 then .nan false
    else if f ≠ .e4m3 ∧ ex = top ∧ fr = 0 then .inf neg
    else if f ≠ .e4m3 ∧ ex = top then
      .nan (decide (f ≠ .e5m2) && !(fr.testBit (f.mbits - 1)))
    else if ex = 0 then .fin neg fr (1 - (f.bias : Int) - f.mbits)
    else .fin neg (2 ^ f.mbits + fr) ((ex : Int) - f.bias - f.mbits)

/-- A subnormal pattern of a floating-point format: exponent field 0 and a nonzero fraction. -/
def Fmt.isSubnormal (f : Fmt) (x : Nat) : Bool :=
  !f.isInt && decide (nfld x f.mbits f.ebits = 0) && decide (nfld x 0 f.mbits ≠ 0)

/-- Operand read on the vector path: with FTZ a subnormal reads as a zero of its sign, and raises no flag (R157). -/
def Fmt.decodeFtz (f : Fmt) (ftz : Bool) (x : Nat) : FVal :=
  if ftz && f.isSubnormal x then .zero (x.testBit (f.width - 1)) else f.decode x

/-- The four rounding modes (R143). -/
inductive RMode where
  | rne | rtz | rup | rdn
  deriving DecidableEq, Repr

/-- The 2-bit rounding-mode field (R143). -/
def RMode.ofField (n : Nat) : RMode :=
  if n % 4 = 0 then .rne else if n % 4 = 1 then .rtz else if n % 4 = 2 then .rup else .rdn

/-- Round the magnitude m·2^e of the given sign to a multiple of 2^q: the multiple, and whether it differs. -/
def roundMag (rm : RMode) (neg : Bool) (m : Nat) (e q : Int) : Nat × Bool :=
  if q ≤ e then (m <<< (e - q).toNat, false)
  else
    let s := (q - e).toNat
    let base := m >>> s
    let rest := m % 2 ^ s
    let half := 2 ^ (s - 1)
    let up : Bool :=
      match rm with
      | .rne => decide (half < rest) || (decide (rest = half) && decide (base % 2 = 1))
      | .rtz => false
      | .rup => !neg && decide (rest ≠ 0)
      | .rdn => neg && decide (rest ≠ 0)
    (if up then base + 1 else base, decide (rest ≠ 0))

/-- A rounded result: a bit pattern and the flags it raises. -/
structure FRes where
  bits : Nat
  flags : FFlags := {}
  deriving DecidableEq, Repr

/-- The sign bit of a floating-point pattern. -/
def Fmt.signBit (f : Fmt) (neg : Bool) : Nat := if neg then 2 ^ (f.width - 1) else 0

/-- What an overflow delivers: the rounding-mode table, SAT (R145), and E4M3's saturation (R147). -/
def Fmt.overflowBits (f : Fmt) (rm : RMode) (sat neg : Bool) : Nat :=
  let toMax : Bool :=
    sat || decide (f = .e4m3) ||
      (match rm with
       | .rne => false
       | .rtz => true
       | .rup => neg
       | .rdn => !neg)
  f.signBit neg + (if toMax then f.maxFinite else f.infPattern)

/-- Deliver the exact nonzero value ±m·2^e in a floating-point format with one rounding: overflow by R144, tininess
after rounding by R146, flush of a tiny result under FTZ by R157. -/
def Fmt.roundFin (f : Fmt) (rm : RMode) (sat ftz neg : Bool) (m : Nat) (e : Int) : FRes :=
  let p : Int := (f.mbits : Int) + 1
  let emin : Int := 1 - (f.bias : Int)
  let top : Int := e + bitLen m - 1
  let qu : Int := top - (p - 1)
  let u := roundMag rm neg m e qu
  let tiny : Bool := decide (qu + (bitLen u.1 : Int) - 1 < emin)
  if tiny && ftz then { bits := f.signBit neg, flags := { unf := true, nx := true } }
  else
    let q : Int := if tiny then emin - (p - 1) else max qu (emin - (p - 1))
    let r := roundMag rm neg m e q
    let pat : Nat := ((q + (p - 1) + f.bias - 1).toNat) * 2 ^ f.mbits + r.1
    if !tiny && decide (f.maxFinite < pat) then
      { bits := f.overflowBits rm sat neg, flags := { ovf := true, nx := true } }
    else { bits := f.signBit neg + pat, flags := { unf := tiny && r.2, nx := r.2 } }

/-- Round the exact value ±m·2^e to an integer format, always saturating (R148). -/
def Fmt.roundInt (f : Fmt) (rm : RMode) (neg : Bool) (m : Nat) (e : Int) : FRes :=
  let r := roundMag rm neg m e 0
  let v : Int := if neg then -(r.1 : Int) else r.1
  let hi : Int := (2 ^ (f.width - 1) : Nat) - 1
  let lo : Int := -((2 ^ (f.width - 1) : Nat) : Int)
  if hi < v then { bits := sintTo f.width hi, flags := .invalid }
  else if v < lo then { bits := sintTo f.width lo, flags := .invalid }
  else { bits := sintTo f.width v, flags := .inexact r.2 }

/-- Deliver a value in any output format (R144–R150, R155). The NaN result is the default NaN (R150, R152); a signalling
source has been judged by the caller. `zneg` is the sign a floating-point zero keeps. -/
def Fmt.deliver (f : Fmt) (rm : RMode) (sat ftz : Bool) (v : FVal) : FRes :=
  match v with
  | .nan _ => if f.isInt then { bits := 0, flags := .invalid } else { bits := f.defaultNaN }
  | .inf neg =>
    if f.isInt then
      { bits := if neg then 2 ^ (f.width - 1) else 2 ^ (f.width - 1) - 1, flags := .invalid }
    else if f = .e4m3 then { bits := f.defaultNaN, flags := .invalid }
    else { bits := f.signBit neg + f.infPattern }
  | .fin neg m e =>
    if f.isInt then f.roundInt rm neg m e
    else if m = 0 then { bits := f.signBit neg }
    else f.roundFin rm sat ftz neg m e

/-- The exact signed integer of a finite value in units of 2^u, for u not above its exponent. -/
def scaledInt (neg : Bool) (m : Nat) (e u : Int) : Int :=
  let x : Int := ((m <<< (e - u).toNat : Nat) : Int)
  if neg then -x else x

/-- The exact sum of two finite values; an exact zero takes the sign of IEEE 754: the common sign of two zeros,
otherwise +0, or −0 under RDN. -/
def addFin (rm : RMode) (n1 : Bool) (m1 : Nat) (e1 : Int) (n2 : Bool) (m2 : Nat) (e2 : Int) : FVal :=
  let u := min e1 e2
  let s := scaledInt n1 m1 e1 u + scaledInt n2 m2 e2 u
  if s = 0 then
    (if m1 = 0 ∧ m2 = 0 ∧ n1 = n2 then .zero n1 else .zero (decide (rm = .rdn)))
  else .fin (decide (s < 0)) s.natAbs u

/-- An operand is a signalling NaN. -/
def FVal.isSig : FVal → Bool
  | .nan s => s
  | .inf _ | .fin _ _ _ => false

/-- An operand is a NaN. -/
def FVal.isNaN : FVal → Bool
  | .nan _ => true
  | .inf _ | .fin _ _ _ => false

/-- The opposite sign; a NaN stays. -/
def FVal.neg : FVal → FVal
  | .nan s => .nan s
  | .inf n => .inf (!n)
  | .fin n m e => .fin (!n) m e

/-- A value before its rounding, with the flags raised so far. -/
structure FExact where
  val : FVal
  flags : FFlags := {}
  deriving DecidableEq, Repr

/-- IEEE 754 addition before rounding (R151, R152). -/
def addExact (rm : RMode) (a b : FVal) : FExact :=
  let sig : FFlags := { nv := a.isSig || b.isSig }
  match a, b with
  | .nan _, _ => { val := .nan false, flags := sig }
  | _, .nan _ => { val := .nan false, flags := sig }
  | .inf n, .inf k => if n = k then { val := .inf n } else { val := .nan false, flags := .invalid }
  | .inf n, .fin _ _ _ => { val := .inf n }
  | .fin _ _ _, .inf n => { val := .inf n }
  | .fin n1 m1 e1, .fin n2 m2 e2 => { val := addFin rm n1 m1 e1 n2 m2 e2 }

/-- IEEE 754 multiplication before rounding (R151, R152). -/
def mulExact (a b : FVal) : FExact :=
  let sig : FFlags := { nv := a.isSig || b.isSig }
  match a, b with
  | .nan _, _ => { val := .nan false, flags := sig }
  | _, .nan _ => { val := .nan false, flags := sig }
  | .inf n, .inf k => { val := .inf (xor n k) }
  | .inf n, .fin k m _ =>
    if m = 0 then { val := .nan false, flags := .invalid } else { val := .inf (xor n k) }
  | .fin k m _, .inf n =>
    if m = 0 then { val := .nan false, flags := .invalid } else { val := .inf (xor n k) }
  | .fin n1 m1 e1, .fin n2 m2 e2 => { val := .fin (xor n1 n2) (m1 * m2) (e1 + e2) }

/-- Fused multiply-add before rounding: an infinity times a zero raises invalid and delivers the default NaN whatever
the addend (R151). -/
def fmaExact (rm : RMode) (a b c : FVal) : FExact :=
  let p := mulExact a b
  let r := addExact rm p.val c
  { val := r.val, flags := p.flags.or r.flags }

/-- The quotient of two finite nonzero magnitudes with enough bits for one rounding; the last bit is set when the
division leaves a remainder. -/
def divMag (m1 : Nat) (e1 : Int) (m2 : Nat) (e2 : Int) : Nat × Int :=
  let k := bitLen m2 + 64 - bitLen m1
  let n := m1 <<< k
  let q := n / m2
  let jam := if n % m2 = 0 then 0 else 1
  (2 * q + jam, e1 - e2 - k - 1)

/-- IEEE 754 division before rounding (R151, R152). -/
def divExact (a b : FVal) : FExact :=
  let sig : FFlags := { nv := a.isSig || b.isSig }
  match a, b with
  | .nan _, _ => { val := .nan false, flags := sig }
  | _, .nan _ => { val := .nan false, flags := sig }
  | .inf _, .inf _ => { val := .nan false, flags := .invalid }
  | .inf n, .fin k _ _ => { val := .inf (xor n k) }
  | .fin n _ _, .inf k => { val := .zero (xor n k) }
  | .fin n1 m1 e1, .fin n2 m2 e2 =>
    if m2 = 0 then
      (if m1 = 0 then { val := .nan false, flags := .invalid }
       else { val := .inf (xor n1 n2), flags := { dz := true } })
    else if m1 = 0 then { val := .zero (xor n1 n2) }
    else
      let q := divMag m1 e1 m2 e2
      { val := .fin (xor n1 n2) q.1 q.2 }

/-- Integer square root by bits, from bit `n - 1` down. -/
def isqrtFrom : Nat → Nat → Nat → Nat
  | 0, _, r => r
  | n + 1, x, r => if (r + 2 ^ n) * (r + 2 ^ n) ≤ x then isqrtFrom n x (r + 2 ^ n) else isqrtFrom n x r

/-- IEEE 754 square root before rounding (R151, R152). -/
def sqrtExact (a : FVal) : FExact :=
  match a with
  | .nan s => { val := .nan false, flags := { nv := s } }
  | .inf n => if n then { val := .nan false, flags := .invalid } else { val := .inf false }
  | .fin n m e =>
    if m = 0 then { val := .zero n }
    else if n then { val := .nan false, flags := .invalid }
    else
      let odd := decide (e % 2 ≠ 0)
      let m1 := if odd then 2 * m else m
      let e1 := if odd then e - 1 else e
      let m2 := m1 <<< 80
      let r := isqrtFrom (bitLen m2 / 2 + 1) m2 0
      let jam := if r * r = m2 then 0 else 1
      { val := .fin false (2 * r + jam) (e1 / 2 - 40 - 1) }

/-- Order of two numbers: −1, 0 or 1 as `a` is below, equal to or above `b`; none when either is a NaN. Zeros of both
signs are equal. -/
def FVal.compare (a b : FVal) : Option Int :=
  match a, b with
  | .nan _, _ => none
  | _, .nan _ => none
  | .inf n, .inf k => some (if n = k then 0 else if n then -1 else 1)
  | .inf n, .fin _ _ _ => some (if n then -1 else 1)
  | .fin _ _ _, .inf n => some (if n then 1 else -1)
  | .fin n1 m1 e1, .fin n2 m2 e2 =>
    let u := min e1 e2
    let x := scaledInt n1 m1 e1 u
    let y := scaledInt n2 m2 e2 u
    some (if x < y then -1 else if x = y then 0 else 1)

/-- The sign of a number. -/
def FVal.isNeg : FVal → Bool
  | .nan _ => false
  | .inf n => n
  | .fin n _ _ => n

/-- minimumNumber and maximumNumber of IEEE 754-2019, with −0 below +0 (R153). -/
def minMaxExact (isMax : Bool) (a b : FVal) : FExact :=
  let sig : FFlags := { nv := a.isSig || b.isSig }
  match a.isNaN, b.isNaN with
  | true, true => { val := .nan false, flags := sig }
  | true, false => { val := b, flags := sig }
  | false, true => { val := a, flags := sig }
  | false, false =>
    let c := (a.compare b).getD 0
    let aLow : Bool := decide (c < 0) || (decide (c = 0) && a.isNeg)
    { val := if aLow then (if isMax then b else a) else (if isMax then a else b) }

/-- Round an unrounded result to a lane format on the vector path (R151, R155, R157). -/
def Fmt.finish (f : Fmt) (rm : RMode) (sat ftz : Bool) (x : FExact) : FRes :=
  let r := f.deliver rm sat ftz x.val
  { bits := r.bits, flags := x.flags.or r.flags }

end Sys2Proof.Machine
end

