-- ==== Sys2Proof/Machine/Operands.lean ====
section
/-!
DEFINITION. The Penyca instruction formats (R206): every operand form, as accessors over the 64-bit instruction word, and
the stream descriptor (R182). A field is read here and nowhere else.
-/

namespace Sys2Proof.Machine

/-- The major opcode, bits [63:58] (R205). -/
def majorOf (w : Word64) : Nat := fld w 58 6

/-- FN, bits [57:52], of every format that has it. -/
def fnOf (w : Word64) : Nat := fld w 52 6

/-- An immediate of `n` bits sign-extended to 64 bits. -/
def sext64 (n x : Nat) : Word64 := BitVec.ofInt 64 (sintOf n x)

/-- Format R3: RD. -/
def R3.rd (w : Word64) : Nat := fld w 47 5
/-- Format R3: RA. -/
def R3.ra (w : Word64) : Nat := fld w 42 5
/-- Format R3: RB. -/
def R3.rb (w : Word64) : Nat := fld w 37 5
/-- Format R3: RC. -/
def R3.rc (w : Word64) : Nat := fld w 32 5
/-- Format R3: KE. -/
def R3.ke (w : Word64) : Bool := bitAt w 31
/-- Format R3: KM. -/
def R3.km (w : Word64) : Nat := fld w 28 3
/-- Format R3: LF, the lane format code. -/
def R3.lf (w : Word64) : Nat := fld w 24 4
/-- Format R3: RM. -/
def R3.rm (w : Word64) : RMode := RMode.ofField (fld w 22 2)
/-- Format R3: SAT. -/
def R3.sat (w : Word64) : Bool := bitAt w 21
/-- Format R3: LF2, the source format of a conversion. -/
def R3.lf2 (w : Word64) : Nat := fld w 17 4

/-- Format RI: RD. -/
def RI.rd (w : Word64) : Nat := fld w 47 5
/-- Format RI: RA. -/
def RI.ra (w : Word64) : Nat := fld w 42 5
/-- Format RI: IMM32, sign-extended to 64 bits. -/
def RI.imm (w : Word64) : Word64 := sext64 32 (fld w 0 32)
/-- A shift count in IMM32[5:0], and the position of a field instruction (R221). -/
def RI.pos (w : Word64) : Nat := fld w 0 6
/-- The length of a field instruction: IMM32[13:8] + 1 (R221). -/
def RI.len (w : Word64) : Nat := fld w 8 6 + 1

/-- Format LI: RD. -/
def LI.rd (w : Word64) : Nat := fld w 53 5
/-- Format LI: IMM48, zero-extended. -/
def LI.imm (w : Word64) : Word64 := BitVec.ofNat 64 (fld w 0 48)

/-- Format BR: RD. -/
def BR.rd (w : Word64) : Nat := fld w 47 5
/-- Format BR: RA. -/
def BR.ra (w : Word64) : Nat := fld w 42 5
/-- Format BR: RB. -/
def BR.rb (w : Word64) : Nat := fld w 37 5
/-- Format BR: OFF32, a signed instruction count (R178). -/
def BR.off (w : Word64) : Int := sintOf 32 (fld w 0 32)

/-- Format MEM: RD. -/
def MEM.rd (w : Word64) : Nat := fld w 47 5
/-- Format MEM: RA. -/
def MEM.ra (w : Word64) : Nat := fld w 42 5
/-- Format MEM: SZ. -/
def MEM.sz (w : Word64) : Nat := fld w 39 3
/-- Format MEM: KE. -/
def MEM.ke (w : Word64) : Bool := bitAt w 38
/-- Format MEM: KM. -/
def MEM.km (w : Word64) : Nat := fld w 35 3
/-- Format MEM: OFF32, sign-extended. -/
def MEM.off (w : Word64) : Word64 := sext64 32 (fld w 0 32)

/-- Format MX: DA. -/
def MX.da (w : Word64) : Nat := fld w 54 4
/-- Format MX: DB. -/
def MX.db (w : Word64) : Nat := fld w 50 4
/-- Format MX: DC. -/
def MX.dc (w : Word64) : Nat := fld w 46 4
/-- Format MX: W, the first weight slot. -/
def MX.w (w : Word64) : Nat := fld w 44 2
/-- Format MX: WN, the number of slots minus 1. -/
def MX.wn (w : Word64) : Nat := fld w 42 2
/-- Format MX: A, the sill set. -/
def MX.a (w : Word64) : Nat := fld w 40 2
/-- Format MX: FMT. -/
def MX.fmt (w : Word64) : Nat := fld w 36 4
/-- Format MX: RM. -/
def MX.rm (w : Word64) : RMode := RMode.ofField (fld w 34 2)
/-- Format MX: SAT. -/
def MX.sat (w : Word64) : Bool := bitAt w 33
/-- OPT bit 0: LINE. -/
def MX.line (w : Word64) : Bool := bitAt w 24
/-- OPT bit 1: FIRST. -/
def MX.first (w : Word64) : Bool := bitAt w 25
/-- OPT bit 2: FINAL. -/
def MX.final (w : Word64) : Bool := bitAt w 26
/-- OPT bit 3: CLEAR. -/
def MX.clear (w : Word64) : Bool := bitAt w 27
/-- OPT bits [5:4]: XMODE. -/
def MX.xmode (w : Word64) : Nat := fld w 28 2
/-- Format MX: RS. -/
def MX.rs (w : Word64) : Nat := fld w 19 5

/-- Format Q: DA. -/
def Q.da (w : Word64) : Nat := fld w 48 4
/-- Format Q: DB. -/
def Q.db (w : Word64) : Nat := fld w 44 4
/-- Format Q: DC. -/
def Q.dc (w : Word64) : Nat := fld w 40 4
/-- Format Q: RA. -/
def Q.ra (w : Word64) : Nat := fld w 35 5
/-- Format Q: RB. -/
def Q.rb (w : Word64) : Nat := fld w 30 5
/-- Format Q: PE. -/
def Q.pe (w : Word64) : Bool := bitAt w 29
/-- Format Q: PEG. -/
def Q.peg (w : Word64) : Nat := fld w 18 11
/-- Format Q: OPT. -/
def Q.opt (w : Word64) : Nat := fld w 0 18

/-- Format PG: RD. -/
def PG.rd (w : Word64) : Nat := fld w 47 5
/-- Format PG: RA. -/
def PG.ra (w : Word64) : Nat := fld w 42 5
/-- Format PG: RB. -/
def PG.rb (w : Word64) : Nat := fld w 37 5
/-- Format PG: PR. -/
def PG.pr (w : Word64) : Bool := bitAt w 36
/-- Format PG: PEG. -/
def PG.pegImm (w : Word64) : Nat := fld w 25 11
/-- Format PG: CNT. -/
def PG.cnt (w : Word64) : Nat := fld w 21 4
/-- Format PG: IR. -/
def PG.ir (w : Word64) : Bool := bitAt w 20
/-- Format PG: IMM20. -/
def PG.imm20 (w : Word64) : Nat := fld w 0 20

/-- Format SY: RD. -/
def SY.rd (w : Word64) : Nat := fld w 47 5
/-- Format SY: RA. -/
def SY.ra (w : Word64) : Nat := fld w 42 5
/-- Format SY: SR, the special register number. -/
def SY.sr (w : Word64) : Nat := fld w 32 10
/-- Format SY: IMM32. -/
def SY.imm (w : Word64) : Nat := fld w 0 32

/-- The format code of the instruction's LF field; a reserved code reads as INT8 here and never reaches a meaning. -/
def R3.fmt (w : Word64) : Fmt := (Fmt.ofCode (R3.lf w)).getD .int8

/-- The source format of a conversion. -/
def R3.srcFmt (w : Word64) : Fmt := (Fmt.ofCode (R3.lf2 w)).getD .int8

/-- The format of a matrix instruction. -/
def MX.format (w : Word64) : Fmt := (Fmt.ofCode (MX.fmt w)).getD .int8

/-- Stream descriptor: BASE, word 0 [47:0] (R182). -/
def Desc.base (d : Desc) : Nat := fld d 0 48
/-- Stream descriptor: STRIDE, word 1 [31:0]. -/
def Desc.stride (d : Desc) : Nat := fld d 64 32
/-- Stream descriptor: ROWS, word 1 [47:32]. -/
def Desc.rows (d : Desc) : Nat := fld d 96 16
/-- Stream descriptor: ROWLEN, word 2 [23:0]. -/
def Desc.rowLen (d : Desc) : Nat := fld d 128 24
/-- Stream descriptor: FMT, word 2 [27:24]. -/
def Desc.fmt (d : Desc) : Nat := fld d 152 4
/-- A reserved bit of a stream descriptor is set (R182). -/
def Desc.reservedSet (d : Desc) : Bool :=
  decide (fld d 48 16 ≠ 0) || decide (fld d 112 16 ≠ 0) || decide (fld d 156 36 ≠ 0)
/-- ROWS and ROWLEN are not 0 and no reserved bit is set (R182, R183). -/
def Desc.wellFormed (d : Desc) : Bool :=
  !Desc.reservedSet d && decide (Desc.rows d ≠ 0) && decide (Desc.rowLen d ≠ 0)
/-- The address of row `r`. -/
def Desc.rowAddr (d : Desc) (r : Nat) : Nat := Desc.base d + r * Desc.stride d
/-- The length of the enclosing byte range: from the first byte of row 0 to the last byte of the last row (R187). -/
def Desc.extent (d : Desc) : Nat := (Desc.rows d - 1) * Desc.stride d + Desc.rowLen d

end Sys2Proof.Machine
end

