-- ==== Sys2Proof/Machine/HandRegs.lean ====
section
/-!
DEFINITION. The architectural registers of a Penyca program (R181): S0–S31, V0–V31, K0–K7, D0–D15 and FLAGS. They are
read and written only here; S0 reads 0 and discards writes.
-/

namespace Sys2Proof.Machine

/-- The register files of one hand context (R181). -/
structure HandRegs where
  s : Tab Word64 := []
  v : Tab Vec := []
  k : Tab Mask := []
  d : Tab Desc := []
  flags : HandFlags := {}
  deriving DecidableEq, Repr

/-- s[i]; S0 reads 0 (R181). -/
def HandRegs.getS (r : HandRegs) (i : Nat) : Word64 := if i = 0 then 0 else tabGet 0 r.s i

/-- Write s[i]; a write to S0 is discarded (R181). -/
def HandRegs.setS (r : HandRegs) (i : Nat) (x : Word64) : HandRegs :=
  if i = 0 then r else { r with s := tabPut 0 r.s i x }

/-- v[i]. -/
def HandRegs.getV (r : HandRegs) (i : Nat) : Vec := tabGet 0 r.v i

/-- Write v[i]. -/
def HandRegs.setV (r : HandRegs) (i : Nat) (x : Vec) : HandRegs := { r with v := tabPut 0 r.v i x }

/-- k[i]. -/
def HandRegs.getK (r : HandRegs) (i : Nat) : Mask := tabGet 0 r.k i

/-- Write k[i]. -/
def HandRegs.setK (r : HandRegs) (i : Nat) (x : Mask) : HandRegs := { r with k := tabPut 0 r.k i x }

/-- D[i]. -/
def HandRegs.getD (r : HandRegs) (i : Nat) : Desc := tabGet 0 r.d i

/-- Write D[i]. -/
def HandRegs.setD (r : HandRegs) (i : Nat) (x : Desc) : HandRegs := { r with d := tabPut 0 r.d i x }

/-- OR raised flags into FLAGS (R102, R160). -/
def HandRegs.raise (r : HandRegs) (f : FFlags) : HandRegs :=
  { r with flags := { r.flags with sticky := r.flags.sticky.or f } }

end Sys2Proof.Machine
end

