-- ==== Sys2Proof/Machine/Sill.lean ====
section
/-!
DEFINITION. The matrix path of chapters 3 and 4: exact products, the chunk adder, BF16 windowed and exact modes, the
sill, its images, the narrow sill lines, and the drain of one column.
-/

namespace Sys2Proof.Machine

/-- One sill: its value in units of 2^−272 and the three side flags (R136, R87). -/
structure Sill where
  val : Int := 0
  pinf : Bool := false
  ninf : Bool := false
  nan : Bool := false
  deriving DecidableEq, Repr

/-- A cleared sill. -/
def Sill.zero : Sill := {}

/-- One exact product of the matrix path, or a non-finite one with its side flags (R123, R126). -/
structure Prod where
  neg : Bool := false
  m : Nat := 0
  e : Int := 0
  pinf : Bool := false
  ninf : Bool := false
  nan : Bool := false
  deriving DecidableEq, Repr

/-- The product of two matrix operands: exact when finite; a non-finite operand contributes zero and side flags
(R126); signalling and quiet NaNs alike, raising no flag (R127). -/
def matProd (a b : FVal) : Prod :=
  match a, b with
  | .nan _, _ => { nan := true }
  | _, .nan _ => { nan := true }
  | .inf n, .inf k => if xor n k then { ninf := true } else { pinf := true }
  | .inf n, .fin k m _ =>
    if m = 0 then { pinf := true, ninf := true }
    else if xor n k then { ninf := true } else { pinf := true }
  | .fin k m _, .inf n =>
    if m = 0 then { pinf := true, ninf := true }
    else if xor n k then { ninf := true } else { pinf := true }
  | .fin n1 m1 e1, .fin n2 m2 e2 => { neg := xor n1 n2, m := m1 * m2, e := e1 + e2 }

/-- What one chunk hands to a sill: an exact amount in units of 2^−272, side flags, and WINDOW_LOSS. -/
structure ChunkSum where
  amt : Int := 0
  pinf : Bool := false
  ninf : Bool := false
  nan : Bool := false
  wloss : Bool := false
  deriving DecidableEq, Repr

/-- The exact amount ±m·2^e in units of 2^−272 (R128); exact because no product lies below 2^−272. -/
def sillUnits (neg : Bool) (m : Nat) (e : Int) : Int :=
  let s := e + 272
  let x : Nat := if 0 ≤ s then m <<< s.toNat else m >>> (-s).toNat
  if neg then -(x : Int) else x

/-- The exact sum of the products of a chunk (R124, R132). -/
def exactChunk (ps : List Prod) : ChunkSum :=
  { amt := (ps.map (fun p => sillUnits p.neg p.m p.e)).sum
    pinf := ps.any (·.pinf), ninf := ps.any (·.ninf), nan := ps.any (·.nan) }

/-- The exponent of a nonzero magnitude m·2^e: the integer E with 2^E ≤ m·2^e < 2^(E+1). -/
def magExp (m : Nat) (e : Int) : Int := e + bitLen m - 1

/-- The largest exponent among the finite nonzero products of a chunk (R129). -/
def maxExp (ps : List Prod) : Option Int :=
  ps.foldl (fun acc p =>
    if p.m = 0 then acc
    else match acc with
      | none => some (magExp p.m p.e)
      | some x => some (max x (magExp p.m p.e))) none

/-- Truncate a magnitude toward zero to weight 2^w: the truncated magnitude in units of 2^w, and whether a nonzero bit
was discarded (R130, R131). -/
def truncMag (m : Nat) (e w : Int) : Nat × Bool :=
  if w ≤ e then (m <<< (e - w).toNat, false)
  else (m >>> (w - e).toNat, decide (m % 2 ^ (w - e).toNat ≠ 0))

/-- The BF16 windowed chunk: products truncated to the window below E, then summed exactly (R129–R131). -/
def windowedChunk (ps : List Prod) : ChunkSum :=
  match maxExp ps with
  | none => { pinf := ps.any (·.pinf), ninf := ps.any (·.ninf), nan := ps.any (·.nan) }
  | some ex =>
    let w := ex - 82
    let ts := ps.map (fun p => (p.neg, truncMag p.m p.e w))
    { amt := (ts.map (fun t => sillUnits t.1 t.2.1 w)).sum
      pinf := ps.any (·.pinf), ninf := ps.any (·.ninf), nan := ps.any (·.nan)
      wloss := ts.any (fun t => t.2.2) }

/-- The value range of a sill in units of 2^−272 (R136). -/
def sillInRange (v : Int) : Bool := decide (-(2 ^ 636 : Int) ≤ v) && decide (v < 2 ^ 636)

/-- Promote a chunk into a sill; none when the exact result leaves the range (R128, R137). -/
def Sill.promote (s : Sill) (c : ChunkSum) : Option Sill :=
  if sillInRange (s.val + c.amt) then
    some { val := s.val + c.amt, pinf := s.pinf || c.pinf, ninf := s.ninf || c.ninf, nan := s.nan || c.nan }
  else none

/-- Add a sill image into a sill: values added exactly, side flags ORed (R138); none when out of range (R137). -/
def Sill.add (s t : Sill) : Option Sill :=
  s.promote { amt := t.val, pinf := t.pinf, ninf := t.ninf, nan := t.nan }

/-- The width in bits of one sum of a sill line of a format (R86). -/
def lineBits : Fmt → Nat
  | .int4 | .int8 => 32
  | .e4m3 => 64
  | .e5m2 | .fp16 => 128
  | .bf16 | .bf16x => 640
  | .int16 | .int32 | .fp32 => 640

/-- The value field width of a line's sum (R86). -/
def lineValBits : Fmt → Nat
  | .int4 | .int8 => 32
  | .e4m3 => 61
  | .e5m2 | .fp16 => 125
  | .bf16 | .bf16x | .int16 | .int32 | .fp32 => 637

/-- The weight exponent of bit 0 of a line's sum (R86). -/
def lineUnit : Fmt → Int
  | .int4 | .int8 => 0
  | .e4m3 => -18
  | .e5m2 | .fp16 => -48
  | .bf16 | .bf16x | .int16 | .int32 | .fp32 => -272

/-- The line has the two infinity flags; an E4M3 line and an integer line have none (R86, R139). -/
def lineHasInf : Fmt → Bool
  | .e5m2 | .fp16 | .bf16 | .bf16x | .int16 | .int32 | .fp32 => true
  | .int4 | .int8 | .e4m3 => false

/-- The line has a NaN flag: every line but an integer one (R86). -/
def lineHasNaN : Fmt → Bool
  | .int4 | .int8 => false
  | .e4m3 | .e5m2 | .fp16 | .bf16 | .bf16x | .int16 | .int32 | .fp32 => true

/-- Bytes of one sum of a line. -/
def sumBytes (f : Fmt) : Nat := lineBits f / 8

/-- Bytes of one sill line: 128 sums (R86). -/
def lineBytes (f : Fmt) : Nat := 128 * sumBytes f

/-- Read one sum of a line: the value field sign-extended at its weight, the flags at the top bits (R139, R87). The
E4M3 NaN flag is in bit 63, and its bits [62:61] are not read. -/
def readSum (f : Fmt) (bs : List Byte) : Sill :=
  let x := leVal bs
  let top := lineBits f
  { val := sintOf (lineValBits f) x * ((2 ^ (lineUnit f + 272).toNat : Nat) : Int)
    pinf := lineHasInf f && x.testBit (top - 1)
    ninf := lineHasInf f && x.testBit (top - 2)
    nan := if lineHasInf f then x.testBit (top - 3) else lineHasNaN f && x.testBit (top - 1) }

/-- The bytes of one sum of a line, little-endian (R86, R87). -/
def writeSum (f : Fmt) (s : Sill) : List Byte :=
  let v := s.val / ((2 ^ (lineUnit f + 272).toNat : Nat) : Int)
  let top := lineBits f
  let flags : Nat :=
    if lineHasInf f then bitN s.pinf (top - 1) + bitN s.ninf (top - 2) + bitN s.nan (top - 3)
    else if lineHasNaN f then bitN s.nan (top - 1) else 0
  leBytes (sumBytes f) (sintTo (lineValBits f) v + flags)

/-- The value fits a line's value field (R88). For the 640-bit line this is the range of R136. -/
def sumFits (f : Fmt) (v : Int) : Bool :=
  let u : Int := ((2 ^ (lineUnit f + 272).toNat : Nat) : Int)
  let b : Int := ((2 ^ (lineValBits f - 1) : Nat) : Int)
  decide (-b * u ≤ v) && decide (v < b * u)

/-- A sill image of 80 bytes (R87): the 640-bit line sum. -/
def sillImage (s : Sill) : List Byte := writeSum .bf16 s

/-- A sill read from its 80-byte image (R87). -/
def sillOfImage (bs : List Byte) : Sill := readSum .bf16 bs

/-- The result of the chunk adder for one chunk of products in a format; windowed only for code 0x7 (R121, R124). -/
def chunkOf (f : Fmt) (ps : List Prod) : ChunkSum :=
  if f = .bf16 then windowedChunk ps else exactChunk ps

/-- Cut a list of products into chunks of 16 from its start (R125). In BF16 exact mode each product goes to the sill by
itself (R132). -/
def chunksOf (f : Fmt) : Nat → List Prod → List (List Prod)
  | 0, _ => []
  | n + 1, ps =>
    let k := if f = .bf16x then 1 else 16
    match ps with
    | [] => []
    | _ => ps.take k :: chunksOf f n (ps.drop k)

/-- What a column becomes after the chunks of one row: the sill, the flags of the chunk adder, and whether a promotion
left the range, after which no later promotion of this row is made to it (R137, R88). -/
structure ColState where
  sill : Sill := {}
  wloss : Bool := false
  failed : Bool := false
  deriving DecidableEq, Repr

/-- Promote the chunks of one row into a column, with `fits` the range of the destination. -/
def promoteRow (fits : Int → Bool) (f : Fmt) : List (List Prod) → ColState → ColState
  | [], c => c
  | ps :: t, c =>
    let s := chunkOf f ps
    let c1 := { c with wloss := c.wloss || s.wloss }
    if c.failed then promoteRow fits f t c1
    else if fits (c.sill.val + s.amt) then
      promoteRow fits f t
        { c1 with sill := { val := c.sill.val + s.amt, pinf := c.sill.pinf || s.pinf,
                            ninf := c.sill.ninf || s.ninf, nan := c.sill.nan || s.nan } }
    else promoteRow fits f t { c1 with failed := true }

/-- The effective value of a sill (R140 step 1). -/
def Sill.effective (s : Sill) : FVal :=
  if s.nan || (s.pinf && s.ninf) then .nan false
  else if s.pinf then .inf false
  else if s.ninf then .inf true
  else .fin (decide (s.val < 0)) s.val.natAbs (-272)

/-- Drain one column: effective value, exact scaling, one rounding (R140–R150, R163, R164). `scale` is the FP32 pattern
of the column's scale. -/
def drainColumn (f : Fmt) (rm : RMode) (sat : Bool) (scale : Option Nat) (s : Sill) : FRes :=
  let both : FFlags := { nv := s.pinf && s.ninf }
  let p : FExact :=
    match scale with
    | none => { val := s.effective }
    | some x =>
      let r := mulExact s.effective (Fmt.fp32.decode x)
      { val := r.val, flags := r.flags }
  let v : FVal :=
    match p.val with
    | .fin n m e => if m = 0 then .zero false else .fin n m e
    | .inf n => .inf n
    | .nan q => .nan q
  let r := f.deliver rm sat false v
  { bits := r.bits, flags := (both.or p.flags).or r.flags }

end Sys2Proof.Machine
end

