-- ==== Sys2Proof/Machine/BayTypes.lean ====
section
/-!
DEFINITION. The state of one physical bay (chapters 3, 5, 6, 15) and of one physical jointer (chapter 7), as plain data.
-/

namespace Sys2Proof.Machine

/-- The bay states (R105), in the order of BAY_STATE.STATE. -/
inductive BaySt where
  | idle | running | plumb | saving | restoring | fenced | retired
  deriving DecidableEq, Repr

/-- BAY_STATE.STATE. -/
def BaySt.code : BaySt → Nat
  | .idle => 0 | .running => 1 | .plumb => 2 | .saving => 3 | .restoring => 4 | .fenced => 5 | .retired => 6

/-- One weight slot (R77, R79): whether it holds a tile, whether it is STALE, the tile's source offset in the own store,
its format, and the tile's bytes. -/
structure Slot where
  loaded : Bool := false
  stale : Bool := false
  src : Nat := 0
  fmt : Fmt := .int8
  tile : List Byte := []
  deriving DecidableEq, Repr

/-- What a hand context waits for after an instruction that waits has issued (R213, R328, R241). -/
inductive Wait where
  /-- not waiting -/
  | none
  /-- a peg wait on pegs lo..lo+cnt: count ≥ value (PWAIT, PWANY); rd takes the count, or the peg number for PWANY -/
  | pegs (rd lo cnt value : Nat) (any : Bool)
  /-- PARRIVE: count ≥ target -/
  | arrive (rd peg : Nat)
  /-- TWAIT: working time reaches the target -/
  | time (target : Nat)
  /-- a peg operation has satisfied the wait (R331): the value s[rd] takes, and whether a PWANY made a choice (R240) -/
  | released (rd : Nat) (value : Word64) (choice : Bool)
  /-- a poisoned peg has released the wait (R330) -/
  | poisoned
  deriving DecidableEq, Repr

/-- One hand context: the program position, the architectural registers, and where its program stands. A bay has a main
context and, for filler compute, a second one (R589). -/
structure HandCtx where
  /-- a program is resident -/
  active : Bool := false
  /-- the address of the next instruction (chapter 5, program position) -/
  pc : Addr := 0
  /-- END has issued (R209) -/
  ended : Bool := false
  /-- issue is stopped: a kerf drain (R213), a fault entry (R202) or a stop of the job -/
  stopped : Bool := false
  wait : Wait := .none
  /-- the add of the PARRIVE at the program position has been made (R245) -/
  arrived : Bool := false
  regs : HandRegs := {}
  /-- DIVCNT: timing-dependent choices of this bay in the current job (R208) -/
  divcnt : Nat := 0
  /-- the program ID of the entry panel (R173); 0 when none -/
  progid : Nat := 0
  /-- the resident job's dowel handle; 0 when none -/
  handle : Nat := 0
  /-- the code of the fault this context took in the job, 0 when none (R204) -/
  faultCode : Nat := 0
  /-- the job's rank on this bay and bay count, and its argument block (R208) -/
  rank : Nat := 0
  nbays : Nat := 0
  args : Addr := 0
  /-- the kerf class of the job -/
  kclass : Nat := 0
  /-- the partition of the job -/
  part : Nat := 0
  /-- the plumb signature being folded (R242) -/
  plumbSig : Word64 := 0
  deriving DecidableEq, Repr

/-- The queue an instruction entered (R184). -/
inductive QKind where
  | matrix | dma | jointer
  deriving DecidableEq, Repr

/-- One entry of a bay's queues: issue order, the instruction and its address, and the copies of its descriptors and
scalar operands made at issue (R218). -/
structure QEntry where
  seq : Nat
  /-- issued by the filler context -/
  filler : Bool := false
  word : Word64
  pc : Addr := 0
  /-- the descriptor registers at issue -/
  descs : Tab Desc := []
  /-- s[RA], or the scale address s[RS] of a drain -/
  ra : Word64 := 0
  /-- s[RB] -/
  rb : Word64 := 0
  /-- the access of the instruction has begun (R184, R186) -/
  started : Bool := false
  /-- the partition that owned the bay at issue -/
  part : Nat := 0
  /-- a stream named a STALE slot when it started (R79, R110) -/
  stale : Bool := false
  deriving DecidableEq, Repr

/-- One physical bay. -/
structure Bay where
  st : BaySt := .idle
  main : HandCtx := {}
  filler : HandCtx := {}
  slots : Tab Slot := []
  /-- sills: set A, column n at key 128·A + n (R85) -/
  sills : Tab Sill := []
  /-- the bay store: offsets 0–0x13_FFFF (R92); an unlisted byte is 0 -/
  store : Tab Byte := []
  matrixQ : List QEntry := []
  dmaQ : List QEntry := []
  jointerQ : List QEntry := []
  /-- the issue number of the next queued instruction -/
  nextSeq : Nat := 0
  /-- the panel cache: verified panels by panel address (R172) -/
  cache : Tab (List Byte) := []
  /-- run-ahead panels that failed verification, by panel address, with their fault code (R174) -/
  badAhead : Tab Nat := []
  /-- elapsed nanoseconds at which the bay last became IDLE (R740) -/
  idleSince : Nat := 0
  /-- the bay clock is gated (R740) -/
  gated : Bool := false
  /-- a kerf switch drains the bay (R378 step 2) -/
  drain : Bool := false
  /-- elapsed nanoseconds at which the current drain or plumb run began -/
  phaseSince : Nat := 0
  /-- KERF_OVERRUN has been raised for the current drain (R382) -/
  overrun : Bool := false
  /-- the current plumb run is one started for a held job (R465), for the bay's beat (R460), or a spare's (R429, R437) -/
  plumbFor : Nat := 0
  /-- the dowel slot of the job being restored (R378) -/
  incoming : Nat := 0
  deriving DecidableEq, Repr

/-- One physical jointer: out of service, or serving a logical bent. -/
structure Jointer where
  /-- retired (R438) or excluded at boot -/
  retired : Bool := false
  deriving DecidableEq, Repr

end Sys2Proof.Machine
end

