-- ==== Sys2Proof/Machine/BootTypes.lean ====
section
/-!
DEFINITION. What the device holds about its fuses, its boot flash and its boot, and the test access port (chapters 11, 19, 20).
-/

namespace Sys2Proof.Machine

/-- A fuse key slot that authenticates images (R733). -/
structure ImageKey where
  prov : Bool := false
  revoked : Bool := false
  /-- bit t: image type t is allowed -/
  types : Nat := 0
  /-- the RMA attribute (R738) -/
  rma : Bool := false
  /-- the first 32 bytes of the SHA-384 digest of the public key -/
  digest : List Byte := []
  deriving DecidableEq, Repr

/-- A FIRMWARE_ACCEPT that runs (R742): its dowel slot, image type, bank and SVN. -/
structure FwAccept where
  slot : Nat
  typ : Nat
  bank : Nat
  svn : Nat
  deriving DecidableEq, Repr

/-- The test access port (R777–R780). -/
structure JtagSt where
  /-- the instruction in force, by its code; IDCODE after Test-Logic-Reset -/
  ir : Nat := 1
  /-- what drives the pins: 0 the device, 1 the boundary register, 2 nothing -/
  drive : Nat := 0
  /-- the boundary register's 2,968 cells -/
  bsr : BitVec 2968 := 0
  /-- the pins as last sampled -/
  sample : BitVec 2968 := 0
  deriving DecidableEq, Repr

/-- Boot, fuses and flash. -/
structure BootSt where
  /-- fitted DRAM bytes, from the configuration section (R721); 0 before DRAM training completes -/
  dramBytes : Nat := 0
  /-- SHA-384 digest of the fabric controller image in use -/
  fcDigest : List Byte := []
  /-- fuse words, by the address of the register that shows them (R40, R425) -/
  fuses : Tab Word32 := []
  imageKeys : Tab ImageKey := []
  /-- the boot flash (R730); an unlisted byte is erased, 0xFF -/
  flash : Tab Byte := []
  /-- the boot record in force, empty when neither copy matches, and the copy it came from (R731) -/
  record : List Byte := []
  copy : Option Nat := none
  /-- steps 4a, 4c and 4d have ended; the density that 4b found (R735) -/
  bistDone : Bool := false
  imagesDone : Bool := false
  appDone : Bool := false
  trained : Option Nat := none
  /-- the configuration section of the island image in use (R734), and the RMA attribute of its key slot -/
  cfg : Option BootCfg := none
  rma : Bool := false
  /-- SRAM of the safety island and of the fabric controller -/
  islandSram : Tab Byte := []
  fcSram : Tab Byte := []
  /-- image entries: SRAM offsets of the fabric controller and the island, DRAM address of the application (R732) -/
  fcEntry : Nat := 0
  islandEntry : Nat := 0
  appEntry : Nat := 0
  /-- the application harts run -/
  hartsRun : Bool := false
  accept : Option FwAccept := none
  /-- the 1 ms boundary at which the throttle last moved slower (R741) -/
  throttleMs : Nat := 0
  /-- the pixel dividers in effect, N and F, by pipe (R719); reset N = 80, F = 0 -/
  pix : Tab (Nat × Nat) := []
  /-- dowel slots of accepted SCRIBE_ENABLEs, and the elapsed nanoseconds from which 125 µs count (R772, R781) -/
  scribe : List Nat := []
  scribeNs : Nat := 0
  jtag : JtagSt := {}
  deriving DecidableEq, Repr

end Sys2Proof.Machine
end

