-- ==== Sys2Proof/Machine/CmdTypes.lean ====
section
/-!
DEFINITION. The state of the command processor and of the pegs (chapter 8), and of the operations that take dowels.
-/

namespace Sys2Proof.Machine

/-- The dowel states (R305), in the order of their codes. -/
inductive DSt where
  | free | queued | running | doneOk | doneReplayed | doneFault | cancelled | expired | superseded | split
  deriving DecidableEq, Repr

/-- The state code of R305. -/
def DSt.code : DSt → Nat
  | .free => 0 | .queued => 1 | .running => 2 | .doneOk => 3 | .doneReplayed => 4 | .doneFault => 5
  | .cancelled => 6 | .expired => 7 | .superseded => 8 | .split => 9

/-- A terminal state (R305). -/
def DSt.terminal : DSt → Bool
  | .free | .queued | .running => false
  | .doneOk | .doneReplayed | .doneFault | .cancelled | .expired | .superseded | .split => true

/-- What a dowel stands for. -/
inductive DKind where
  /-- a JOB, alone or as a batch child -/
  | job
  /-- a batch child not fetched yet -/
  | child
  /-- a REGION_SWAP of a swap group -/
  | swap (group : Nat)
  /-- a PLANE_FLIP of a plane 6·pipe + plane -/
  | flip (plane : Nat)
  /-- a PARTITION_CONFIG: 0 RECORD, 1 REGIONS, 2 WHEELS, of a partition -/
  | config (op part : Nat)
  /-- another sealed command's operation, by command code -/
  | sealed (code : Nat)
  /-- a collective of the fabric controller -/
  | coll
  deriving DecidableEq, Repr

/-- One dowel slot (R302–R314). -/
structure Dowel where
  gen : Nat := 0
  st : DSt := .free
  kind : DKind := .job
  /-- the partition charged (R304) -/
  part : Nat := 0
  /-- the 128 descriptor bytes copied at acceptance (R296) -/
  desc : List Byte := []
  /-- elapsed nanoseconds at acceptance (R308) -/
  accepted : Nat := 0
  /-- deadline distance in ns, if it has one (R307) -/
  dist : Option Nat := none
  /-- bit i: wait i has been satisfied (R331) -/
  waitOk : Nat := 0
  /-- a valid wait peg has become poisoned while the dowel was QUEUED (R334) -/
  waitPoison : Bool := false
  replays : Nat := 0
  /-- DIVDELTA so far (R314) -/
  div : Nat := 0
  /-- OR of the sticky flags of its bays (R104) -/
  flags : FFlags := {}
  fault : Nat := 0
  /-- the job's end has been reached with this state to be completed (R309, R313) -/
  ending : Option DSt := none
  /-- working time of the end (R314) -/
  endTime : Nat := 0
  /-- elapsed nanoseconds of the end -/
  endNs : Nat := 0
  /-- plumb-gated release holds the completion (R465) -/
  held : Bool := false
  /-- the update is running under R54 -/
  updating : Bool := false
  /-- suspended by a kerf switch (R373) -/
  suspended : Bool := false
  /-- the peg journal: peg, and its count and saturation bit before the job's first signal of it (R432) -/
  journal : List (Nat × Word32 × Bool) := []
  /-- the job's bays have signalled a seventeenth distinct peg (R433) -/
  unreplayable : Bool := false
  /-- the lowest rank among the bays that recorded a fault, and its code (R204) -/
  faultBy : Option (Nat × Nat) := none
  /-- a running flip has been read and tested (R596) -/
  tested : Bool := false
  /-- the last bay has left RUNNING (R309) -/
  ended : Bool := false
  /-- the payload of a PARTITION_CONFIG or sealed operation -/
  payload : List Byte := []
  /-- a spanning job (R657): its bays lie on both devices -/
  spanning : Bool := false
  /-- its local bays are kept for its start, and the peer's are too (R658) -/
  asked : Bool := false
  granted : Bool := false
  /-- working time S at which its bays start (R658) -/
  startAt : Option Nat := none
  /-- the peer's part has ended; at the peer, the end has been reported (R661) -/
  peerEnded : Bool := false
  reported : Bool := false
  /-- a render job, bound to the graphics front end (R573) -/
  render : Bool := false
  /-- a fence forced this job to be replayed; waiting for its retirement point (R431) -/
  replayDue : Bool := false
  /-- the submit window it came through; 64 for none (R337) -/
  window : Nat := 64
  /-- a held job's logical bays whose gated plumb runs have not passed (R465) -/
  gateLeft : List Nat := []
  /-- logical bays of the job that lie in save images (R378) -/
  savedBays : List Nat := []
  /-- DIVCNT and sticky flags held in those images (R104, R400, R415) -/
  savedDiv : Nat := 0
  savedFlags : FFlags := {}
  /-- suspended, and no other job has followed on its bays yet (PART_SWITCH_CNT) -/
  switchDue : Bool := false
  deriving DecidableEq, Repr

/-- One submit window's ticket (R298). -/
structure Ticket where
  ticket : Word32 := 0
  count : Nat := 0
  /-- TICKET has been read since the commit -/
  seen : Bool := true
  deriving DecidableEq, Repr

/-- A batch whose children are still to be fetched (R310). -/
structure Batch where
  base : Nat
  part : Nat
  children : Addr
  count : Nat
  next : Nat
  deriving DecidableEq, Repr

/-- One region under the region update rule (R53–R58): the dowel slot running, and the one queued. -/
structure Upd where
  running : Option Nat := none
  queued : Option Nat := none
  deriving DecidableEq, Repr

/-- The command processor. -/
structure CmdProc where
  slots : Tab Dowel := []
  /-- the slot after which the free-slot search starts (R303) -/
  lastSlot : Nat := 0xFFFF
  tickets : Tab Ticket := []
  batches : List Batch := []
  /-- updates by region number -/
  upds : Tab Upd := []
  /-- DOWEL_STATE latched per initiator and partition page: key 8·init + part (R319) -/
  qlatch : Tab Word32 := []
  deriving DecidableEq, Repr

/-- One peg (R328). -/
structure Peg where
  count : Word32 := 0
  target : Word32 := 0
  stamp : Word32 := 0
  poison : Bool := false
  sat : Bool := false
  deriving DecidableEq, Repr

end Sys2Proof.Machine
end

