-- ==== Sys2Proof/Machine/FcTypes.lean ====
section
/-!
DEFINITION. The state of the fabric controller's firmware (chapter 18): the requests it has taken, and the collectives.
-/

namespace Sys2Proof.Machine

/-- One contribution (R699): the participant's rank, its leaves by index or its whole range at index 0, and its signature
(R703). -/
structure Contrib where
  rank : Nat
  data : List (Nat × List Byte)
  sig : Word64
  deriving DecidableEq, Repr

/-- One collective (R696–R706). -/
structure Coll where
  /-- its dowel slot -/
  slot : Nat := 0
  part : Nat
  /-- the 64-byte COLL_CREATE payload -/
  req : List Byte := []
  /-- the first contribution of each participant, in arrival order -/
  first : List Contrib := []
  /-- the ranks whose contributions have been taken since creation or since the last replay -/
  taken : List Nat := []
  /-- RESPEG's count and saturation bit at creation -/
  pegCount : Word32 := 0
  pegSat : Bool := false
  /-- the results have been written and RESPEG added -/
  written : Bool := false
  /-- the state in which the owner became terminal -/
  ownerEnd : Option DSt := none
  /-- the collective belongs to the peer, which knows it by this handle: only its participants here are served (R672) -/
  peerHandle : Option Nat := none
  deriving DecidableEq, Repr

/-- The fabric controller. -/
structure FcSt where
  /-- the request taken from each request mailbox and not yet answered, 256 bytes -/
  taken : Tab (List Byte) := []
  /-- the mailbox last served (R52) -/
  lastBox : Nat := 17
  /-- collectives that are not terminal, by creation number -/
  colls : Tab (Option Coll) := []
  nextColl : Nat := 0
  deriving DecidableEq, Repr

end Sys2Proof.Machine
end

