-- ==== Sys2Proof/Machine/GfxTypes.lean ====
section
/-!
DEFINITION. The state of the graphics front end and of the display (chapter 15).
-/

namespace Sys2Proof.Machine

/-- A triangle after setup: its draw, its number, its three shaded vertices of 128 bytes, and their snapped positions in 1/256 pixel
with positive area (R579). -/
structure GTri where
  draw : Nat
  no : Nat
  v : List Byte
  x0 : Int
  y0 : Int
  x1 : Int
  y1 : Int
  x2 : Int
  y2 : Int
  deriving DecidableEq, Repr

/-- A fragment that passed the early tests: its pixel, its triangle, the samples it covers, and what it writes to the depth buffer
when it retires (sample, depth, stencil), when its draw may discard (R581). -/
structure GFrag where
  x : Nat
  y : Nat
  tri : Nat
  mask : Nat
  late : List (Nat × Nat × Nat) := []
  deriving DecidableEq, Repr

/-- A fragment in the ordering scoreboard, with its colour once shaded (R582). -/
structure GEntry where
  frag : GFrag
  draw : Nat
  /-- the packet that carries it: rank, packet number, place -/
  rank : Nat
  num : Nat
  place : Nat
  /-- four FP32 components, and whether the shader discarded it -/
  out : Option (List Nat × Bool) := none
  deriving DecidableEq, Repr

/-- A packet handed to a bay and not returned: kind 1 vertices, 2 fragments, 3 END (R576). -/
structure GPkt where
  rank : Nat
  num : Nat
  kind : Nat
  first : Nat := 0
  count : Nat := 0
  deriving DecidableEq, Repr

/-- The tile in flight: sample contents by key 4 · (32 · row + column) + sample, the next triangle, and fragments not yet handed
out (R580). -/
structure GTile where
  t : Nat
  color : Tab Nat := []
  depth : Tab Nat := []
  stencil : Tab Nat := []
  next : Nat := 0
  pend : List GFrag := []
  deriving DecidableEq, Repr

/-- The graphics front end. -/
structure GfxSt where
  /-- handle of the bound render job (R573); 0 when none -/
  bound : Nat := 0
  /-- dowel slots of render jobs that wait for binding, in the order in which they became RUNNING -/
  waiting : List Nat := []
  /-- the render pass block -/
  block : List Byte := []
  /-- packets issued, and returned, by rank -/
  issued : Tab Nat := []
  returned : Tab Nat := []
  /-- the rank last served (R578) -/
  last : Nat := 0
  /-- 0 vertices, 1 tiles, 2 END packets -/
  stage : Nat := 0
  draw : Nat := 0
  /-- the current draw record; empty until it is read -/
  drec : List Byte := []
  /-- pipeline states by draw -/
  psos : Tab (List Byte) := []
  vnext : Nat := 0
  /-- shaded vertices of the current draw -/
  verts : Tab (List Byte) := []
  out : List GPkt := []
  tris : List GTri := []
  shaded : Nat := 0
  /-- triangle-tile entries binned -/
  entries : Nat := 0
  tile : Option GTile := none
  /-- the ordering scoreboard, oldest first -/
  board : List GEntry := []
  /-- ranks that have their END packet -/
  ended : List Nat := []
  deriving DecidableEq, Repr

/-- The fields of a plane that latch at vertical blanking (R597). -/
structure PlaneLat where
  on : Bool := false
  alpha : Nat := 0
  w : Nat := 0
  h : Nat := 0
  x : Nat := 0
  y : Nat := 0
  deriving DecidableEq, Repr

/-- The display. -/
structure DispSt where
  /-- latched planes, plane j of pipe i at 6i + j -/
  planes : Tab PlaneLat := []
  /-- lines of the current display frame that ran out of pixels: key 65536 · pipe + line, the first column that shows BG (R595) -/
  late : Tab (Option Nat) := []
  /-- elapsed nanoseconds of the last watch signature, or of the last report of its absence, by pipe (R599) -/
  watchNs : Tab Nat := []
  /-- elapsed nanoseconds of the last vertical blanking, by pipe -/
  blankNs : Tab Nat := []
  deriving DecidableEq, Repr

end Sys2Proof.Machine
end

