-- ==== Sys2Proof/Machine/GwTypes.lean ====
section
/-!
DEFINITION. The state of the gateway (chapter 16): rules, queues, gates, filters, CAN controllers and the host interfaces.
-/

namespace Sys2Proof.Machine

/-- A receive record of a host page (R624). -/
structure RxRec where
  port : Nat
  rule : Nat
  len : Nat
  stamp : Nat
  deriving DecidableEq, Repr

/-- A rule load in progress (R617). -/
structure GwLoad where
  first : Nat
  count : Nat
  base : Nat
  deriving DecidableEq, Repr

/-- The gates of a zone port (R621): lists of (gate states, interval in ns). -/
structure TasSt where
  /-- the operational list; empty when none runs -/
  list : List (Nat × Nat) := []
  entry : Nat := 0
  /-- elapsed nanoseconds at which the entry began -/
  entryNs : Nat := 0
  /-- a committed list that has not taken over, with its BASE -/
  next : Option (List (Nat × Nat) × Nat) := none
  deriving DecidableEq, Repr

/-- A stream filter's state beside its entry (R622). -/
structure FilterSt where
  /-- a frame above MAXSDU has been seen while BLOCK_OVERSIZE was set -/
  oversize : Bool := false
  passed : Nat := 0
  blocked : Nat := 0
  deriving DecidableEq, Repr

/-- A flow meter's buckets: what is missing from the committed and the excess bucket, in 1/80000 byte, as of `last` elapsed
nanoseconds (R622). -/
structure MeterSt where
  c : Nat := 0
  e : Nat := 0
  last : Nat := 0
  deriving DecidableEq, Repr

/-- The gateway. -/
structure GwSt where
  /-- the rule table: 32 bytes by index; an unlisted rule is all zero -/
  rules : Tab (List Byte) := []
  load : Option GwLoad := none
  /-- egress queues of Ethernet frames with FCS: class c of port n at 8n + c, oldest first (R620) -/
  egress : Tab (List (List Byte)) := []
  /-- the frame last sent on each Ethernet port -/
  wire : Tab (List Byte) := []
  tas : Tab TasSt := []
  /-- CAN transmit queues, oldest first (R611) -/
  canTx : Tab (List CanFrame) := []
  /-- the CAN frame last sent by each controller, with its stamp -/
  canWire : Tab (Option (CanFrame × Nat)) := []
  /-- host transmit queues: address and length (R623) -/
  hostTx : Tab (List (Nat × Nat)) := []
  /-- producer index of each receive ring, modulo 512 (R624) -/
  rxPI : Tab Nat := []
  rxRecs : Tab (List RxRec) := []
  rxLatch : Tab (Option RxRec) := []
  filters : Tab FilterSt := []
  meters : Tab MeterSt := []
  deriving DecidableEq, Repr

end Sys2Proof.Machine
end

