-- ==== Sys2Proof/Machine/IntakeTypes.lean ====
section
/-!
DEFINITION. The state of a camera intake context (chapter 14).
-/

namespace Sys2Proof.Machine

/-- The configuration registers of a context as an accepted FS found them (R570). -/
structure CtxCfg where
  cfg : Word32 := 0
  size : Word32 := 0
  stride : Word32 := 0
  fstride : Word32 := 0
  ring : Word32 := 0
  peg : Word32 := 0
  test : Word32 := 0
  trig : Word32 := 0
  fault : Word32 := 0
  buf : Nat := 0
  desc : Nat := 0
  deriving DecidableEq, Repr

/-- One camera frame, from its FS to the end of its close (R551–R563). -/
structure Frame where
  cfg : CtxCfg := {}
  /-- the partition that owned the context -/
  part : Nat := 0
  /-- frame number f -/
  no : Nat := 0
  softime : Nat := 0
  /-- elapsed nanoseconds of the FS -/
  sofNs : Nat := 0
  eoftime : Nat := 0
  trigtime : Nat := 0
  /-- FLAGS bits set so far -/
  flags : Nat := 0
  /-- long packets since the FS -/
  packets : Nat := 0
  /-- lines written from received data -/
  got : List Nat := []
  surplus : Nat := 0
  short : Nat := 0
  long : Nat := 0
  gap : Nat := 0
  /-- the stored bytes of the lines that the signature samples (R558) -/
  lines : Tab (List Byte) := []
  /-- the counter of R560, when one was taken -/
  counter : Option Nat := none
  /-- a refused write has ended the writing of lines (R566) -/
  dead : Bool := false
  /-- the descriptor itself was refused (R566) -/
  noDesc : Bool := false
  deriving DecidableEq, Repr

/-- One context. -/
structure CtxSt where
  /-- the frame number of the next accepted FS -/
  next : Nat := 0
  /-- camera frames discarded since the last descriptor -/
  gap : Nat := 0
  frame : Option Frame := none
  /-- closed frames whose close steps are still to be taken, in order (R565) -/
  closing : List Frame := []
  /-- signature of the previous closed frame since EN was set (R559) -/
  prevSig : Option Word64 := none
  run : Nat := 0
  /-- counter of the previous closed frame (R560) -/
  prevCounter : Option Nat := none
  /-- elapsed nanoseconds of the previous accepted FS (R562) -/
  prevSof : Option Nat := none
  deriving DecidableEq, Repr

end Sys2Proof.Machine
end

