-- ==== Sys2Proof/Machine/PartTypes.lean ====
section
/-!
DEFINITION. The state of PART and of the girts (chapters 9 and 10): the partition table, the region tables, what is being
zeroed, the beats, kerfs and contest windows.
-/

namespace Sys2Proof.Machine

/-- Where a partition's beat and kerf schedule stand (R353, R372). -/
structure BeatSt where
  /-- a first beat has started under the record in force -/
  started : Bool := false
  /-- elapsed nanoseconds of the current beat's start -/
  startNs : Nat := 0
  /-- working time of the current beat's start -/
  startWt : Nat := 0
  /-- elapsed nanoseconds at which the record in force was applied -/
  appliedNs : Nat := 0
  /-- the current schedule entry (PART_KERF.ENTRY) -/
  entry : Nat := 0
  /-- in the open tail (PART_KERF.TAIL) -/
  tail : Bool := true
  /-- elapsed nanoseconds at which the current entry began -/
  entryNs : Nat := 0
  /-- plumb-gated release in force (R464) -/
  gate : Bool := false
  deriving DecidableEq, Repr

/-- One girt (R363–R369). -/
structure Girt where
  /-- L of R367 exactly: the fraction latNum / 256^latExp ns -/
  latNum : Nat := 0
  latExp : Nat := 0
  used : Nat := 0
  /-- requests were issued in this window -/
  active : Bool := false
  /-- consecutive windows ended with L above TARGET (R368) -/
  lateWindows : Nat := 0
  /-- the girt has been counted as having reached its budget in this window -/
  demoted : Bool := false
  /-- the current own slot has been forfeited (R369) -/
  forfeited : Bool := false
  /-- a run of misses is in progress (R368) -/
  missing : Bool := false
  deriving DecidableEq, Repr

/-- What a kerf save keeps beside the bytes of its image whose layout the manual gives: the hand state and the slot
records (R380), which only the save path reads back (R383). -/
structure SaveImg where
  hand : HandCtx := {}
  slots : Tab Slot := []
  deriving DecidableEq, Repr

/-- A resource being zeroed after its release (R354): a logical bay's store, or a loft granule. -/
inductive ZeroRes where
  | bay (n : Nat)
  | granule (g : Nat)
  deriving DecidableEq, Repr

/-- The partition hardware. -/
structure PartSt where
  /-- the partition table, 4,368 bytes (R344) -/
  table : Tab Byte := []
  /-- a partition table has been committed since reset -/
  tableHeld : Bool := false
  /-- the committed table has failed re-verification (R48) -/
  tableBad : Bool := false
  /-- the region tables, 528 bytes each, by partition (R356) -/
  regions : Tab (Tab Byte) := []
  /-- a region table has been committed for the partition -/
  regionsHeld : Tab Bool := []
  /-- the partition's region table has failed re-verification (R48) -/
  regionsBad : Tab Bool := []
  /-- resources being zeroed, with the partition that released them, in order (R354) -/
  zeroing : List (ZeroRes × Nat) := []
  /-- elapsed nanoseconds at which each of them is zeroed, in the same order -/
  zeroDue : List Nat := []
  beats : Tab BeatSt := []
  girts : Tab Girt := []
  /-- the 10 µs check at which the partition's contest window last started with BEAT = 0 (R403) -/
  contestCheck : Tab Nat := []
  /-- last bay writer of each contested 8-byte word: key partition·2^45 + address/8, value logical bay + 1 (R402) -/
  lastWriter : Tab Nat := []
  /-- logical bays with a passed plumb run in the current beat (R460) -/
  plumbed : List Nat := []
  /-- logical bays, with their partition, without a passed run in a beat that has ended, not yet reported (R461) -/
  overdue : List (Nat × Nat) := []
  /-- with BEAT = 0: one more than the time of the last pass for which PLUMB_OVERDUE has been raised, by logical bay (R462) -/
  lateSince : Tab Nat := []
  /-- logical bays that owe a plumb run before any job starts (R461) -/
  owesPlumb : List Nat := []
  /-- elapsed nanoseconds of each logical bay's last passed run (R462) -/
  lastPass : Tab Nat := []
  /-- working time of that run (R693) -/
  lastPassWt : Tab Nat := []
  /-- wheel slots begun since reset release (R366) -/
  wheelSlots : Nat := 0
  /-- budget windows begun since reset release (R365) -/
  windows : Nat := 0
  /-- 10 µs checks made since reset release (R349) -/
  checks : Nat := 0
  /-- the partition last granted, plus eight times its class, at each DRAM channel or loft bank (R52) -/
  lastGrant : Tab Nat := []
  /-- save images by the address they begin at -/
  images : Tab SaveImg := []
  /-- PARTITION_CONFIG operations applied since reset (PTVER, R653) -/
  ptver : Nat := 0
  deriving DecidableEq, Repr

end Sys2Proof.Machine
end

