-- ==== Sys2Proof/Machine/RepairTypes.lean ====
section
/-!
DEFINITION. The state of repair (chapter 11): the factory map and the field repair log in fuses, what is excluded since
this boot, the substitutions in progress, the pending entries and the memory patrol.
-/

namespace Sys2Proof.Machine

/-- One substitution: a fenced bay's logical number on its way to a spare (R428–R430). -/
structure Subst where
  /-- the logical number -/
  lb : Nat
  /-- the fenced physical bay -/
  pb : Nat
  /-- CAUSE of the fence -/
  cause : Nat
  /-- the spare chosen, running its plumb run; none when no spare is left -/
  spare : Option Nat := none
  /-- the spare has passed -/
  passed : Bool := false
  deriving DecidableEq, Repr

/-- Repair state. -/
structure RepairSt where
  /-- factory repair map: bit p, physical bay p is bad; bit j, jointer j; bit b, loft bank b (R425) -/
  factoryBays : BitVec 64 := 0
  factoryJointers : BitVec 16 := 0
  factoryLoft : BitVec 64 := 0
  /-- rows repaired at test, by macro number -/
  factoryRows : Tab Nat := []
  /-- the field repair log: burned entries of 16 bytes by slot (R439) -/
  fieldLog : Tab (List Byte) := []
  /-- slots used (GLOBAL_FIELD_LOG.USED) -/
  used : Nat := 0
  /-- an entry accepted and not yet burned, with its dowel slot (R441) -/
  burning : Option (List Byte × Nat) := none
  /-- bays, jointers and loft banks excluded at this boot -/
  badBays : BitVec 64 := 0
  badJointers : BitVec 16 := 0
  badLoft : BitVec 64 := 0
  /-- those among them that this boot's BIST found (R426) -/
  bistBays : BitVec 64 := 0
  bistJointers : BitVec 16 := 0
  bistLoft : BitVec 64 := 0
  substs : List Subst := []
  /-- pending entries, bytes 0–7 (R440) -/
  pendingEntries : List (List Byte) := []
  /-- spare rows used, by macro number (R427, R439, R445) -/
  rowsUsed : Tab Nat := []
  /-- the next row of each patrol target: bay p at p, loft bank n at 64 + n (R443) -/
  patrolRow : Tab Nat := []
  deriving DecidableEq, Repr

end Sys2Proof.Machine
end

