-- ==== Sys2Proof/Machine/SafetyTypes.lean ====
section
/-!
DEFINITION. The state of the safety island's hardware (chapter 12): the fault aggregator and its log, the FAULT pins, the
watchdog, the dual-channel inputs and the monitors.
-/

namespace Sys2Proof.Machine

/-- One fault source (R481, R482). -/
structure FSrc where
  pend : Bool := false
  /-- occurrences since reset, saturating at 0xFFFF -/
  count : Nat := 0
  /-- elapsed nanoseconds at which it last wrote a record (R482) -/
  lastRecord : Option Nat := none
  /-- the pending occurrence was raised as CRITICAL (BAY_DROPPED, R487) -/
  critPend : Bool := false
  /-- bit p: an occurrence since the bit was set is attributed to partition p (R492) -/
  parts : Nat := 0
  deriving DecidableEq, Repr

/-- One dual-channel pair (R473, R474). -/
structure DinSt where
  count : Nat := 0
  resolved : Bool := false
  disc : Bool := false
  deriving DecidableEq, Repr

/-- One age channel's hardware state beside its registers (R471). -/
structure AgeSt where
  /-- the gap fault of the current gap has been raised -/
  gapRaised : Bool := false
  deriving DecidableEq, Repr

/-- The safety island's hardware. -/
structure SafetySt where
  srcs : Tab FSrc := []
  /-- the 1,024-entry log: 16-byte records by index (R486) -/
  log : Tab (List Byte) := []
  logPI : Nat := 0
  /-- RUN has been set (R488) -/
  run : Bool := false
  /-- the pins toggle at 4 kHz (R488) -/
  fast : Bool := false
  /-- in safe state (R493) -/
  safe : Bool := false
  /-- partitions stopped by the safe state (R494) -/
  safeStopped : List Nat := []
  /-- bit p: partition p is STOPPED (R491) -/
  stopped : Word32 := 0
  /-- the pins are held low (SAFETY_CTRL.HOLD): from power-on until RUN, and while a hold of R489 applies -/
  hold : Bool := true
  /-- FAULT0_N and FAULT1_N levels -/
  fault0 : Bool := false
  fault1 : Bool := false
  /-- 125 µs quarters of the grid that have passed since RUN (R488) -/
  phase : Nat := 0
  /-- the next kick must be 0x5A5A (R480) -/
  kickFirst : Bool := true
  /-- elapsed nanoseconds of RUN or of the last kick (R480) -/
  kickNs : Nat := 0
  din : Tab DinSt := []
  age : Tab AgeSt := []
  /-- result events not yet judged, in order: the channel and the address of its capture word (R469) -/
  ageDue : List (Nat × Addr) := []
  /-- a VDD_SAFE fault persists (R478) -/
  vddSafeBad : Bool := false
  /-- the CLK_BAY divider has changed in the current clock-monitor window of a physical bay (R716) -/
  clkSkip : Tab Bool := []
  /-- consecutive samples at or beyond each temperature threshold, by source number (R477) -/
  thermRun : Tab Nat := []
  /-- elapsed nanoseconds of the last sample at or above 110 °C (R741) -/
  coolSince : Nat := 0
  /-- the next 4 KiB block of the island SRAM that BIST tests (R479) -/
  bistBlock : Nat := 0
  /-- the low 24 bits of the handle of the last job that ended on each physical bay (R459) -/
  lastJob : Tab Nat := []
  /-- plumb runs started on each physical bay since reset (R458) -/
  plumbRuns : Tab Nat := []
  deriving DecidableEq, Repr

end Sys2Proof.Machine
end

