-- ==== Sys2Proof/Machine/SealTypes.lean ====
section
/-!
DEFINITION. The state of the seal unit (chapter 16).
-/

namespace Sys2Proof.Machine

/-- A sealed command frame with its source, 0 SUP, 1–4 ZONE0–ZONE3, 5 SW, and for a zone the sender's MAC and IP addresses and
UDP port (R627, R632). -/
structure SealFrame where
  src : Nat
  bytes : List Byte
  mac : List Byte := []
  ip : Nat := 0
  port : Nat := 0
  deriving DecidableEq, Repr

/-- An accepted command whose effect has not begun: the frame, its payload, and the dowel slot of a critical command. -/
structure SealCmd where
  frame : SealFrame
  payload : List Byte
  slot : Nat := 0
  deriving DecidableEq, Repr

/-- One of the last dowels of the seal unit, with its state and fault code once the slot has been freed (R634). -/
structure SealDowel where
  handle : Nat
  final : Option (Nat × Nat) := none
  deriving DecidableEq, Repr

/-- The seal unit. -/
structure SealSt where
  /-- AES-128 keys by key slot, one-time programmable (R630) -/
  keys : Tab (List Byte) := []
  /-- the one-frame input buffers (R629) -/
  sup : Option SealFrame := none
  zone : Option SealFrame := none
  sw : Option SealFrame := none
  /-- the source last granted: 0 SUP, 1 ZONE, 2 SW (R52) -/
  last : Nat := 2
  accepted : Option SealCmd := none
  /-- the pending response on SUP; empty when none (R610) -/
  supRsp : List Byte := []
  /-- what the last READ shifted out on SUP_MISO -/
  miso : List Byte := []
  /-- the software frame window and the response window, by byte -/
  swWin : Tab Byte := []
  swRsp : List Byte := []
  /-- the last 16 dowels, oldest first (R634) -/
  recent : List SealDowel := []
  /-- key slots being revoked, with their dowel slots -/
  revoking : List (Nat × Nat) := []
  deriving DecidableEq, Repr

end Sys2Proof.Machine
end

