-- ==== Sys2Proof/Machine/TbTypes.lean ====
section
/-!
DEFINITION. The state of the timebase (chapter 13): the two time domains, the bridge, the capture inputs, pulse outputs
and timestamp queues.
-/

namespace Sys2Proof.Machine

/-- One time domain (R504–R513). -/
structure Dom where
  /-- domain value in ns, modulo 2^32 -/
  time : Nat := 0
  /-- fraction in units of 2^−32 ns -/
  frac : Nat := 0
  valid : Bool := false
  acq : Bool := true
  /-- elapsed nanoseconds of the last SYNC (R512) -/
  syncNs : Nat := 0
  /-- a step request not yet applied: the last one before the tick (R518) -/
  step : Option Int := none
  deriving DecidableEq, Repr

/-- A forced step accepted and queued for the next tick (R519). -/
structure Force where
  /-- 0 working time, 1 domain A, 2 domain B -/
  target : Nat
  amount : Int
  slot : Nat
  deriving DecidableEq, Repr

/-- One capture record (R525). -/
structure TcapRec where
  stamp : Nat
  rise : Bool
  aged : Bool := false
  /-- elapsed nanoseconds of the capture -/
  ns : Nat := 0
  deriving DecidableEq, Repr

/-- One capture input. -/
structure TcapSt where
  queue : List TcapRec := []
  /-- the record last popped (R526) -/
  latch : Option TcapRec := none
  /-- records left at the pop -/
  left : Nat := 0
  level : Bool := false
  /-- stamp, and elapsed nanoseconds, of the last matching edge (R562) -/
  last : Option (Nat × Nat) := none
  deriving DecidableEq, Repr

/-- One pulse output. -/
structure TpulseSt where
  /-- the output is at its active level -/
  active : Bool := false
  /-- tick at which the pulse ends -/
  endTick : Nat := 0
  /-- current target (TPULSE_NEXT) -/
  next : Nat := 0
  /-- tick of the write that set ARM (R530) -/
  armTick : Nat := 0
  /-- working time, and elapsed nanoseconds, of the last active edge (R562) -/
  last : Option (Nat × Nat) := none
  deriving DecidableEq, Repr

/-- One timestamp record (R523, R524). -/
structure TsRec where
  typ : Nat
  domain : Nat
  seq : Nat
  tsa : Nat
  tsb : Nat
  deriving DecidableEq, Repr

/-- The timebase. -/
structure TbSt where
  /-- CLK_TB ticks since reset release: the RISC-V time CSR (R64) -/
  ticks : Nat := 0
  a : Dom := {}
  b : Dom := {}
  /-- the selected domain is B -/
  selB : Bool := false
  /-- bridge offset, signed ns -/
  bridge : Int := 0
  /-- ticks since the last decay step (R516) -/
  decayCtr : Nat := 0
  /-- non-wrapping working nanoseconds elapsed since reset release, of the ticks alone (R509) -/
  elapsed : Nat := 0
  /-- the working time of the previous tick, for WRAP and HALF (R510) -/
  prevNow : Nat := 0
  /-- working time has stepped in this tick (R507, R510) -/
  stepped : Bool := false
  wrapDue : Bool := false
  halfDue : Bool := false
  /-- steps of working time not yet carried to the twin (R667) -/
  carry : Int := 0
  forces : List Force := []
  /-- on a twin that follows the primary, the followed working time and its fraction in 2^−32 ns (R539, R666) -/
  follow : Option (Nat × Nat) := none
  tcap : Tab TcapSt := []
  tpulse : Tab TpulseSt := []
  /-- receive queues by port -/
  tsrx : Tab (List TsRec) := []
  /-- transmit queues by port -/
  tstx : Tab (List TsRec) := []
  /-- popped records: key 2·port for receive, 2·port + 1 for transmit (R524) -/
  tsLatch : Tab (Option TsRec) := []
  deriving DecidableEq, Repr

end Sys2Proof.Machine
end

