-- ==== Sys2Proof/Machine/TwinTypes.lean ====
section
/-!
DEFINITION. The state of the truss link and of twin operation (chapter 17).
-/

namespace Sys2Proof.Machine

/-- The twin hardware and what firmware keeps for it. -/
structure TwinSt where
  /-- the link is trained -/
  up : Bool := false
  /-- the lanes have been tested: whether the link can train (R644) -/
  tested : Option Bool := none
  /-- TRAINING was reached from STANDALONE (R651) -/
  alone : Bool := false
  /-- lanes retired in service, and lanes that the log excluded at this boot (R645, R679) -/
  retired : Nat := 0
  excluded : Nat := 0
  /-- SEQ of the last sequenced flit sent, and of the last accepted (R647) -/
  seq : Nat := 0
  rxSeq : Nat := 0
  /-- the last 128 sequenced flits not acknowledged, oldest first, with the number of times each has been sent -/
  sent : List (Flit × Nat) := []
  /-- the last NAK sent -/
  nak : Option Nat := none
  /-- flits accepted and not yet acted on, oldest first -/
  rx : List Flit := []
  /-- reads of the peer's windows not yet answered: tag, address, bytes -/
  reads : List (Nat × Nat × Nat) := []
  nextTag : Nat := 0
  /-- bytes that RDATA flits have returned and no access has used -/
  mirror : Tab (Option Byte) := []
  /-- elapsed nanoseconds of the last accord sent, none when one is due at once; of the last heartbeat sent and received; of the last
  TIME flit sent -/
  accordNs : Option Nat := none
  beatNs : Nat := 0
  heardNs : Nat := 0
  timeNs : Nat := 0
  /-- the last accord received whose check word matched; empty when none -/
  peer : List Byte := []
  /-- consecutive accords in JOINED that failed a test of configuration or partition (R654) -/
  failed : Nat := 0
  /-- the secondary has still to step by e (R666) -/
  joinStep : Bool := false
  /-- consecutive TIME samples with |e| at most 100 ns; TWIN_TIME is armed (R666) -/
  good : Nat := 0
  armed : Bool := false
  /-- a REJOIN under way: its dowel slot and the elapsed nanoseconds of its start (R673) -/
  rejoin : Option (Nat × Nat) := none
  /-- on the secondary: PARTITION_CONFIGs forwarded and not yet applied, by handle, OP, partition and payload (R656) -/
  forwarded : List (Nat × Nat × Nat × List Byte) := []
  /-- on the primary: the handles of operations whose conditions hold on the secondary -/
  ready : List Nat := []
  /-- the twin configuration block (R650) -/
  config : List Byte := []
  /-- the peer's firmware version, from a version query -/
  peerVersion : Option (Nat × Nat) := none
  deriving DecidableEq, Repr

end Sys2Proof.Machine
end

