-- ==== Sys2Proof/Machine/State.lean ====
section
/-!
DEFINITION. The state of one AVX-736 device, as plain data, and the state right after cold reset release. Registers that
only hold what software or hardware wrote live in `regs`, keyed by physical address (chapter 2); a register whose value
another piece of state gives is computed when it is read.
-/

namespace Sys2Proof.Machine

/-- Why a command stops. -/
inductive Fault where
  /-- Raised by a command that names a unit the device does not have (a physical bay above PB35, a partition above 7, …) or an
  access width that no initiator has: nothing could have sent it. Safe: the hardware has no such unit to act. -/
  | absentUnit
  deriving DecidableEq, Repr

/-- Why a command has no meaning yet. -/
inductive Refusal where
  /-- The command's row has no meaning in the model. Safe. -/
  | notModelled (mnemonic : String)
  deriving DecidableEq, Repr

/-- The device. -/
structure State where
  /-- stored registers by physical address; an unlisted word is at its reset value (R33) -/
  regs : Tab Word32 := []
  /-- R37's staging words: key initiator·2^48 + address of the pair's low word -/
  staging : Tab (Option Word32) := []
  /-- R37's read latches, keyed alike -/
  latches : Tab (Option Word32) := []
  /-- DRAM and loft by physical address; an unlisted byte is 0 -/
  mem : List Host.Cell := []
  /-- physical bays PB0–PB35 -/
  bays : Tab Bay := []
  /-- writes into bay store windows that wait for the bay, oldest first: address and bytes (R96, R430) -/
  waitWrites : List (Nat × List Byte) := []
  /-- logical bay → physical bay + 1; 0 where no bay holds the number (R421, R428) -/
  bayMap : Tab Nat := []
  /-- physical jointers 0–8 -/
  jointers : Tab Jointer := []
  /-- logical bent → physical jointer + 1 (R251) -/
  jmap : Tab Nat := []
  cmd : CmdProc := {}
  pegs : Tab Peg := []
  part : PartSt := {}
  tb : TbSt := {}
  safety : SafetySt := {}
  boot : BootSt := {}
  repair : RepairSt := {}
  fc : FcSt := {}
  /-- camera intake contexts 0–15 -/
  intake : Tab CtxSt := []
  gfx : GfxSt := {}
  disp : DispSt := {}
  gw : GwSt := {}
  sealU : SealSt := {}
  twin : TwinSt := {}
  /-- IMSIC pending identities: key 16·hart + file, file 0 machine, 1 supervisor, 2–8 guest; bit i is identity i (R59) -/
  imsic : Tab (BitVec 256) := []
  /-- the APLIC's words by offset, the supervisor-level domain at 0x1_0000 (R26, R59) -/
  aplic : Tab Word32 := []
  /-- the plumb ROM: 32 panels (R171) -/
  plumbRom : Tab Byte := []
  /-- golden words of fuse-ROM by index (R242) -/
  golden : Tab Word64 := []
  /-- the data that the last read of a register or of memory returned to its initiator; none after an access error -/
  reply : Option Word64 := none
  /-- free values taken so far (the model's own field) -/
  freeCtr : Nat := 0
  /-- the commands that wait, first in first out -/
  pending : List Instr := []
  deriving DecidableEq, Repr

/-- The device right after cold reset release, before its boot: every field at the value the manual gives for reset. -/
def State.reset : State := {}

end Sys2Proof.Machine
end

