-- ==== Sys2Proof/Machine/Ops.lean ====
section
/-!
DEFINITION. The named operations over State that every command uses: registers and counters, memory, free values, the
address map (R26), the partition table (R344, R345), the region check (R357, R358), working and elapsed time, MSIs (R60).
-/

namespace Sys2Proof.Machine

/-! Registers. -/

/-- The stored word of the register at `a`. -/
def regGet (s : State) (a : Addr) : Word32 := tabGet (regReset a) s.regs a

/-- Store a word in the register at `a`. -/
def regPut (s : State) (a : Addr) (v : Word32) : State := { s with regs := tabPut (regReset a) s.regs a v }

/-- A field of a stored register. -/
def regFld (s : State) (a : Addr) (lo len : Nat) : Nat := fld (regGet s a) lo len

/-- A bit of a stored register. -/
def regBit (s : State) (a : Addr) (i : Nat) : Bool := bitAt (regGet s a) i

/-- Set a field of a stored register. -/
def regSetFld (s : State) (a : Addr) (lo len v : Nat) : State := regPut s a (setFld (regGet s a) lo len v)

/-- A 64-bit pair, low word first. -/
def pairGet (s : State) (a : Addr) : Nat := (regGet s a).toNat + 2 ^ 32 * (regGet s (a + 4)).toNat

/-- Store a 64-bit pair. -/
def pairPut (s : State) (a : Addr) (v : Nat) : State :=
  regPut (regPut s a (BitVec.ofNat 32 v)) (a + 4) (BitVec.ofNat 32 (v / 2 ^ 32))

/-- Add to a counter in common counter format; COUNT saturates at 0x7FFF_FFFF (R41). -/
def cntAdd (s : State) (a : Addr) (n : Nat) : State :=
  regPut s a (BitVec.ofNat 32 (min ((regGet s a).toNat + n) 0x7FFFFFFF))

/-- Count one event (R41). -/
def cntInc (s : State) (a : Addr) : State := cntAdd s a 1

/-! Free values. -/

/-- Take the next free value: a value the manual does not state. -/
def takeFree (s : State) : Word64 × State :=
  (Config.freeValue s.freeCtr, { s with freeCtr := s.freeCtr + 1 })

/-! Bays. -/

/-- The physical bays of the device: PB0–PB35. -/
def bayCount : Nat := 36

/-- A physical bay. -/
def bayGet (s : State) (pb : Nat) : Bay := tabGet {} s.bays pb

/-- Replace a physical bay. -/
def bayPut (s : State) (pb : Nat) (b : Bay) : State := { s with bays := tabPut {} s.bays pb b }

/-- Change a physical bay. -/
def bayMod (s : State) (pb : Nat) (f : Bay → Bay) : State := bayPut s pb (f (bayGet s pb))

/-- The physical bay that holds logical number `n`, if any (R28, R421). -/
def lbPhys (s : State) (n : Nat) : Option Nat :=
  match tabGet 0 s.bayMap n with
  | 0 => none
  | k + 1 => some k

/-- The logical number a physical bay holds, if any. -/
def pbLogical (s : State) (pb : Nat) : Option Nat :=
  (List.range 64).find? (fun n => decide (lbPhys s n = some pb))

/-- A hand context of a bay. -/
def handOf (b : Bay) (filler : Bool) : HandCtx := if filler then b.filler else b.main

/-- Replace a hand context of a bay. -/
def Bay.setHand (b : Bay) (filler : Bool) (h : HandCtx) : Bay :=
  if filler then { b with filler := h } else { b with main := h }

/-- The hand context a command names. -/
def handGet (s : State) (h : Hand) : HandCtx := handOf (bayGet s h.pb) h.filler

/-- Change the hand context a command names. -/
def handMod (s : State) (h : Hand) (f : HandCtx → HandCtx) : State :=
  bayMod s h.pb (fun b => b.setHand h.filler (f (handOf b h.filler)))

/-! Memory. -/

/-- A byte of DRAM or of the loft; a byte nothing has written reads 0. -/
def memByte (s : State) (a : Addr) : Byte := tabGet 0 s.mem a

/-- Write one byte. -/
def memPutByte (s : State) (a : Addr) (b : Byte) : State := { s with mem := tabPut 0 s.mem a b }

/-- `n` bytes from `a`. -/
def memRead (s : State) (a : Addr) (n : Nat) : List Byte := (rangeFrom a n).map (memByte s)

/-- Put a byte list into a table of bytes. -/
def putBytes (t : Tab Byte) : Addr → List Byte → Tab Byte
  | _, [] => t
  | a, b :: r => putBytes (tabPut 0 t a b) (a + 1) r

/-- Write bytes to DRAM or the loft. -/
def memWrite (s : State) (a : Addr) (l : List Byte) : State := { s with mem := putBytes s.mem a l }

/-- The bytes of a bay store from offset `o`. -/
def Bay.storeRead (b : Bay) (o n : Nat) : List Byte := (rangeFrom o n).map (tabGet 0 b.store)

/-! The address map (R26). -/

/-- What an access falls in, as a whole. -/
inductive Home where
  | dram
  | loft
  /-- the window of logical bay `n`, held by this device, at store offset `off` -/
  | store (n off : Nat)
  /-- the window of a logical bay of the twin (R28) -/
  | remote (n off : Nat)
  | regs
  | aplic
  /-- an IMSIC file of a hart: 0 machine, 1 supervisor, 2–8 guest -/
  | imsicFile (hart file : Nat)
  | hole
  deriving DecidableEq, Repr

/-- The loft's base and size (R26). -/
def loftBase : Addr := 0x001000000000
/-- 24 MiB. -/
def loftSize : Nat := 0x1800000
/-- The used bytes of a bay store window: 1.25 MiB. -/
def storeSize : Nat := 0x140000

/-- The window base of logical bay `n` (R26). -/
def windowBase (n : Nat) : Addr :=
  if n < 32 then 0x001010000000 + n * 0x200000 else 0x001090000000 + (n - 32) * 0x200000

/-- The logical bay whose window holds `a`, by place alone, and the offset in it. -/
def windowOf (a : Addr) : Option (Nat × Nat) :=
  if 0x001010000000 ≤ a ∧ a < 0x001014000000 then
    some ((a - 0x001010000000) / 0x200000, (a - 0x001010000000) % 0x200000)
  else if 0x001090000000 ≤ a ∧ a < 0x001094000000 then
    some (32 + (a - 0x001090000000) / 0x200000, (a - 0x001090000000) % 0x200000)
  else none

/-- TRUSS_STATE.STATE is JOINED (R651). -/
def twinJoined (s : State) : Bool := decide (regFld s Reg.TRUSS_STATE 29 3 = 3)

/-- The strapped role: true on the secondary device (R650). -/
def twinSecondary (s : State) : Bool := regBit s Reg.TRUSS_CFG 30

/-- This device is the primary of a joined pair. -/
def joinedPrimary (s : State) : Bool := twinJoined s && !twinSecondary s

/-- A logical number of the twin, outside this device: below its bay count and not dropped (R4, R28, R655). -/
def isPeerNumber (s : State) (n : Nat) : Bool :=
  (if twinSecondary s then decide (n < 32) else decide (32 ≤ n)) &&
    decide (n % 32 < leAt s.twin.peer 26 1) && !(leAt s.twin.peer 36 4).testBit (n % 32)

/-- The home of an access of `n` bytes at `a`: every byte in the used range of one row, else a hole (R26). -/
def homeOf (s : State) (a n : Nat) : Home :=
  if a + n ≤ s.boot.dramBytes ∧ a + n ≤ 0x001000000000 then .dram
  else if loftBase ≤ a ∧ a + n ≤ loftBase + loftSize then .loft
  else
    match windowOf a with
    | some (b, off) =>
      if off + n ≤ storeSize then
        if (lbPhys s b).isSome then .store b off
        else if isPeerNumber s b && twinJoined s then .remote b off
        else .hole
      else .hole
    | none =>
      if Reg.spaceBase ≤ a ∧ a + n ≤ Reg.spaceBase + Reg.spaceSize then .regs
      else if 0x002010000000 ≤ a ∧ a + n ≤ 0x002010020000 then .aplic
      else if 0x002011000000 ≤ a ∧ a + n ≤ 0x00201100C000 then .imsicFile ((a - 0x002011000000) / 0x1000) 0
      else if 0x002012000000 ≤ a ∧ a + n ≤ 0x002012060000 then
        .imsicFile ((a - 0x002012000000) / 0x8000) (1 + (a - 0x002012000000) % 0x8000 / 0x1000)
      else .hole

/-! Time. -/

/-- The value of the selected domain. -/
def selTime (s : State) : Nat := if s.tb.selB then s.tb.b.time else s.tb.a.time

/-- Working time: the selected domain plus the bridge, modulo 2^32 (R505 step 6); on a twin that follows the primary, the
followed time (R539). -/
def workTime (s : State) : Nat :=
  match s.tb.follow with
  | some t => t.1
  | none => (((selTime s : Nat) : Int) + s.tb.bridge) % (2 ^ 32 : Int) |>.toNat

/-- A time is reached under modular comparison (R508). -/
def reached (now t : Nat) : Bool := decide ((now + (2 ^ 32 - t % 2 ^ 32)) % 2 ^ 32 < 2 ^ 31)

/-! The partition table (R344, R345). -/

/-- A byte of the partition table in force; a table that has failed its re-verification owns nothing (R48). -/
def ptByte (s : State) (i : Nat) : Byte := if s.part.tableBad then 0 else tabGet 0 s.part.table i

/-- A little-endian number of `n` bytes at offset `off` of the record of partition `p`. -/
def recNum (s : State) (p off n : Nat) : Nat := leVal ((rangeFrom (256 + 512 * p + off) n).map (ptByte s))

/-- A bit field of the record of partition `p`. -/
def recFld (s : State) (p off n lo len : Nat) : Nat := nfld (recNum s p off n) lo len

/-- One bit of a resource mask of the record. -/
def recBit (s : State) (p off n i : Nat) : Bool := (recNum s p off n).testBit i

/-- BAYS: partition `p` owns logical bay `n`. -/
def ownsBay (s : State) (p n : Nat) : Bool := recBit s p 0 8 n
/-- LOFT: granule `g`. -/
def ownsGranule (s : State) (p g : Nat) : Bool := recBit s p 8 12 g
/-- WINDOWS: submit window `w`. -/
def ownsWindow (s : State) (p w : Nat) : Bool := recBit s p 24 8 w
/-- AGE: age channel `a`. -/
def ownsAge (s : State) (p a : Nat) : Bool := recBit s p 32 8 a
/-- PEGS: peg `n` lies in the partition's range (R332). -/
def ownsPeg (s : State) (p n : Nat) : Bool :=
  let base := recFld s p 40 4 0 5 * 64
  decide (base ≤ n) && decide (n < base + recFld s p 40 4 16 6 * 64) && decide (n < 2048)
/-- UNITS.HARTS. -/
def ownsHart (s : State) (p h : Nat) : Bool := decide (h < 12) && recBit s p 56 4 h
/-- UNITS.GFX. -/
def ownsGfx (s : State) (p : Nat) : Bool := recBit s p 56 4 12
/-- UNITS.INTAKE: camera context `c`. -/
def ownsCtx (s : State) (p c : Nat) : Bool := decide (c < 16) && recBit s p 56 4 (16 + c)
/-- PLANES: plane `q` = 6i + j; plane 5 of each pipe can belong only to P0 (R341). -/
def ownsPlane (s : State) (p q : Nat) : Bool := decide (q < 24) && recBit s p 60 4 q
/-- TIME: TCAP input `n`. -/
def ownsTcap (s : State) (p n : Nat) : Bool := decide (n < 16) && recBit s p 64 4 n
/-- TIME: TPULSE output `n`. -/
def ownsTpulse (s : State) (p n : Nat) : Bool := decide (n < 8) && recBit s p 64 4 (16 + n)

/-- The partition for which a test holds, if any (a resource has at most one owner, R340). -/
def ownerBy (f : Nat → Bool) : Option Nat := (List.range 8).find? f

/-- The owner of logical bay `n`. -/
def bayOwner (s : State) (n : Nat) : Option Nat := ownerBy (fun p => ownsBay s p n)

/-- The partition of a hart (R340). -/
def hartPart (s : State) (h : Nat) : Option Nat := ownerBy (fun p => ownsHart s p h)

/-- The logical bays of a partition, in ascending number. -/
def partBays (s : State) (p : Nat) : List Nat := (List.range 64).filter (ownsBay s p)

/-- BEAT in µs (0 for none). -/
def recBeat (s : State) (p : Nat) : Nat := recFld s p 48 4 0 20
/-- KCLASSES. -/
def recKclasses (s : State) (p : Nat) : Nat := recFld s p 68 4 0 4
/-- NKERF. -/
def recNkerf (s : State) (p : Nat) : Nat := recFld s p 68 4 8 5
/-- SCHED entry `i`: its class. -/
def schedClass (s : State) (p i : Nat) : Nat := recFld s p (80 + 4 * i) 4 0 3
/-- SCHED entry `i`: LEN in units of 10 µs. -/
def schedLen (s : State) (p i : Nat) : Nat := recFld s p (80 + 4 * i) 4 4 14
/-- PARK.PEN. -/
def parkOn (s : State) (p : Nat) : Bool := recBit s p 20 4 31
/-- SAVE_BASE. -/
def saveBase (s : State) (p : Nat) : Addr := recFld s p 72 8 21 27 * 2 ^ 21

/-- A valid PAGES entry of the record covers page `k` of register space. -/
def pageGranted (s : State) (p k : Nat) : Bool :=
  (List.range 12).any (fun i =>
    let e := recNum s p (208 + 4 * i) 4
    e.testBit 31 && decide (nfld e 0 13 ≤ k) && decide (k < nfld e 0 13 + nfld e 16 10))

/-- The number of bytes of a save image (R380). -/
def imageSize : Nat := 0x150000

/-- Ranges the save path and PART alone reach: a partition's save pool and park pool (R358, R380, R383). -/
def inPark (s : State) (p g : Nat) : Bool :=
  parkOn s p && decide (recFld s p 20 4 0 7 ≤ g) && decide (g < recFld s p 20 4 0 7 + recFld s p 20 4 8 7)

/-! MSIs (R60, R788). -/

/-- Send an MSI to entry `tgt` of partition `p`'s interrupt-target table; an entry with V = 0 sends nothing (R788). -/
def msi (s : State) (p tgt : Nat) : State :=
  let e := recNum s p (144 + 4 * tgt) 4
  if decide (tgt < 16) && e.testBit 31 then
    let file := match nfld e 4 2 with | 0 => 0 | 1 => 1 | _ => 2 + nfld e 6 3
    let k := 16 * nfld e 0 4 + file
    { s with imsic := tabPut 0 s.imsic k (tabGet 0 s.imsic k ||| (1 <<< nfld e 16 8)) }
  else s

/-! Region tables (R356–R358). -/

/-- A byte of the region table of partition `p`; after a failed re-verification no entry matches (R48). -/
def rgByte (s : State) (p i : Nat) : Byte :=
  if tabGet false s.part.regionsBad p then 0 else tabGet 0 (tabGet [] s.part.regions p) i

/-- Entry `i` of a region table: the number of its 16 bytes. -/
def rgEntry (s : State) (p i : Nat) : Nat := leVal ((rangeFrom (16 * i) 16).map (rgByte s p))

/-- BASE of an entry. -/
def rgBase (e : Nat) : Addr := nfld e 12 36 * 4096
/-- The bytes an entry covers. -/
def rgSize (e : Nat) : Nat := (nfld e 64 24 + 1) * 4096
/-- The attribute word, bytes 12–15. -/
def rgAttr (e : Nat) : Nat := nfld e 96 32

/-- An entry matches: V set, every byte in range, the class named (R357). -/
def rgMatches (cls a n e : Nat) : Bool :=
  (rgAttr e).testBit 7 && (rgAttr e).testBit (8 + cls) && decide (rgBase e ≤ a) && decide (a + n ≤ rgBase e + rgSize e)

/-- The decision of the region table on one access: the acting entry's attribute word and whether the choice was a tie;
none when no entry matches. -/
structure RgAct where
  attr : Nat
  tie : Bool
  deriving DecidableEq, Repr

/-- Highest PRIO among the matches; lowest index among equals (R50, R357). -/
def rgActing : List Nat → Option RgAct
  | [] => none
  | e :: t =>
    match rgActing t with
    | none => some { attr := rgAttr e, tie := false }
    | some r =>
      if nfld r.attr 4 3 < nfld (rgAttr e) 4 3 then some { attr := rgAttr e, tie := false }
      else if nfld r.attr 4 3 = nfld (rgAttr e) 4 3 then some { attr := rgAttr e, tie := true }
      else some r

/-- The verdict on one access of a partition. -/
inductive Verdict where
  /-- granted; `contest` when the acting entry is marked CONTEST -/
  | ok (contest : Bool)
  /-- a hole (R30) -/
  | hole
  /-- refused; `noEntry` when no entry matched -/
  | refused (noEntry : Bool)
  /-- a place the requester cannot reach at all (R32, R73, R342) -/
  | unreachable
  deriving DecidableEq, Repr

/-- The permission bit an access kind needs: R, W or X. -/
def permBit : AccKind → Nat
  | .read => 0 | .write => 1 | .fetch => 2

/-- The loft granules an access touches. -/
def granulesOf (a n : Nat) : List Nat :=
  let g0 := (a - loftBase) / 0x40000
  rangeFrom g0 ((a + n - 1 - loftBase) / 0x40000 - g0 + 1)

/-- Decide one access of partition `p`, class `cls`, to DRAM or the loft, and count a tie (R50, R357, R358). -/
def regionCheck (s : State) (p cls : Nat) (k : AccKind) (a n : Nat) (loft : Bool) : Verdict × State :=
  let es := ((List.range 32).map (rgEntry s p)).filter (rgMatches cls a n)
  match rgActing es with
  | none => (.refused true, s)
  | some r =>
    let s1 := if r.tie then cntInc s (Reg.PART_TIE p) else s
    if !r.attr.testBit (permBit k) then (.refused false, s1)
    else if loft && (granulesOf a n).any (fun g => !ownsGranule s p g || inPark s p g) then (.refused false, s1)
    else (.ok (r.attr.testBit 3), s1)

/-- Decide one access of partition `p` to any place: the region table for DRAM and the loft, ownership for a bay store
window (R342); register space, APLIC and IMSICs are out of its reach (R32). -/
def accessCheck (s : State) (p cls : Nat) (k : AccKind) (a n : Nat) : Verdict × State :=
  match homeOf s a n with
  | .hole => (.hole, s)
  | .dram => regionCheck s p cls k a n false
  | .loft => regionCheck s p cls k a n true
  | .store b _ => (if ownsBay s p b then .ok false else .unreachable, s)
  | .remote b _ => (if ownsBay s p b then .ok false else .unreachable, s)
  | .regs | .aplic | .imsicFile _ _ => (.unreachable, s)

/-! Reading and writing device memory, wherever it lies. -/

/-! The truss link, as an access uses it (R646). -/

/-- The check word over bytes 0–19 of a flit's header. -/
def flitCheck (f : Flit) : Nat :=
  (crc32c (leBytes 1 f.typ ++ leBytes 1 f.part ++ leBytes 2 f.seq ++ leBytes 2 f.ack ++ leBytes 1 f.len ++ leBytes 1 0 ++
    leBytes 6 f.addr ++ leBytes 2 f.tag ++ leBytes 4 f.signal)).toNat

/-- Send a sequenced flit: it takes the next SEQ and is kept until it is acknowledged, among the last 128 (R647). -/
def sendFlit (f : Flit) (s : State) : State :=
  let q := (s.twin.seq + 1) % 65536
  let g := { f with seq := q, ack := s.twin.rxSeq, len := f.len }
  let l := s.twin.sent ++ [({ g with check := flitCheck g }, 1)]
  { s with twin := { s.twin with seq := q, sent := l.drop (l.length - 128) } }

/-- Send a CONTROL flit. -/
def sendCtl (c : Ctl) (s : State) : State := sendFlit { typ := 4, ctl := some c } s

/-- Write into a window of the peer: WRITE flits of at most 232 bytes; the first argument bounds their number. -/
def sendWrites : Nat → Nat → Addr → List Byte → State → State
  | 0, _, _, _, s => s
  | k + 1, p, a, l, s =>
    if l = [] then s
    else sendWrites k p (a + 232) (l.drop 232) (sendFlit { typ := 1, part := p, addr := a, len := min l.length 232, body := l.take 232 } s)

/-- The partition of a logical bay, for a flit's PART. -/
def bayPart (s : State) (n : Nat) : Nat := (bayOwner s n).getD 0

/-- A byte of the peer's memory: what an RDATA flit has returned, else unknown. -/
def farRead (s : State) (a : Addr) : Byte := (tabGet none s.twin.mirror a).getD (Config.farByte a)

/-- Read a byte by physical address: DRAM, the loft, or a bay store window; 0 elsewhere. -/
def devByte (s : State) (a : Addr) : Byte :=
  match homeOf s a 1 with
  | .dram | .loft => memByte s a
  | .store b off =>
    match lbPhys s b with
    | some pb => tabGet 0 (bayGet s pb).store off
    | none => 0
  | .remote _ _ => farRead s a
  | .regs | .aplic | .imsicFile _ _ | .hole => 0

/-- Read bytes by physical address. -/
def devRead (s : State) (a n : Nat) : List Byte := (rangeFrom a n).map (devByte s)

/-- The bytes of a tile of a slot's format: K × 128 elements (R75, R76). -/
def slotBytes (sl : Slot) : Nat := (if sl.fmt = .int4 then 256 else 128) * 128 * sl.fmt.width / 8

/-- Mark loaded slots STALE whose source range a write meets, and count each (R79). -/
def markStale (off n : Nat) (b : Bay) : Bay × Nat :=
  let hit := fun (sl : Slot) => sl.loaded && !sl.stale && rangesMeet sl.src (slotBytes sl) off n
  ({ b with slots := b.slots.map (fun (i, sl) => (i, if hit sl then { sl with stale := true } else sl)) },
   (b.slots.filter (fun (_, sl) => hit sl)).length)

/-- Drop the cached panels that a write meets, in every bay (R175, R216). -/
def dropPanels (a n : Nat) (s : State) : State :=
  if s.bays.any (fun (_, b) => b.cache.any (fun (p, _) => rangesMeet p 64 a n)) then
    (List.range bayCount).foldl
      (fun s k => bayMod s k (fun b => { b with cache := b.cache.filter (fun (p, _) => !rangesMeet p 64 a n) })) s
  else s

/-- Write into the store of a physical bay, with the STALE marks of R79. -/
def storeWrite (s : State) (pb off : Nat) (l : List Byte) : State :=
  let b := bayGet s pb
  let (b1, k) := markStale off l.length { b with store := putBytes b.store off l }
  let s1 := bayPut s pb b1
  match pbLogical s pb with
  | some n => if k = 0 then s1 else cntAdd s1 (Reg.BAY_STALE_CNT n) k
  | none => s1

/-- Accesses to the window of a bay in this state wait (R96); those of a fenced bay wait for the retirement point (R430). -/
def BaySt.windowWaits : BaySt → Bool
  | .plumb | .saving | .restoring | .fenced => true
  | .idle | .running | .retired => false

/-- An access of `n` bytes at `a` by a unit outside the bay waits (R96, R430). -/
def windowWaits (s : State) (a n : Nat) : Bool :=
  match homeOf s a n with
  | .store b _ => (match lbPhys s b with | some pb => (bayGet s pb).st.windowWaits | none => false)
  | _ => false

/-- Write bytes by physical address: DRAM, the loft, or a bay store window; nothing elsewhere. Cached panels
that the write meets are dropped (R175). A write into a window that waits is kept (R96). -/
def devWrite (s : State) (a : Addr) (l : List Byte) : State :=
  if l = [] then s
  else
    match homeOf s a l.length with
    | .dram | .loft => dropPanels a l.length (memWrite s a l)
    | .store b off =>
      match lbPhys s b with
      | some pb =>
        if (bayGet s pb).st.windowWaits then { s with waitWrites := s.waitWrites ++ [(a, l)] } else storeWrite s pb off l
      | none => s
    | .remote b _ => sendWrites (l.length / 232 + 1) (bayPart s b) a l s
    | .regs | .aplic | .imsicFile _ _ | .hole => s

/-- Make the writes that waited, in order; those whose window still waits wait on (R96, R430). -/
def landWrites (s : State) : State := s.waitWrites.foldl (fun s w => devWrite s w.1 w.2) { s with waitWrites := [] }

/-! Reads of the peer's windows. -/

/-- The bytes of a range have been returned. -/
def farReady (s : State) (a n : Nat) : Bool := (rangeFrom a n).all (fun x => (tabGet none s.twin.mirror x).isSome)

/-- Ask the peer for a range: READ flits of at most 232 bytes; the first argument bounds their number. -/
def sendReads : Nat → Nat → Addr → Nat → State → State
  | 0, _, _, _, s => s
  | k + 1, p, a, n, s =>
    if n = 0 then s
    else
      let m := min n 232
      let t := s.twin.nextTag
      let s1 := sendFlit { typ := 2, part := p, addr := a, len := m, tag := t } s
      sendReads k p (a + m) (n - m) { s1 with twin := { s1.twin with nextTag := (t + 1) % 65536, reads := s1.twin.reads ++ [(t, a, m)] } }

/-- Make the ranges of a read ready: those in the peer's windows that have not been returned are asked for, once. The flag says
whether all are here. -/
def farFetch : List (Nat × Nat) → State → Bool × State
  | [], s => (true, s)
  | (a, n) :: t, s =>
    match homeOf s a n with
    | .remote b _ =>
      if farReady s a n then farFetch t s
      else
        let asked := s.twin.reads.any (fun r => rangesMeet r.2.1 r.2.2 a n)
        let s1 := if asked then s else sendReads (n / 232 + 1) (bayPart s b) a n s
        (false, (farFetch t s1).2)
    | _ => farFetch t s

/-- Forget returned bytes that an access has used. -/
def farUse (a n : Nat) (s : State) : State :=
  { s with twin := { s.twin with mirror := s.twin.mirror.filter (fun e => decide (e.1 < a) || decide (a + n ≤ e.1)) } }

/-- The divisor of a pixel clock in effect, in units of 2^−24 (R717, R719). -/
def pixDivisor (s : State) (i : Nat) : Nat := (tabGet (80, 0) s.boot.pix i).1 * 2 ^ 24 + (tabGet (80, 0) s.boot.pix i).2

end Sys2Proof.Machine
end

