-- ==== Sys2Proof/Machine/Pegs.lean ====
section
/-!
DEFINITION. Pegs (R328–R333): the operations, poison, and what a peg operation does at once to those that wait (R331):
waiting hand contexts and QUEUED dowels are judged after every operation, and age channels in PEG mode take their events.
-/

namespace Sys2Proof.Machine

/-- Peg `n`. -/
def pegGet (s : State) (n : Nat) : Peg := tabGet {} s.pegs n

/-- Replace peg `n`. -/
def pegPut (s : State) (n : Nat) (p : Peg) : State := { s with pegs := tabPut {} s.pegs n p }

/-- The three signals (R328). -/
inductive PegOp where
  | add (v : Nat)
  | set (v : Nat)
  | arrive
  deriving DecidableEq, Repr

/-- Add with saturation at 0xFFFF_FFFF; the saturation bit is set only when the exact sum exceeds it (R328). -/
def pegAddVal (p : Peg) (v : Nat) : Peg :=
  { p with
    count := BitVec.ofNat 32 (min (p.count.toNat + v) 0xFFFFFFFF)
    sat := p.sat || decide (0xFFFFFFFF < p.count.toNat + v) }

/-- One signal on one peg, stamped; a poisoned peg ignores it (R328, R330, R244). -/
def pegApply (now : Nat) (op : PegOp) (p : Peg) : Peg :=
  if p.poison then p
  else
    let q := match op with
      | .add v => pegAddVal p v
      | .set v => { p with count := BitVec.ofNat 32 v }
      | .arrive => pegAddVal p 1
    { q with stamp := BitVec.ofNat 32 now }

/-- The pegs a wait names. -/
def waitPegs : Wait → List Nat
  | .pegs _ lo cnt _ _ => rangeFrom lo (cnt + 1)
  | .arrive _ n => [n]
  | .none | .time _ | .released _ _ _ | .poisoned => []

/-- Judge one wait against the pegs as they stand (R328, R331, R335, R240). -/
def judgeWait (s : State) (w : Wait) : Wait :=
  if (waitPegs w).any (fun n => (pegGet s n).poison) then .poisoned
  else
    match w with
    | .pegs rd lo cnt value any =>
      match (rangeFrom lo (cnt + 1)).find? (fun n => decide (value ≤ (pegGet s n).count.toNat)) with
      | some n => .released rd (if any then BitVec.ofNat 64 n else (pegGet s n).count.zeroExtend 64) (any && decide (0 < cnt))
      | none => w
    | .arrive rd n =>
      if (pegGet s n).target.toNat ≤ (pegGet s n).count.toNat then .released rd ((pegGet s n).count.zeroExtend 64) false else w
    | .none | .time _ | .released _ _ _ | .poisoned => w

/-- Judge the waits of one bay. -/
def judgeBay (s : State) (b : Bay) : Bay :=
  { b with main := { b.main with wait := judgeWait s b.main.wait }, filler := { b.filler with wait := judgeWait s b.filler.wait } }

/-- Wait entry `i` of a descriptor: valid, peg, threshold (R294). -/
def descWait (desc : List Byte) (i : Nat) : Option (Nat × Nat) :=
  let e := leAt desc (32 + 8 * i) 8
  if e.testBit 15 then some (nfld e 0 11, nfld e 32 32) else none

/-- Signal entry `i` of a descriptor: peg and value (R294). -/
def descSig (desc : List Byte) (i : Nat) : Option (Nat × Nat) :=
  let e := leAt desc (64 + 8 * i) 8
  if e.testBit 15 then some (nfld e 0 11, nfld e 32 32) else none

/-- The satisfied waits of a dowel, with those already released (R331). -/
def judgeOk (s : State) (d : Dowel) : Nat :=
  (List.range 4).foldl (fun acc i =>
    match descWait d.desc i with
    | some (n, v) => if decide (v ≤ (pegGet s n).count.toNat) then acc ||| 2 ^ i else acc
    | none => acc ||| 2 ^ i) d.waitOk

/-- A valid wait of a dowel names a poisoned peg (R330). -/
def judgePoison (s : State) (d : Dowel) : Bool :=
  (List.range 4).any (fun i => match descWait d.desc i with | some (n, _) => (pegGet s n).poison | none => false)

/-- Judge a QUEUED dowel's waits. -/
def judgeDowel (s : State) (d : Dowel) : Dowel :=
  if d.st = .queued then { d with waitOk := judgeOk s d, waitPoison := d.waitPoison || judgePoison s d } else d

/-- Judge every waiter (R331). -/
def judgeAll (s : State) : State :=
  { s with
    bays := s.bays.map (fun (k, b) => (k, judgeBay s b))
    cmd := { s.cmd with slots := s.cmd.slots.map (fun (k, d) => (k, judgeDowel s d)) } }

/-- Every valid wait is satisfied. -/
def Dowel.waitsMet (d : Dowel) : Bool := decide (d.waitOk % 16 = 15)

/-- The age channels in PEG mode that watch peg `n` (R469). -/
def agePegChannels (s : State) (n : Nat) : List Nat :=
  (List.range 64).filter (fun a =>
    regBit s (Reg.SAFETY_AGE_CFG a) 31 && regBit s (Reg.SAFETY_AGE_CFG a) 30 &&
      decide (regFld s (Reg.SAFETY_AGE_CFG a) 16 11 = n))

/-- Record result events of channels with their capture-word addresses (R469). -/
def ageEvents (s : State) (l : List (Nat × Addr)) : State :=
  { s with safety := { s.safety with ageDue := s.safety.ageDue ++ l } }

/-- One signal of peg `n` by any initiator: the peg changes, its STAMP takes working time, the age channels that watch it
take an event when the count rose, and every waiter is judged (R328, R331, R469). -/
def pegSignal (s : State) (n : Nat) (op : PegOp) : State :=
  let p := pegGet s n
  if p.poison then s
  else
    let q := pegApply (workTime s) op p
    let s1 := pegPut s n q
    let s2 := if p.count.toNat < q.count.toNat then
        ageEvents s1 ((agePegChannels s n).map (fun a => (a, pairGet s (Reg.SAFETY_AGE_CAPADDR a))))
      else s1
    judgeAll s2

/-- Poison peg `n` and release its waiters with a fault status (R329, R330). -/
def pegPoison (s : State) (n : Nat) : State := judgeAll (pegPut s n { pegGet s n with poison := true })

/-- PEG_STATUS.CLEAR: poison and saturation are cleared and the count becomes 0 (R330). -/
def pegClear (s : State) (n : Nat) : State :=
  judgeAll (pegPut s n { pegGet s n with poison := false, sat := false, count := 0 })

/-- Set a peg's target (R328). -/
def pegSetTarget (s : State) (n : Nat) (v : Word32) : State := judgeAll (pegPut s n { pegGet s n with target := v })

end Sys2Proof.Machine
end

