-- ==== Sys2Proof/Machine/Faults.lean ====
section
/-!
DEFINITION. What follows from a fault report and from the end of a dowel: the fault aggregator (R481–R486), the FAULT pin
holds (R489), access errors and region violations (R30, R66, R359), completion of a dowel (R313–R318), stopping a job by
the steps of R202, partition stop (R491) and safe state (R493).
-/

namespace Sys2Proof.Machine

/-- A way to report a fault: source, attributed partition, DETAIL. -/
abbrev Raiser := Nat → Option Nat → Nat → State → State

/-- The class of a fault source: 0 MINOR, 1 MAJOR, 2 CRITICAL; none for a reserved number (R481). -/
def srcClass (n : Nat) : Option Nat :=
  if n ≤ 0x00A then some 2
  else if n ≤ 0x00E then some 1
  else if n = 0x00F then none
  else if n ≤ 0x018 then some 2
  else if n = 0x019 then some 0
  else if n = 0x01A then some 1
  else if n = 0x01B then some 2
  else if n = 0x01C then some 0
  else if n < 0x020 then none
  else if n ≤ 0x043 then some 1
  else if n < 0x048 then none
  else if n ≤ 0x050 then some 1
  else if n = 0x051 then some 0
  else if n = 0x052 then some 1
  else if n = 0x053 then some 0
  else if n ≤ 0x055 then some 1
  else if n = 0x056 then some 2
  else if n = 0x057 then some 1
  else if n ≤ 0x05B then some 0
  else if n ≤ 0x05D then some 1
  else if n < 0x060 then none
  else if n ≤ 0x062 then some 0
  else if n = 0x063 then some 1
  else if n = 0x064 then some 2
  else if n = 0x065 then some 1
  else if n = 0x066 then some 0
  else if n = 0x067 then some 1
  else if n < 0x080 then none
  else if n ≤ 0x0CF then some 1
  else if n ≤ 0x0D3 then some 1
  else if n < 0x0E0 then none
  else if n = 0x0E0 then some 1
  else if n ≤ 0x0E2 then some 0
  else if n = 0x0E3 then some 1
  else if n < 0x0F0 then none
  else if n ≤ 0x0F3 then some 1
  else if n = 0x0F4 then some 0
  else if n = 0x100 then some 0
  else if n < 0x110 then none
  else if n ≤ 0x117 then some 1
  else if n ≤ 0x11F then some 2
  else none

/-- A fault source's state. -/
def fsrc (s : State) (n : Nat) : FSrc := tabGet {} s.safety.srcs n

/-- Replace a fault source's state. -/
def fsrcPut (s : State) (n : Nat) (f : FSrc) : State :=
  { s with safety := { s.safety with srcs := tabPut {} s.safety.srcs n f } }

/-- The class in which a pending source was raised (R487). -/
def pendClass (n : Nat) (f : FSrc) : Option Nat := if f.critPend then some 2 else srcClass n

/-- A CRITICAL source is pending (R489). -/
def critPending (s : State) : Bool :=
  s.safety.srcs.any (fun (n, f) => f.pend && decide (pendClass n f = some 2))

/-- The FAULT pins are held low (R488, R489). -/
def pinsHeld (s : State) : Bool := !s.safety.run || critPending s || s.safety.safe || s.safety.vddSafeBad

/-- Drive the pins low while a hold applies; they resume only at a phase boundary (R489). -/
def pinsUpdate (s : State) : State :=
  if pinsHeld s then { s with safety := { s.safety with fault0 := false, fault1 := false, hold := true } } else s

/-- The reaction chosen for a fault (R483). -/
structure React where
  code : Nat
  entry : Nat
  tgt : Nat
  dflt : Bool
  tie : Bool
  deriving DecidableEq, Repr

/-- Reaction entry `e` matches a fault. -/
def reactHit (s : State) (src cls e : Nat) : Bool :=
  let lo := regGet s (Reg.SAFETY_REACT_LO e)
  let hi := regGet s (Reg.SAFETY_REACT_HI e)
  bitAt hi 31 && decide (fld lo 0 9 ≤ src) && decide (src ≤ fld lo 16 9) && (fld hi 8 3).testBit cls

/-- The matching entry of highest PRIO, the lowest index among equals (R50, R502). -/
def reactBest (s : State) : List Nat → Option React
  | [] => none
  | e :: t =>
    let hi := regGet s (Reg.SAFETY_REACT_HI e)
    let me : React := { code := fld hi 6 2, entry := e, tgt := fld hi 0 4, dflt := false, tie := false }
    match reactBest s t with
    | none => some me
    | some r =>
      let pr := fld (regGet s (Reg.SAFETY_REACT_HI r.entry)) 12 3
      if pr < fld hi 12 3 then some me
      else if pr = fld hi 12 3 then some { me with tie := true }
      else some r

/-- Choose the reaction of a fault: the acting entry, or the class default (R483). -/
def chooseReact (s : State) (src cls : Nat) : React :=
  match reactBest s ((List.range 64).filter (reactHit s src cls)) with
  | some r => r
  | none => { code := if cls = 0 then 0 else if cls = 1 then 1 else 3, entry := 0, tgt := 0, dflt := true, tie := false }

/-- The 16-byte fault record (R485). -/
def faultRecord (s : State) (src cls : Nat) (part : Option Nat) (r : React) (applied detail : Nat) : List Byte :=
  withCheck
    (leBytes 2 src ++
     leBytes 1 (cls + 4 * (part.getD 0) + bitN part.isSome 5 + bitN r.dflt 6) ++
     leBytes 1 (applied + 4 * (if r.dflt then 0 else r.entry)) ++
     leBytes 4 (workTime s) ++ leBytes 4 detail)

/-- Write a fault record: suppressed within 100 µs of the source's last one, lost when the log is full (R482, R486). -/
def logRecord (s : State) (src : Nat) (rec : List Byte) : State :=
  let f := fsrc s src
  let recent := match f.lastRecord with
    | some t => decide (s.tb.elapsed ≤ t + 100000)
    | none => false
  if recent then cntInc s Reg.SAFETY_LOG_SUPPRESS
  else
    let pi := s.safety.logPI
    let ci := regFld s Reg.SAFETY_LOG_CI 0 11
    if (pi + 2048 - ci) % 2048 = 1024 then cntInc s Reg.SAFETY_LOG_LOST
    else
      fsrcPut
        { s with safety := { s.safety with
            log := tabPut [] s.safety.log (pi % 1024) rec, logPI := (pi + 1) % 2048 } }
        src { f with lastRecord := some s.tb.elapsed }

/-! Access errors and violations. -/

/-- Record and report an access to a hole: GLOBAL_HOLE_ADDR and GLOBAL_HOLE_INFO hold the first error since VALID was
cleared, GLOBAL_HOLE_CNT counts, HOLE_ACCESS is raised (R30, R66). `kind`: 0 read, 1 write, 2 width, 3 page. -/
def holeError (rz : Raiser) (init : Nat) (part : Option Nat) (kind : Nat) (a : Addr) (s : State) : State :=
  let s1 := if regBit s Reg.GLOBAL_HOLE_INFO 31 then s
    else regPut (pairPut s Reg.GLOBAL_HOLE_ADDR (a % 2 ^ 48)) Reg.GLOBAL_HOLE_INFO
      (BitVec.ofNat 32 (2 ^ 31 + init % 256 * 256 + kind))
  rz 0x058 part 0 (cntInc s1 Reg.GLOBAL_HOLE_CNT)

/-- Record and report a region violation (R359). `kind`: 0 read, 1 write, 2 fetch, 3 no entry matched. -/
def violation (rz : Raiser) (init p cls kind : Nat) (a : Addr) (s : State) : State :=
  let s1 := if regBit s (Reg.PART_VIOL_INFO p) 31 then s
    else regPut (pairPut s (Reg.PART_VIOL_ADDR p) (a % 2 ^ 48)) (Reg.PART_VIOL_INFO p)
      (BitVec.ofNat 32 (2 ^ 31 + init % 256 * 256 + cls * 16 + kind))
  rz 0x059 (some p) 0 (cntInc s1 (Reg.PART_VIOL_CNT p))

/-- The KIND of a violation by access kind. -/
def kindCode : AccKind → Nat
  | .read => 0 | .write => 1 | .fetch => 2

/-- Report what a refused access reports; a granted one reports nothing. -/
def reportVerdict (rz : Raiser) (init p cls : Nat) (k : AccKind) (a : Addr) (v : Verdict) (s : State) : State :=
  match v with
  | .ok _ => s
  | .hole => holeError rz init (some p) (if k = .write then 1 else 0) a s
  | .refused noEntry => violation rz init p cls (if noEntry then 3 else kindCode k) a s
  | .unreachable => s

/-! Dowels. -/

/-- A dowel slot. -/
def dowelGet (s : State) (slot : Nat) : Dowel := tabGet {} s.cmd.slots slot

/-- Replace a dowel slot. -/
def dowelPut (s : State) (slot : Nat) (d : Dowel) : State :=
  { s with cmd := { s.cmd with slots := tabPut {} s.cmd.slots slot d } }

/-- Change a dowel slot. -/
def dowelMod (s : State) (slot : Nat) (f : Dowel → Dowel) : State := dowelPut s slot (f (dowelGet s slot))

/-- The handle of a slot's current use (R302). Slots from 65,536 stand for the parts of spanning jobs whose home is the peer (R657):
their handle is 2^32 above the peer's. -/
def handleOf (s : State) (slot : Nat) : Nat :=
  (dowelGet s slot).gen * 65536 + slot % 65536 + (if slot < 65536 then 0 else 2 ^ 32)

/-- The slot a handle names. -/
def slotOf (handle : Nat) : Nat := handle % 65536 + (if handle < 2 ^ 32 then 0 else 65536)

/-- The seal unit keeps the end of its last dowels when their slots are freed (R634). -/
def sealKeep (s : State) (slot : Nat) : State :=
  let h := handleOf s slot
  let d := dowelGet s slot
  { s with sealU := { s.sealU with recent := s.sealU.recent.map (fun e =>
      if e.handle = h ∧ e.final = none then { e with final := some (d.st.code, d.fault) } else e) } }

/-- A dowel slot set FREE keeps its generation (R302). -/
def freeSlot (s : State) (slot : Nat) : State := dowelMod (sealKeep s slot) slot (fun d => { gen := d.gen })

/-- Put an update's dowel out of the region update queues; a queued request becomes running at once (R56, R58). -/
def updDrop (s : State) (slot : Nat) : State :=
  let us := s.cmd.upds
  let hit := us.filter (fun (_, u) => decide (u.running = some slot) || decide (u.queued = some slot))
  hit.foldl (fun st (r, u) =>
    let u' : Upd := if u.running = some slot then { running := u.queued, queued := none } else { u with queued := none }
    let st1 := { st with cmd := { st.cmd with upds := tabPut {} st.cmd.upds r u' } }
    match (if u.running = some slot then u.queued else none) with
    | some q => dowelMod st1 q (fun d => { d with updating := true })
    | none => st1) s

/-- The completion record (R314). -/
def completionRecord (s : State) (slot : Nat) (d : Dowel) (st : DSt) (fault endTime phase : Nat) : List Byte :=
  withCheck
    (leBytes 4 (handleOf s slot) ++
     leBytes 1 (st.code + 128 * phase) ++
     leBytes 1 d.flags.toBits ++
     leBytes 2 (min d.div 0xFFFF) ++
     leBytes 4 endTime ++
     leBytes 2 fault ++
     leBytes 1 (min d.replays 255) ++ leBytes 1 0 ++
     leBytes 4 (leAt d.desc 28 4) ++ leBytes 8 0)

/-- Write a completion record to its ring; the flag says whether it was written (R315–R317). -/
def writeRecord (rz : Raiser) (p r : Nat) (mk : Nat → List Byte) (s : State) : State × Bool :=
  let cfg := Reg.CMDPROC_RING_CFG p r
  if !regBit s cfg 31 then (s, false)
  else
    let size := regFld s cfg 8 5
    let pi := regFld s (Reg.CMDPROC_RING_PI p r) 0 17
    let ci := regFld s (Reg.CMDPROC_RING_CI p r) 0 17
    let drop := Reg.CMDPROC_RING_DROP p
    let stat := Reg.CMDPROC_RING_STAT p r
    if (pi + 2 ^ 17 - ci) % 2 ^ 17 = 2 ^ size then
      (rz 0x05A (some p) 0 (cntInc (regSetFld s stat 31 1 1) drop), false)
    else
      let a := pairGet s (Reg.CMDPROC_RING_BASE p r) % 2 ^ 48 + pi % 2 ^ size * 32
      match accessCheck s p 7 .write a 32 with
      | (.ok _, s1) =>
        (regPut (devWrite s1 a (mk (pi / 2 ^ size % 2))) (Reg.CMDPROC_RING_PI p r)
          (BitVec.ofNat 32 ((pi + 1) % 2 ^ 17)), true)
      | (.refused ne, s1) =>
        (violation rz 0x20 p 7 (if ne then 3 else 1) a (cntInc (regSetFld s1 stat 30 1 1) drop), false)
      | (.hole, s1) | (.unreachable, s1) =>
        (violation rz 0x20 p 7 1 a (cntInc (regSetFld s1 stat 30 1 1) drop), false)

/-- Signal or poison the valid SIG pegs of a dowel (R329). -/
def signalSigs (st : DSt) (desc : List Byte) (s : State) : State :=
  (List.range 4).foldl (fun acc i =>
    match descSig desc i with
    | some (n, v) =>
      match st with
      | .doneOk | .doneReplayed | .expired => pegSignal acc n (.add v)
      | .doneFault | .cancelled | .superseded | .split => pegPoison acc n
      | .free | .queued | .running => acc
    | none => acc) s

/-- The part of a peer's job ends: its home learns of a fault or a stop that it did not ask for, and the slot is forgotten
(R662, R664). -/
def endPart (slot fault : Nat) (s : State) : State :=
  let d := dowelGet s slot
  let h := handleOf s slot % 2 ^ 32
  let s1 := if d.reported then s
    else
      match d.faultBy with
      | some (r, c) => sendCtl (.fault h r c) s
      | none => sendCtl (.stopped h fault) s
  dowelPut s1 slot {}

/-- The home device tells the peer that a spanning job is over. -/
def tellPeer (slot : Nat) (s : State) : State :=
  if (dowelGet s slot).spanning && decide (slot < 65536) && twinJoined s then sendCtl (.stop (handleOf s slot)) s else s

/-- The primary gives up a PARTITION_CONFIG that it has forwarded (R656). -/
def tellDrop (slot : Nat) (st : DSt) (s : State) : State :=
  match (dowelGet s slot).kind with
  | .config _ _ => if joinedPrimary s && decide (st ≠ .doneOk) then sendCtl (.drop (handleOf s slot)) s else s
  | _ => s

/-- A participant of the collective lies on the peer (R672). -/
def collSpans (s : State) (req : List Byte) : Bool :=
  (List.range 64).any (fun n => (leAt req 4 8).testBit n && isPeerNumber s n)

/-- A collective ends: RESPEG is poisoned unless it ended DONE_OK (R702, R704), and the peer is told. A job that ends is noted in
the collectives that it owns (R701). -/
def collClose (slot : Nat) (st : DSt) (s : State) : State :=
  let h := handleOf s slot
  let d := dowelGet s slot
  let note : Option Coll → Option Coll := fun c => c.map (fun c =>
    if leAt c.req 44 4 = h ∧ c.peerHandle.isNone ∧ c.part = d.part ∧ slot < 65536 ∧ 0 < h then { c with ownerEnd := some st } else c)
  let s1 := { s with fc := { s.fc with colls := s.fc.colls.map (fun e => (e.1, note e.2)) } }
  match d.kind with
  | .coll =>
    let mine : Option Coll → Bool := fun c => match c with | some c => c.peerHandle.isNone && decide (c.slot = slot) | none => false
    let s2 := { s1 with fc := { s1.fc with colls := s1.fc.colls.filter (fun e => !mine e.2) } }
    let s3 := if st = .doneOk then s2 else pegPoison s2 (leAt d.payload 26 2 % 2048)
    if twinJoined s3 && collSpans s3 d.payload then sendCtl (.collEnd h (decide (st ≠ .doneOk))) s3 else s3
  | _ => s1

/-- A dowel becomes terminal: the record is written, the SIG pegs are signalled or poisoned, the MSI is sent; AUTOFREE
frees a slot whose record was written; the age channel of a JOB takes its event; an EXPIRED dowel raises JOB_EXPIRED
(R313–R317, R329, R468, R469). A dowel that never ran ends at the time it becomes terminal (R314). -/
def completeDowel (rz : Raiser) (slot : Nat) (st : DSt) (fault : Nat) (s0 : State) : State :=
  let s := if 65536 ≤ slot then endPart slot fault s0 else tellDrop slot st (tellPeer slot s0)
  let d := dowelGet s slot
  if d.st = .queued ∨ d.st = .running then
    let p := d.part
    let r := leAt d.desc 7 1 % 8
    let endTime := if d.ended then d.endTime else workTime s
    let s1 := updDrop (dowelPut s slot { d with st := st, fault := fault, updating := false }) slot
    let (s2, wrote) := writeRecord rz p r (completionRecord s1 slot d st fault endTime) s1
    let s3 := collClose slot st (signalSigs st d.desc s2)
    let s4 := if (leAt d.desc 1 1).testBit 0 then msi s3 p (regFld s3 (Reg.CMDPROC_RING_CFG p r) 0 8) else s3
    let ch := leAt d.desc 6 1
    let s5 := if decide (d.kind = .job) && decide (st = .doneOk ∨ st = .doneReplayed ∨ st = .expired) && decide (ch < 64) &&
        regBit s4 (Reg.SAFETY_AGE_CFG ch) 31 && !regBit s4 (Reg.SAFETY_AGE_CFG ch) 30 then
        ageEvents s4 [(ch, leAt d.desc 16 8 % 2 ^ 48 + 4 * regFld s4 (Reg.SAFETY_AGE_CFG ch) 0 10)]
      else s4
    let s6 := if st = .expired then rz 0x054 (some p) (handleOf s slot) s5 else s5
    if wrote && (leAt d.desc 1 1).testBit 1 then freeSlot s6 slot else s6
  else s

/-! Bays leaving a job. -/

/-- No entry of a hand context is in a queue of its bay. -/
def ctxIdle (b : Bay) (filler : Bool) : Bool :=
  (b.matrixQ ++ b.dmaQ ++ b.jointerQ).all (fun e => decide (e.filler ≠ filler))

/-- Drop the entries of a context that have not started (R202 step 2, R107). -/
def dropUnstarted (b : Bay) (filler : Bool) : Bay :=
  let keep := fun (e : QEntry) => decide (e.filler ≠ filler) || e.started
  { b with matrixQ := b.matrixQ.filter keep, dmaQ := b.dmaQ.filter keep, jointerQ := b.jointerQ.filter keep }

/-- The hand contexts that run the job of a handle. -/
def jobHands (s : State) (handle : Nat) : List Hand :=
  (List.range bayCount).flatMap (fun pb =>
    let b := bayGet s pb
    (if b.main.active && decide (b.main.handle = handle) then [{ pb := pb }] else []) ++
    (if b.filler.active && decide (b.filler.handle = handle) then [{ pb := pb, filler := true }] else []))

/-- A context leaves its job: its flags and divergence count join the dowel (R104, R400), a filler left alone moves to the
main context (R591), a bay left empty becomes IDLE (R105), and the last bay of a job marks the job's end (R309). -/
def endContext (s : State) (h : Hand) : State :=
  let b := bayGet s h.pb
  let c := handOf b h.filler
  let gone := b.setHand h.filler { c with active := false, wait := .none, arrived := false }
  let b1 := if !h.filler && b.filler.active then { gone with main := b.filler, filler := {} } else gone
  let b2 := if b1.main.active || b1.filler.active then b1
    else { b1 with st := .idle, drain := false, idleSince := s.tb.elapsed }
  let s1 := bayPut s h.pb b2
  let s2 := { s1 with safety := { s1.safety with lastJob := tabPut 0 s1.safety.lastJob h.pb (c.handle % 2 ^ 24) } }
  let slot := slotOf c.handle
  let d := dowelGet s2 slot
  let last := (jobHands s2 c.handle).isEmpty && d.savedBays.isEmpty
  dowelPut s2 slot
    { d with
      flags := d.flags.or c.regs.flags.sticky
      div := d.div + c.divcnt
      ended := last
      endTime := if last then workTime s2 else d.endTime
      endNs := if last then s2.tb.elapsed else d.endNs }

/-- A RUNNING bay's context that has ended or is stopped leaves its job once its queued work has completed (R202, R209). -/
def settle (s : State) (h : Hand) : State :=
  let b := bayGet s h.pb
  let c := handOf b h.filler
  if decide (b.st = .running) && c.active && (c.ended || c.stopped) && ctxIdle b h.filler then endContext s h else s

/-- Stop one context by the steps of R202, without a record. -/
def stopHand (s : State) (h : Hand) : State :=
  let s1 := bayMod s h.pb (fun b =>
    (dropUnstarted b h.filler).setHand h.filler { handOf b h.filler with stopped := true, wait := .none })
  settle s1 h

/-- Stop a RUNNING job on every bay by the steps of R202 and give it the terminal state it will take; it completes at once
when no bay is left in it (R202, R320, R491). -/
def stopJob (rz : Raiser) (slot : Nat) (st : DSt) (fault : Nat) (s : State) : State :=
  let handle := handleOf s slot
  let s1 := (jobHands s handle).foldl stopHand (tellPeer slot s)
  let d := dowelGet s1 slot
  let s2 := dowelPut s1 slot
    { d with
      ending := some st, fault := fault, suspended := false, held := false, gateLeft := [], replayDue := false, asked := false,
      div := d.div + d.savedDiv, flags := d.flags.or d.savedFlags, savedBays := [], savedDiv := 0, savedFlags := {} }
  if (jobHands s2 handle).isEmpty then completeDowel rz slot st fault s2 else s2

/-- End a dowel that is not yet terminal with a given state: a QUEUED one completes at once, a RUNNING one is stopped. -/
def endDowel (rz : Raiser) (slot : Nat) (st : DSt) (fault : Nat) (s : State) : State :=
  match (dowelGet s slot).st with
  | .queued => completeDowel rz slot st fault s
  | .running => if (dowelGet s slot).kind = .job ∨ (dowelGet s slot).kind = .child then stopJob rz slot st fault s
    else completeDowel rz slot st fault s
  | .free | .doneOk | .doneReplayed | .doneFault | .cancelled | .expired | .superseded | .split => s

/-- Partition stop (R491): the partition is marked STOPPED, its RUNNING jobs stop, and its QUEUED and RUNNING dowels
complete DONE_FAULT with `code`. A partition already STOPPED is left as it is (R500). -/
def partitionStop (rz : Raiser) (p code : Nat) (s : State) : State :=
  if s.safety.stopped.getLsbD p then s
  else
    let s1 := { s with safety := { s.safety with stopped := s.safety.stopped ||| BitVec.ofNat 32 (2 ^ p) } }
    let s2 := { s1 with cmd := { s1.cmd with batches := s1.cmd.batches.filter (fun b => decide (b.part ≠ p)) } }
    let mine := (s2.cmd.slots.filter (fun (_, d) => decide (d.part = p) && (decide (d.st = .queued) || decide (d.st = .running)))).map (·.1)
    mine.foldl (fun st slot => endDowel rz slot .doneFault code st) s2

/-- Safe state (R493): every partition but P0 is stopped with code 0x4002 and the pins are held low. The partitions it
stopped are remembered for SAFE_STATE_EXIT (R494). -/
def enterSafe (rz : Raiser) (s : State) : State :=
  if s.safety.safe then s
  else
    let running := (rangeFrom 1 7).filter (fun p => !s.safety.stopped.getLsbD p)
    let s1 := pinsUpdate { s with safety := { s.safety with safe := true, safeStopped := running } }
    running.foldl (fun st p => partitionStop rz p 0x4002 st) s1

/-- One fault report at the aggregator (R482–R486). `ovr` overrides the source's class (BAY_DROPPED as CRITICAL, R424);
`floor` is a reaction the source's own rule adds (R48). The first argument bounds the reports that the reaction itself
causes: each nested stop marks one more partition, so the bound is never met. -/
def raiseN : Nat → Option Nat → Nat → Nat → Option Nat → Nat → State → State
  | 0, _, _, _, _, _, s => s
  | k + 1, ovr, floor, src, part, detail, s =>
    match srcClass src with
    | none => s
    | some c0 =>
      let cls := ovr.getD c0
      let rz : Raiser := raiseN k none 0
      let f := fsrc s src
      let s1 := fsrcPut s src
        { f with pend := true, count := min (f.count + 1) 0xFFFF, critPend := f.critPend || decide (ovr = some 2)
                 parts := match part with | some p => f.parts ||| 2 ^ p | none => f.parts }
      let r := chooseReact s1 src cls
      let s2 := if r.tie then cntInc s1 Reg.SAFETY_TIE else s1
      let code := if r.code = 2 ∧ part = none then 3 else r.code
      let s3 := pinsUpdate (logRecord s2 src (faultRecord s2 src cls part r (max code floor) detail))
      let s4 := if 1 ≤ code then msi s3 (part.getD 0) r.tgt else s3
      let s5 := match part with
        | some p => if code = 2 ∨ floor = 2 then partitionStop rz p 0x4001 s4 else s4
        | none => s4
      if code = 3 ∨ floor = 3 then enterSafe rz s5 else s5

/-- Report a fault (R482). -/
def raise : Raiser := raiseN 12 none 0

/-- Report BAY_DROPPED as CRITICAL (R424, R436). -/
def raiseCritical (src : Nat) (part : Option Nat) (detail : Nat) (s : State) : State := raiseN 12 (some 2) 0 src part detail s

/-- Report a fault whose rule adds a reaction of its own (R48). -/
def raiseWith (floor src : Nat) (part : Option Nat) (detail : Nat) (s : State) : State := raiseN 12 none floor src part detail s

end Sys2Proof.Machine
end

