-- ==== Sys2Proof/Machine/Fence.lean ====
section
/-!
DEFINITION. Fence events and fault entry: isolating a bay (R106, R107), which jobs are replayed (R431), the choice and
test of a spare (R428, R429), Penyca fault entry (R202, R203) and the start of a plumb run (R457, R171).
-/

namespace Sys2Proof.Machine

/-- The bay is a spare: good, not fenced or retired, and holds no logical number (R421). -/
def isSpare (s : State) (pb : Nat) : Bool :=
  decide (pb < bayCount) && (pbLogical s pb).isNone && !s.repair.badBays.getLsbD pb &&
    decide ((bayGet s pb).st ≠ .retired) && decide ((bayGet s pb).st ≠ .fenced)

/-- A spare not already chosen for another number. -/
def freeSpare (s : State) (pb : Nat) : Bool :=
  isSpare s pb && s.repair.substs.all (fun x => decide (x.spare ≠ some pb))

/-- The physical bent whose jointer serves logical bay `n`'s bent (R251, R428). -/
def servingBent (s : State) (n : Nat) : Option Nat :=
  match tabGet 0 s.jmap (n % 32 / 4) with
  | 0 => none
  | k + 1 => some k

/-- The spare of R428: the lowest in the physical bent whose jointer serves the number's bent, else the lowest of all. -/
def chooseSpare (s : State) (n : Nat) : Option Nat :=
  let sp := (List.range bayCount).filter (freeSpare s)
  match sp.find? (fun pb => decide (servingBent s n = some (pb / 4))) with
  | some pb => some pb
  | none => sp.head?

/-- Start a plumb run on an IDLE bay: the plumb program at slot 0 of panel 0, signature 0 (R171, R242, R457). -/
def startPlumb (s : State) (pb : Nat) (why : Nat) : State :=
  let s1 := bayMod s pb (fun b =>
    { b with
      st := .plumb, plumbFor := why, gated := false, phaseSince := s.tb.elapsed, cache := [], badAhead := [],
      main := { b.main with
        active := true, pc := 0, ended := false, stopped := false, wait := .none, progid := 0xFFFF, handle := 0,
        plumbSig := 0 } })
  { s1 with safety := { s1.safety with plumbRuns := tabModify 0 s1.safety.plumbRuns pb (· + 1) } }

/-- Zero a bay store (R429, R354). -/
def zeroStore (s : State) (pb : Nat) : State := bayMod s pb (fun b => { b with store := [] })

/-- Give a substitution its spare: its store is zeroed and its plumb run starts (R428, R429); `why` 3 marks a spare's run. -/
def serveSubst (s : State) (x : Subst) : State :=
  let sp := chooseSpare s x.lb
  let l := s.repair.substs.map (fun y => if y.lb = x.lb then { y with spare := sp, passed := false } else y)
  let s1 := { s with repair := { s.repair with substs := l } }
  match sp with
  | some pb => startPlumb (zeroStore s1 pb) pb 3
  | none => s1

/-- The logical bays of a dowel's job (R295). -/
def jobBays (d : Dowel) : List Nat := rangeFrom (leAt d.desc 5 1) (leAt d.desc 4 1)

/-- The RUNNING, not suspended jobs that have a bay on logical number `n` (R431). -/
def jobsOn (s : State) (n : Nat) : List Nat :=
  (s.cmd.slots.filter (fun (_, d) =>
    decide (d.st = .running) && (decide (d.kind = .job) || decide (d.kind = .child)) && !d.suspended && d.ending.isNone && !d.reported &&
      (jobBays d).contains n)).map (·.1)

/-- Mark a job for replay after its retirement point: its other bays on this device stop (R431 step 1); an unreplayable job
completes DONE_FAULT 0x3001 instead (R433). -/
def markHere (rz : Raiser) (s : State) (slot : Nat) : State :=
  if (dowelGet s slot).unreplayable then stopJob rz slot .doneFault 0x3001 s
  else
    let s1 := dowelMod s slot (fun d =>
      { d with
        replayDue := true, held := false, gateLeft := [], savedBays := [], savedDiv := 0, savedFlags := {}
        asked := false, granted := false, startAt := none, peerEnded := false, reported := false })
    (jobHands s1 (handleOf s1 slot)).foldl stopHand s1

/-- Mark a job for replay on this device and, for a spanning job, on the other (R663, R675). -/
def markReplay (rz : Raiser) (s : State) (slot : Nat) : State :=
  let d := dowelGet s slot
  markHere rz (if d.spanning && twinJoined s && !d.replayDue then sendCtl (.replay (decide (slot < 65536)) (handleOf s slot % 2 ^ 32)) s else s) slot

/-- The parts of a bay that fencing takes away: its queues, its contexts and its panel cache; it keeps nothing (R105, R107,
R287). -/
def isolate (b : Bay) : Bay :=
  { b with
    matrixQ := [], dmaQ := [], jointerQ := [], cache := [], badAhead := [], drain := false, plumbFor := 0,
    main := { b.main with active := false, wait := .none, arrived := false },
    filler := { b.filler with active := false, wait := .none, arrived := false } }

/-- A fence event on a physical bay with its CAUSE (R106, R107, R428, R429, R451). A spare that is fenced is retired and
raises SPARE_FAILED; a bay that holds a number is FENCED, its jobs are marked for replay, and a spare is chosen. -/
def fenceBay (rz : Raiser) (pb cause : Nat) (s : State) : State :=
  let b := bayGet s pb
  if b.st = .fenced ∨ b.st = .retired then s
  else
    match pbLogical s pb with
    | none =>
      let s1 := rz 0x062 none 0 (bayPut s pb { isolate b with st := .retired })
      match s1.repair.substs.find? (fun x => decide (x.spare = some pb)) with
      | some x => serveSubst s1 x
      | none => s1
    | some n =>
      let s1 := bayPut s pb { isolate b with st := .fenced }
      let s2 := regPut s1 (Reg.BAY_FENCE n) (BitVec.ofNat 32 (2 ^ 31 + pb * 256 + cause))
      let s3 := (jobsOn s2 n).foldl (markReplay rz) s2
      let stopping := (s3.cmd.slots.filter (fun (k, d) =>
        decide (d.st = .running) && d.ending.isSome && (jobHands s3 (handleOf s3 k)).isEmpty)).map (·.1)
      let s4 := stopping.foldl (fun st k =>
        match (dowelGet st k).ending with
        | some t => completeDowel rz k t (dowelGet st k).fault st
        | none => st) s3
      let x : Subst := { lb := n, pb := pb, cause := cause }
      serveSubst { s4 with repair := { s4.repair with substs := s4.repair.substs ++ [x] } } x

/-- A plumb mismatch: PLUMB_MISMATCH with the bay and the last job in DETAIL, and the fence event (R459). -/
def plumbMismatch (rz : Raiser) (pb : Nat) (s : State) : State :=
  let part := (pbLogical s pb).bind (bayOwner s)
  fenceBay rz pb 1 (rz 0x050 part (pb * 2 ^ 24 + tabGet 0 s.safety.lastJob pb) s)

/-- Penyca fault entry of a hand context (R202, R203): the fault is recorded in BAY_FAULT when it is armed, BAY_ICHECK or
BAY_PROGRAM is raised, issue stops, entries that have not started are dropped, and the bay leaves RUNNING when the started
ones have completed. Under the plumb program any fault is a mismatch. `origin`: 0 hand, 1 matrix, 2 DMA, 3 jointer. -/
def takeFault (rz : Raiser) (h : Hand) (code origin : Nat) (pc : Addr) (s : State) : State :=
  let b := bayGet s h.pb
  let c := handOf b h.filler
  if b.st = .plumb then plumbMismatch rz h.pb s
  else
    let s1 := match pbLogical s h.pb with
      | some n =>
        if regBit s (Reg.BAY_FAULT n) 31 then s
        else pairPut (regPut s (Reg.BAY_FAULT n) (BitVec.ofNat 32 (2 ^ 31 + origin * 65536 + code)))
          (Reg.BAY_FAULT_PC n) (pc % 2 ^ 48)
      | none => s
    let slot := slotOf c.handle
    let s2 := dowelMod s1 slot (fun d =>
      match d.faultBy with
      | some (r, _) => if c.rank < r then { d with faultBy := some (c.rank, code) } else d
      | none => { d with faultBy := some (c.rank, code) })
    let s3 := handMod s2 h (fun c => { c with faultCode := code })
    let cls := code / 256
    let s4 := rz (if cls = 2 ∨ cls = 3 then 0x052 else 0x053) (some c.part) 0 s3
    if (handGet s4 h).active then stopHand s4 h else s4

end Sys2Proof.Machine
end

