-- ==== Sys2Proof/Machine/Opcode.lean ====
section
/-!
DEFINITION. The Penyca opcode map (R205) and the class tables of chapter 6: one row per instruction, with its major
opcode, its function code and the bits it uses; every other bit is reserved and must be 0 (R206).
-/

namespace Sys2Proof.Machine

/-- The Penyca instructions of chapter 6, in the order of the class tables. MXFER is three, by its XMODE. -/
inductive Op where
  | add | sub | and | or | xor | andn | min | max | minu | maxu | addi | andi | ori | xori | li | sll | srl
  | sra | ror | slli | srli | srai | rori | extu | exts | ins | mul | mulh | mulhu | div | divu | rem | remu
  | seq | sne | slt | sltu | sel | vext | vins | ktos | ktosh | stok | popc | clz | ctz | beq | bne | blt
  | bge | bltu | bgeu | bra | jal | jr | loop | waitq | fence | trap | endP | nop | vadd | vsub | vmul | vmin
  | vmax | vdiv | vsqrt | vabs | vneg | vfma | vfms | vfnma | vfnms | vceq | vcne | vclt | vcle | vcgt | vcge
  | vcvt | viadd | visub | vimul | vimin | vimax | vand | vor | vxor | vsll | vsrl | vsra | vbcast | vperm
  | vsel | vmov | kand | kor | kxor | knot | kpop | vrsum | vrmax | vrmin | vrisum | mloadw | mstream
  | mdrain | mclear | mxferStore | mxferAdd | mxferLoad | mstat | ld | lds | st | vld | vst | copy | scopy
  | dld | dst | pref | jgather | jscato | jscatu | jsegpack | jcompact | jsort | jhparto | jhpartu | jisect
  | jtopk | jstat | jwait | padd | pset | parrive | pwait | pwany | tread | twait | pcount | ptarget | pstamp
  | mfsr | mtsr | plbfold | plbgold | plbdone
  deriving DecidableEq, Repr

/-- What an instruction's lane format LF must be (R120, R151, R223, R248). -/
inductive LfKind where
  /-- LF is not used: reserved -/
  | none
  /-- a floating-point lane format of vector arithmetic -/
  | fp
  /-- FP32 only -/
  | fp32
  /-- an integer lane format -/
  | int
  /-- a lane width only: codes 0x0–0x7 and 0x9 (R223) -/
  | move
  /-- a conversion: LF and LF2 accepted by vector conversion -/
  | cvt
  deriving DecidableEq, Repr

/-- One row of the opcode map: the instruction, its major opcode, its FN where the format has one (VCVT's FN is a segment
number and is judged by R227), the bits it uses, its lane-format rule, and which of RD, RA, RB name a mask register
(bit 0, 1, 2) (R220). -/
structure OpRow where
  op : Op
  major : Nat
  fn : Option Nat
  used : Nat
  lf : LfKind
  kregs : Nat
  deriving DecidableEq, Repr

/-- The rows of major opcodes 0x00–0x07. -/
def opRows0 : List OpRow := [
  ⟨.add, 0x00, some 0x00, 0xFFFFFFE000000000, .none, 0⟩,
  ⟨.sub, 0x00, some 0x01, 0xFFFFFFE000000000, .none, 0⟩,
  ⟨.and, 0x00, some 0x02, 0xFFFFFFE000000000, .none, 0⟩,
  ⟨.or, 0x00, some 0x03, 0xFFFFFFE000000000, .none, 0⟩,
  ⟨.xor, 0x00, some 0x04, 0xFFFFFFE000000000, .none, 0⟩,
  ⟨.andn, 0x00, some 0x05, 0xFFFFFFE000000000, .none, 0⟩,
  ⟨.min, 0x00, some 0x06, 0xFFFFFFE000000000, .none, 0⟩,
  ⟨.max, 0x00, some 0x07, 0xFFFFFFE000000000, .none, 0⟩,
  ⟨.minu, 0x00, some 0x08, 0xFFFFFFE000000000, .none, 0⟩,
  ⟨.maxu, 0x00, some 0x09, 0xFFFFFFE000000000, .none, 0⟩,
  ⟨.addi, 0x01, some 0x00, 0xFFFFFC00FFFFFFFF, .none, 0⟩,
  ⟨.andi, 0x01, some 0x02, 0xFFFFFC00FFFFFFFF, .none, 0⟩,
  ⟨.ori, 0x01, some 0x03, 0xFFFFFC00FFFFFFFF, .none, 0⟩,
  ⟨.xori, 0x01, some 0x04, 0xFFFFFC00FFFFFFFF, .none, 0⟩,
  ⟨.li, 0x02, none, 0xFFE0FFFFFFFFFFFF, .none, 0⟩,
  ⟨.sll, 0x03, some 0x00, 0xFFFFFFE000000000, .none, 0⟩,
  ⟨.srl, 0x03, some 0x01, 0xFFFFFFE000000000, .none, 0⟩,
  ⟨.sra, 0x03, some 0x02, 0xFFFFFFE000000000, .none, 0⟩,
  ⟨.ror, 0x03, some 0x03, 0xFFFFFFE000000000, .none, 0⟩,
  ⟨.slli, 0x03, some 0x20, 0xFFFFFC000000003F, .none, 0⟩,
  ⟨.srli, 0x03, some 0x21, 0xFFFFFC000000003F, .none, 0⟩,
  ⟨.srai, 0x03, some 0x22, 0xFFFFFC000000003F, .none, 0⟩,
  ⟨.rori, 0x03, some 0x23, 0xFFFFFC000000003F, .none, 0⟩,
  ⟨.extu, 0x03, some 0x24, 0xFFFFFC0000003F3F, .none, 0⟩,
  ⟨.exts, 0x03, some 0x25, 0xFFFFFC0000003F3F, .none, 0⟩,
  ⟨.ins, 0x03, some 0x26, 0xFFFFFC0000003F3F, .none, 0⟩,
  ⟨.mul, 0x04, some 0x00, 0xFFFFFFE000000000, .none, 0⟩,
  ⟨.mulh, 0x04, some 0x01, 0xFFFFFFE000000000, .none, 0⟩,
  ⟨.mulhu, 0x04, some 0x02, 0xFFFFFFE000000000, .none, 0⟩,
  ⟨.div, 0x04, some 0x08, 0xFFFFFFE000000000, .none, 0⟩,
  ⟨.divu, 0x04, some 0x09, 0xFFFFFFE000000000, .none, 0⟩,
  ⟨.rem, 0x04, some 0x0A, 0xFFFFFFE000000000, .none, 0⟩,
  ⟨.remu, 0x04, some 0x0B, 0xFFFFFFE000000000, .none, 0⟩,
  ⟨.seq, 0x05, some 0x00, 0xFFFFFFE000000000, .none, 0⟩,
  ⟨.sne, 0x05, some 0x01, 0xFFFFFFE000000000, .none, 0⟩,
  ⟨.slt, 0x05, some 0x02, 0xFFFFFFE000000000, .none, 0⟩,
  ⟨.sltu, 0x05, some 0x03, 0xFFFFFFE000000000, .none, 0⟩,
  ⟨.sel, 0x05, some 0x08, 0xFFFFFFFF00000000, .none, 0⟩,
  ⟨.vext, 0x06, some 0x00, 0xFFFFFFE00F000000, .move, 0⟩,
  ⟨.vins, 0x06, some 0x01, 0xFFFFFFE00F000000, .move, 0⟩,
  ⟨.ktos, 0x06, some 0x02, 0xFFFFFC0000000000, .none, 2⟩,
  ⟨.ktosh, 0x06, some 0x03, 0xFFFFFC0000000000, .none, 2⟩,
  ⟨.stok, 0x06, some 0x04, 0xFFFFFFE000000000, .none, 1⟩,
  ⟨.popc, 0x07, some 0x00, 0xFFFFFC0000000000, .none, 0⟩,
  ⟨.clz, 0x07, some 0x01, 0xFFFFFC0000000000, .none, 0⟩,
  ⟨.ctz, 0x07, some 0x02, 0xFFFFFC0000000000, .none, 0⟩]

/-- The rows of major opcodes 0x08–0x0F. -/
def opRows1 : List OpRow := [
  ⟨.beq, 0x08, some 0x00, 0xFFF07FE0FFFFFFFF, .none, 0⟩,
  ⟨.bne, 0x08, some 0x01, 0xFFF07FE0FFFFFFFF, .none, 0⟩,
  ⟨.blt, 0x08, some 0x02, 0xFFF07FE0FFFFFFFF, .none, 0⟩,
  ⟨.bge, 0x08, some 0x03, 0xFFF07FE0FFFFFFFF, .none, 0⟩,
  ⟨.bltu, 0x08, some 0x04, 0xFFF07FE0FFFFFFFF, .none, 0⟩,
  ⟨.bgeu, 0x08, some 0x05, 0xFFF07FE0FFFFFFFF, .none, 0⟩,
  ⟨.bra, 0x08, some 0x06, 0xFFF00000FFFFFFFF, .none, 0⟩,
  ⟨.jal, 0x09, some 0x00, 0xFFFF8000FFFFFFFF, .none, 0⟩,
  ⟨.jr, 0x09, some 0x01, 0xFFFFFC0000000000, .none, 0⟩,
  ⟨.loop, 0x0A, some 0x00, 0xFFFF8000FFFFFFFF, .none, 0⟩,
  ⟨.waitq, 0x0B, some 0x00, 0xFFF0000000000007, .none, 0⟩,
  ⟨.fence, 0x0C, some 0x00, 0xFFF0000000000000, .none, 0⟩,
  ⟨.trap, 0x0D, some 0x00, 0xFFF00000000000FF, .none, 0⟩,
  ⟨.endP, 0x0E, some 0x00, 0xFFF0000000000000, .none, 0⟩,
  ⟨.nop, 0x0F, some 0x00, 0xFFF0000000000000, .none, 0⟩]

/-- The rows of major opcodes 0x10–0x17. -/
def opRows2 : List OpRow := [
  ⟨.vadd, 0x10, some 0x00, 0xFFFFFFE0FFC00000, .fp, 0⟩,
  ⟨.vsub, 0x10, some 0x01, 0xFFFFFFE0FFC00000, .fp, 0⟩,
  ⟨.vmul, 0x10, some 0x02, 0xFFFFFFE0FFC00000, .fp, 0⟩,
  ⟨.vmin, 0x10, some 0x03, 0xFFFFFFE0FFC00000, .fp, 0⟩,
  ⟨.vmax, 0x10, some 0x04, 0xFFFFFFE0FFC00000, .fp, 0⟩,
  ⟨.vdiv, 0x10, some 0x05, 0xFFFFFFE0FFC00000, .fp32, 0⟩,
  ⟨.vsqrt, 0x10, some 0x06, 0xFFFFFC00FFC00000, .fp32, 0⟩,
  ⟨.vabs, 0x10, some 0x07, 0xFFFFFC00FFC00000, .fp, 0⟩,
  ⟨.vneg, 0x10, some 0x08, 0xFFFFFC00FFC00000, .fp, 0⟩,
  ⟨.vfma, 0x11, some 0x00, 0xFFFFFFFFFFC00000, .fp, 0⟩,
  ⟨.vfms, 0x11, some 0x01, 0xFFFFFFFFFFC00000, .fp, 0⟩,
  ⟨.vfnma, 0x11, some 0x02, 0xFFFFFFFFFFC00000, .fp, 0⟩,
  ⟨.vfnms, 0x11, some 0x03, 0xFFFFFFFFFFC00000, .fp, 0⟩,
  ⟨.vceq, 0x12, some 0x00, 0xFFFFFFE0FFC00000, .fp, 1⟩,
  ⟨.vcne, 0x12, some 0x01, 0xFFFFFFE0FFC00000, .fp, 1⟩,
  ⟨.vclt, 0x12, some 0x02, 0xFFFFFFE0FFC00000, .fp, 1⟩,
  ⟨.vcle, 0x12, some 0x03, 0xFFFFFFE0FFC00000, .fp, 1⟩,
  ⟨.vcgt, 0x12, some 0x04, 0xFFFFFFE0FFC00000, .fp, 1⟩,
  ⟨.vcge, 0x12, some 0x05, 0xFFFFFFE0FFC00000, .fp, 1⟩,
  ⟨.vcvt, 0x13, none, 0xFFFFFC00FFFE0000, .cvt, 0⟩,
  ⟨.viadd, 0x14, some 0x00, 0xFFFFFFE0FF200000, .int, 0⟩,
  ⟨.visub, 0x14, some 0x01, 0xFFFFFFE0FF200000, .int, 0⟩,
  ⟨.vimul, 0x14, some 0x02, 0xFFFFFFE0FF200000, .int, 0⟩,
  ⟨.vimin, 0x14, some 0x03, 0xFFFFFFE0FF000000, .int, 0⟩,
  ⟨.vimax, 0x14, some 0x04, 0xFFFFFFE0FF000000, .int, 0⟩,
  ⟨.vand, 0x14, some 0x05, 0xFFFFFFE0FF000000, .int, 0⟩,
  ⟨.vor, 0x14, some 0x06, 0xFFFFFFE0FF000000, .int, 0⟩,
  ⟨.vxor, 0x14, some 0x07, 0xFFFFFFE0FF000000, .int, 0⟩,
  ⟨.vsll, 0x14, some 0x08, 0xFFFFFFE0FF000000, .int, 0⟩,
  ⟨.vsrl, 0x14, some 0x09, 0xFFFFFFE0FF000000, .int, 0⟩,
  ⟨.vsra, 0x14, some 0x0A, 0xFFFFFFE0FF000000, .int, 0⟩,
  ⟨.vbcast, 0x15, some 0x00, 0xFFFFFC00FF000000, .move, 0⟩,
  ⟨.vperm, 0x15, some 0x01, 0xFFFFFFE0FF000000, .move, 0⟩,
  ⟨.vsel, 0x15, some 0x02, 0xFFFFFFE0FF000000, .move, 0⟩,
  ⟨.vmov, 0x15, some 0x03, 0xFFFFFC00FF000000, .move, 0⟩,
  ⟨.kand, 0x16, some 0x00, 0xFFFFFFE000000000, .none, 7⟩,
  ⟨.kor, 0x16, some 0x01, 0xFFFFFFE000000000, .none, 7⟩,
  ⟨.kxor, 0x16, some 0x02, 0xFFFFFFE000000000, .none, 7⟩,
  ⟨.knot, 0x16, some 0x03, 0xFFFFFC0000000000, .none, 3⟩,
  ⟨.kpop, 0x16, some 0x04, 0xFFFFFC000F000000, .move, 2⟩,
  ⟨.vrsum, 0x17, some 0x00, 0xFFFFFC00FFC00000, .fp, 0⟩,
  ⟨.vrmax, 0x17, some 0x01, 0xFFFFFC00FFC00000, .fp, 0⟩,
  ⟨.vrmin, 0x17, some 0x02, 0xFFFFFC00FFC00000, .fp, 0⟩,
  ⟨.vrisum, 0x17, some 0x03, 0xFFFFFC00FF000000, .int, 0⟩]

/-- The rows of major opcodes 0x18–0x1F. -/
def opRows3 : List OpRow := [
  ⟨.mloadw, 0x18, none, 0xFFFFFFFFFFFFFFFF, .none, 0⟩,
  ⟨.mstream, 0x19, none, 0xFFFFFFFFFFFFFFFF, .none, 0⟩,
  ⟨.mdrain, 0x1A, none, 0xFFFFFFFFFFFFFFFF, .none, 0⟩,
  ⟨.mclear, 0x1B, none, 0xFFFFFFFFFFFFFFFF, .none, 0⟩,
  ⟨.mxferStore, 0x1C, none, 0xFFFFFFFFFFFFFFFF, .none, 0⟩,
  ⟨.mxferAdd, 0x1C, none, 0xFFFFFFFFFFFFFFFF, .none, 0⟩,
  ⟨.mxferLoad, 0x1C, none, 0xFFFFFFFFFFFFFFFF, .none, 0⟩,
  ⟨.mstat, 0x1D, none, 0xFFFFFFFFFFFFFFFF, .none, 0⟩]

/-- The rows of major opcodes 0x20–0x27. -/
def opRows4 : List OpRow := [
  ⟨.ld, 0x20, some 0x00, 0xFFFFFF80FFFFFFFF, .none, 0⟩,
  ⟨.lds, 0x20, some 0x01, 0xFFFFFF80FFFFFFFF, .none, 0⟩,
  ⟨.st, 0x21, some 0x00, 0xFFFFFF80FFFFFFFF, .none, 0⟩,
  ⟨.vld, 0x22, some 0x00, 0xFFFFFFF8FFFFFFFF, .none, 0⟩,
  ⟨.vst, 0x23, some 0x00, 0xFFFFFFF8FFFFFFFF, .none, 0⟩,
  ⟨.copy, 0x24, some 0x00, 0xFFF000FFFFFFFFFF, .none, 0⟩,
  ⟨.scopy, 0x25, some 0x00, 0xFFFFF0003FFC0000, .none, 0⟩,
  ⟨.dld, 0x26, some 0x00, 0xFFFFFF80FFFFFFFF, .none, 0⟩,
  ⟨.dst, 0x26, some 0x01, 0xFFFFFF80FFFFFFFF, .none, 0⟩,
  ⟨.pref, 0x27, some 0x00, 0xFFFFF0003FFC0000, .none, 0⟩]

/-- The rows of major opcodes 0x28–0x2F. -/
def opRows5 : List OpRow := [
  ⟨.jgather, 0x28, some 0x00, 0xFFFFFFFFFFFFFFFF, .none, 0⟩,
  ⟨.jscato, 0x28, some 0x01, 0xFFFFFFFFFFFFFFFF, .none, 0⟩,
  ⟨.jscatu, 0x28, some 0x02, 0xFFFFFFFFFFFFFFFF, .none, 0⟩,
  ⟨.jsegpack, 0x29, some 0x00, 0xFFFFFFFFFFFFFFFF, .none, 0⟩,
  ⟨.jcompact, 0x29, some 0x01, 0xFFFFFFFFFFFFFFFF, .none, 0⟩,
  ⟨.jsort, 0x2A, some 0x00, 0xFFFFFFFFFFFFFFFF, .none, 0⟩,
  ⟨.jhparto, 0x2A, some 0x01, 0xFFFFFFFFFFFFFFFF, .none, 0⟩,
  ⟨.jhpartu, 0x2A, some 0x02, 0xFFFFFFFFFFFFFFFF, .none, 0⟩,
  ⟨.jisect, 0x2A, some 0x03, 0xFFFFFFFFFFFFFFFF, .none, 0⟩,
  ⟨.jtopk, 0x2A, some 0x04, 0xFFFFFFFFFFFFFFFF, .none, 0⟩,
  ⟨.jstat, 0x2B, some 0x00, 0xFFF000F800000000, .none, 0⟩,
  ⟨.jwait, 0x2B, some 0x01, 0xFFF000000000001F, .none, 0⟩,
  ⟨.padd, 0x2C, some 0x00, 0xFFFFFFFFFE1FFFFF, .none, 0⟩,
  ⟨.pset, 0x2C, some 0x01, 0xFFFFFFFFFE1FFFFF, .none, 0⟩,
  ⟨.parrive, 0x2C, some 0x02, 0xFFFF83FFFE000000, .none, 0⟩,
  ⟨.pwait, 0x2D, some 0x00, 0xFFFFFFFFFE1FFFFF, .none, 0⟩,
  ⟨.pwany, 0x2D, some 0x01, 0xFFFFFFFFFFFFFFFF, .none, 0⟩,
  ⟨.tread, 0x2E, some 0x00, 0xFFFF800000000000, .none, 0⟩,
  ⟨.twait, 0x2E, some 0x01, 0xFFF07C0000000000, .none, 0⟩,
  ⟨.pcount, 0x2F, some 0x00, 0xFFFF83FFFE000000, .none, 0⟩,
  ⟨.ptarget, 0x2F, some 0x01, 0xFFFF83FFFE000000, .none, 0⟩,
  ⟨.pstamp, 0x2F, some 0x02, 0xFFFF83FFFE000000, .none, 0⟩]

/-- The rows of major opcodes 0x30–0x37. -/
def opRows6 : List OpRow := [
  ⟨.mfsr, 0x30, some 0x00, 0xFFFF83FF00000000, .none, 0⟩,
  ⟨.mtsr, 0x30, some 0x01, 0xFFF07FFF00000000, .none, 0⟩,
  ⟨.plbfold, 0x30, some 0x10, 0xFFF07C0000000000, .none, 0⟩,
  ⟨.plbgold, 0x30, some 0x11, 0xFFFF800000000FFF, .none, 0⟩,
  ⟨.plbdone, 0x30, some 0x12, 0xFFF0000000000000, .none, 0⟩]

/-- The opcode map (R205). -/
def opRows : List OpRow := opRows0 ++ opRows1 ++ opRows2 ++ opRows3 ++ opRows4 ++ opRows5 ++ opRows6

/-- The row of an instruction. -/
def Op.row (o : Op) : Option OpRow := opRows.find? (fun r => decide (r.op = o))

/-- The major opcode is assigned (R205). -/
def majorAssigned (m : Nat) : Bool := opRows.any (fun r => decide (r.major = m))

/-- The MXFER of an XMODE; XMODE 3 is reserved and is judged as STORE's (R205, R230). -/
def mxferOp (w : Word64) : Op :=
  if MX.xmode w = 1 then .mxferAdd else if MX.xmode w = 2 then .mxferLoad else .mxferStore

/-- The instruction a word encodes, by major opcode and FN (R205); none for a reserved major or FN. -/
def opOf (w : Word64) : Option Op :=
  if majorOf w = 0x1C then some (mxferOp w)
  else
    (opRows.find? (fun r =>
      decide (r.major = majorOf w) && (match r.fn with | none => true | some f => decide (f = fnOf w)))).map (·.op)

/-- The instruction under whose name a word issues: its own; for a reserved FN the first row of its major opcode; for a
reserved major opcode NOP. The last two only ever fault ILLEGAL (R205). -/
def issuesAs (w : Word64) : Op :=
  match opOf w with
  | some o => o
  | none =>
    match opRows.find? (fun r => decide (r.major = majorOf w)) with
    | some r => r.op
    | none => .nop

/-- Bits [hi:lo] outside the used set are nonzero (R206). -/
def reservedSet (w : Word64) (used : Nat) : Bool := decide (w.toNat &&& (2 ^ 64 - 1 - used) ≠ 0)

/-- The bits an MX instruction uses under its options (R206, R230, R232 and the matrix instruction table). -/
def mxUsed (o : Op) (w : Word64) : Nat :=
  let line := MX.line w
  let base := 0x3F <<< 58
  let da := 0xF <<< 54
  let db := 0xF <<< 50
  let dc := 0xF <<< 46
  let wf := 0x3 <<< 44
  let wn := 0x3 <<< 42
  let a := 0x3 <<< 40
  let fmt := 0xF <<< 36
  let rm := 0x3 <<< 34
  let sat := 0x1 <<< 33
  let rs := 0x1F <<< 19
  let lineB := 0x1 <<< 24
  let firstB := 0x1 <<< 25
  let finalB := 0x1 <<< 26
  let clearB := 0x1 <<< 27
  let xm := 0x3 <<< 28
  match o with
  | .mloadw => base + wf + fmt + da
  | .mstream =>
    if line then base + wf + wn + fmt + da + db + lineB + firstB + finalB +
      (if MX.final w then dc + rm + sat + rs else 0)
    else base + wf + wn + fmt + da + a + lineB
  | .mdrain =>
    base + fmt + da + rm + sat + rs + lineB + (if line then db else a + clearB)
  | .mclear => base + lineB + (if line then db else a)
  | .mxferStore | .mxferAdd | .mxferLoad => base + a + da + xm
  | .mstat => base + rs
  | _ => 2 ^ 64 - 1

/-- The bits a jointer command uses (R256); with NOPAY or without WEIGHTED the payload and weight descriptors are
reserved. -/
def jointerUsed (o : Op) (w : Word64) : Nat :=
  let base := 0x3F <<< 58 + 0x3F <<< 52 + 1 <<< 29 + 0x7FF <<< 18
  let da := 0xF <<< 48
  let db := 0xF <<< 44
  let dc := 0xF <<< 40
  let ra := 0x1F <<< 35
  let rb := 0x1F <<< 30
  match o with
  | .jgather => base + da + db + dc + 0x1FF
  | .jscato | .jscatu => base + da + db + dc + 0x100
  | .jsegpack => base + da + db + dc + ra + rb + (if bitAt w 8 then 0x1FF else 0x10F)
  | .jcompact => base + da + db + dc + rb
  | .jsort => base + da + dc + (if bitAt w 3 then 0x3FFF else db + 0x3FFFF)
  | .jhparto | .jhpartu => base + da + dc + rb + (if bitAt w 9 then 0x3FF else db + 0x3FFF)
  | .jisect => base + da + db + dc + rb
  | .jtopk => base + da + dc + rb + 0x1FFF
  | _ => 2 ^ 64 - 1

/-- An instruction of the vector class, where KM is reserved when KE = 0 (R206, R219). -/
def usesMask (o : Op) : Bool :=
  match o.row with
  | none => false
  | some r => decide (r.used.testBit 31) && decide (0x10 ≤ r.major) && decide (r.major ≤ 0x17)

/-- Fields reserved under a condition that does not hold (R206). -/
def conditionalReserved (o : Op) (w : Word64) : Bool :=
  let mj := majorOf w
  (usesMask o && !R3.ke w && decide (R3.km w ≠ 0)) ||
  (decide (mj = 0x22 ∨ mj = 0x23) && !MEM.ke w && decide (MEM.km w ≠ 0)) ||
  (decide (0x24 ≤ mj ∧ mj ≤ 0x2A ∧ mj ≠ 0x26) && !Q.pe w && decide (Q.peg w ≠ 0)) ||
  (match o with
   | .padd | .pset | .parrive | .pwait | .pwany | .pcount | .ptarget | .pstamp =>
     if PG.pr w then decide (PG.pegImm w ≠ 0) else decide (PG.rb w ≠ 0)
   | _ => false) ||
  (match o with
   | .padd | .pset | .pwait | .pwany =>
     if PG.ir w then decide (PG.ra w ≠ 0) else decide (PG.imm20 w ≠ 0)
   | _ => false)

/-- Instruction-specific reserved values, all ILLEGAL subcode 0x03: R221, R226, R230, R232, R236, R237, R248,
R276–R278. -/
def specialReserved (o : Op) (w : Word64) : Bool :=
  match o with
  | .extu | .exts | .ins => decide (64 < RI.pos w + RI.len w)
  | .mstream => decide (3 < MX.w w + MX.wn w)
  | .mxferStore | .mxferAdd | .mxferLoad => decide (MX.xmode w = 3)
  | .ld | .lds | .st => decide (3 < MEM.sz w)
  | .vld | .vst => decide (MEM.sz w < 4 ∨ 6 < MEM.sz w)
  | .dld | .dst => decide (MEM.sz w ≠ 0) || decide (15 < MEM.rd w)
  | .copy => decide (Q.opt w = 0)
  | .vsel => !R3.ke w
  | .jsort => decide (fld w 0 2 = 3) || decide (32 < fld w 4 5 + (fld w 9 5 + 1))
  | .jtopk => decide (fld w 0 2 = 3)
  | .jhparto | .jhpartu =>
    if bitAt w 0 then decide (fld w 4 5 ≠ 0) else decide (32 < fld w 4 5 + (fld w 1 3 + 1))
  | _ => false

/-- A register field that names a mask register holds more than 7 (R220). -/
def maskFieldBad (r : OpRow) (w : Word64) : Bool :=
  (r.kregs.testBit 0 && decide (7 < R3.rd w)) || (r.kregs.testBit 1 && decide (7 < R3.ra w)) ||
    (r.kregs.testBit 2 && decide (7 < R3.rb w))

/-- VCVT's segment number lies below the ratio of the wider width to the narrower (R227). -/
def segmentBad (w : Word64) : Bool :=
  match Fmt.ofCode (R3.lf w), Fmt.ofCode (R3.lf2 w) with
  | some a, some b => decide (max a.width b.width / min a.width b.width ≤ fnOf w)
  | _, _ => decide (7 < fnOf w)

/-- A format code the instruction does not accept: ILLEGAL subcode 0x04 (R120, R223, R248). -/
def formatBad (o : Op) (lk : LfKind) (w : Word64) : Bool :=
  let lf := Fmt.ofCode (R3.lf w)
  match lk with
  | .none =>
    match o with
    | .mloadw | .mstream => !((Fmt.ofCode (MX.fmt w)).map (·.matrixOk)).getD false
    | .mdrain => !((Fmt.ofCode (MX.fmt w)).map (·.drainOk)).getD false
    | _ => false
  | .fp => !(lf.map (·.vectorFp)).getD false
  | .fp32 => decide (lf ≠ some .fp32)
  | .int => decide (lf ≠ some .int8 ∧ lf ≠ some .int16 ∧ lf ≠ some .int32)
  | .move => decide (lf = none ∨ lf = some .bf16x)
  | .cvt => !(lf.map (·.convertOk)).getD false || !((Fmt.ofCode (R3.lf2 w)).map (·.convertOk)).getD false

/-- Special register rules: ILLEGAL subcode 0x05 (R208, R242). `wr` is the value an MTSR would write. -/
def srBad (o : Op) (w : Word64) (wr : Word64) : Bool :=
  match o with
  | .mfsr => decide (0x00A < SY.sr w)
  | .mtsr => decide (SY.sr w ≠ 0) || reservedSet wr 0x13F
  | _ => false

/-- Plumb-only instructions (R173, R242). -/
def Op.plumbOnly : Op → Bool
  | .plbfold | .plbgold | .plbdone => true
  | _ => false

/-- The lowest ILLEGAL subcode of an instruction word, if it has any ILLEGAL cause (R205). `plumb` says the program ID is
0xFFFF; `sra` is s[RA], which only MTSR's check reads. -/
def illegalSub (w : Word64) (plumb : Bool) (sra : Word64) : Option Nat :=
  if !majorAssigned (majorOf w) then some 1
  else
    match opOf w with
    | none => some 2
    | some o =>
      match o.row with
      | none => some 2
      | some r =>
        let used := if r.major ≥ 0x18 ∧ r.major ≤ 0x1D then mxUsed o w
          else if 0x28 ≤ r.major ∧ r.major ≤ 0x2A then jointerUsed o w else r.used
        if decide (o = .vcvt) && segmentBad w then some 2
        else if reservedSet w used || conditionalReserved o w || specialReserved o w || maskFieldBad r w then some 3
        else if formatBad o r.lf w then some 4
        else if srBad o w sra then some 5
        else if o.plumbOnly && !plumb then some 6
        else none

end Sys2Proof.Machine
end

