-- ==== Sys2Proof/Machine/Hand.lean ====
section
/-!
DEFINITION. The hand processor (chapter 5): the program position and its targets (R177–R180), issue (R205), the counting
of timing-dependent choices (R397), the peg signals of a bay with the peg journal (R432), and the release of a wait.
-/

namespace Sys2Proof.Machine

/-- The address of the instruction that follows `pc` (R177): from slot 6 to slot 0 of the next panel. -/
def nextPc (pc : Addr) : Addr := if pc % 64 / 8 = 6 then pc + 16 else pc + 8

/-- The target of a relative branch at `pc` (R178). -/
def branchTarget (pc : Addr) (off : Int) : Int :=
  let t : Int := (pc % 64 / 8 : Nat) + off
  ((pc - pc % 64 : Nat) : Int) + 64 * (t / 7) + 8 * (t % 7)

/-- The panel that holds an address. -/
def panelOf (pc : Addr) : Addr := pc - pc % 64

/-- The logical number under which a bay addresses its own store: the number it holds, or for a spare in a plumb run the
number it is to take, else LB0's window. -/
def ownNum (s : State) (pb : Nat) : Nat :=
  match pbLogical s pb with
  | some n => n
  | none =>
    match s.repair.substs.find? (fun x => decide (x.spare = some pb)) with
    | some x => x.lb
    | none => 0

/-- The initiator ID of a bay's hand processor (R42). -/
def handInit (s : State) (pb : Nat) : Nat := 0x40 + ownNum s pb % 32

/-- The word at the program position of a context is cached and verified. -/
def wordAt (b : Bay) (pc : Addr) : Option Word64 :=
  match tabGet [] b.cache (panelOf pc) with
  | [] => none
  | p => some (BitVec.ofNat 64 (leAt p (pc % 64) 8))

/-- The context issues: its bay runs a program, it has not ended, stopped or drained, and it waits for nothing. -/
def issuing (b : Bay) (c : HandCtx) : Bool :=
  decide (b.st = .running ∨ b.st = .plumb) && c.active && !c.ended && !c.stopped && decide (c.wait = .none) && !b.drain

/-- Instruction `w` of operation `o` is the next to issue in context `h`. -/
def issuable (s : State) (h : Hand) (o : Op) (w : Word64) : Bool :=
  let b := bayGet s h.pb
  let c := handOf b h.filler
  issuing b c && decide (wordAt b c.pc = some w) && decide (issuesAs w = o)

/-- A filler program's matrix instruction names W0, W1, A0 or A1, which raises ILLEGAL 0x03 (R590). -/
def fillerNames (o : Op) (w : Word64) : Bool :=
  match o with
  | .mloadw => decide (MX.w w < 2)
  | .mstream => decide (MX.w w < 2) || (!MX.line w && decide (MX.a w < 2))
  | .mdrain | .mclear => !MX.line w && decide (MX.a w < 2)
  | .mxferStore | .mxferAdd | .mxferLoad => decide (MX.a w < 2)
  | _ => false

/-- The lowest ILLEGAL subcode of an instruction of a context (R205, R590). -/
def illegalOf (h : Hand) (o : Op) (c : HandCtx) (w : Word64) : Option Nat :=
  match illegalSub w (decide (c.progid = 0xFFFF)) (c.regs.getS (SY.ra w)) with
  | some k => some (if h.filler && fillerNames o w then min k 3 else k)
  | none => if h.filler && fillerNames o w then some 3 else none

/-- Issue an instruction: a word with an ILLEGAL cause faults with the lowest subcode (R205), else `eff` is its effect. A
command for an instruction that is not the next one to issue changes nothing. -/
def issue (o : Op) (h : Hand) (w : Word64) (s : State) (eff : State → State) : Host.Outcome State Fault Refusal :=
  if h.pb < bayCount then
    .next
      (if issuable s h o w then
        let c := handGet s h
        match illegalOf h o c w with
        | some k => takeFault raise h (0x100 + k) 0 c.pc s
        | none => eff s
      else s)
  else .fault .absentUnit

/-- Move past the instruction (R177). -/
def advance (h : Hand) (s : State) : State := handMod s h (fun c => { c with pc := nextPc c.pc })

/-- Change the register files and move past the instruction. -/
def regStep (h : Hand) (f : HandRegs → HandRegs) (s : State) : State :=
  handMod s h (fun c => { c with regs := f c.regs, pc := nextPc c.pc })

/-- A precise fault of the instruction at the program position (R200). -/
def preciseFault (h : Hand) (code : Nat) (s : State) : State := takeFault raise h code 0 (handGet s h).pc s

/-- Continue at a target: out of range raises FETCH 0x04 (R180), in a plumb run outside 0x000–0x7FF too (R171). -/
def goTo (h : Hand) (t : Int) (f : HandRegs → HandRegs) (s : State) : State :=
  if t < 0 ∨ 0xFFFFFFFFFFC0 < t ∨ ((bayGet s h.pb).st = .plumb ∧ 0x7FF < t) then preciseFault h 0x404 s
  else handMod s h (fun c => { c with regs := f c.regs, pc := t.toNat })

/-- Relative branch, taken or not (R178). -/
def branch (h : Hand) (w : Word64) (taken : Bool) (f : HandRegs → HandRegs) (s : State) : State :=
  if taken then goTo h (branchTarget (handGet s h).pc (BR.off w)) f s else regStep h f s

/-! Timing-dependent choices (R397). -/

/-- Count choices of a context: its DIVCNT, the partition's DIVERGENCE modulo 2^32 (R401) and the counter of its kind. -/
def countChoice (h : Hand) (kind : Nat → Addr) (amount : Nat) (s : State) : State :=
  if amount = 0 then s
  else
    let p := (handGet s h).part
    let s1 := handMod s h (fun c => { c with divcnt := c.divcnt + amount })
    let s2 := regPut s1 (Reg.PART_DIVERGENCE p) (regGet s1 (Reg.PART_DIVERGENCE p) + BitVec.ofNat 32 amount)
    cntAdd s2 (kind p) amount

/-- The key of a contested 8-byte word in PART's record of last writers. -/
def contestKey (p : Nat) (a : Addr) : Nat := p * 2 ^ 45 + a / 8

/-- One word of a store into a CONTEST region: the choices counted so far, and the record of last writers (R402). -/
def contestWord (p lb : Nat) (acc : Nat × Tab Nat) (k : Nat) : Nat × Tab Nat :=
  let old := tabGet 0 acc.2 (contestKey p (8 * k))
  (if old = 0 ∨ old = lb + 1 then acc.1 else acc.1 + 1, tabPut 0 acc.2 (contestKey p (8 * k)) (lb + 1))

/-- A bay's store of `n` bytes at `a` into a CONTEST region: each 8-byte word whose last writer is another bay counts 1
(R402, R403). -/
def contestStore (h : Hand) (a n : Nat) (s : State) : State :=
  let p := (handGet s h).part
  let r := (rangeFrom (a / 8) ((a + n - 1) / 8 - a / 8 + 1)).foldl (contestWord p (ownNum s h.pb)) (0, s.part.lastWriter)
  countChoice h Reg.PART_DIV_CONTEST r.1 { s with part := { s.part with lastWriter := r.2 } }

/-- A write by a bay, to the own store or beyond, with its contest count. -/
def bayWrite (h : Hand) (contest : Bool) (a : Addr) (l : List Byte) (s : State) : State :=
  devWrite (if contest && decide (l ≠ []) then contestStore h a l.length s else s) a l

/-! Pegs. -/

/-- Enter peg `n` in the journal of the context's job before its first signal (R432, R433). -/
def journalPeg (h : Hand) (n : Nat) (s : State) : State :=
  let c := handGet s h
  let p := pegGet s n
  if c.handle = 0 ∨ p.poison then s
  else
    dowelMod s (slotOf c.handle) (fun d =>
      if d.journal.any (fun e => decide (e.1 = n)) then d
      else if d.journal.length < 16 then { d with journal := d.journal ++ [(n, p.count, p.sat)] }
      else { d with unreplayable := true })

/-- A PADD, PSET or PARRIVE of a context on peg `n`. -/
def handSignal (h : Hand) (n : Nat) (op : PegOp) (s : State) : State := pegSignal (journalPeg h n s) n op

/-- Complete a wait that a peg operation has satisfied, or fault at it when a poisoned peg released it (R214, R240). -/
def releaseWait (h : Hand) (s : State) : State :=
  match (handGet s h).wait with
  | .released rd v choice =>
    let s1 := handMod s h (fun c =>
      { c with regs := c.regs.setS rd v, wait := .none, arrived := false, pc := nextPc c.pc })
    if choice then countChoice h Reg.PART_DIV_PWANY 1 s1 else s1
  | .poisoned => preciseFault h 0x902 (handMod s h (fun c => { c with wait := .none }))
  | .none | .pegs _ _ _ _ _ | .arrive _ _ | .time _ => s

/-- Start a wait: it completes at once when it is satisfied, or found poisoned, as it issues (R244, R245). -/
def startWait (h : Hand) (w : Wait) (s : State) : State :=
  releaseWait h (handMod s h (fun c => { c with wait := judgeWait s w }))

/-- The peg a PG instruction names (chapter 6). -/
def pgPeg (w : Word64) (r : HandRegs) : Nat := if PG.pr w then (r.getS (PG.rb w)).toNat % 2048 else PG.pegImm w

/-- The value operand of a PG instruction. -/
def pgValue (w : Word64) (r : HandRegs) : Nat := if PG.ir w then PG.imm20 w else (r.getS (PG.ra w)).toNat % 2 ^ 32

/-- The pegs n to n + k lie in the range of the context's partition (R207). -/
def pegsOwned (s : State) (p n k : Nat) : Bool := ownsPeg s p n && ownsPeg s p (n + k)

end Sys2Proof.Machine
end

