-- ==== Sys2Proof/Machine/PageOwner.lean ====
section
/-!
DEFINITION. Who may reach a register (R36, R343): the page ownership of register space.
-/

namespace Sys2Proof.Machine

/-- On whose behalf an initiator reaches register space. -/
inductive Who where
  /-- the fabric controller, the safety island and the scribe: every page -/
  | device
  | part (p : Nat)
  | nobody
  deriving DecidableEq, Repr

/-- The standing of an initiator ID (R42, R340): harts act for their partition; the other units reach no register. -/
def whoOf (s : State) (init : Nat) : Who :=
  if init < 12 then
    match hartPart s init with
    | some p => .part p
    | none => .nobody
  else if init = 0x10 ∨ init = 0x11 ∨ init = 0x12 ∨ init = 0x75 then .device
  else .nobody

/-- Partition `p` owns all four bays of bent k of this device; a bent without a single owner belongs to P0 (R343). -/
def bentOwner (s : State) (p k : Nat) : Bool :=
  let b := (if twinSecondary s then 32 else 0) + 4 * k
  match (List.range 8).find? (fun q => (List.range 4).all (fun i => ownsBay s q (b + i))) with
  | some q => decide (p = q)
  | none => decide (p = 0)

/-- A page that belongs to a partition granted it under PAGES, else to P0. -/
def grantedElseP0 (s : State) (p k : Nat) : Bool :=
  pageGranted s p k || (decide (p = 0) && (List.range 8).all (fun q => !pageGranted s q k))

/-- Partition `p` may make this access (R36, R343 and the page tables of the chapters). -/
def partReaches (s : State) (p : Nat) (a : Addr) (write : Bool) : Bool :=
  let x := a - Reg.spaceBase
  let k := x / 0x1000
  let o := x % 0x100000
  let pg := o / 0x1000
  let bay := (if twinSecondary s then 32 else 0)
  match x / 0x100000 with
  | 0x0 => !write || decide (p = 0)
  | 0x1 => if pg = 0 then decide (p = 0) else if pg = 2 then !write || decide (p = 0) else pageGranted s p k
  | 0x2 => if pg < 64 then ownsWindow s p pg else if pg < 72 then decide (p = pg - 64) else pageGranted s p k
  | 0x3 =>
    if o < 0x10000 then ownsPeg s p (o / 0x20)
    else if 0x80000 ≤ o ∧ o < 0x80020 then decide (p = 0 ∨ p = (o - 0x80000) / 4)
    else pageGranted s p k
  | 0x4 | 0x5 | 0x6 => if pg < 8 then decide (p = pg) else pageGranted s p k
  | 0x7 =>
    if pg = 0 then !write
    else if pg < 8 then grantedElseP0 s p k
    else if 0x10 ≤ pg ∧ pg < 0x20 then ownsTcap s p (pg - 0x10)
    else if 0x20 ≤ pg ∧ pg < 0x28 then ownsTpulse s p (pg - 0x20)
    else pageGranted s p k
  | 0x8 | 0xF | 0x10 | 0xD => decide (p = 0)
  | 0x9 => if pg < 0x10 then grantedElseP0 s p k else if pg < 0x20 then ownsCtx s p (pg - 0x10) else pageGranted s p k
  | 0xB =>
    if 0x10 ≤ pg ∧ pg < 0x28 then ownsPlane s p (pg - 0x10)
    else if 0x40 ≤ pg ∧ pg < 0x44 then decide (p = 0)
    else pageGranted s p k
  | 0xC => if 0x40 ≤ pg ∧ pg < 0x48 then decide (p = pg - 0x40) else pageGranted s p k
  | 0xE => if pg < 16 then decide (p = pg / 2) else if pg = 32 then !write else false
  | 0x11 => ownsBay s p (bay + o / 0x10000)
  | 0x12 => if o < 0x80000 then bentOwner s p (o / 0x10000) else decide (p = 0)
  | 0x13 => ownsBay s p (bay + 16 + o / 0x10000)
  | _ => pageGranted s p k

/-- The initiator may make this access (R36). Mailbox pages 16 and 17 answer the safety island only (R683). -/
def reaches (s : State) (init : Nat) (a : Addr) (write : Bool) : Bool :=
  match whoOf s init with
  | .device =>
    decide (init = 0x11 ∨ init = 0x12) ||
      !(decide (Reg.MAILBOX + 0x10000 ≤ a) && decide (a < Reg.MAILBOX + 0x12000))
  | .part p => partReaches s p a write
  | .nobody => false

/-- An access from outside the owning partition is an access error with KIND 3 (R30, R36, R332). -/
def foreignPage (init : Nat) (a : Addr) (s : State) : State :=
  { holeError raise init (match whoOf s init with | .part p => some p | _ => none) 3 a s with reply := none }

/-- A register command of an initiator: its effect when it may make the access, else an access error. -/
def asInit (init : Nat) (a : Addr) (write : Bool) (eff : State → State) (s : State) : State :=
  if reaches s init a write then eff s else foreignPage init a s

/-- The partition whose page holds a register, as its writers see it (R343). -/
def pageOwner (s : State) (a : Addr) : Option Nat := (List.range 8).find? (fun p => partReaches s p a true)

/-- The lock of the partition that owns a register's page is closed: RWL fields ignore writes (R355). -/
def pageLocked (s : State) (a : Addr) : Bool :=
  match pageOwner s a with
  | some p => regBit s (Reg.PART_CTRL p) 0
  | none => false

/-- Commit a 64-bit pair: both words, and every initiator's staging word then holds the committed low value (R37). -/
def commitPair (s : State) (a : Addr) (v : Nat) : State :=
  let s1 := pairPut s a v
  { s1 with staging := s1.staging.filter (fun (k, _) => decide (k % 2 ^ 48 ≠ a)) }

end Sys2Proof.Machine
end

