-- ==== Sys2Proof/Machine/Submit.lean ====
section
/-!
DEFINITION. Submission of work descriptors (chapter 8): the tests of R300, tickets, slots and quotas, the acceptance of
each kind, batches, and the region update rule (R53–R58).
-/

namespace Sys2Proof.Machine

/-! Slots. -/

/-- A partition's dowels in use: its slots that are not FREE (R304). -/
def dowelsInUse (s : State) (p : Nat) : Nat :=
  (s.cmd.slots.filter (fun (k, d) => decide (k < 65536) && decide (d.part = p) && decide (d.st ≠ .free))).length

/-- The partition's quota (R304). -/
def dowelQuota (s : State) (p : Nat) : Nat := recFld s p 44 4 0 17

/-- `n` slots from `x` are free. -/
def slotsFree (s : State) (x n : Nat) : Bool := (rangeFrom x n).all (fun k => decide ((dowelGet s k).st = .free))

/-- The first run of `n` free consecutive slots from `x` upward with wrap that does not run past slot 0xFFFF; the first
argument bounds the search (R303). -/
def findRun (s : State) (n : Nat) : Nat → Nat → Option Nat
  | 0, _ => none
  | k + 1, x => if x + n ≤ 65536 ∧ slotsFree s x n = true then some x else findRun s n k ((x + 1) % 65536)

/-- The free-slot search (R303). -/
def freeRun (s : State) (n : Nat) : Option Nat := findRun s n 65536 ((s.cmd.lastSlot + 1) % 65536)

/-- The generation a slot takes when it leaves FREE (R302). -/
def nextGen (g : Nat) : Nat := if g = 0x7FFF then 1 else g + 1

/-- Put a new QUEUED dowel in a free slot. -/
def takeSlot (s : State) (slot : Nat) (d : Dowel) : State :=
  let g := nextGen (dowelGet s slot).gen
  let s1 := { s with cmd := { s.cmd with lastSlot := slot } }
  dowelPut s1 slot (judgeDowel s1 { d with gen := g, st := .queued, accepted := s.tb.elapsed })

/-- Allocate one dowel for an operation that is not submitted by descriptor, charged to a partition: none when the quota or
the slots are exhausted (R302–R304). -/
def allocDowel (s : State) (d : Dowel) : Option (Nat × State) :=
  if dowelQuota s d.part ≤ dowelsInUse s d.part then none
  else
    match freeRun s 1 with
    | some slot => some (slot, takeSlot s slot d)
    | none => none

/-! The region update rule (R53–R58). -/

/-- The update state of a region. -/
def updGet (s : State) (r : Nat) : Upd := tabGet {} s.cmd.upds r

/-- Replace it. -/
def updPut (s : State) (r : Nat) (u : Upd) : State := { s with cmd := { s.cmd with upds := tabPut {} s.cmd.upds r u } }

/-- The region of a swap group (R360). -/
def swapRegion (p g : Nat) : Nat := 16 + 16 * p + g
/-- The region of a display plane, numbered 6·pipe + plane. -/
def planeRegion (q : Nat) : Nat := 256 + 6 * (q / 6) + q % 6

/-- A request for region `r` is accepted: it runs at once, or queues and supersedes a queued one (R54, R55). -/
def updAccept (r slot : Nat) (s : State) : State :=
  match (updGet s r).running with
  | none => dowelMod (updPut s r { running := some slot, queued := none }) slot (fun d => { d with updating := true })
  | some x =>
    let s1 := match (updGet s r).queued with
      | some q => completeDowel raise q .superseded 0 s
      | none => s
    updPut s1 r { running := some x, queued := some slot }

/-! Descriptor fields (R294). -/

/-- KIND. -/
def dsKind (d : List Byte) : Nat := leAt d 0 1
/-- BAYCOUNT. -/
def dsBays (d : List Byte) : Nat := leAt d 4 1
/-- FIRSTBAY. -/
def dsFirst (d : List Byte) : Nat := leAt d 5 1
/-- AGECH. -/
def dsAge (d : List Byte) : Nat := leAt d 6 1
/-- PROG. -/
def dsProg (d : List Byte) : Nat := leAt d 8 8
/-- ARGS. -/
def dsArgs (d : List Byte) : Nat := leAt d 16 8
/-- DEADLINE. -/
def dsDeadline (d : List Byte) : Nat := leAt d 24 4
/-- CHILDREN. -/
def dsChildren (d : List Byte) : Nat := leAt d 96 8
/-- CHILDCOUNT. -/
def dsChildCount (d : List Byte) : Nat := leAt d 104 1

/-- Bytes o to o + n − 1 are zero. -/
def dsZero (d : List Byte) (o n : Nat) : Bool := decide (leAt d o n = 0)

/-- The reserved bits of a wait or signal entry are 0; a valid signal's value is not 0 (R294, R300). -/
def dsPegEntryOk (sig : Bool) (d : List Byte) (o : Nat) : Bool :=
  let e := leAt d o 8
  decide (nfld e 11 4 = 0) && decide (nfld e 16 16 = 0) && (!sig || !e.testBit 15 || decide (nfld e 32 32 ≠ 0))

/-- The FORMAT test of R300: address, KIND, reserved fields, ranges, the per-kind zeros of R295. -/
def dsFormatOk (addr : Nat) (d : List Byte) : Bool :=
  let k := dsKind d
  decide (addr % 128 = 0) && decide (1 ≤ k ∧ k ≤ 4) &&
  decide (leAt d 1 1 < 4) && decide (leAt d 2 1 < 8) && decide (leAt d 3 1 < 8) && decide (leAt d 7 1 < 8) &&
  decide (dsAge d < 64 ∨ dsAge d = 0xFF ∨ (k = 2 ∧ dsAge d = 0)) &&
  decide (dsProg d < 2 ^ 48) && decide (dsProg d % 64 = 0) && decide (dsArgs d < 2 ^ 48) &&
  (List.range 4).all (fun i => dsPegEntryOk false d (32 + 8 * i)) &&
  (List.range 4).all (fun i => dsPegEntryOk true d (64 + 8 * i)) &&
  decide (dsChildren d < 2 ^ 48) && decide (dsChildren d % 128 = 0) && dsZero d 105 19 &&
  (match k with
   | 1 =>
     decide (1 ≤ dsBays d ∧ dsBays d ≤ 64) && decide (dsFirst d ≤ 63) && decide (dsFirst d + dsBays d ≤ 64) &&
       dsZero d 96 8 && dsZero d 104 1
   | 2 =>
     dsZero d 1 1 && dsZero d 3 4 && dsZero d 8 20 && dsZero d 32 64 &&
       decide (1 ≤ dsChildCount d ∧ dsChildCount d ≤ 64)
   | _ => dsZero d 3 1 && dsZero d 4 2 && dsZero d 8 8 && dsZero d 96 8 && dsZero d 104 1 && decide (dsAge d = 0xFF))

/-- Logical bay `n` can run a job: a bay of this device, or in JOINED one of the peer (R5, R28, R652). -/
def bayPresent (s : State) (n : Nat) : Bool := (lbPhys s n).isSome || (isPeerNumber s n && twinJoined s)

/-- The PARTITION test of R300 on the fields of a descriptor. -/
def dsPartitionOk (s : State) (p : Nat) (d : List Byte) : Bool :=
  decide (leAt d 2 1 % 8 = p) && !s.safety.stopped.getLsbD p &&
  (decide (dsKind d ≠ 1) || (rangeFrom (dsFirst d) (dsBays d)).all (fun n => ownsBay s p n && bayPresent s n)) &&
  (List.range 4).all (fun i => match descWait d i with | some (n, _) => ownsPeg s p n | none => true) &&
  (List.range 4).all (fun i => match descSig d i with | some (n, _) => ownsPeg s p n | none => true) &&
  regBit s (Reg.CMDPROC_RING_CFG p (leAt d 7 1 % 8)) 31 &&
  (decide (dsKind d = 2) || decide (dsAge d = 0xFF) || ownsAge s p (dsAge d))

/-- The deadline distance (R307). -/
def deadlineDist (s : State) (d : List Byte) : Option Nat :=
  if dsDeadline d = 0 then none else some ((dsDeadline d + 2 ^ 32 - workTime s % 2 ^ 32) % 2 ^ 32)

/-- The deadline is past: a distance of 2^31 or more (R307). -/
def deadlinePast (s : State) (d : List Byte) : Bool :=
  match deadlineDist s d with | some x => decide (2 ^ 31 ≤ x) | none => false

/-- The tests of R300 up to DEADLINE_PAST, with the class range of R371, on a readable descriptor, in order. -/
def dsTest (s : State) (p addr : Nat) (d : List Byte) : Option Nat :=
  if !checkOk d then some 0x01
  else if !dsFormatOk addr d || (decide (dsKind d = 1) && decide (recKclasses s p ≤ leAt d 3 1)) then some 0x06
  else if !dsPartitionOk s p d then some 0x03
  else if deadlinePast s d then some 0x04
  else none

/-- Read a descriptor through the partition's regions as the command processor does (initiator 0x20, class SYS). -/
def readDesc (s : State) (p addr : Nat) : Option (List Byte) × State :=
  match accessCheck s p 7 .read addr 128 with
  | (.ok _, s1) => (some (devRead s1 addr 128), s1)
  | (v, s1) => (none, reportVerdict raise 0x20 p 7 .read addr v s1)

/-- The new dowel of a descriptor. -/
def dowelOf (s : State) (kind : DKind) (w p : Nat) (d : List Byte) : Dowel :=
  { kind := kind, part := p, desc := d, dist := deadlineDist s d, window := w }

/-! Acceptance. -/

/-- The swap group an argument block names; none when R360 refuses it. -/
def swapGroupOf (s : State) (p a : Nat) : Option Nat × State :=
  match accessCheck s p 7 .read a 16 with
  | (.ok _, s1) =>
    let b := devRead s1 a 16
    let g := leAt b 0 1
    (if 1 ≤ g ∧ g ≤ 15 ∧ leAt b 1 15 = 0 then some g else none, s1)
  | (v, s1) => (none, reportVerdict raise 0x20 p 7 .read a v s1)

/-- The plane 6·pipe + plane that a flip's argument block names; none when it cannot be read or names none. -/
def flipPlaneOf (s : State) (p a : Nat) : Option Nat × State :=
  match accessCheck s p 7 .read a 32 with
  | (.ok _, s1) =>
    let b := devRead s1 a 32
    (if leAt b 0 1 < 4 ∧ leAt b 1 1 < 6 then some (6 * leAt b 0 1 + leAt b 1 1) else none, s1)
  | (v, s1) => (none, reportVerdict raise 0x20 p 7 .read a v s1)

/-- What the acceptance of a descriptor in `slot` starts, by its kind (R295, R360, R596). -/
def acceptKind (slot : Nat) (s : State) : State :=
  let d := dowelGet s slot
  match dsKind d.desc with
  | 3 =>
    match swapGroupOf s d.part (dsArgs d.desc) with
    | (some g, s1) => updAccept (swapRegion d.part g) slot (dowelMod s1 slot (fun d => { d with kind := .swap g }))
    | (none, s1) => completeDowel raise slot .doneFault 0x2002 (dowelMod s1 slot (fun d => { d with kind := .swap 0 }))
  | 4 =>
    match flipPlaneOf s d.part (dsArgs d.desc) with
    | (some q, s1) => updAccept (planeRegion q) slot (dowelMod s1 slot (fun d => { d with kind := .flip q }))
    | (none, s1) => completeDowel raise slot .doneFault 0x6001 (dowelMod s1 slot (fun d => { d with kind := .flip 0 }))
  | _ => s

/-- The dowel of a batch child that has not been fetched: only its partition and ring are known (R310). -/
def childDowel (w p : Nat) (d : List Byte) : Dowel :=
  { kind := .child, part := p, window := w,
    desc := leBytes 2 0 ++ leBytes 1 p ++ leBytes 3 0 ++ leBytes 1 0xFF ++ leBytes 1 (leAt d 7 1) ++ leBytes 120 0 }

/-- Accept a submission whose tests up to DEADLINE_PAST have passed: QUOTA, FULL, then the slots (R299, R300, R310). -/
def allocate (s : State) (w p : Nat) (d : List Byte) : Nat × Nat × State :=
  let n := if dsKind d = 2 then dsChildCount d else 1
  if dowelQuota s p < dowelsInUse s p + n then (0x80000002, 0, s)
  else
    match freeRun s n with
    | none => (0x80000005, 0, s)
    | some base =>
      let s1 :=
        if dsKind d = 2 then
          let s2 := (rangeFrom base n).foldl (fun st k => takeSlot st k (childDowel w p d)) s
          { s2 with cmd := { s2.cmd with
              batches := s2.cmd.batches ++ [{ base := base, part := p, children := dsChildren d, count := n, next := 0 }] } }
        else takeSlot s base (dowelOf s .job w p d)
      let handle := handleOf s1 base
      (handle, n, if dsKind d = 2 then s1 else acceptKind base s1)

/-- Decide one submission of partition `p`: the ticket, the count and the state (R299, R300). -/
def decideSubmit (s : State) (w p addr : Nat) : Nat × Nat × State :=
  let reject : Nat → State → Nat × Nat × State := fun c s =>
    (2 ^ 31 + c, 0, cntInc (if c = 0x01 then raise 0x057 (some p) 0 s else s) (Reg.CMDPROC_REJECT_CNT p))
  match readDesc s p addr with
  | (none, s1) => reject (if addr % 128 = 0 then 0x03 else 0x06) s1
  | (some d, s1) =>
    match dsTest s1 p addr d with
    | some c => reject c s1
    | none =>
      match allocate s1 w p d with
      | (t, 0, s2) => (t, 0, cntInc s2 (Reg.CMDPROC_REJECT_CNT p))
      | r => r

/-- The partition that owns a submit window. -/
def windowOwner (s : State) (w : Nat) : Option Nat := ownerBy (fun p => ownsWindow s p w)

/-- A commit of SUBMIT on window `w`: the latest ticket is replaced, and counted when it was not read (R297–R301). -/
def submitAt (w addr : Nat) (s : State) : State :=
  match windowOwner s w with
  | none => s
  | some p =>
    let t := tabGet {} s.cmd.tickets w
    let s1 := if t.seen then s else cntInc s (Reg.CMDPROC_WIN_LOST w)
    let (ticket, n, s2) := decideSubmit s1 w p (addr % 2 ^ 48)
    { s2 with cmd := { s2.cmd with
        tickets := tabPut {} s2.cmd.tickets w { ticket := BitVec.ofNat 32 ticket, count := n, seen := false } } }

/-- The KIND byte at a descriptor address, as stored. -/
def kindAt (s : State) (addr : Nat) : Nat := (devByte s (addr % 2 ^ 48)).toNat

/-- A committed SUBMIT by an initiator of a descriptor whose KIND satisfies `isKind`. -/
def submitCmd (isKind : Nat → Bool) (init window addr : Nat) (s : State) : Host.Outcome State Fault Refusal :=
  if window < 64 then
    .next
      (if isKind (kindAt s addr) then
        asInit init (Reg.CMDPROC_SUBMIT window) true
          (fun s => submitAt window addr (commitPair s (Reg.CMDPROC_SUBMIT window) (addr % 2 ^ 48))) s
      else s)
  else .fault .absentUnit

/-- SUBMIT_JOB (R295): also the row of a descriptor of a reserved KIND, which is rejected (R300). -/
def execSubmitJob (init window addr : Nat) (s : State) : Host.Outcome State Fault Refusal :=
  submitCmd (fun k => decide (k < 2 ∨ 4 < k)) init window addr s

/-- SUBMIT_BATCH (R310). -/
def execSubmitBatch (init window addr : Nat) (s : State) : Host.Outcome State Fault Refusal :=
  submitCmd (fun k => decide (k = 2)) init window addr s

/-- SUBMIT_REGION_SWAP (R360). -/
def execSubmitRegionSwap (init window addr : Nat) (s : State) : Host.Outcome State Fault Refusal :=
  submitCmd (fun k => decide (k = 3)) init window addr s

/-- SUBMIT_PLANE_FLIP (R596). -/
def execSubmitPlaneFlip (init window addr : Nat) (s : State) : Host.Outcome State Fault Refusal :=
  submitCmd (fun k => decide (k = 4)) init window addr s

/-- The value TICKET returns (R299, R301). -/
def ticketValue (s : State) (w : Nat) : Word32 :=
  match windowOwner s w with
  | none => 0x80000003#32
  | some _ => (tabGet {} s.cmd.tickets w).ticket

/-- Mark a window's ticket read. -/
def ticketSeen (w : Nat) (s : State) : State :=
  { s with cmd := { s.cmd with tickets := tabModify {} s.cmd.tickets w (fun t => { t with seen := true }) } }

/-- TICKET_READ (R298): the read returns the decided ticket and marks it read. -/
def execTicketRead (init window : Nat) (s : State) : Host.Outcome State Fault Refusal :=
  if window < 64 then
    .next (asInit init (Reg.CMDPROC_TICKET window) false
      (fun s => { ticketSeen window s with reply := some ((ticketValue s window).zeroExtend 64) }) s)
  else .fault .absentUnit

/-- A fetched child's fault code, none when it is accepted (R311). -/
def childTest (s : State) (p addr : Nat) (d : List Byte) : Option Nat :=
  match dsTest s p addr d with
  | some c => some c
  | none => if dsKind d = 2 then some 0x06 else none

/-- Fetch one child of a batch (R311): a slot no longer QUEUED has been cancelled, and its descriptor is passed over. -/
def fetchChild (b : Batch) (slot : Nat) (s : State) : State :=
  let bs := s.cmd.batches.map (fun x => if x.base = b.base then { x with next := x.next + 1 } else x)
  let s1 := { s with cmd := { s.cmd with batches := bs.filter (fun x => decide (x.next < x.count)) } }
  let addr := b.children + 128 * b.next
  if (dowelGet s1 slot).st ≠ .queued then s1
  else
    match readDesc s1 b.part addr with
    | (none, s2) => completeDowel raise slot .doneFault 0x1003 s2
    | (some d, s2) =>
      let known := dowelMod s2 slot (fun x =>
        { x with kind := .job, desc := d, dist := deadlineDist s2 d, accepted := s2.tb.elapsed, waitOk := 0 })
      match childTest s2 b.part addr d with
      | some 0x04 => completeDowel raise slot .expired 0 known
      | some 0x01 => completeDowel raise slot .doneFault 0x1001 (raise 0x057 (some b.part) 0 s2)
      | some c => completeDowel raise slot .doneFault (0x1000 + c) s2
      | none => acceptKind slot (dowelMod known slot (judgeDowel known))

/-- BATCH_CHILD_FETCH (R311): the children of a batch are fetched in order. -/
def execBatchChildFetch (slot : Nat) (s : State) : Host.Outcome State Fault Refusal :=
  .next
    (match s.cmd.batches.find? (fun b => decide (b.base + b.next = slot)) with
     | some b => fetchChild b slot s
     | none => s)

/-! Handles. -/

/-- The slot a handle names is current and belongs to the partition of the page (R319). -/
def handleCurrent (s : State) (p : Nat) (handle : Word32) : Bool :=
  let d := dowelGet s (slotOf handle.toNat)
  decide (d.gen = handle.toNat / 65536) && decide (d.part = p) && decide (0 < d.gen)

/-- DOWEL_QUERY's latch for an initiator (R319). A freed slot keeps its generation, and belongs to no partition. -/
def queryLatch (init p : Nat) (handle : Word32) (s : State) : State :=
  let d := dowelGet s (slotOf handle.toNat)
  let v : Nat := if handleCurrent s p handle then d.gen * 65536 + d.st.code else 0xF
  { s with cmd := { s.cmd with qlatch := tabPut 0 s.cmd.qlatch (8 * init + p) (BitVec.ofNat 32 v) } }

/-- DOWEL_QUERY (R319). -/
def execDowelQuery (init part : Nat) (handle : Word32) (s : State) : Host.Outcome State Fault Refusal :=
  if part < 8 then .next (asInit init (Reg.DOWEL_QUERY part) true (queryLatch init part handle) s) else .fault .absentUnit

/-- Count a cancel or release without effect. -/
def ignored (p : Nat) (s : State) : State := cntInc s (Reg.DOWEL_IGNORED_CNT p)

/-- DOWEL_CANCEL's effect (R320, R496, R704). A dowel of a sealed operation is not one that R320 cancels. -/
def cancelDowel (p : Nat) (handle : Word32) (s : State) : State :=
  let slot := slotOf handle.toNat
  let d := dowelGet s slot
  if !handleCurrent s p handle then ignored p s
  else
    match d.kind with
    | .job | .child =>
      if d.st = .queued ∨ (d.st = .running ∧ d.ending ≠ some .cancelled) then endDowel raise slot .cancelled 0 s
      else ignored p s
    | .swap _ | .flip _ =>
      if d.st = .queued ∧ d.updating = false then completeDowel raise slot .cancelled 0 s else ignored p s
    | .coll =>
      let done := s.fc.colls.any (fun e => match e.2 with | some c => c.peerHandle.isNone && decide (c.slot = slot) && c.written | none => false)
      if (d.st = .queued ∨ d.st = .running) ∧ done = false then completeDowel raise slot .cancelled 0 s else ignored p s
    | .config _ _ | .sealed _ => ignored p s

/-- DOWEL_CANCEL (R320). -/
def execDowelCancel (init part : Nat) (handle : Word32) (s : State) : Host.Outcome State Fault Refusal :=
  if part < 8 then .next (asInit init (Reg.DOWEL_CANCEL part) true (cancelDowel part handle) s) else .fault .absentUnit

/-- DOWEL_RELEASE's effect (R322). -/
def releaseDowel (p : Nat) (handle : Word32) (s : State) : State :=
  let slot := slotOf handle.toNat
  if handleCurrent s p handle && (dowelGet s slot).st.terminal then freeSlot s slot else ignored p s

/-- DOWEL_RELEASE (R322). -/
def execDowelRelease (init part : Nat) (handle : Word32) (s : State) : Host.Outcome State Fault Refusal :=
  if part < 8 then .next (asInit init (Reg.DOWEL_RELEASE part) true (releaseDowel part handle) s) else .fault .absentUnit

/-! Pegs by register. -/

/-- PEG_COUNT_WRITE (R328): a set. -/
def execPegCountWrite (init peg : Nat) (v : Word32) (s : State) : Host.Outcome State Fault Refusal :=
  if peg < 2048 then .next (asInit init (Reg.PEG_COUNT peg) true (fun s => pegSignal s peg (.set v.toNat)) s)
  else .fault .absentUnit

/-- PEG_ADD_WRITE (R328): an add. -/
def execPegAddWrite (init peg : Nat) (v : Word32) (s : State) : Host.Outcome State Fault Refusal :=
  if peg < 2048 then .next (asInit init (Reg.PEG_ADD peg) true (fun s => pegSignal s peg (.add v.toNat)) s)
  else .fault .absentUnit

/-- PEG_STATUS_CLEAR (R330). -/
def execPegStatusClear (init peg : Nat) (s : State) : Host.Outcome State Fault Refusal :=
  if peg < 2048 then .next (asInit init (Reg.PEG_STATUS peg) true (fun s => pegClear s peg) s) else .fault .absentUnit

end Sys2Proof.Machine
end

