-- ==== Sys2Proof/Machine/Kerf.lean ====
section
/-!
DEFINITION. The kerf scheduler and the context switch (R371–R380): which jobs may take which bays, the start of a job
(R103), the beginning of a switch, save images, and the beginning of a restore.
-/

namespace Sys2Proof.Machine

/-- KCLASS (R294, R371). -/
def dsClass (d : List Byte) : Nat := leAt d 3 1

/-- The job is a filler job of the front end's partition (R589). -/
def isFiller (s : State) (d : Dowel) : Bool :=
  regBit s Reg.GFX_CFG 19 && ownsGfx s d.part && decide (dsClass d.desc = regFld s Reg.GFX_CFG 16 3)

/-- A logical bay owes a plumb run before any job takes it (R461, R465). -/
def bayOwes (s : State) (n : Nat) : Bool :=
  s.part.owesPlumb.contains n || s.cmd.slots.any (fun (_, d) => d.held && d.gateLeft.contains n)

/-- A job that a fence has stopped and that will be started again on its bays keeps them (R431), and so does a spanning job that
waits for its start (R658). -/
def bayKept (s : State) (n : Nat) : Bool :=
  s.cmd.slots.any (fun (_, d) =>
    ((d.replayDue && decide (d.st = .running) && !isFiller s d) || d.asked) && (jobBays d).contains n)

/-- A logical bay held here is IDLE. -/
def bayIdle (s : State) (n : Nat) : Bool :=
  match lbPhys s n with
  | some pb => decide ((bayGet s pb).st = .idle)
  | none => false

/-- A logical bay is free for a job: held here, IDLE, owing no plumb run, and not kept for a replay (R374, R463). -/
def bayIsFree (s : State) (n : Nat) : Bool := bayIdle s n && !bayOwes s n && !bayKept s n

/-- The bays of a job that this device holds. -/
def localBays (s : State) (d : Dowel) : List Nat := (jobBays d).filter (fun n => (lbPhys s n).isSome)

/-- A logical bay of the job lies on the peer (R657). -/
def spans (s : State) (d : Dowel) : Bool := (jobBays d).any (fun n => isPeerNumber s n && twinJoined s)

/-- The bays a job needs of this device: those in its images when suspended, else all that the device holds (R373). -/
def needHere (s : State) (d : Dowel) : List Nat := if d.suspended then d.savedBays else localBays s d

/-- A suspended job of class `c` of the partition needs logical bay `n` (R376). -/
def suspendedOn (s : State) (p c n : Nat) : Bool :=
  s.cmd.slots.any (fun (_, d) => d.suspended && decide (d.part = p) && decide (dsClass d.desc = c) && d.savedBays.contains n)

/-- A QUEUED job whose waits are satisfied and whose bays this device holds and its partition owns (R305, R374, R376). -/
def canStart (s : State) (d : Dowel) : Bool :=
  decide (d.st = .queued) && decide (d.kind = .job) && d.waitsMet && !d.waitPoison && !isFiller s d &&
    !d.asked && (jobBays d).all (fun n =>
      ((lbPhys s n).isSome || (isPeerNumber s n && twinJoined s)) && ownsBay s d.part n && !suspendedOn s d.part (dsClass d.desc) n)

/-- A suspended job that may resume. -/
def canResume (s : State) (d : Dowel) : Bool :=
  d.suspended && d.ending.isNone && d.savedBays.all (fun n => (lbPhys s n).isSome)

/-- The jobs of a partition that satisfy a test, in slot order. -/
def jobsWhere (s : State) (p : Nat) (f : Dowel → Bool) : List Nat :=
  (s.cmd.slots.filter (fun (_, d) => decide (d.part = p) && f d)).map (·.1)

/-- The beat state of a partition. -/
def beatGet (s : State) (p : Nat) : BeatSt := tabGet {} s.part.beats p

/-- Replace it. -/
def beatPut (s : State) (p : Nat) (b : BeatSt) : State := { s with part := { s.part with beats := tabPut {} s.part.beats p b } }

/-- The class of the schedule entry in force; none in the open tail or without kerfs (R372). -/
def entryClass (s : State) (p : Nat) : Option Nat :=
  if recNkerf s p = 0 ∨ (beatGet s p).tail = true then none else some (schedClass s p (beatGet s p).entry)

/-- The dowel slot of the job whose context a bay runs, saves or restores; none for an IDLE bay. -/
def resident (s : State) (n : Nat) : Option Nat :=
  match lbPhys s n with
  | some pb => if (bayGet s pb).main.active && decide ((bayGet s pb).st ≠ .plumb) then some (slotOf (bayGet s pb).main.handle) else none
  | none => none

/-- The order of R374 for the class of the entry: suspended jobs first, then those whose waits are satisfied, by slot. -/
def entryOrder (s : State) (p c : Nat) : List Nat :=
  jobsWhere s p (fun d => canResume s d && decide (dsClass d.desc = c)) ++
  jobsWhere s p (fun d => canStart s d && decide (dsClass d.desc = c))

/-- The order of R375 for bays left free: suspended jobs, then lower classes, then slots; without kerfs, slots alone (R372). -/
def tailOrder (s : State) (p : Nat) : List Nat :=
  jobsWhere s p (canResume s) ++
  (if recNkerf s p = 0 then jobsWhere s p (canStart s)
   else (List.range 8).flatMap (fun c => jobsWhere s p (fun d => canStart s d && decide (dsClass d.desc = c))))

/-- Choose along an order: a job whose bays no earlier choice took and that `ok` allows; it takes its bays. -/
def chooseAlong (s : State) (ok : Dowel → Nat → Bool) : List Nat → List Nat → List Nat × List Nat
  | [], taken => ([], taken)
  | k :: t, taken =>
    let d := dowelGet s k
    if (needHere s d).all (fun n => !taken.contains n && ok d n) then
      let r := chooseAlong s ok t (taken ++ needHere s d)
      (k :: r.1, r.2)
    else chooseAlong s ok t taken

/-- A job of the entry's class may take a bay that holds no job of its own class (R374). -/
def entryTakes (s : State) (d : Dowel) (n : Nat) : Bool :=
  match resident s n with
  | some k => decide (dsClass (dowelGet s k).desc ≠ dsClass d.desc)
  | none => true

/-- The jobs chosen for the entry's class, and those chosen for bays left free (R374, R375). -/
def schedule (s : State) (p : Nat) : List Nat × List Nat :=
  let (a, taken) := match entryClass s p with
    | some c => chooseAlong s (entryTakes s) (entryOrder s p c) []
    | none => ([], [])
  (a, (chooseAlong s (fun _ n => bayIsFree s n) ((tailOrder s p).filter (fun k => !a.contains k)) taken).1)

/-! The context switch (R378). -/

/-- Stop issue in a context at a kerf boundary: a wait that a peg has released completes, any other is abandoned (R213). -/
def kerfStop (h : Hand) (s : State) : State :=
  handMod (releaseWait h s) h (fun c => { c with wait := .none })

/-- KERF_SWITCH_BEGIN (R378 steps 1 and 2): issue stops on every RUNNING bay of the outgoing job and the drain begins. -/
def beginSwitch (slot : Nat) (s : State) : State :=
  ((jobHands s (handleOf s slot)).filter (fun h => !h.filler)).foldl (fun s h =>
    if decide ((bayGet s h.pb).st = .running) && !(bayGet s h.pb).drain then
      bayMod (kerfStop { pb := h.pb, filler := true } (kerfStop h s)) h.pb
        (fun b => { b with drain := true, overrun := false, phaseSince := s.tb.elapsed })
    else s) s

/-- The save image of class `c` on logical bay `n` (R380). -/
def imageBase (s : State) (p c n : Nat) : Addr :=
  let bays := partBays s p
  let r := bays.findIdx (fun x => decide (x = n))
  if parkOn s p && decide (recFld s p 20 4 16 3 = c) then loftBase + recFld s p 20 4 0 7 * 0x40000 + r * imageSize
  else saveBase s p + (c * bays.length + r) * imageSize

/-- The beginning of a restore (R378): the bays of a suspended job that lie in images enter RESTORING. -/
def beginRestore (slot : Nat) (s : State) : State :=
  let d := dowelGet s slot
  let s1 := d.savedBays.foldl (fun s n =>
    match lbPhys s n with
    | some pb => bayMod s pb (fun b =>
        { b with
          st := .restoring, incoming := slot, gated := false
          main := { b.main with active := true, ended := false, stopped := true, wait := .none, handle := handleOf s slot } })
    | none => s) s
  dowelPut s1 slot { d with suspended := false }

/-- One pass of the scheduler: a chosen job of the entry's class whose bays hold a job of another class suspends it; a chosen
suspended job whose bays are all free begins its restore. A QUEUED job starts by JOB_START. -/
def kerfPass (p : Nat) (s : State) : State :=
  let (a, b) := schedule s p
  let s1 := a.foldl (fun s k =>
    (needHere s (dowelGet s k)).foldl (fun s n => match resident s n with | some r => if r = k then s else beginSwitch r s | none => s) s) s
  (a ++ b).foldl (fun s k =>
    if (dowelGet s k).suspended && (dowelGet s k).savedBays.all (bayIsFree s) then beginRestore k s else s) s1

/-- A job has followed on bays from which others were suspended: each such switch is counted once (PART_SWITCH_CNT). -/
def countSwitches (slot : Nat) (bays : List Nat) (s : State) : State :=
  let p := (dowelGet s slot).part
  let hit := (s.cmd.slots.filter (fun (k, d) =>
    decide (k ≠ slot) && d.switchDue && decide (d.part = p) && (jobBays d).any bays.contains)).map (·.1)
  hit.foldl (fun s k => cntInc (dowelMod s k (fun d => { d with switchDue := false })) (Reg.PART_SWITCH_CNT p))
    (dowelMod s slot (fun d => { d with switchDue := false }))

/-! The start of a job. -/

/-- The program ID that the entry panel's trailer names (R173). -/
def entryProgid (s : State) (d : Dowel) : Nat := leAt (devRead s (dsProg d.desc) 64) 58 2

/-- The job is a render job of the graphics front end (R573). -/
def isRender (s : State) (d : Dowel) : Bool :=
  ownsGfx s d.part && decide (regFld s Reg.GFX_CFG 0 16 ≠ 0) && decide (entryProgid s d = regFld s Reg.GFX_CFG 0 16)

/-- The context a job starts with on its bay of rank `r` (R103, R177, R208, R399); the other registers keep their values. -/
def startHand (d : Dowel) (handle r : Nat) (c : HandCtx) : HandCtx :=
  { c with
    active := true, pc := dsProg d.desc, ended := false, stopped := false, wait := .none, arrived := false
    regs := { c.regs with flags := {} }, divcnt := 0, progid := 0, handle := handle, faultCode := 0
    rank := r, nbays := dsBays d.desc, args := dsArgs d.desc, kclass := dsClass d.desc, part := d.part, plumbSig := 0 }

/-- Start a job's part on its bay of rank `r` (R103, R105, R175). -/
def startBayJob (slot r : Nat) (s : State) : State :=
  let d := dowelGet s slot
  match lbPhys s (dsFirst d.desc + r) with
  | some pb => bayMod s pb (fun b =>
      { b with
        st := .running, gated := false, drain := false, slots := [], sills := [], cache := [], badAhead := []
        main := startHand d (handleOf s slot) r b.main })
  | none => s

/-- Start a job on all of its bays at once (R373). A render job asks for the graphics front end (R573). -/
def startJob (slot : Nat) (s : State) : State :=
  let d := dowelGet s slot
  let s0 := dowelPut s slot { d with st := .running, render := isRender s d }
  let s1 := if isRender s d then { s0 with gfx := { s0.gfx with waiting := s0.gfx.waiting ++ [slot] } } else s0
  countSwitches slot (jobBays d) ((List.range (dsBays d.desc)).foldl (fun s r => startBayJob slot r s) s1)

end Sys2Proof.Machine
end

