-- ==== Sys2Proof/Machine/ExecJob.lean ====
section
/-!
DEFINITION. JOB_START, JOB_END, JOB_COMPLETE and JOB_FAULT_STOP (R202, R305–R313, R373–R375, R464).
-/

namespace Sys2Proof.Machine

/-- A spanning job whose bays are free here keeps them: the home device asks the peer, and the peer grants (R658). -/
def askStart (slot : Nat) (s : State) : State :=
  let d := dowelGet s slot
  let s1 := dowelPut s slot { d with asked := true, spanning := true }
  if slot < 65536 then sendCtl (.ask (handleOf s slot) d.part d.desc) s1 else sendCtl (.granted (handleOf s slot % 2 ^ 32)) s1

/-- The scheduler takes up one job: a chosen QUEUED job whose bays are free starts (R374, R375), a chosen suspended one begins
its restore, and one of the entry's class begins the switch of the jobs that hold its bays. -/
def takeUp (slot : Nat) (s : State) : State :=
  let d := dowelGet s slot
  let (a, b) := schedule s d.part
  if !(a.contains slot || b.contains slot) then s
  else if (needHere s d).all (bayIsFree s) then
    (if d.suspended then beginRestore slot s else if spans s d || decide (65536 ≤ slot) then askStart slot s else startJob slot s)
  else (needHere s d).foldl (fun s n => match resident s n with | some r => beginSwitch r s | none => s) s

/-- JOB_START (R374). -/
def execJobStart (slot : Nat) (s : State) : Host.Outcome State Fault Refusal :=
  if slot < 131072 then .next (takeUp slot s) else .fault .absentUnit

/-- Plumb-gated release is in force for the partition (R464). -/
def gateInForce (s : State) (p : Nat) : Bool :=
  if recBeat s p = 0 then regBit s (Reg.SAFETY_PLUMB_CFG p) 31 else (beatGet s p).gate

/-- The state a job that has ended on its own takes (R305, R308, R435). -/
def Dowel.endState (d : Dowel) : DSt :=
  match d.dist with
  | some x => if x < d.endNs - d.accepted then .expired else if 0 < d.replays then .doneReplayed else .doneOk
  | none => if 0 < d.replays then .doneReplayed else .doneOk

/-- The last bay has left RUNNING, on both devices for a spanning job (R661), with no fault, stop or replay outstanding. -/
def jobEnded (s : State) (slot : Nat) (d : Dowel) : Bool :=
  decide (d.st = .running) && decide (d.kind = .job) && (d.ended || (localBays s d).isEmpty) && !d.suspended && d.ending.isNone &&
    d.faultBy.isNone && !d.replayDue && !d.held && !d.reported && !d.asked &&
    (!d.spanning || decide (65536 ≤ slot) || d.peerEnded)

/-- A job's end (R308, R309): under gating a job with an age channel is held (R464), else its state is decided; the bays it
leaves go to the scheduler. -/
def endJob (slot : Nat) (s : State) : State :=
  let d := dowelGet s slot
  if !jobEnded s slot d then s
  else if 65536 ≤ slot then
    kerfPass d.part (dowelPut (sendCtl (.ended (handleOf s slot % 2 ^ 32) d.flags.toBits d.div) s) slot { d with reported := true })
  else
    kerfPass d.part
      (dowelPut s slot
        (if gateInForce s d.part && decide (dsAge d.desc ≠ 0xFF) then { d with held := true, gateLeft := localBays s d }
         else { d with ending := some d.endState }))

/-- JOB_END (R309). -/
def execJobEnd (slot : Nat) (s : State) : Host.Outcome State Fault Refusal :=
  if slot < 131072 then .next (endJob slot s) else .fault .absentUnit

/-- Complete a job whose end state is decided and which no bay runs any more (R313). -/
def completeJob (slot : Nat) (s : State) : State :=
  let d := dowelGet s slot
  match d.ending with
  | some st => if decide (d.st = .running) && (jobHands s (handleOf s slot)).isEmpty then completeDowel raise slot st d.fault s else s
  | none => s

/-- JOB_COMPLETE (R313). -/
def execJobComplete (slot : Nat) (s : State) : Host.Outcome State Fault Refusal :=
  if slot < 131072 then .next (completeJob slot s) else .fault .absentUnit

/-- A bay of the job has recorded a fault: the other bays are stopped and the job ends DONE_FAULT with the code of the lowest
rank (R202, R204). -/
def faultStop (slot : Nat) (s : State) : State :=
  let d := dowelGet s slot
  match d.faultBy with
  | some (_, code) =>
    if decide (d.st = .running) && d.ending.isNone then stopJob raise slot .doneFault code s else s
  | none => s

/-- JOB_FAULT_STOP (R202). -/
def execJobFaultStop (slot : Nat) (s : State) : Host.Outcome State Fault Refusal :=
  if slot < 131072 then .next (faultStop slot s) else .fault .absentUnit

end Sys2Proof.Machine
end

