-- ==== Sys2Proof/Machine/PartTable.lean ====
section
/-!
DEFINITION. PARTITION_CONFIG (R344–R356): the tests of R348 on the tables with the payload in place, the acceptance of an
operation, the conditions of its application, and its effect.
-/

namespace Sys2Proof.Machine

/-! The tables with a payload in place. -/

/-- The device with a 512-byte record of partition `p` in place. -/
def withRecord (s : State) (p : Nat) (l : List Byte) : State :=
  { s with part := { s.part with table := putBytes s.part.table (256 + 512 * p) l } }

/-- The device with both wheels in place (128 bytes). -/
def withWheels (s : State) (l : List Byte) : State :=
  { s with part := { s.part with table := putBytes s.part.table 0 l } }

/-- The device with a 528-byte region table of partition `p` in place. -/
def withRegions (s : State) (p : Nat) (l : List Byte) : State :=
  { s with part := { s.part with
      regions := tabPut [] s.part.regions p (putBytes [] 0 l), regionsBad := tabPut false s.part.regionsBad p false } }

/-- The tables with the payload of an operation in place: 0 RECORD, 1 REGIONS, 2 WHEELS (R347). -/
def withPayload (s : State) (op p : Nat) (l : List Byte) : State :=
  match op with
  | 0 => withRecord s p l
  | 1 => withRegions s p l
  | _ => withWheels s l

/-! RANGE (R345, R789, R404). -/

/-- Only the bits of `m` may be set in a field of the record. -/
def recOnly (s : State) (p off n m : Nat) : Bool := decide (recNum s p off n &&& m = recNum s p off n)

/-- Reserved bits of the fixed fields of a record, as (offset, bytes, bits that may be set). -/
def recMasks : List (Nat × Nat × Nat) :=
  [(20, 4, 0x80077F7F), (40, 4, 0x3F001F), (44, 4, 0x1FFFF), (48, 4, 0xFFFFF), (56, 4, 0xFFFF1FFF), (60, 4, 0x1FFFFFF),
   (64, 4, 0xFFFFFF), (68, 4, 0x1F0F), (72, 8, 0xFFFFFFE00000)]

/-- A valid TARGETS entry names a hart, a file, a guest and an identity that exist. -/
def targetOk (e : Nat) : Bool :=
  !e.testBit 31 ||
    (decide (nfld e 0 4 < 12) && decide (nfld e 4 2 < 3) && decide (nfld e 6 3 < 7) && decide (1 ≤ nfld e 16 8))

/-- A valid PAGES entry stays in register space (R789). -/
def pagesOk (e : Nat) : Bool := !e.testBit 31 || (decide (1 ≤ nfld e 16 10) && decide (nfld e 0 13 + nfld e 16 10 ≤ 5120))

/-- A girt entry (R363, R789): MODE 0 or 1; TARGET is 0 in time division, nonzero in latency mode unless BUDGET is 0. -/
def girtOk (e : Nat) : Bool :=
  decide (nfld e 28 2 < 2) && (decide (nfld e 28 2 = 0) || decide (nfld e 32 20 = 0)) &&
    (decide (nfld e 28 2 = 1) || decide (1 ≤ nfld e 32 20) || decide (nfld e 0 24 = 0))

/-- Girt entry `k` = 8t + c of a record. -/
def girtEntry (s : State) (p k : Nat) : Nat := recNum s p (256 + 8 * k) 8

/-- Every field of a record is in range. KCLASSES 0 is taken in an all-zero record alone (R345, R789). -/
def recordRangeOk (s : State) (p : Nat) : Bool :=
  recMasks.all (fun m => recOnly s p m.1 m.2.1 m.2.2) &&
  (List.range 16).all (fun i =>
    recOnly s p (80 + 4 * i) 4 0x3FFF7 && recOnly s p (144 + 4 * i) 4 0x80FF01FF && targetOk (recNum s p (144 + 4 * i) 4) &&
      recOnly s p (256 + 8 * i) 8 0xFFFFFF3FFFFFFF && girtOk (girtEntry s p i) &&
      (decide (recNkerf s p ≤ i) || (decide (10 ≤ schedLen s p i) && decide (schedLen s p i ≤ 10000)))) &&
  (List.range 12).all (fun i => recOnly s p (208 + 4 * i) 4 0x83FF1FFF && pagesOk (recNum s p (208 + 4 * i) 4)) &&
  decide (recNum s p 384 128 = 0) &&
  decide (recFld s p 40 4 0 5 + recFld s p 40 4 16 6 ≤ 32) && decide (recNum s p 44 4 ≤ 65536) &&
  (decide (recBeat s p = 0) || (decide (1000 ≤ recBeat s p) && decide (recBeat s p ≤ 1000000))) &&
  decide (recNkerf s p ≤ 16) && decide (recKclasses s p ≤ 8) &&
  (decide (1 ≤ recKclasses s p) || decide (recNum s p 0 512 = 0))

/-- The wheels' bit [6] is reserved (R344). -/
def wheelsRangeOk (s : State) : Bool := (List.range 128).all (fun k => !(ptByte s k).getLsbD 6)

/-- The entries of a partition's region table that are valid. -/
def rgValid (s : State) (p : Nat) : List Nat :=
  ((List.range 32).map (rgEntry s p)).filter (fun e => (rgAttr e).testBit 7)

/-- SWAPGRP of an entry. -/
def rgSwap (e : Nat) : Nat := nfld (rgAttr e) 16 4

/-- The CONTEST coverage in bytes (R404). -/
def contestCover (s : State) (p : Nat) : Nat :=
  let es := rgValid s p
  let marked := es.filter (fun e => (rgAttr e).testBit 3)
  ((es.filter (fun e => (rgAttr e).testBit 3 ||
    (decide (rgSwap e ≠ 0) && marked.any (fun x => decide (rgSwap x = rgSwap e))))).map rgSize).sum

/-- A region table's reserved bits are clear, and it names its partition (R356, R404). -/
def regionsRangeOk (s : State) (p : Nat) : Bool :=
  (List.range 32).all (fun i =>
    decide (rgEntry s p i &&& 0xFFFFF00FFFFFF0000FFFFFFFFF000 = rgEntry s p i)) &&
  decide (leVal ((rangeFrom 512 12).map (rgByte s p)) = p) && decide (contestCover s p ≤ 0x40000)

/-- The RANGE test of an operation's payload (R348). -/
def rangeOk (s : State) (op p : Nat) : Bool :=
  match op with
  | 0 => recordRangeOk s p
  | 1 => regionsRangeOk s p
  | _ => wheelsRangeOk s

/-! The other tests of R348, over all partitions. -/

/-- No two partitions name one bit of a resource mask. -/
def disjointMask (s : State) (off n m : Nat) : Bool :=
  (List.range 8).all (fun p => (List.range p).all (fun q => decide (recNum s p off n &&& recNum s q off n &&& m = 0)))

/-- Peg ranges do not meet. -/
def pegsDisjoint (s : State) : Bool :=
  (List.range 8).all (fun p => (List.range p).all (fun q =>
    !rangesMeet (recFld s p 40 4 0 5) (recFld s p 40 4 16 6) (recFld s q 40 4 0 5) (recFld s q 40 4 16 6)))

/-- The register pages that only P0 may own: the SAFETY, SEAL and SCRIBE/DEBUG blocks (R341), as first pages of 256. -/
def p0Blocks : List Nat := [0x800, 0xF00, 0x1000]

/-- A partition other than P0 names no P0-only resource (R341). -/
def p0Only (s : State) (p : Nat) : Bool :=
  decide (p = 0) ||
    ((List.range 4).all (fun i => !ownsPlane s p (6 * i + 5)) &&
     (List.range 12).all (fun i =>
       let e := recNum s p (208 + 4 * i) 4
       !e.testBit 31 || p0Blocks.all (fun b => !rangesMeet b 256 (nfld e 0 13) (nfld e 16 10))))

/-- No record names a resource that is still being zeroed (R354). -/
def zeroingOk (s : State) : Bool :=
  s.part.zeroing.all (fun z => (List.range 8).all (fun p =>
    match z.1 with
    | .bay n => !ownsBay s p n
    | .granule g => !ownsGranule s p g))

/-- OWNED. -/
def ownedOk (s : State) : Bool :=
  disjointMask s 0 8 (2 ^ 64 - 1) && disjointMask s 8 12 (2 ^ 96 - 1) && disjointMask s 24 8 (2 ^ 64 - 1) &&
    disjointMask s 32 8 (2 ^ 64 - 1) && disjointMask s 56 4 0xFFFF1FFF && disjointMask s 60 4 0xFFFFFF &&
    disjointMask s 64 4 0xFFFFFF && pegsDisjoint s && (List.range 8).all (p0Only s) && zeroingOk s

/-- QUOTA. -/
def quotaOk (s : State) : Bool := decide (((List.range 8).map (dowelQuota s)).sum ≤ 65536)

/-- SCHEDULE of one record. -/
def scheduleOk (s : State) (p : Nat) : Bool :=
  let n := List.range (min (recNkerf s p) 16)
  n.all (fun i => decide (schedClass s p i < recKclasses s p)) &&
    (decide (recBeat s p = 0) || decide ((n.map (fun i => 10 * schedLen s p i)).sum ≤ recBeat s p))

/-- PARK of one record. -/
def parkTestOk (s : State) (p : Nat) : Bool :=
  let b := recFld s p 20 4 0 7
  let n := recFld s p 20 4 8 7
  !parkOn s p ||
    (decide (b + n ≤ 96) && (rangeFrom b n).all (ownsGranule s p) && decide (recFld s p 20 4 16 3 < recKclasses s p) &&
      decide ((partBays s p).length * imageSize ≤ n * 0x40000))

/-- The bytes of a partition's save pool (R380). -/
def poolBytes (s : State) (p : Nat) : Nat := recKclasses s p * (partBays s p).length * imageSize

/-- SAVE of one record: inside the fitted DRAM, meeting no valid region entry and no other save pool. -/
def saveOk (s : State) (p : Nat) : Bool :=
  decide (poolBytes s p = 0) ||
    (decide (saveBase s p + poolBytes s p ≤ s.boot.dramBytes) &&
     (List.range 8).all (fun q =>
       (rgValid s q).all (fun e => !rangesMeet (rgBase e) (rgSize e) (saveBase s p) (poolBytes s p)) &&
         (decide (p = q) || !rangesMeet (saveBase s q) (poolBytes s q) (saveBase s p) (poolBytes s p))))

/-- WHEEL: every owned slot of both wheels names a time-division girt. -/
def wheelOk (s : State) : Bool :=
  (List.range 128).all (fun k =>
    let w := (ptByte s k).toNat
    !w.testBit 7 || decide (nfld (girtEntry s (nfld w 3 3) (8 * (k / 64) + nfld w 0 3)) 28 2 = 1))

/-- REGION of one table: entries in the fitted DRAM, or in the loft on owned granules; every group that valid entries name has
exactly two of them. -/
def regionOk (s : State) (p : Nat) : Bool :=
  let es := rgValid s p
  es.all (fun e =>
    (decide (rgBase e + rgSize e ≤ s.boot.dramBytes) ||
      (decide (loftBase ≤ rgBase e) && decide (rgBase e + rgSize e ≤ loftBase + loftSize) &&
        (granulesOf (rgBase e) (rgSize e)).all (ownsGranule s p))) &&
    (decide (rgSwap e = 0) || decide ((es.filter (fun x => decide (rgSwap x = rgSwap e))).length = 2)))

/-- The refusal code of an operation, none when every test passes (R348). -/
def configTest (s : State) (op p : Nat) (l : List Byte) : Option Nat :=
  let c := withPayload s op p l
  let each (f : State → Nat → Bool) : Bool := (List.range 8).all (f c)
  if s.part.tableBad then some 0x09
  else if op = 1 ∧ checkOk l = false then some 0x0A
  else if !rangeOk c op p then some 0x02
  else if !ownedOk c then some 0x01
  else if !quotaOk c then some 0x06
  else if !each scheduleOk then some 0x03
  else if !each parkTestOk then some 0x04
  else if !each saveOk then some 0x05
  else if !wheelOk c then some 0x07
  else if !each regionOk then some 0x08
  else none

/-! Acceptance. -/

/-- The region of an operation (R351): a partition's own, or the device-wide one of the wheels. -/
def configRegion (op p : Nat) : Nat := if op = 2 then 8 else p

/-- A dowel for a sealed operation, charged to P0 with its record on ring 0 (R347, R441). The manual states no SEQ for its record:
`seq` is a free value. -/
def sealedDowel (k : DKind) (payload : List Byte) (seq : Word64) : Dowel :=
  { kind := k, part := 0, payload := payload,
    desc := leBytes 6 0 ++ leBytes 1 0xFF ++ leBytes 21 0 ++ leBytes 4 seq.toNat ++ leBytes 96 0 }

/-- Accept an operation in a slot just taken (R347, R348): refused at once, or running or queued under R54. A check word that
mismatches raises CONFIG_CHECK (R46). -/
def configAccept (op p : Nat) (l : List Byte) (slot : Nat) (s : State) : State :=
  match configTest s op p l with
  | some c =>
    completeDowel raise slot .doneFault (0x2000 + c) (if c = 0x0A then raise 0x05D (some p) 0 s else s)
  | none =>
    updAccept (configRegion op p) slot (if joinedPrimary s then sendCtl (.config (handleOf s slot) op p l) s else s)

/-! Application. -/

/-- A dowel of the partition uses something that the new record takes away (R337, R349). -/
def usesLeaving (old new : State) (p : Nat) (d : Dowel) : Bool :=
  let peg := fun (n : Nat) => ownsPeg old p n && !ownsPeg new p n
  (jobBays d).any (fun n => ownsBay old p n && !ownsBay new p n) ||
  (decide (d.window < 64) && ownsWindow old p d.window && !ownsWindow new p d.window) ||
  (decide (dsAge d.desc < 64) && ownsAge old p (dsAge d.desc) && !ownsAge new p (dsAge d.desc)) ||
  (List.range 4).any (fun i =>
    (match descWait d.desc i with | some (n, _) => peg n | none => false) ||
    (match descSig d.desc i with | some (n, _) => peg n | none => false)) ||
  (match d.kind with | .flip q => ownsPlane old p q && !ownsPlane new p q | _ => false) ||
  (d.render && ownsGfx old p && !ownsGfx new p)

/-- Nothing that leaves the partition has a QUEUED or RUNNING dowel or a suspended job (R349). -/
def leavingFree (s : State) (op p : Nat) (l : List Byte) : Bool :=
  decide (op ≠ 0) ||
    s.cmd.slots.all (fun (_, d) =>
      decide (d.part ≠ p) || !(decide (d.st = .queued) || decide (d.st = .running)) || !usesLeaving s (withRecord s p l) p d)

/-- Every plumb run of the ending beat, and every held job, of the partition is over (R352, R498). -/
def plumbsOver (s : State) (p : Nat) : Bool :=
  (partBays s p).all (fun n =>
    !s.part.owesPlumb.contains n &&
      (match lbPhys s n with | some pb => decide ((bayGet s pb).st ≠ .plumb) | none => true)) &&
  s.cmd.slots.all (fun (_, d) => decide (d.part ≠ p) || !d.held)

/-- Commit the partition table: PART computes its check word (R344). -/
def commitTable (s : State) : State :=
  let l := (rangeFrom 0 4364).map (tabGet 0 s.part.table)
  { s with part := { s.part with
      table := putBytes s.part.table 4364 (leBytes 4 (crc32c l).toNat), tableHeld := true, ptver := s.part.ptver + 1 } }

/-- The contest window of a partition starts afresh: every last writer is forgotten (R403, R414). -/
def forgetWriters (p : Nat) (s : State) : State :=
  { s with part := { s.part with lastWriter := s.part.lastWriter.filter (fun (k, _) => decide (k / 2 ^ 45 ≠ p)) } }

/-- Released bay stores and granules are queued for zeroing (R354): stores all at once in 0.35 µs, granules one after another
in 4.1 µs each, after those of earlier releases. -/
def startZeroing (p : Nat) (old new : State) : State :=
  let bays := (List.range 64).filter (fun n => ownsBay old p n && !ownsBay new p n)
  let grs := (List.range 96).filter (fun g => ownsGranule old p g && !ownsGranule new p g)
  let now := new.tb.elapsed
  let busy := (List.zip new.part.zeroing new.part.zeroDue).foldl (fun m z =>
    match z.1.1 with | .granule _ => max m z.2 | .bay _ => m) now
  { new with part := { new.part with
      zeroing := new.part.zeroing ++ bays.map (fun n => (ZeroRes.bay n, p)) ++ grs.map (fun g => (ZeroRes.granule g, p))
      zeroDue := new.part.zeroDue ++ bays.map (fun _ => now + 350) ++
        (List.range grs.length).map (fun i => busy + 4100 * (i + 1)) } }

/-- The effect of a record (R349, R353–R355, R372, R388): what it takes away is zeroed, PLANES.UNLOCK opens the lock, and the
open-tail rule holds until the first beat start; with BEAT = 0 the schedule starts at entry 0. -/
def applyRecord (p : Nat) (l : List Byte) (s : State) : State :=
  let s1 := startZeroing p s (commitTable (withRecord s p l))
  let s2 := if recBit s1 p 60 4 24 then regPut s1 (Reg.PART_CTRL p) 0 else s1
  beatPut s2 p { gate := (beatGet s p).gate, appliedNs := s.tb.elapsed, entryNs := s.tb.elapsed,
                 tail := decide (recBeat s1 p ≠ 0 ∨ recNkerf s1 p = 0) }

/-- The effect of a region table (R349, R414): a change of CONTEST starts the contest window afresh. -/
def applyRegions (p : Nat) (l : List Byte) (s : State) : State :=
  let s1 := withRegions s p l
  let cover := fun (x : State) => ((rgValid x p).filter (fun e => (rgAttr e).testBit 3)).map (fun e => (rgBase e, rgSize e))
  let s2 := { s1 with part := { s1.part with regionsHeld := tabPut false s1.part.regionsHeld p true, ptver := s1.part.ptver + 1 } }
  if cover s = cover s1 then s2 else forgetWriters p s2

/-- The effect of an operation. -/
def applyConfig (op p : Nat) (l : List Byte) (s : State) : State :=
  match op with
  | 0 => applyRecord p l s
  | 1 => applyRegions p l s
  | _ => commitTable (withWheels s l)

/-- The conditions on resources for a running operation to take effect (R349, R352). -/
def configReady (s : State) (op p : Nat) (l : List Byte) : Bool :=
  leavingFree s op p l && (decide (op ≠ 0) || plumbsOver s p)

/-- On the joined secondary: the primary is told when the conditions of an operation that it has forwarded hold here (R656). -/
def reportReady (r : Nat) (s : State) : State :=
  if twinJoined s && twinSecondary s then
    match s.twin.forwarded.find? (fun x => decide (configRegion x.2.1 x.2.2.1 = r)) with
    | some (h, op, p, l) => if configReady s op p l then sendCtl (.ready h) s else s
    | none => s
  else s

/-- An operation forwarded by the primary takes effect here. -/
def applyForwarded (h : Nat) (s : State) : State :=
  let rest := s.twin.forwarded.filter (fun x => decide (x.1 ≠ h))
  match s.twin.forwarded.find? (fun x => decide (x.1 = h)) with
  | some (_, op, p, l) => applyConfig op p l { s with twin := { s.twin with forwarded := rest } }
  | none => s

/-- On the joined primary an operation waits until its conditions hold on the secondary too. -/
def peerReady (s : State) (slot : Nat) : Bool := !joinedPrimary s || s.twin.ready.contains (handleOf s slot)

/-- The secondary applies the operation with the primary. -/
def tellApply (slot : Nat) (s : State) : State :=
  let h := handleOf s slot
  if joinedPrimary s then sendCtl (.apply h) { s with twin := { s.twin with ready := s.twin.ready.filter (fun x => decide (x ≠ h)) } } else s

/-- A running operation of region `r` whose conditions hold is re-validated and takes effect, or ends DONE_FAULT 0x2009
(R349, R350); the queued request then runs (R56). -/
def takeConfig (r : Nat) (s0 : State) : State :=
  let s := reportReady r s0
  match (updGet s r).running with
  | some slot =>
    let d := dowelGet s slot
    match d.kind with
    | .config op p =>
      if configReady s op p d.payload && peerReady s slot then
        match configTest s op p d.payload with
        | some _ => completeDowel raise slot .doneFault 0x2009 s
        | none => completeDowel raise slot .doneOk 0 (applyConfig op p d.payload (tellApply slot s))
      else s
    | _ => s
  | none => s

end Sys2Proof.Machine
end

