-- ==== Sys2Proof/Machine/ExecPart.lean ====
section
/-!
DEFINITION. The partition hardware's own steps (chapters 9 and 10): swaps, the application of operations, the 10 µs check,
the re-verification of tables, zeroing, the lock and beats.
-/

namespace Sys2Proof.Machine

/-- The step falls on a beat start of the partition, or the partition has no beat (R349, R360). -/
def atBeat (s : State) (p : Nat) : Bool :=
  decide (recBeat s p = 0) || ((beatGet s p).started && decide ((beatGet s p).startNs = s.tb.elapsed))

/-! Swaps (R360, R361). -/

/-- The indices of the valid entries of a swap group. -/
def groupEntries (s : State) (p g : Nat) : List Nat :=
  (List.range 32).filter (fun i => (rgAttr (rgEntry s p i)).testBit 7 && decide (rgSwap (rgEntry s p i) = g))

/-- Write the attribute word of entry `i` of a region table. -/
def putAttr (t : Tab Byte) (i v : Nat) : Tab Byte := putBytes t (16 * i + 12) (leBytes 4 v)

/-- Exchange R, W, X and CONTEST, bits [3:0] of the attribute words, of two entries; PART computes the check word. -/
def exchange (p i j : Nat) (s : State) : State :=
  let ai := rgAttr (rgEntry s p i)
  let aj := rgAttr (rgEntry s p j)
  let t := putAttr (putAttr (tabGet [] s.part.regions p) i (ai / 16 * 16 + aj % 16)) j (aj / 16 * 16 + ai % 16)
  let t1 := putBytes t 524 (leBytes 4 (crc32c ((rangeFrom 0 524).map (tabGet 0 t))).toNat)
  let s1 := { s with part := { s.part with regions := tabPut [] s.part.regions p t1 } }
  if ai.testBit 3 = aj.testBit 3 then s1 else forgetWriters p s1

/-- A running swap takes effect, or ends DONE_FAULT 0x2008 when its group does not hold exactly two valid entries (R360). -/
def takeSwap (p g : Nat) (s : State) : State :=
  match (updGet s (swapRegion p g)).running with
  | some slot =>
    match groupEntries s p g with
    | [i, j] => completeDowel raise slot .doneOk 0 (exchange p i j s)
    | _ => completeDowel raise slot .doneFault 0x2008 s
  | none => s

/-- REGION_SWAP_APPLY (R360, R361): at a beat start, after a REGIONS operation of that beat start; with BEAT = 0 at once. -/
def execRegionSwapApply (part group : Nat) (s : State) : Host.Outcome State Fault Refusal :=
  if part < 8 ∧ 1 ≤ group ∧ group < 16 then
    .next (if atBeat s part then takeSwap part group (takeConfig part s) else s)
  else .fault .absentUnit

/-! Operations. -/

/-- PARTITION_CONFIG_APPLY (R349, R351): of a partition's region 0–7 at its beat start or, without beats, at a check; of the
wheels' region 8 at the start of a wheel turn. -/
def execPartitionConfigApply (region : Nat) (s : State) : Host.Outcome State Fault Refusal :=
  if region < 8 then .next (if atBeat s region then takeConfig region s else s)
  else if region = 8 then .next (if s.part.wheelSlots % 64 = 0 then takeConfig 8 s else s)
  else .fault .absentUnit

/-- What a 10 µs check does for one partition without beats (R349, R403). -/
def checkPart (s : State) (p : Nat) : State :=
  if recBeat s p = 0 then
    let s1 := takeConfig p s
    if 100 ≤ s1.part.checks - tabGet 0 s1.part.contestCheck p then
      forgetWriters p { s1 with part := { s1.part with contestCheck := tabPut 0 s1.part.contestCheck p s1.part.checks } }
    else s1
  else s

/-- PART_CHECK (R349, R403): the next 10 µs check, once its time has come. -/
def execPartCheck (s : State) : Host.Outcome State Fault Refusal :=
  .next
    (if s.part.checks < s.tb.elapsed / 10000 then
      (List.range 8).foldl checkPart { s with part := { s.part with checks := s.part.checks + 1 } }
    else s)

/-- A region table that fails its check word is used no more, and its partition is stopped (R48). -/
def scanRegions (s : State) (p : Nat) : State :=
  if tabGet false s.part.regionsHeld p && !tabGet false s.part.regionsBad p &&
      !checkOk ((rangeFrom 0 528).map (tabGet 0 (tabGet [] s.part.regions p))) then
    raiseWith 2 0x056 (some p) 0 { s with part := { s.part with regionsBad := tabPut false s.part.regionsBad p true } }
  else s

/-- A partition table that fails its check word is used no more, and the device enters safe state (R48). -/
def scanTable (s : State) : State :=
  if s.part.tableHeld && !s.part.tableBad && !checkOk ((rangeFrom 0 4368).map (tabGet 0 s.part.table)) then
    raiseWith 3 0x056 none 0 { s with part := { s.part with tableBad := true } }
  else s

/-- TABLE_SCAN (R48). -/
def execTableScan (s : State) : Host.Outcome State Fault Refusal := .next ((List.range 8).foldl scanRegions (scanTable s))

/-! Zeroing (R354). -/

/-- The place of a resource in the list of those being zeroed. -/
def zeroAt (s : State) (z : ZeroRes) : Option Nat := s.part.zeroing.findIdx? (fun x => decide (x.1 = z))

/-- Zero a released resource. -/
def zeroRes (z : ZeroRes) (s : State) : State :=
  match z with
  | .bay n => (match lbPhys s n with | some pb => zeroStore s pb | none => s)
  | .granule g =>
    { s with mem := s.mem.filter (fun (a, _) =>
        decide (a < loftBase + g * 0x40000) || decide (loftBase + (g + 1) * 0x40000 ≤ a)) }

/-- A resource whose zeroing time has come is zeroed and free to be named by a record. -/
def zeroDone (z : ZeroRes) (s : State) : State :=
  match zeroAt s z with
  | some i =>
    if s.part.zeroDue.getD i 0 ≤ s.tb.elapsed then
      zeroRes z { s with part := { s.part with zeroing := s.part.zeroing.eraseIdx i, zeroDue := s.part.zeroDue.eraseIdx i } }
    else s
  | none => s

/-- RESOURCE_ZEROING_DONE (R354): of a logical bay's store, or of a loft granule. -/
def execResourceZeroingDone (granule : Bool) (n : Nat) (s : State) : Host.Outcome State Fault Refusal :=
  if n < (if granule then 96 else 64) then .next (zeroDone (if granule then .granule n else .bay n) s) else .fault .absentUnit

/-- PART_CTRL_LOCK (R355): the lock closes. -/
def execPartCtrlLock (init part : Nat) (s : State) : Host.Outcome State Fault Refusal :=
  if part < 8 then .next (asInit init (Reg.PART_CTRL part) true (fun s => regPut s (Reg.PART_CTRL part) 1) s)
  else .fault .absentUnit

/-! Beats (R353). -/

/-- The first beat under the record in force starts when working time reaches PHASE, or at application when PHASE lies 2^31 ns
or more ahead; each later beat BEAT µs of elapsed time after the previous one (R353, R509). -/
def beatDue (s : State) (p : Nat) : Bool :=
  let b := beatGet s p
  decide (recBeat s p ≠ 0) &&
    (if b.started then decide (b.startNs + recBeat s p * 1000 ≤ s.tb.elapsed)
     else
       let d := (recNum s p 52 4 + 2 ^ 32 - workTime s) % 2 ^ 32
       decide (d = 0) || decide (2 ^ 31 ≤ d))

/-- The beat's own start: its time, the plumb runs of the ending beat that are missing (R460, R461), and the change of GATE,
which waits while a held job is unsettled (R464, R498). P0 runs no plumb runs (R462). -/
def beginBeat (p : Nat) (s : State) : State :=
  let b := beatGet s p
  let start := if b.started then b.startNs + recBeat s p * 1000 else s.tb.elapsed
  let bays := partBays s p
  let missed := if b.started && decide (p ≠ 0) then bays.filter (fun n => !s.part.plumbed.contains n) else []
  let s1 := { s with part := { s.part with
      overdue := s.part.overdue ++ missed.map (fun n => (n, p)), plumbed := s.part.plumbed.filter (fun n => !bays.contains n) } }
  let held := s1.cmd.slots.any (fun (_, d) => decide (d.part = p) && d.held)
  beatPut s1 p
    { b with
      started := true, startNs := start, startWt := workTime s, entry := 0, entryNs := start, tail := decide (recNkerf s p = 0)
      gate := if held then b.gate else regBit s1 (Reg.SAFETY_PLUMB_CFG p) 31 }

/-- A beat start (R349, R353, R360, R361, R372, R403): the REGIONS or RECORD operation takes effect, then the swaps, the contest
window starts afresh, and the schedule restarts. -/
def startBeat (p : Nat) (s : State) : State :=
  let s1 := takeConfig p (beginBeat p s)
  let s2 := (rangeFrom 1 15).foldl (fun s g => takeSwap p g s) s1
  kerfPass p (forgetWriters p s2)

/-- BEAT_START (R353). -/
def execBeatStart (part : Nat) (s : State) : Host.Outcome State Fault Refusal :=
  if part < 8 then .next (if beatDue s part then startBeat part s else s) else .fault .absentUnit

end Sys2Proof.Machine
end

