-- ==== Sys2Proof/Machine/JointerOps.lean ====
section
/-!
DEFINITION. What each jointer command of chapter 7 computes, as a function of the bytes it reads: the writes it makes in
order, the fault that ends it, the indices it padded or skipped. Reading is a function argument here; State holds none.
-/

namespace Sys2Proof.Machine

/-- How the jointer reads a byte of memory. -/
abbrev Reader := Nat → Byte

/-- What a command did: its writes in order (address, bytes), the subcode of an imprecise fault (R261), the indices it
padded or skipped under RANGE = 1, and the free values it took. -/
structure JRes where
  writes : List (Nat × List Byte) := []
  fault : Option Nat := none
  ranged : Nat := 0
  draws : Nat := 0
  deriving DecidableEq, Repr

/-- Bytes read from consecutive addresses. -/
def readBytes (rd : Reader) (a n : Nat) : List Byte := (List.range n).map (fun i => rd (a + i))

/-- Elements of a list descriptor: ROWS × ROWLEN / 4 (R257). -/
def listLen (d : Desc) : Nat := Desc.rows d * Desc.rowLen d / 4

/-- The address of 4-byte element i: the rows of the descriptor concatenated in row order (R257). -/
def elemAddr (d : Desc) (i : Nat) : Nat :=
  Desc.rowAddr d (4 * i / Desc.rowLen d) + 4 * i % Desc.rowLen d

/-- Element i of a list, an unsigned 32-bit value. -/
def elemAt (rd : Reader) (d : Desc) (i : Nat) : Nat := leVal (readBytes rd (elemAddr d i) 4)

/-- All elements of a list. -/
def elems (rd : Reader) (d : Desc) : List Nat := (List.range (listLen d)).map (elemAt rd d)

/-- The null index (R257). -/
def nullIndex : Nat := 0xFFFFFFFF

/-- Writes of 4-byte values to consecutive elements of a list descriptor, from element `i`. -/
def putElems (d : Desc) : Nat → List Nat → List (Nat × List Byte)
  | _, [] => []
  | i, v :: t => (elemAddr d i, leBytes 4 v) :: putElems d (i + 1) t

/-- The 8-byte result word: COUNT and a high word (R259). -/
def resultWord (count hi : Nat) : List Byte := leBytes 4 count ++ leBytes 4 hi

/-! ### Gather -/

/-- JGATHER's rows from index `j` on (R262, R263). -/
def gatherRows (rd : Reader) (db dc : Desc) (pad : Byte) (range : Bool) : Nat → List Nat → JRes
  | _, [] => {}
  | j, ix :: t =>
    let padRow := List.replicate (Desc.rowLen dc) pad
    let bad := decide (ix ≠ nullIndex ∧ Desc.rows db ≤ ix)
    if bad && !range then { fault := some 0x03 }
    else
      let row :=
        if ix = nullIndex ∨ bad = true then padRow
        else readBytes rd (Desc.rowAddr db ix) (Desc.rowLen db)
          ++ List.replicate (Desc.rowLen dc - Desc.rowLen db) pad
      let r := gatherRows rd db dc pad range (j + 1) t
      { r with writes := (Desc.rowAddr dc j, row) :: r.writes, ranged := r.ranged + (if bad then 1 else 0) }

/-- JGATHER (R262): the gathered rows, then PAD rows up to a multiple of 128. -/
def gather (rd : Reader) (da db dc : Desc) (pad : Nat) (range : Bool) : JRes :=
  let n := listLen da
  let p : Byte := BitVec.ofNat 8 pad
  let r := gatherRows rd db dc p range 0 (elems rd da)
  match r.fault with
  | some _ => r
  | none =>
    let fill := (rangeFrom n (alignUp n 128 - n)).map (fun j =>
      (Desc.rowAddr dc j, List.replicate (Desc.rowLen dc) p))
    { r with writes := r.writes ++ fill }

/-! ### Scatter-add -/

/-- FP32 addition of the jointer: RNE, subnormals honoured, default NaN, no flag (R266). -/
def jfpAdd (a b : Nat) : Nat :=
  (Fmt.fp32.finish .rne false false (addExact .rne (Fmt.fp32.decode a) (Fmt.fp32.decode b))).bits

/-- One element's addition: INT32 modulo 2^32, or FP32 (R266). -/
def scatElem (fmt : Nat) (a b : Nat) : Nat := if fmt = 0x9 then jfpAdd a b else (a + b) % 2 ^ 32

/-- The words a scatter-add has changed so far, by address. -/
abbrev Overlay := Tab (Option Nat)

/-- A 4-byte word, through the words changed so far. -/
def overlayRead (rd : Reader) (o : Overlay) (a : Nat) : Nat :=
  match tabGet none o a with
  | some v => v
  | none => leVal (readBytes rd a 4)

/-- Add update row `j` of DB into row `ix` of DC, element by element (R265, R267). -/
def scatRow (rd : Reader) (db dc : Desc) (j ix : Nat) : Nat → Overlay → Overlay
  | 0, o => o
  | k + 1, o =>
    let o1 := scatRow rd db dc j ix k o
    let a := Desc.rowAddr dc ix + 4 * k
    let u := leVal (readBytes rd (Desc.rowAddr db j + 4 * k) 4)
    tabPut none o1 a (some (scatElem (Desc.fmt dc) (overlayRead rd o1 a) u))

/-- The state of a scatter-add between updates. -/
structure ScatSt where
  words : Overlay := []
  fault : Option Nat := none
  ranged : Nat := 0
  deriving DecidableEq, Repr

/-- Apply one update (j, index); after a fault nothing more (R261, R265). -/
def scatOne (rd : Reader) (db dc : Desc) (range : Bool) (st : ScatSt) (u : Nat × Nat) : ScatSt :=
  if st.fault.isSome then st
  else if u.2 = nullIndex then st
  else if Desc.rows dc ≤ u.2 then
    (if range then { st with ranged := st.ranged + 1 } else { st with fault := some 0x03 })
  else { st with words := scatRow rd db dc u.1 u.2 (Desc.rowLen dc / 4) st.words }

/-- The list in arrival order: each next one is picked by a free value among those that remain, since the manual does not
fix the order (R268, R278). -/
def arrivalOrder {α : Type} : Nat → Nat → List α → List α
  | 0, _, _ => []
  | n + 1, ctr, l =>
    let i := (Config.freeValue ctr).toNat % l.length
    match l[i]? with
    | none => []
    | some x => x :: arrivalOrder n (ctr + 1) (l.take i ++ l.drop (i + 1))

/-- JSCATO and JSCATU (R265–R268). `unordered` takes arrival order from free values starting at `ctr`. -/
def scatter (rd : Reader) (da db dc : Desc) (range unordered : Bool) (ctr : Nat) : JRes :=
  let ups := (List.range (listLen da)).zip (elems rd da)
  let order := if unordered then arrivalOrder ups.length ctr ups else ups
  let st := order.foldl (scatOne rd db dc range) {}
  { writes := st.words.map (fun e => (e.1, leBytes 4 (e.2.getD 0)))
    fault := st.fault, ranged := st.ranged, draws := if unordered then ups.length else 0 }

/-! ### Segment reduction -/

/-- Element size in bytes of an operand format (R272). -/
def elemSize (fmt : Nat) : Nat := if fmt = 0x6 ∨ fmt = 0x7 then 2 else 1

/-- The weight tile size of a format, T of the block layout (R75, R272). -/
def packTile (fmt : Nat) : Nat := 128 * 128 * elemSize fmt

/-- BS = 2T + 128 (R272). -/
def packBlock (fmt : Nat) : Nat := 2 * packTile fmt + 128

/-- The coefficient one in each format (R273). -/
def coeffOne (fmt : Nat) : Nat :=
  if fmt = 0x1 then 0x01 else if fmt = 0x4 then 0x38 else if fmt = 0x5 then 0x3C else if fmt = 0x6 then 0x3C00
  else 0x3F80

/-- The offsets never decrease (R270). -/
def nondecreasing : List Nat → Bool
  | [] => true
  | [_] => true
  | a :: b :: t => decide (a ≤ b) && nondecreasing (b :: t)

/-- The segment of edge e: the s with offsets[s] ≤ e < offsets[s+1] (R270). -/
def segmentOf (e : Nat) : Nat → List Nat → Nat
  | s, _ :: b :: t => if e < b then s else segmentOf e (s + 1) (b :: t)
  | s, _ => s

/-- The number of edges of the block that starts at edge `e` in segment `s0`: at most 128, not past `last`, and before an
edge that would make it span more than 128 segments (R271). -/
def blockLen (offs : List Nat) (s0 e last : Nat) : Nat → Nat
  | 0 => 0
  | k + 1 =>
    if e < last ∧ segmentOf e 0 offs < s0 + 128 then 1 + blockLen offs s0 (e + 1) last k else 0

/-- The bytes of one packed element of a row, zero-extended to 128 elements (R272). -/
def packRow (es : Nat) (bs : List Byte) : List Byte := bs ++ List.replicate (128 * es - bs.length) 0

/-- One packed block (R272, R273), or an out-of-range column. -/
def packBlockBytes (rd : Reader) (offs : List Nat) (db dc : Desc) (dw : Option Desc) (e n : Nat) : Option (List (Nat × List Byte)) :=
  let fmt := Desc.fmt dc
  let es := elemSize fmt
  let t := packTile fmt
  let edges := rangeFrom e n
  let cols := edges.map (elemAt rd db)
  let inDb := decide (e + n ≤ listLen db) &&
    (match dw with
     | none => true
     | some d => decide (e + n ≤ Desc.rows d * Desc.rowLen d / es))
  if !inDb || cols.any (fun c => decide (Desc.rows dc ≤ c)) then none
  else
    let s0 := segmentOf e 0 offs
    let sl := segmentOf (e + n - 1) 0 offs
    let nseg := sl - s0 + 1
    let tile := (cols.map (fun c => packRow es (readBytes rd (Desc.rowAddr dc c) (Desc.rowLen dc)))).flatten
    let coeff : Nat → List Byte := fun ed =>
      match dw with
      | none => leBytes es (coeffOne fmt)
      | some d => readBytes rd (Desc.rowAddr d (es * ed / Desc.rowLen d) + es * ed % Desc.rowLen d) es
    let crow : Nat → List Byte := fun r =>
      packRow es ((edges.map (fun ed => if segmentOf ed 0 offs = s0 + r then coeff ed else leBytes es 0)).flatten)
    some [(0, tile ++ List.replicate (t - tile.length) 0),
          (t, ((List.range nseg).map crow).flatten),
          (2 * t, leBytes 4 s0 ++ leBytes 4 nseg ++ leBytes 4 n ++ List.replicate 116 0)]

/-- Blocks from edge `e` into rows `i` of DD while rows remain (R274): the writes, the count, NEXT, and a fault. -/
def packBlocks (rd : Reader) (offs : List Nat) (db dc dd : Desc) (dw : Option Desc) (last : Nat) :
    Nat → Nat → Nat → List (Nat × List Byte) × Nat × Nat × Option Nat
  | 0, i, e => ([], i, e, none)
  | k + 1, i, e =>
    if last ≤ e then ([], i, e, none)
    else
      let n := blockLen offs (segmentOf e 0 offs) e last 128
      match packBlockBytes rd offs db dc dw e n with
      | none => ([], i, e, some 0x03)
      | some ws =>
        let base := Desc.rowAddr dd i
        let r := packBlocks rd offs db dc dd dw last k (i + 1) (e + n)
        (ws.map (fun p => (base + p.1, p.2)) ++ r.1, r.2)

/-- JSEGPACK (R270–R274). The offsets are checked before the first block is written. -/
def segpack (rd : Reader) (da db dc dd : Desc) (dw : Option Desc) (e0 res : Nat) : JRes :=
  let offs := elems rd da
  let first := offs.headD 0
  let last := offs.getLastD 0
  if !nondecreasing offs then { fault := some 0x06 }
  else if e0 < first ∨ last ≤ e0 then { fault := some 0x03 }
  else
    let r := packBlocks rd offs db dc dd dw last (Desc.rows dd) 0 e0
    match r.2.2.2 with
    | some f => { writes := r.1, fault := some f }
    | none => { writes := r.1 ++ [(res, resultWord r.2.1 r.2.2.1)] }

/-! ### Sort, partition, intersection, top-k, compaction -/

/-- The transformed key of a KIND (R276): unsigned order of the result is the order asked for. -/
def keyOrder (kind k : Nat) : Nat :=
  if kind = 1 then k ^^^ 0x80000000
  else if kind = 2 then (if k.testBit 31 then k ^^^ 0xFFFFFFFF else k ^^^ 0x80000000)
  else k

/-- Insert keeping the order stable: behind every element that does not come after it. -/
def stableInsert {α : Type} (before : α → α → Bool) (x : α) : List α → List α
  | [] => [x]
  | y :: t => if before x y then x :: y :: t else y :: stableInsert before x t

/-- A stable sort: `before a b` says a must stand before b; equals keep their input order (R277). -/
def stableSort {α : Type} (before : α → α → Bool) (l : List α) : List α :=
  l.foldl (fun acc x => stableInsert before x acc) []

/-- JSORT (R276, R277): keys paired with their payloads, sorted on bits [LO+NBITS−1:LO] of the transformed key. -/
def jsort (rd : Reader) (da db dc dd : Desc) (kind : Nat) (desc nopay : Bool) (lo nbits : Nat) : JRes :=
  let keys := elems rd da
  let pays := if nopay then keys.map (fun _ => 0) else elems rd db
  let rank : Nat × Nat → Nat := fun p => nfld (keyOrder kind p.1) lo nbits
  let out := stableSort (fun a b => if desc then decide (rank b < rank a) else decide (rank a < rank b))
    (keys.zip pays)
  { writes := putElems dc 0 (out.map (·.1)) ++ (if nopay then [] else putElems dd 0 (out.map (·.2))) }

/-- The bucket of a key (R278); `lb` is log2 B. -/
def bucketOf (hash : Bool) (lo lb k : Nat) : Nat :=
  if hash then (k * 0x9E3779B1 % 2 ^ 32) >>> (32 - lb) else (k >>> lo) % 2 ^ lb

/-- JHPARTO and JHPARTU (R278): within each bucket the input order, or arrival order from free values. -/
def hpart (rd : Reader) (da db dc dd : Desc) (hash nopay unordered : Bool) (lo lb tab ctr : Nat) : JRes :=
  let keys := elems rd da
  let pays := if nopay then keys.map (fun _ => 0) else elems rd db
  let input := keys.zip pays
  let seq := if unordered then arrivalOrder input.length ctr input else input
  let b := 2 ^ lb
  let bucket : Nat → List (Nat × Nat) := fun i => seq.filter (fun p => decide (bucketOf hash lo lb p.1 = i))
  let out := ((List.range b).map bucket).flatten
  let offsets := (List.range (b + 1)).map (fun i =>
    ((List.range i).map (fun j => (bucket j).length)).sum)
  { writes := putElems dc 0 (out.map (·.1)) ++ (if nopay then [] else putElems dd 0 (out.map (·.2)))
      ++ [(tab, (offsets.map (leBytes 4)).flatten)]
    draws := if unordered then input.length else 0 }

/-- The state of an intersection: A still unread with the index of its head and the value before it, the records so
far, a fault. -/
structure IsectSt where
  arest : List Nat
  ai : Nat := 0
  aprev : Option Nat := none
  bprev : Option Nat := none
  recs : List (Nat × Nat) := []
  fault : Option Nat := none
  deriving DecidableEq, Repr

/-- Advance A past values below `b`, checking that it rises strictly (R279). -/
def isectAdvance (b : Nat) : List Nat → IsectSt → IsectSt
  | [], st => { st with arest := [] }
  | a :: t, st =>
    if (match st.aprev with | some p => decide (a ≤ p) | none => false) then { st with arest := a :: t, fault := some 0x08 }
    else if a < b then isectAdvance b t { st with ai := st.ai + 1, aprev := some a }
    else { st with arest := a :: t }

/-- One element of B: check its order, advance A, write a record when equal and there is room (R279). -/
def isectOne (cap : Nat) (st : IsectSt) (u : Nat × Nat) : IsectSt :=
  if st.fault.isSome then st
  else if (match st.bprev with | some p => decide (u.2 < p) | none => false) then { st with fault := some 0x08 }
  else
    let s1 := isectAdvance u.2 st.arest { st with bprev := some u.2 }
    if s1.fault.isSome then s1
    else
      match s1.arest with
      | [] => s1
      | a :: _ =>
        if a = u.2 then
          (if cap ≤ s1.recs.length then { s1 with fault := some 0x09 }
           else { s1 with recs := s1.recs ++ [(s1.ai, u.1)] })
        else s1

/-- JISECT (R279): after B is exhausted the rest of A is read, so a violation there raises UNSORTED too. -/
def isect (rd : Reader) (da db dc : Desc) (res : Nat) : JRes :=
  let cap := listLen dc / 2
  let st := ((List.range (listLen db)).zip (elems rd db)).foldl (isectOne cap) { arest := elems rd da }
  let st1 := if st.fault.isSome then st else isectAdvance (2 ^ 32) st.arest st
  let ws := putElems dc 0 ((st1.recs.map (fun p => [p.1, p.2])).flatten)
  match st1.fault with
  | some f => { writes := ws, fault := some f }
  | none => { writes := ws ++ [(res, resultWord st1.recs.length 0)] }

/-- JTOPK (R280): the first min(k, n) of a stable order by key, with their indices. -/
def topk (rd : Reader) (da dc : Desc) (kind : Nat) (asc : Bool) (k res : Nat) : JRes :=
  let ks := (elems rd da).zip (List.range (listLen da))
  let before : Nat × Nat → Nat × Nat → Bool := fun a b =>
    if asc then decide (keyOrder kind a.1 < keyOrder kind b.1) else decide (keyOrder kind b.1 < keyOrder kind a.1)
  let out := (stableSort before ks).take k
  { writes := putElems dc 0 ((out.map (fun p => [p.1, p.2])).flatten) ++ [(res, resultWord out.length 0)] }

/-- JCOMPACT's rows from row `i` of DA on, `o` rows already copied (R281). -/
def compactRows (rd : Reader) (da db dc : Desc) : Nat → Nat → Nat → JRes × Nat
  | 0, _, o => ({}, o)
  | k + 1, i, o =>
    let byte := rd (Desc.rowAddr db (i / 8 / Desc.rowLen db) + i / 8 % Desc.rowLen db)
    if byte.getLsbD (i % 8) then
      (if Desc.rows dc ≤ o then ({ fault := some 0x09 }, o)
       else
         let r := compactRows rd da db dc k (i + 1) (o + 1)
         ({ r.1 with writes := (Desc.rowAddr dc o, readBytes rd (Desc.rowAddr da i) (Desc.rowLen da)) :: r.1.writes }, r.2))
    else compactRows rd da db dc k (i + 1) o

/-- JCOMPACT (R281). -/
def compact (rd : Reader) (da db dc : Desc) (res : Nat) : JRes :=
  let r := compactRows rd da db dc (Desc.rows da) 0 0
  match r.1.fault with
  | some _ => r.1
  | none => { r.1 with writes := r.1.writes ++ [(res, resultWord r.2 0)] }

/-! ### The checks at issue -/

/-- What a jointer command names: its input descriptors, its output descriptors, which of them are lists (R257), and the
result word or bucket table with its length and alignment (R256). -/
structure JNames where
  ins : List Desc
  outs : List Desc
  lists : List Desc
  res : Option (Nat × Nat × Nat) := none
  deriving DecidableEq, Repr

/-- The operands of a jointer command (R256). `d` reads a stream descriptor register, `rb` is s[RB]. -/
def jointerNames (o : Op) (w : Word64) (d : Nat → Desc) (rb : Nat) : JNames :=
  let a := d (Q.da w)
  let b := d (Q.db w)
  let c := d (Q.dc w)
  match o with
  | .jgather => { ins := [a, b], outs := [c], lists := [a] }
  | .jscato | .jscatu => { ins := [a, b], outs := [c], lists := [a] }
  | .jsegpack =>
    { ins := [a, b, c] ++ (if bitAt w 8 then [d (fld w 4 4)] else []), outs := [d (fld w 0 4)], lists := [a, b]
      res := some (rb, 8, 8) }
  | .jcompact => { ins := [a, b], outs := [c], lists := [], res := some (rb, 8, 8) }
  | .jsort =>
    if bitAt w 3 then { ins := [a], outs := [c], lists := [a, c] }
    else { ins := [a, b], outs := [c, d (fld w 14 4)], lists := [a, b, c, d (fld w 14 4)] }
  | .jhparto | .jhpartu =>
    let tab := (rb, 4 * (2 ^ (fld w 1 3 + 1) + 1), 4)
    if bitAt w 9 then { ins := [a], outs := [c], lists := [a, c], res := some tab }
    else { ins := [a, b], outs := [c, d (fld w 10 4)], lists := [a, b, c, d (fld w 10 4)], res := some tab }
  | .jisect => { ins := [a, b], outs := [c], lists := [a, b], res := some (rb, 8, 8) }
  | .jtopk => { ins := [a], outs := [c], lists := [a], res := some (rb, 8, 8) }
  | _ => { ins := [], outs := [], lists := [] }

/-- The command's own descriptor conditions of chapter 7 (R264, R265, R272, R277, R280, R281). -/
def jointerDescOk (o : Op) (w : Word64) (d : Nat → Desc) : Bool :=
  let a := d (Q.da w)
  let b := d (Q.db w)
  let c := d (Q.dc w)
  let n := listLen a
  match o with
  | .jgather =>
    decide (Desc.fmt b = Desc.fmt c) && decide (Desc.rowLen b ≤ Desc.rowLen c) && decide (alignUp n 128 ≤ Desc.rows c)
  | .jscato | .jscatu =>
    decide (Desc.rows b = n) && decide (Desc.rowLen b = Desc.rowLen c) && decide (Desc.fmt b = Desc.fmt c) &&
      decide (Desc.fmt b = 0x3 ∨ Desc.fmt b = 0x9) && decide (Desc.rowLen b % 4 = 0)
  | .jsegpack =>
    let f := Desc.fmt c
    let dd := d (fld w 0 4)
    decide (f = 0x1 ∨ f = 0x4 ∨ f = 0x5 ∨ f = 0x6 ∨ f = 0x7) && decide (Desc.rowLen c ≤ 128 * elemSize f) &&
      decide (Desc.fmt dd = f) && decide (Desc.rowLen dd = packBlock f) && decide (Desc.stride dd = packBlock f) &&
      (!(bitAt w 8) || decide (Desc.fmt (d (fld w 4 4)) = f))
  | .jcompact =>
    decide (Desc.fmt b = 0x1) && decide ((Desc.rows a + 7) / 8 ≤ Desc.rows b * Desc.rowLen b) &&
      decide (Desc.rowLen c = Desc.rowLen a)
  | .jsort => decide (n ≤ 32768) && (bitAt w 3 || decide (n ≤ listLen b))
  | .jhparto | .jhpartu => bitAt w 9 || decide (n ≤ listLen b)
  | .jisect => true
  | .jtopk => decide (min (fld w 3 10 + 1) n ≤ Desc.rows c * Desc.rowLen c / 8)
  | _ => true

/-- The enclosing ranges of two descriptors meet (R187, R260). -/
def descMeet (x y : Desc) : Bool := rangesMeet (Desc.base x) (Desc.extent x) (Desc.base y) (Desc.extent y)

/-- OVERLAP at issue (R260). -/
def jointerOverlap (nm : JNames) : Bool :=
  nm.outs.any (fun x => nm.ins.any (fun y => descMeet x y)) ||
    (match nm.res with
     | none => false
     | some r => nm.ins.any (fun y => rangesMeet r.1 r.2.1 (Desc.base y) (Desc.extent y)))

/-- MISALIGNED at issue (R258). -/
def jointerMisaligned (o : Op) (w : Word64) (d : Nat → Desc) (nm : JNames) : Bool :=
  (nm.ins ++ nm.outs).any (fun x => decide (Desc.base x % 4 ≠ 0) || decide (Desc.stride x % 4 ≠ 0)) ||
    (decide (o = .jsegpack) && decide (Desc.base (d (fld w 0 4)) % 128 ≠ 0)) ||
    (match nm.res with
     | none => false
     | some r => decide (r.1 % r.2.2 ≠ 0))

/-- The outputs of JSORT and of the hash partitions hold n elements; else CAPACITY (R261). -/
def jointerCapacityBad (o : Op) (w : Word64) (d : Nat → Desc) : Bool :=
  let n := listLen (d (Q.da w))
  match o with
  | .jsort => decide (listLen (d (Q.dc w)) < n) || (!(bitAt w 3) && decide (listLen (d (fld w 14 4)) < n))
  | .jhparto | .jhpartu => decide (listLen (d (Q.dc w)) < n) || (!(bitAt w 9) && decide (listLen (d (fld w 10 4)) < n))
  | _ => false

/-- What a jointer command does, by its instruction (chapter 7). `ctr` is the first free value it may take. -/
def jointerRun (rd : Reader) (o : Op) (w : Word64) (d : Nat → Desc) (ra rb ctr : Nat) : JRes :=
  let a := d (Q.da w)
  let b := d (Q.db w)
  let c := d (Q.dc w)
  if jointerCapacityBad o w d then { fault := some 0x09 }
  else
    match o with
    | .jgather => gather rd a b c (fld w 0 8) (bitAt w 8)
    | .jscato => scatter rd a b c (bitAt w 8) false ctr
    | .jscatu => scatter rd a b c (bitAt w 8) true ctr
    | .jsegpack =>
      segpack rd a b c (d (fld w 0 4)) (if bitAt w 8 then some (d (fld w 4 4)) else none) (ra % 2 ^ 32) rb
    | .jcompact => compact rd a b c rb
    | .jsort => jsort rd a b c (d (fld w 14 4)) (fld w 0 2) (bitAt w 2) (bitAt w 3) (fld w 4 5) (fld w 9 5 + 1)
    | .jhparto => hpart rd a b c (d (fld w 10 4)) (bitAt w 0) (bitAt w 9) false (fld w 4 5) (fld w 1 3 + 1) rb ctr
    | .jhpartu => hpart rd a b c (d (fld w 10 4)) (bitAt w 0) (bitAt w 9) true (fld w 4 5) (fld w 1 3 + 1) rb ctr
    | .jisect => isect rd a b c rb
    | .jtopk => topk rd a c (fld w 0 2) (bitAt w 2) (fld w 3 10 + 1) rb
    | _ => {}

/-- A list descriptor: FMT 0x3 and ROWLEN a multiple of 4 (R257). -/
def isList (d : Desc) : Bool := decide (Desc.fmt d = 0x3) && decide (Desc.rowLen d % 4 = 0)

end Sys2Proof.Machine
end

