-- ==== Sys2Proof/Machine/Queue.lean ====
section
/-!
DEFINITION. The three queues of a bay and its scoreboard (R184–R188): what each queued instruction reads and writes, when
it starts, and when a hand-processor access must wait for it.
-/

namespace Sys2Proof.Machine

/-! The own store. -/

/-- The own-store offset of an access that lies whole in the window of logical bay `n`. -/
def ownOff (n a len : Nat) : Option Nat :=
  match windowOf a with
  | some (b, off) => if b = n ∧ off + len ≤ storeSize then some off else none
  | none => none

/-- The own-store range of an access, if it has one. -/
def ownRange (n a len : Nat) : List (Nat × Nat) :=
  match ownOff n a len with
  | some off => [(off, len)]
  | none => []

/-- The own-store range of a descriptor: from the first byte of row 0 to the last byte of the last row (R187). -/
def descRange (n : Nat) (d : Desc) : List (Nat × Nat) := ownRange n (Desc.base d) (Desc.extent d)

/-! What a queued instruction uses. -/

/-- The resources of R186 that a queued instruction reads and writes: own-store ranges, weight slots, sill sets, FLAGS. -/
structure Uses where
  rd : List (Nat × Nat) := []
  wr : List (Nat × Nat) := []
  slotR : List Nat := []
  slotW : List Nat := []
  setR : List Nat := []
  setW : List Nat := []
  flagsW : Bool := false
  deriving DecidableEq, Repr

/-- The slots a stream names (R82). -/
def streamSlots (w : Word64) : List Nat := rangeFrom (MX.w w) (MX.wn w + 1)

/-- The scale range of a drain: 512 bytes at s[RS]; S0 means no scale (R233). -/
def scaleRange (n : Nat) (w : Word64) (ra : Word64) : List (Nat × Nat) :=
  if MX.rs w = 0 then [] else ownRange n ra.toNat 512

/-- What a queued instruction uses, by its operands (chapter 6). -/
def usesOf (n : Nat) (o : Op) (w : Word64) (d : Nat → Desc) (ra rb : Word64) : Uses :=
  match o with
  | .mloadw => { rd := descRange n (d (MX.da w)), slotW := [MX.w w] }
  | .mstream =>
    let dst := descRange n (d (MX.db w))
    if MX.line w then
      { rd := descRange n (d (MX.da w)) ++ (if MX.first w then [] else dst) ++ (if MX.final w then scaleRange n w ra else [])
        wr := if MX.final w then descRange n (d (MX.dc w)) else dst
        slotR := streamSlots w, flagsW := true }
    else { rd := descRange n (d (MX.da w)), slotR := streamSlots w, setR := [MX.a w], setW := [MX.a w], flagsW := true }
  | .mdrain =>
    { rd := (if MX.line w then descRange n (d (MX.db w)) else []) ++ scaleRange n w ra
      wr := descRange n (d (MX.da w))
      setR := if MX.line w then [] else [MX.a w]
      setW := if MX.line w || !MX.clear w then [] else [MX.a w]
      flagsW := true }
  | .mclear => if MX.line w then { wr := descRange n (d (MX.db w)) } else { setW := [MX.a w] }
  | .mxferStore => { wr := descRange n (d (MX.da w)), setR := [MX.a w] }
  | .mxferAdd => { rd := descRange n (d (MX.da w)), setR := [MX.a w], setW := [MX.a w] }
  | .mxferLoad => { rd := descRange n (d (MX.da w)), setW := [MX.a w] }
  | .copy => { rd := ownRange n ra.toNat (64 * Q.opt w), wr := ownRange n rb.toNat (64 * Q.opt w) }
  | .scopy | .pref => { rd := descRange n (d (Q.da w)), wr := descRange n (d (Q.db w)) }
  | .jgather | .jscato | .jscatu | .jsegpack | .jcompact | .jsort | .jhparto | .jhpartu | .jisect | .jtopk =>
    let nm := jointerNames o w d rb.toNat
    { rd := nm.ins.flatMap (descRange n)
      wr := nm.outs.flatMap (descRange n) ++
        (match nm.res with | some r => ownRange n r.1 r.2.1 | none => []) }
  | _ => {}

/-- What an entry uses. -/
def QEntry.uses (n : Nat) (e : QEntry) : Uses :=
  usesOf n (issuesAs e.word) e.word (fun i => tabGet 0 e.descs i) e.ra e.rb

/-- Two lists of ranges meet. -/
def anyMeet (x y : List (Nat × Nat)) : Bool := x.any (fun a => y.any (fun b => rangesMeet a.1 a.2 b.1 b.2))

/-- Two lists of unit numbers share one. -/
def anyShared (x y : List Nat) : Bool := x.any y.contains

/-- A later use depends on an earlier one: read after write, write after read or write after write (R186). -/
def Uses.conflicts (early late : Uses) : Bool :=
  anyMeet early.wr (late.rd ++ late.wr) || anyMeet early.rd late.wr ||
  anyShared early.slotW (late.slotR ++ late.slotW) || anyShared early.slotR late.slotW ||
  anyShared early.setW (late.setR ++ late.setW) || anyShared early.setR late.setW

/-- All entries of a bay. -/
def Bay.entries (b : Bay) : List QEntry := b.matrixQ ++ b.dmaQ ++ b.jointerQ

/-- Every write that the bay issued before is visible: no queued entry still writes memory (R193, R194). `remote` asks only
for writes beyond the own store. -/
def QEntry.writesBeyond (n : Nat) (e : QEntry) : Bool :=
  match issuesAs e.word with
  | .copy => (ownRange n e.rb.toNat (64 * Q.opt e.word)).isEmpty
  | .scopy => (descRange n (tabGet 0 e.descs (Q.db e.word))).isEmpty
  | .jgather | .jscato | .jscatu | .jsegpack | .jcompact | .jsort | .jhparto | .jhpartu | .jisect | .jtopk =>
    (jointerNames (issuesAs e.word) e.word (fun i => tabGet 0 e.descs i) e.rb.toNat).outs.any
      (fun x => (descRange n x).isEmpty)
  | _ => false

/-! Start. -/

/-- No earlier entry of the bay conflicts with `e` (R186). -/
def noEarlierConflict (n : Nat) (all : List QEntry) (e : QEntry) : Bool :=
  all.all (fun x => decide (e.seq ≤ x.seq) || !(x.uses n).conflicts (e.uses n))

/-- The earlier entries of its own queue let an entry start (R184): matrix instructions start in order and one MLOADW
loads at a time; at most four DMA transfers run, started in order; the jointer runs one command of a bay (R252). -/
def queueTurn (k : QKind) (before : List QEntry) (e : QEntry) : Bool :=
  match k with
  | .matrix =>
    before.all (fun x => x.started) &&
      !(decide (issuesAs e.word = .mloadw) && before.any (fun x => decide (issuesAs x.word = .mloadw)))
  | .dma => before.all (fun x => x.started) && decide (before.length < 4)
  | .jointer => before.isEmpty

/-- A stream that starts names a STALE slot (R79). -/
def staleAtStart (b : Bay) (e : QEntry) : Bool :=
  decide (issuesAs e.word = .mstream) && (streamSlots e.word).any (fun i => (tabGet {} b.slots i).stale)

/-- Start the entries of one queue that can start, given those before them. -/
def startList (n : Nat) (k : QKind) (b : Bay) (all : List QEntry) : List QEntry → List QEntry → List QEntry
  | before, [] => before
  | before, e :: t =>
    let e' := if e.started then e
      else if queueTurn k before e && noEarlierConflict n all e then { e with started := true, stale := staleAtStart b e }
      else e
    startList n k b all (before ++ [e']) t

/-- Start whatever can start in the queues of a bay. -/
def startBay (s : State) (pb : Nat) : State :=
  let n := ownNum s pb
  bayMod s pb (fun b =>
    let all := b.entries
    { b with
      matrixQ := startList n .matrix b all [] b.matrixQ
      dmaQ := startList n .dma b all [] b.dmaQ
      jointerQ := startList n .jointer b all [] b.jointerQ })

/-- A queue of a bay. -/
def Bay.queue (b : Bay) : QKind → List QEntry
  | .matrix => b.matrixQ | .dma => b.dmaQ | .jointer => b.jointerQ

/-- Replace a queue of a bay. -/
def Bay.setQueue (b : Bay) (k : QKind) (q : List QEntry) : Bay :=
  match k with
  | .matrix => { b with matrixQ := q } | .dma => { b with dmaQ := q } | .jointer => { b with jointerQ := q }

/-- Queue depths (R184). -/
def QKind.depth : QKind → Nat
  | .matrix => 8 | .dma => 16 | .jointer => 16

/-- Put an instruction that has passed its checks into its queue, with copies of its descriptors and scalar operands
(R218), and move on. -/
def enqueue (k : QKind) (h : Hand) (w : Word64) (ra rb : Word64) (s : State) : State :=
  let s1 := bayMod s h.pb (fun b =>
    let c := handOf b h.filler
    let e : QEntry :=
      { seq := b.nextSeq, filler := h.filler, word := w, pc := c.pc, descs := c.regs.d, ra := ra, rb := rb, part := c.part }
    { b.setQueue k (b.queue k ++ [e]) with nextSeq := b.nextSeq + 1 })
  startBay (advance h s1) h.pb

/-- Issue a queued instruction: a full queue stalls it (R184); a failed check faults precisely with the lowest code among
its failures, else it is queued (R185). `check` returns the codes and the state after the decisions of the check. -/
def issueQueued (k : QKind) (o : Op) (h : Hand) (w : Word64) (ra rb : Word64)
    (check : State → List Nat × State) (s : State) : Host.Outcome State Fault Refusal :=
  issue o h w s (fun s =>
    if k.depth ≤ ((bayGet s h.pb).queue k).length then s
    else
      let (codes, s1) := check s
      match codes with
      | [] => enqueue k h w ra rb s1
      | c :: t => preciseFault h (t.foldl min c) s1)

/-- The started entry with an issue number, in a queue of a bay that still runs. -/
def runningEntry (s : State) (pb : Nat) (k : QKind) (seq : Nat) : Option QEntry :=
  ((bayGet s pb).queue k).find? (fun e => decide (e.seq = seq) && e.started)

/-- Take a completed entry out of its queue, start what can start, and let contexts that have ended leave. -/
def retireEntry (k : QKind) (pb seq : Nat) (s : State) : State :=
  let s1 := bayMod s pb (fun b => b.setQueue k ((b.queue k).filter (fun e => decide (e.seq ≠ seq))))
  let s2 := startBay s1 pb
  settle (settle s2 { pb := pb, filler := true }) { pb := pb }

/-- The completion of a queued instruction: `run` is its effect and the fault it ends in. The effect lands, the entry
leaves its queue, and an imprecise fault is taken (R201). -/
def completeEntry (k : QKind) (isOp : Op → Bool) (origin : Nat) (pb seq : Nat)
    (run : Hand → QEntry → State → State × Option Nat) (s : State) : Host.Outcome State Fault Refusal :=
  if pb < bayCount then
    .next
      (match runningEntry s pb k seq with
       | none => s
       | some e =>
         if isOp (issuesAs e.word) then
           let h : Hand := { pb := pb, filler := e.filler }
           let (s1, fault) := run h e s
           let s2 := match fault with
             | some code => takeFault raise h code origin e.pc s1
             | none => s1
           retireEntry k pb seq s2
         else s)
  else .fault .absentUnit

/-- A later access of the hand processor to the own store must wait for an earlier entry (R186). -/
def storeBusy (s : State) (pb off len : Nat) (write : Bool) : Bool :=
  let n := ownNum s pb
  let late : Uses := if write then { wr := [(off, len)] } else { rd := [(off, len)] }
  (bayGet s pb).entries.any (fun e => (e.uses n).conflicts late)

/-- Some entry of the context still delivers flags (R159). -/
def flagsBusy (s : State) (h : Hand) : Bool :=
  (bayGet s h.pb).entries.any (fun e => decide (e.filler = h.filler) && (e.uses (ownNum s h.pb)).flagsW)

/-- Some entry of the bay still writes memory (R194). -/
def writesPending (s : State) (pb : Nat) : Bool :=
  let n := ownNum s pb
  (bayGet s pb).entries.any (fun e => !(e.uses n).wr.isEmpty || e.writesBeyond n)

/-- Some entry of the bay still writes beyond the own store (R193). -/
def farWritesPending (s : State) (pb : Nat) : Bool :=
  let n := ownNum s pb
  (bayGet s pb).entries.any (fun e => e.writesBeyond n)

/-- Mark the last sequenced flit sent with a peg signal: it is the last WRITE flit of an instruction (R660). -/
def signalLast (n : Nat) (s : State) : State :=
  let l := s.twin.sent
  match l.getLast? with
  | some (f, k) =>
    let g := { f with signal := 2 ^ 15 + n }
    { s with twin := { s.twin with sent := l.dropLast ++ [({ g with check := flitCheck g }, k)] } }
  | none => s

/-- The peg signal of a queued instruction with PE = 1: on the device that holds the destination (R195, R660). -/
def signalAt (dest n : Nat) (s : State) : State :=
  match homeOf s dest 1 with
  | .remote _ _ => signalLast n s
  | _ => pegSignal s n (.add 1)

/-! Checks shared by the queued instructions. -/

/-- The lowest own-store offset a context may reach: a filler program's range starts at GFX_FILL.BASE × 0x1_0000 (R590). -/
def storeFloor (s : State) (h : Hand) : Nat := if h.filler then regFld s Reg.GFX_FILL 0 5 * 0x10000 else 0

/-- An access below a filler program's range (R590). -/
def belowFloor (s : State) (h : Hand) (a len : Nat) : Bool :=
  match ownOff (ownNum s h.pb) a len with
  | some off => decide (off < storeFloor s h)
  | none => false

/-- The requests of a bulk access: split at 4 KiB boundaries, so that each lies in one page of a region table. -/
def pieces : Nat → Nat → Nat → List (Nat × Nat)
  | 0, _, _ => []
  | k + 1, a, n =>
    if n = 0 then []
    else
      let m := min n (4096 - a % 4096)
      (a, m) :: pieces k (a + m) (n - m)

/-- Decide the requests of a bulk access of a bay's DMA or jointer in order: the first verdict that is not a grant, with
its address, else a grant that says whether any byte lies in a CONTEST region. The own window is always granted (R73). -/
def bulkCheck (pb p cls : Nat) (k : AccKind) : List (Nat × Nat) → Bool → State → Verdict × Addr × State
  | [], c, s => (.ok c, 0, s)
  | (a, n) :: t, c, s =>
    if (ownOff (ownNum s pb) a n).isSome then bulkCheck pb p cls k t c s
    else
      match accessCheck s p cls k a n with
      | (.ok c', s1) => bulkCheck pb p cls k t (c || c') s1
      | (v, s1) => (v, a, s1)

/-- The requests of a row of `n` bytes at `a`. -/
def rowPieces (a n : Nat) : List (Nat × Nat) := pieces (n / 4096 + 2) a n

/-- The requests of every row of a descriptor. -/
def descPieces (d : Desc) : List (Nat × Nat) :=
  (List.range (Desc.rows d)).flatMap (fun r => rowPieces (Desc.rowAddr d r) (Desc.rowLen d))

end Sys2Proof.Machine
end

