-- ==== Sys2Proof/Machine/Scalar.lean ====
section
/-!
DEFINITION. What the scalar instructions of chapter 6 compute, as functions of the register files: 64-bit values, no flag
raised (R156).
-/

namespace Sys2Proof.Machine

/-- An R3 scalar operation of two sources. -/
def aluR3 (f : Word64 → Word64 → Word64) (w : Word64) (r : HandRegs) : HandRegs :=
  r.setS (R3.rd w) (f (r.getS (R3.ra w)) (r.getS (R3.rb w)))

/-- An RI scalar operation with the sign-extended immediate. -/
def aluRI (f : Word64 → Word64 → Word64) (w : Word64) (r : HandRegs) : HandRegs :=
  r.setS (RI.rd w) (f (r.getS (RI.ra w)) (RI.imm w))

/-- An RI shift by IMM32[5:0] (R221). -/
def aluShiftI (f : Word64 → Nat → Word64) (w : Word64) (r : HandRegs) : HandRegs :=
  r.setS (RI.rd w) (f (r.getS (RI.ra w)) (RI.pos w))

/-- A one-source R3 scalar operation. -/
def aluUnary (f : Word64 → Word64) (w : Word64) (r : HandRegs) : HandRegs :=
  r.setS (R3.rd w) (f (r.getS (R3.ra w)))

/-- 1 or 0. -/
def boolWord (b : Bool) : Word64 := if b then 1 else 0

/-- Signed minimum. -/
def minS (a b : Word64) : Word64 := if a.toInt ≤ b.toInt then a else b
/-- Signed maximum. -/
def maxS (a b : Word64) : Word64 := if a.toInt ≤ b.toInt then b else a
/-- Unsigned minimum. -/
def minU (a b : Word64) : Word64 := if a.toNat ≤ b.toNat then a else b
/-- Unsigned maximum. -/
def maxU (a b : Word64) : Word64 := if a.toNat ≤ b.toNat then b else a

/-- Shift left by a count below 64. -/
def sllW (a : Word64) (n : Nat) : Word64 := a <<< (n % 64)
/-- Logical shift right. -/
def srlW (a : Word64) (n : Nat) : Word64 := a >>> (n % 64)
/-- Arithmetic shift right. -/
def sraW (a : Word64) (n : Nat) : Word64 := a.sshiftRight (n % 64)
/-- Rotate right. -/
def rorW (a : Word64) (n : Nat) : Word64 := a.rotateRight (n % 64)

/-- EXTU: the field of a, zero-extended (R221). -/
def extuW (a : Word64) (p len : Nat) : Word64 := BitVec.ofNat 64 (fld a p len)
/-- EXTS: the field of a, sign-extended (R221). -/
def extsW (a : Word64) (p len : Nat) : Word64 := sext64 len (fld a p len)
/-- INS: the field of `old` replaced by the low bits of a (R221). -/
def insW (old a : Word64) (p len : Nat) : Word64 := setFld old p len a.toNat

/-- High 64 bits of the signed product. -/
def mulhW (a b : Word64) : Word64 := BitVec.ofInt 64 (a.toInt * b.toInt / (2 ^ 64 : Int))
/-- High 64 bits of the unsigned product. -/
def mulhuW (a b : Word64) : Word64 := BitVec.ofNat 64 (a.toNat * b.toNat / 2 ^ 64)

/-- DIV (R222): rounded toward zero; by zero all ones; −2^63 by −1 gives −2^63. -/
def divW (a b : Word64) : Word64 := if b = 0 then BitVec.allOnes 64 else BitVec.ofInt 64 (Int.tdiv a.toInt b.toInt)
/-- DIVU (R222). -/
def divuW (a b : Word64) : Word64 := if b = 0 then BitVec.allOnes 64 else BitVec.ofNat 64 (a.toNat / b.toNat)
/-- REM (R222): by zero the dividend. -/
def remW (a b : Word64) : Word64 := if b = 0 then a else BitVec.ofInt 64 (Int.tmod a.toInt b.toInt)
/-- REMU (R222). -/
def remuW (a b : Word64) : Word64 := if b = 0 then a else BitVec.ofNat 64 (a.toNat % b.toNat)

/-- The number of set bits among the low `n` bits. -/
def popBelow (x n : Nat) : Nat := (List.range n).foldl (fun acc i => if x.testBit i then acc + 1 else acc) 0

/-- POPC. -/
def popcW (a : Word64) : Word64 := BitVec.ofNat 64 (popBelow a.toNat 64)
/-- CLZ; 0 gives 64. -/
def clzW (a : Word64) : Word64 := BitVec.ofNat 64 (64 - bitLen a.toNat)
/-- CTZ; 0 gives 64. -/
def ctzW (a : Word64) : Word64 :=
  BitVec.ofNat 64 (((List.range 64).find? (fun i => a.toNat.testBit i)).getD 64)

/-- SEL: s[RA] when s[RC] is not 0, else s[RB]. -/
def selEff (w : Word64) (r : HandRegs) : HandRegs :=
  r.setS (R3.rd w) (if r.getS (R3.rc w) ≠ 0 then r.getS (R3.ra w) else r.getS (R3.rb w))

end Sys2Proof.Machine
end

