-- ==== Sys2Proof/Machine/Vector.lean ====
section
/-!
DEFINITION. What the vector, mask and move instructions of chapter 6 compute, as functions of the register files, with
the flags they raise (R151–R157, R219, R223, R227, R228).
-/

namespace Sys2Proof.Machine

/-- Lane count of a width: 512 / w (R71). -/
def laneCount (w : Nat) : Nat := 512 / w

/-- Lane i of width w, as a bit pattern. -/
def lane (v : Vec) (w i : Nat) : Nat := nfld v.toNat (i * w) w

/-- A number from lanes of width w, lane 0 lowest. -/
def packLanes (w : Nat) : List Nat → Nat
  | [] => 0
  | x :: t => x % 2 ^ w + 2 ^ w * packLanes w t

/-- A vector from its lanes of width w. -/
def ofLanes (w : Nat) (l : List Nat) : Vec := BitVec.ofNat 512 (packLanes w l)

/-- Lane i takes part: KE = 0, or bit i of K[KM] is set (R219). -/
def active (word : Word64) (r : HandRegs) (i : Nat) : Bool :=
  !R3.ke word || (r.getK (R3.km word)).getLsbD i

/-- Write the lanes that take part; the others keep their bits (R219). -/
def writeLanes (word : Word64) (w : Nat) (g : Nat → Nat) (r : HandRegs) : HandRegs :=
  let old := r.getV (R3.rd word)
  r.setV (R3.rd word)
    (ofLanes w ((List.range (laneCount w)).map (fun i => if active word r i then g i else lane old w i)))

/-- Write lanes with results that raise flags; a lane that takes no part raises none (R219). -/
def writeFLanes (word : Word64) (w : Nat) (g : Nat → FRes) (r : HandRegs) : HandRegs :=
  let fl := (List.range (laneCount w)).foldl
    (fun acc i => if active word r i then FFlags.or acc (g i).flags else acc) FFlags.none
  (writeLanes word w (fun i => (g i).bits) r).raise fl

/-- Operand lane i of a floating-point instruction, with FTZ applied (R157). -/
def fpLane (word : Word64) (r : HandRegs) (reg i : Nat) : FVal :=
  let f := R3.fmt word
  f.decodeFtz r.flags.ftz (lane (r.getV reg) f.width i)

/-- A two-source floating-point instruction (R151). -/
def vfp2 (op : RMode → FVal → FVal → FExact) (word : Word64) (r : HandRegs) : HandRegs :=
  let f := R3.fmt word
  writeFLanes word f.width (fun i =>
    f.finish (R3.rm word) false r.flags.ftz
      (op (R3.rm word) (fpLane word r (R3.ra word) i) (fpLane word r (R3.rb word) i))) r

/-- A one-source floating-point instruction. -/
def vfp1 (op : FVal → FExact) (word : Word64) (r : HandRegs) : HandRegs :=
  let f := R3.fmt word
  writeFLanes word f.width (fun i =>
    f.finish (R3.rm word) false r.flags.ftz (op (fpLane word r (R3.ra word) i))) r

/-- Subtraction before rounding. -/
def subExact (rm : RMode) (a b : FVal) : FExact := addExact rm a b.neg

/-- VABS: the sign cleared; a NaN lane under R152. -/
def absExact (a : FVal) : FExact :=
  match a with
  | .nan s => { val := .nan false, flags := { nv := s } }
  | .inf _ => { val := .inf false }
  | .fin _ m e => { val := .fin false m e }

/-- VNEG: the sign inverted; a NaN lane under R152. -/
def negExact (a : FVal) : FExact :=
  match a with
  | .nan s => { val := .nan false, flags := { nv := s } }
  | .inf n => { val := .inf (!n) }
  | .fin n m e => { val := .fin (!n) m e }

/-- Fused multiply-add with the signs of the product and the addend (chapter 6, R151). -/
def vfma (negProd negAdd : Bool) (word : Word64) (r : HandRegs) : HandRegs :=
  let f := R3.fmt word
  writeFLanes word f.width (fun i =>
    let a := fpLane word r (R3.ra word) i
    let b := fpLane word r (R3.rb word) i
    let c := fpLane word r (R3.rc word) i
    f.finish (R3.rm word) false r.flags.ftz
      (fmaExact (R3.rm word) (if negProd then a.neg else a) b (if negAdd then c.neg else c))) r

/-- The relation a comparison tests, given the order of the two values. -/
inductive CmpRel where
  | eq | ne | lt | le | gt | ge
  deriving DecidableEq, Repr

/-- The relation's value; with a NaN operand only inequality holds. -/
def CmpRel.holds (c : CmpRel) (o : Option Int) : Bool :=
  match o with
  | none => decide (c = .ne)
  | some x =>
    match c with
    | .eq => decide (x = 0)
    | .ne => decide (x ≠ 0)
    | .lt => decide (x < 0)
    | .le => decide (x ≤ 0)
    | .gt => decide (0 < x)
    | .ge => decide (0 ≤ x)

/-- Ordered comparisons raise invalid for any NaN; equality and inequality only for a signalling NaN (R154). -/
def CmpRel.flags (c : CmpRel) (a b : FVal) : FFlags :=
  match c with
  | .eq | .ne => { nv := a.isSig || b.isSig }
  | .lt | .le | .gt | .ge => { nv := a.isNaN || b.isNaN }

/-- Compare into mask k[RD]: a lane that takes no part keeps its bit; bits above the lane count are written 0 (R181,
R219). -/
def vcmp (c : CmpRel) (word : Word64) (r : HandRegs) : HandRegs :=
  let f := R3.fmt word
  let n := laneCount f.width
  let old := r.getK (R3.rd word)
  let bit : Nat → Bool := fun i =>
    if active word r i then
      c.holds ((fpLane word r (R3.ra word) i).compare (fpLane word r (R3.rb word) i))
    else old.getLsbD i
  let fl := (List.range n).foldl (fun acc i =>
    if active word r i then FFlags.or acc (c.flags (fpLane word r (R3.ra word) i) (fpLane word r (R3.rb word) i))
    else acc) FFlags.none
  (r.setK (R3.rd word) (BitVec.ofNat 128 ((List.range n).foldl (fun acc i => acc + bitN (bit i) i) 0))).raise fl

/-- One conversion from format `a` to format `b` (R155, R157, R147, R148). -/
def convertOne (a b : Fmt) (rm : RMode) (sat ftz : Bool) (x : Nat) : FRes :=
  let v := a.decodeFtz ftz x
  b.finish rm sat ftz { val := v, flags := { nv := v.isSig } }

/-- VCVT (R227): one segment of lanes from format LF2 to format LF. -/
def vcvtEff (word : Word64) (r : HandRegs) : HandRegs :=
  let a := R3.srcFmt word
  let b := R3.fmt word
  let n := 512 / max a.width b.width
  let seg := fnOf word
  let src := r.getV (R3.ra word)
  let old := r.getV (R3.rd word)
  let conv : Nat → FRes := fun x => convertOne a b (R3.rm word) (R3.sat word) r.flags.ftz x
  if b.width < a.width then
    let g : Nat → FRes := fun j =>
      if seg * n ≤ j ∧ j < seg * n + n ∧ active word r j = true then conv (lane src a.width (j - seg * n))
      else { bits := lane old b.width j }
    let lanes := (List.range (laneCount b.width)).map g
    (r.setV (R3.rd word) (ofLanes b.width (lanes.map (·.bits)))).raise
      (lanes.foldl (fun acc x => acc.or x.flags) FFlags.none)
  else
    let g : Nat → FRes := fun i =>
      if active word r i then conv (lane src a.width (seg * n + i)) else { bits := lane old b.width i }
    let lanes := (List.range n).map g
    (r.setV (R3.rd word) (ofLanes b.width (lanes.map (·.bits)))).raise
      (lanes.foldl (fun acc x => acc.or x.flags) FFlags.none)

/-- Saturate or wrap an exact integer to a lane (R156). -/
def fitLane (w : Nat) (sat : Bool) (v : Int) : Nat :=
  if sat then
    let hi : Int := (2 ^ (w - 1) : Nat) - 1
    let lo : Int := -((2 ^ (w - 1) : Nat) : Int)
    sintTo w (if hi < v then hi else if v < lo then lo else v)
  else sintTo w v

/-- A vector integer instruction on exact signed lanes, wrapping or saturating (R156). -/
def vint (op : Int → Int → Int) (sat : Bool) (word : Word64) (r : HandRegs) : HandRegs :=
  let w := (R3.fmt word).width
  writeLanes word w (fun i =>
    fitLane w sat (op (sintOf w (lane (r.getV (R3.ra word)) w i)) (sintOf w (lane (r.getV (R3.rb word)) w i)))) r

/-- A vector instruction on lane bit patterns: bitwise operations and shifts. -/
def vbits (op : Nat → Nat → Nat → Nat) (word : Word64) (r : HandRegs) : HandRegs :=
  let w := (R3.fmt word).width
  writeLanes word w (fun i =>
    op w (lane (r.getV (R3.ra word)) w i) (lane (r.getV (R3.rb word)) w i) % 2 ^ w) r

/-- VBCAST: the low bits of s[RA] in every lane. -/
def vbcastEff (word : Word64) (r : HandRegs) : HandRegs :=
  let w := (R3.fmt word).width
  writeLanes word w (fun _ => (r.getS (R3.ra word)).toNat % 2 ^ w) r

/-- VPERM: lane i = lane (lane i of v[RB] mod n) of v[RA]. -/
def vpermEff (word : Word64) (r : HandRegs) : HandRegs :=
  let w := (R3.fmt word).width
  writeLanes word w (fun i =>
    lane (r.getV (R3.ra word)) w (lane (r.getV (R3.rb word)) w i % laneCount w)) r

/-- VSEL: lane i of v[RA] where mask bit i is 1, else of v[RB]; every lane is written (KE must be 1, R248). -/
def vselEff (word : Word64) (r : HandRegs) : HandRegs :=
  let w := (R3.fmt word).width
  r.setV (R3.rd word) (ofLanes w ((List.range (laneCount w)).map (fun i =>
    if active word r i then lane (r.getV (R3.ra word)) w i else lane (r.getV (R3.rb word)) w i)))

/-- VMOV. -/
def vmovEff (word : Word64) (r : HandRegs) : HandRegs :=
  let w := (R3.fmt word).width
  writeLanes word w (fun i => lane (r.getV (R3.ra word)) w i) r

/-- A mask operation over all 128 bits (R223). -/
def kop (op : Mask → Mask → Mask) (word : Word64) (r : HandRegs) : HandRegs :=
  r.setK (R3.rd word) (op (r.getK (R3.ra word)) (r.getK (R3.rb word)))

/-- KPOP: set bits among the lanes of LF. -/
def kpopEff (word : Word64) (r : HandRegs) : HandRegs :=
  r.setS (R3.rd word)
    (BitVec.ofNat 64 (popBelow (r.getK (R3.ra word)).toNat (laneCount (R3.fmt word).width)))

/-- VEXT: lane s[RB] mod n of v[RA]; integer lanes sign-extended, floating-point lanes zero-extended. -/
def vextEff (word : Word64) (r : HandRegs) : HandRegs :=
  let f := R3.fmt word
  let x := lane (r.getV (R3.ra word)) f.width ((r.getS (R3.rb word)).toNat % laneCount f.width)
  r.setS (R3.rd word) (if f.isInt then sext64 f.width x else BitVec.ofNat 64 x)

/-- VINS: lane s[RB] mod n of v[RD] = the low bits of s[RA]; the other lanes are kept. -/
def vinsEff (word : Word64) (r : HandRegs) : HandRegs :=
  let w := (R3.fmt word).width
  let j := (r.getS (R3.rb word)).toNat % laneCount w
  let old := r.getV (R3.rd word)
  r.setV (R3.rd word) (ofLanes w ((List.range (laneCount w)).map (fun i =>
    if i = j then (r.getS (R3.ra word)).toNat % 2 ^ w else lane old w i)))

/-- One level of the fixed pairwise tree (R228). -/
def pairUp {α : Type} (op : α → α → α) : List α → List α
  | a :: b :: t => op a b :: pairUp op t
  | [a] => [a]
  | [] => []

/-- The fixed pairwise tree, at most `fuel` levels (R228). -/
def treeFold {α : Type} (op : α → α → α) : Nat → List α → List α
  | 0, l => l
  | n + 1, l => if l.length ≤ 1 then l else treeFold op n (pairUp op l)

/-- One combination of a floating-point reduction: it rounds once (R228). -/
def reduceStep (f : Fmt) (rm : RMode) (ftz : Bool) (op : RMode → FVal → FVal → FExact) (a b : FRes) : FRes :=
  let r := f.finish rm false ftz (op rm (f.decodeFtz ftz a.bits) (f.decodeFtz ftz b.bits))
  { bits := r.bits, flags := (a.flags.or b.flags).or r.flags }

/-- A floating-point reduction into lane 0 of v[RD], every other lane 0 (R228). `idle` is what a masked-off lane enters
as. -/
def vreduce (op : RMode → FVal → FVal → FExact) (idle : Fmt → Nat) (word : Word64) (r : HandRegs) : HandRegs :=
  let f := R3.fmt word
  let t := (List.range (laneCount f.width)).map (fun i =>
    ({ bits := if active word r i then lane (r.getV (R3.ra word)) f.width i else idle f } : FRes))
  let res := (treeFold (reduceStep f (R3.rm word) r.flags.ftz op) 10 t).headD { bits := 0 }
  (r.setV (R3.rd word) (BitVec.ofNat 512 res.bits)).raise res.flags

/-- VRISUM: the wrapping integer sum of the lanes by the same tree (R228). -/
def vrisumEff (word : Word64) (r : HandRegs) : HandRegs :=
  let w := (R3.fmt word).width
  let t := (List.range (laneCount w)).map (fun i =>
    if active word r i then lane (r.getV (R3.ra word)) w i else 0)
  r.setV (R3.rd word) (BitVec.ofNat 512 ((treeFold (fun a b => (a + b) % 2 ^ w) 10 t).headD 0))

end Sys2Proof.Machine
end

