-- ==== Sys2Proof/Machine/ExecMatrix.lean ====
section
/-!
DEFINITION. The matrix instructions of chapter 6: the checks at issue (R185, R231–R233), and what MLOADW, MSTREAM,
MDRAIN, MCLEAR and MXFER do when they complete, over weight slots, sill sets and sill lines (chapters 3 and 4).
-/

namespace Sys2Proof.Machine

/-! Elements. -/

/-- Element `i` of packed elements of a format, little-endian; INT4 two per byte, the even one low (R119). -/
def elemNat (f : Fmt) (bs : List Byte) (i : Nat) : Nat :=
  if f.width = 4 then nfld (leAt bs (i / 2) 1) (4 * (i % 2)) 4 else leAt bs (i * (f.width / 8)) (f.width / 8)

/-- Element `i` as a value. -/
def elemVal (f : Fmt) (bs : List Byte) (i : Nat) : FVal := f.decode (elemNat f bs i)

/-- The K of a tile (R75). -/
def tileK (f : Fmt) : Nat := if f = .int4 then 256 else 128

/-- The input bytes of a row per slot (R75). -/
def inputRow (f : Fmt) : Nat := tileK f * f.width / 8

/-- The bytes of one output element times 128 (R231). -/
def drainRowBytes (f : Fmt) : Nat := 16 * f.width

/-- Format codes 0x7 and 0x8 stand for each other in the comparisons of R231. -/
def fmtKey (code : Nat) : Nat := if code = 8 then 7 else code

/-- A matrix operand format code (R120). -/
def operandFmt (code : Nat) : Option Fmt := (Fmt.ofCode code).filter Fmt.matrixOk

/-! Checks at issue. -/

/-- A descriptor is valid for a matrix instruction and lies in the own window (R183, R231). -/
def matrixDescOk (n : Nat) (d : Desc) : Bool :=
  Desc.wellFormed d && decide (Desc.rows d ≤ 4096) && !(descRange n d).isEmpty

/-- A sill-line descriptor: ROWLEN the line size of R86, STRIDE a multiple of 128 and at least ROWLEN. -/
def lineDescOk (n : Nat) (d : Desc) : Bool :=
  matrixDescOk n d && decide (Desc.stride d % 128 = 0) && decide (Desc.rowLen d ≤ Desc.stride d) &&
    (match operandFmt (Desc.fmt d) with | some f => decide (Desc.rowLen d = lineBytes f) | none => false)

/-- A drain destination of `rows` rows in format code `fmt` (R231). -/
def drainDescOk (n : Nat) (d : Desc) (rows : Nat) : Bool :=
  matrixDescOk n d && decide (Desc.rows d = rows) &&
    (match Fmt.ofCode (Desc.fmt d) with | some f => f.drainOk && decide (Desc.rowLen d = drainRowBytes f) | none => false)

/-- A code when a condition fails. -/
def failIf (b : Bool) (code : Nat) : List Nat := if b then [code] else []

/-- The scale address of a drain: in the own store, on a 64-byte boundary (R233). -/
def scaleCodes (n : Nat) (w : Word64) (ra : Word64) : List Nat :=
  if MX.rs w = 0 then []
  else failIf (decide (ra.toNat % 64 ≠ 0)) 0x605 ++ failIf (scaleRange n w ra).isEmpty 0x607

/-- Own-store operands below a filler program's range (R590). -/
def floorCodes (s : State) (h : Hand) (u : Uses) : List Nat :=
  failIf ((u.rd ++ u.wr).any (fun r => decide (r.1 < storeFloor s h))) 0x504

/-- What a slot will hold when a stream issued now reaches it: the last queued MLOADW of it decides, else the slot as it
stands (R82, R186). The three values are whether it holds a tile, its format code and its source range. -/
def slotAhead (n : Nat) (b : Bay) (i : Nat) : Bool × Nat × List (Nat × Nat) :=
  match (b.matrixQ.filter (fun e => decide (issuesAs e.word = .mloadw) && decide (MX.w e.word = i))).getLast? with
  | some e => (true, fmtKey (MX.fmt e.word), descRange n (tabGet 0 e.descs (MX.da e.word)))
  | none =>
    let sl := tabGet {} b.slots i
    (sl.loaded, fmtKey sl.fmt.code, [(sl.src, slotBytes sl)])

/-- MLOADW's checks: R76, R231. -/
def mloadwCodes (s : State) (h : Hand) (w : Word64) : List Nat :=
  let n := ownNum s h.pb
  let c := handGet s h
  let d := c.regs.getD (MX.da w)
  let f := MX.format w
  floorCodes s h (usesOf n .mloadw w c.regs.getD 0 0) ++
  failIf (decide (Desc.base d % 128 ≠ 0)) 0x605 ++
  failIf (!(matrixDescOk n d && decide (fmtKey (Desc.fmt d) = fmtKey (MX.fmt w)) && decide (Desc.rows d = tileK f) &&
    decide (Desc.rowLen d = 128 * f.width / 8) && decide (Desc.stride d = Desc.rowLen d))) 0x607

/-- MSTREAM's checks: R82, R83, R112, R231–R233. -/
def mstreamCodes (s : State) (h : Hand) (w : Word64) (ra : Word64) : List Nat :=
  let n := ownNum s h.pb
  let b := bayGet s h.pb
  let c := handGet s h
  let d := c.regs.getD
  let da := d (MX.da w)
  let db := d (MX.db w)
  let dc := d (MX.dc w)
  let f := MX.format w
  let ahead := (streamSlots w).map (slotAhead n b)
  let lines := descRange n db
  let others := descRange n da ++ ahead.flatMap (fun x => x.2.2) ++
    (if MX.final w then descRange n dc ++ scaleRange n w ra else [])
  floorCodes s h (usesOf n .mstream w d ra 0) ++
  failIf (MX.line w && anyMeet lines others) 0x604 ++
  failIf (MX.line w && decide (Desc.base db % 128 ≠ 0)) 0x605 ++
  (if MX.line w && MX.final w then scaleCodes n w ra else []) ++
  failIf (ahead.any (fun x => !x.1 || decide (x.2.1 ≠ fmtKey (MX.fmt w)))) 0x606 ++
  failIf (!(matrixDescOk n da && decide (fmtKey (Desc.fmt da) = fmtKey (MX.fmt w)) && decide (Desc.stride da % 128 = 0) &&
    decide (Desc.rowLen da = (MX.wn w + 1) * inputRow f))) 0x607 ++
  failIf (MX.line w && !(lineDescOk n db && decide (Desc.rows db = Desc.rows da) &&
    decide (fmtKey (Desc.fmt db) = fmtKey (MX.fmt w)))) 0x607 ++
  failIf (MX.line w && MX.final w && !drainDescOk n dc (Desc.rows db)) 0x607

/-- MDRAIN's checks (R231, R233). -/
def mdrainCodes (s : State) (h : Hand) (w : Word64) (ra : Word64) : List Nat :=
  let n := ownNum s h.pb
  let d := (handGet s h).regs.getD
  let da := d (MX.da w)
  let db := d (MX.db w)
  floorCodes s h (usesOf n .mdrain w d ra 0) ++
  failIf (MX.line w && anyMeet (descRange n db) (descRange n da ++ scaleRange n w ra)) 0x604 ++
  failIf (MX.line w && decide (Desc.base db % 128 ≠ 0)) 0x605 ++
  scaleCodes n w ra ++
  failIf (!(drainDescOk n da (if MX.line w then Desc.rows db else 1) &&
    decide (fmtKey (Desc.fmt da) = fmtKey (MX.fmt w)))) 0x607 ++
  failIf (MX.line w && !lineDescOk n db) 0x607

/-- MCLEAR's checks (R231). -/
def mclearCodes (s : State) (h : Hand) (w : Word64) : List Nat :=
  let n := ownNum s h.pb
  let d := (handGet s h).regs.getD
  let db := d (MX.db w)
  floorCodes s h (usesOf n .mclear w d 0 0) ++
  failIf (MX.line w && decide (Desc.base db % 128 ≠ 0)) 0x605 ++ failIf (MX.line w && !lineDescOk n db) 0x607

/-- MXFER's checks (R231). -/
def mxferCodes (o : Op) (s : State) (h : Hand) (w : Word64) : List Nat :=
  let n := ownNum s h.pb
  let d := (handGet s h).regs.getD
  let da := d (MX.da w)
  floorCodes s h (usesOf n o w d 0 0) ++
  failIf (decide (Desc.base da % 128 ≠ 0)) 0x605 ++
  failIf (!(matrixDescOk n da && decide (Desc.rows da = 128) && decide (Desc.rowLen da = 80) &&
    decide (Desc.stride da = 80))) 0x607

/-! The array. -/

/-- The products of one input row against column `n` of the named tiles, concatenated along K (R82, R123). -/
def rowProds (f : Fmt) (row : List Byte) (tiles : List (List Byte)) (n : Nat) : List Prod :=
  (List.range tiles.length).flatMap (fun j =>
    let tile := tiles.getD j []
    (List.range (tileK f)).map (fun k => matProd (elemVal f row (j * tileK f + k)) (elemVal f tile (k * 128 + n))))

/-- One row added into one column (R232). -/
def addRow (fits : Int → Bool) (f : Fmt) (row : List Byte) (tiles : List (List Byte)) (n : Nat) (c : ColState) : ColState :=
  let ps := rowProds f row tiles n
  promoteRow fits f (chunksOf f ps.length ps) c

/-- The own-store bytes of row `r` of a descriptor. -/
def descRow (s : State) (pb : Nat) (d : Desc) (r : Nat) : List Byte :=
  match ownOff (ownNum s pb) (Desc.rowAddr d r) (Desc.rowLen d) with
  | some off => (bayGet s pb).storeRead off (Desc.rowLen d)
  | none => []

/-- Write row `r` of a descriptor in the own store. -/
def putDescRow (pb : Nat) (d : Desc) (r : Nat) (l : List Byte) (s : State) : State :=
  match ownOff (ownNum s pb) (Desc.rowAddr d r) l.length with
  | some off => storeWrite s pb off l
  | none => s

/-- OR flags into a context's FLAGS (R102, R160). -/
def raiseFlags (h : Hand) (f : FFlags) (s : State) : State :=
  handMod s h (fun c => { c with regs := c.regs.raise f })

/-- Sill `n` of set `a`. -/
def sillGet (s : State) (pb a n : Nat) : Sill := tabGet {} (bayGet s pb).sills (128 * a + n)

/-- Replace the 128 sills of a set. -/
def putSet (pb a : Nat) (l : List Sill) (s : State) : State :=
  bayMod s pb (fun b =>
    { b with sills := (List.range 128).foldl (fun t n => tabPut {} t (128 * a + n) (l.getD n {})) b.sills })

/-- The FP32 scale of column `n`, when a scale address is given (R98, R233). -/
def scaleOf (s : State) (pb : Nat) (w : Word64) (ra : Word64) (n : Nat) : Option Nat :=
  if MX.rs w = 0 then none
  else
    match ownOff (ownNum s pb) (ra.toNat + 4 * n) 4 with
    | some off => some (leVal ((bayGet s pb).storeRead off 4))
    | none => none

/-- Drain 128 columns into a row of bytes, with the flags (R98). -/
def drainRow (f : Fmt) (w : Word64) (scale : Nat → Option Nat) (l : List Sill) : List Byte × FFlags :=
  let rs := (List.range 128).map (fun n => drainColumn f (MX.rm w) (MX.sat w) (scale n) (l.getD n {}))
  (leBytes (drainRowBytes f) (packLanes f.width (rs.map (·.bits))), rs.foldl (fun acc r => acc.or r.flags) FFlags.none)

/-- The 128 sums of a sill line (R86). -/
def readLine (f : Fmt) (bs : List Byte) : List Sill :=
  (List.range 128).map (fun n => readSum f (bytesAt bs (n * sumBytes f) (sumBytes f)))

/-- The bytes of a sill line. -/
def writeLine (f : Fmt) (l : List Sill) : List Byte := (List.range 128).flatMap (fun n => writeSum f (l.getD n {}))

/-- The tiles of the named slots. -/
def slotTiles (b : Bay) (w : Word64) : List (List Byte) := (streamSlots w).map (fun i => (tabGet {} b.slots i).tile)

/-- The range of a promotion's destination: a sill of a set or a column of a line (R136, R88). -/
def lineFits (f : Fmt) : Int → Bool := if lineBits f = 640 then sillInRange else sumFits f

/-- The fault of a promotion that leaves a line's range: LINE_RANGE for a narrow line (R88), SILL_RANGE for a 640-bit line
(R137). -/
def lineFault (f : Fmt) : Nat := if lineBits f = 640 then 0x603 else 0x602

/-- One row of a stream in line mode (R232): the line is read unless FIRST, the row is added, and the sums are written back
or, with FINAL, drained. The second value says that a promotion failed. -/
def streamLineRow (h : Hand) (e : QEntry) (f : Fmt) (r : Nat) (acc : State × Bool) : State × Bool :=
  let s := acc.1
  let w := e.word
  let d := fun i => tabGet 0 e.descs i
  let row := descRow s h.pb (d (MX.da w)) r
  let tiles := slotTiles (bayGet s h.pb) w
  let line := if MX.first w then [] else readLine f (descRow s h.pb (d (MX.db w)) r)
  let cols := (List.range 128).map (fun n => addRow (lineFits f) f row tiles n { sill := line.getD n {} })
  let sums := cols.map (·.sill)
  let s1 := raiseFlags h { wloss := cols.any (·.wloss) } s
  let failed := acc.2 || cols.any (·.failed)
  if MX.final w then
    let dc := d (MX.dc w)
    let out := (Fmt.ofCode (Desc.fmt dc)).getD .int8
    let q := drainRow out w (scaleOf s1 h.pb w e.ra) sums
    (raiseFlags h q.2 (putDescRow h.pb dc r q.1 s1), failed)
  else (putDescRow h.pb (d (MX.db w)) r (writeLine f sums) s1, failed)

/-- What a stream does (R232). A STALE slot raises SLOT_STALE and the stream does nothing (R79). -/
def runStream (h : Hand) (e : QEntry) (s : State) : State × Option Nat :=
  let w := e.word
  let f := MX.format w
  let da := tabGet 0 e.descs (MX.da w)
  if e.stale then (s, some 0x601)
  else if MX.line w then
    let r := (List.range (Desc.rows da)).foldl (fun acc r => streamLineRow h e f r acc) (s, false)
    (r.1, if r.2 then some (lineFault f) else none)
  else
    let tiles := slotTiles (bayGet s h.pb) w
    let rows := (List.range (Desc.rows da)).map (descRow s h.pb da)
    let cols := (List.range 128).map (fun n =>
      rows.foldl (fun c row => addRow sillInRange f row tiles n c) { sill := sillGet s h.pb (MX.a w) n })
    (raiseFlags h { wloss := cols.any (·.wloss) } (putSet h.pb (MX.a w) (cols.map (·.sill)) s),
     if cols.any (·.failed) then some 0x603 else none)

/-- What a weight load does: the slot takes the tile, its source, size and format, and is no longer STALE (R77, R81,
R121). -/
def runLoad (h : Hand) (e : QEntry) (s : State) : State × Option Nat :=
  let w := e.word
  let d := tabGet 0 e.descs (MX.da w)
  let f := if MX.format w = .bf16x then .bf16 else MX.format w
  match ownOff (ownNum s h.pb) (Desc.base d) (Desc.extent d) with
  | some off =>
    (bayMod s h.pb (fun b =>
      let sl : Slot :=
        { loaded := true, stale := false, src := off, fmt := f, tile := b.storeRead off (Desc.extent d) }
      { b with slots := tabPut {} b.slots (MX.w w) sl }), none)
  | none => (s, none)

/-- What MDRAIN does (R98, R100, R233). -/
def runDrain (h : Hand) (e : QEntry) (s : State) : State × Option Nat :=
  let w := e.word
  let d := fun i => tabGet 0 e.descs i
  let da := d (MX.da w)
  let out := MX.format w
  if MX.line w then
    let db := d (MX.db w)
    let f := (operandFmt (Desc.fmt db)).getD .int8
    ((List.range (Desc.rows db)).foldl (fun s r =>
      let q := drainRow out w (scaleOf s h.pb w e.ra) (readLine f (descRow s h.pb db r))
      raiseFlags h q.2 (putDescRow h.pb da r q.1 s)) s, none)
  else
    let q := drainRow out w (scaleOf s h.pb w e.ra) ((List.range 128).map (sillGet s h.pb (MX.a w)))
    let s1 := raiseFlags h q.2 (putDescRow h.pb da 0 q.1 s)
    (if MX.clear w then putSet h.pb (MX.a w) [] s1 else s1, none)

/-- What MCLEAR does (R100). -/
def runClear (h : Hand) (e : QEntry) (s : State) : State × Option Nat :=
  let w := e.word
  if MX.line w then
    let db := tabGet 0 e.descs (MX.db w)
    ((List.range (Desc.rows db)).foldl
      (fun s r => putDescRow h.pb db r (List.replicate (Desc.rowLen db) 0) s) s, none)
  else (putSet h.pb (MX.a w) [] s, none)

/-- What MXFER does, by its XMODE (R234, R137, R138). -/
def runXfer (h : Hand) (e : QEntry) (s : State) : State × Option Nat :=
  let w := e.word
  let a := MX.a w
  let d := tabGet 0 e.descs (MX.da w)
  let images := (List.range 128).map (fun n => sillOfImage (descRow s h.pb d n))
  match issuesAs w with
  | .mxferAdd =>
    let sums := (List.range 128).map (fun n => ((sillGet s h.pb a n).add (images.getD n {})))
    (putSet h.pb a ((List.range 128).map (fun n => (sums.getD n none).getD (sillGet s h.pb a n))) s,
     if sums.any (·.isNone) then some 0x603 else none)
  | .mxferLoad => (putSet h.pb a images s, none)
  | _ =>
    ((List.range 128).foldl (fun s n => putDescRow h.pb d n (sillImage (sillGet s h.pb a n)) s) s, none)

/-! The instructions. -/

/-- MLOADW (R77, R185): queues a weight load. -/
def execMloadw (h : Hand) (w : Word64) (s : State) : Host.Outcome State Fault Refusal :=
  issueQueued .matrix .mloadw h w 0 0 (fun s => (mloadwCodes s h w, s)) s

/-- MLOADW_COMPLETE (R81). -/
def execMloadwComplete (pb seq : Nat) (s : State) : Host.Outcome State Fault Refusal :=
  completeEntry .matrix (fun o => decide (o = .mloadw)) 1 pb seq runLoad s

/-- MSTREAM (R232): queues a stream. -/
def execMstream (h : Hand) (w : Word64) (s : State) : Host.Outcome State Fault Refusal :=
  let ra := (handGet s h).regs.getS (MX.rs w)
  issueQueued .matrix .mstream h w ra 0 (fun s => (mstreamCodes s h w ra, s)) s

/-- MSTREAM_COMPLETE (R232). -/
def execMstreamComplete (pb seq : Nat) (s : State) : Host.Outcome State Fault Refusal :=
  completeEntry .matrix (fun o => decide (o = .mstream)) 1 pb seq runStream s

/-- MDRAIN (R233): queues a drain. -/
def execMdrain (h : Hand) (w : Word64) (s : State) : Host.Outcome State Fault Refusal :=
  let ra := (handGet s h).regs.getS (MX.rs w)
  issueQueued .matrix .mdrain h w ra 0 (fun s => (mdrainCodes s h w ra, s)) s

/-- MDRAIN_COMPLETE (R233). -/
def execMdrainComplete (pb seq : Nat) (s : State) : Host.Outcome State Fault Refusal :=
  completeEntry .matrix (fun o => decide (o = .mdrain)) 1 pb seq runDrain s

/-- MCLEAR (R100): queues a clear. -/
def execMclear (h : Hand) (w : Word64) (s : State) : Host.Outcome State Fault Refusal :=
  issueQueued .matrix .mclear h w 0 0 (fun s => (mclearCodes s h w, s)) s

/-- MCLEAR_COMPLETE (R100). -/
def execMclearComplete (pb seq : Nat) (s : State) : Host.Outcome State Fault Refusal :=
  completeEntry .matrix (fun o => decide (o = .mclear)) 1 pb seq runClear s

/-- MXFER_STORE (R234). -/
def execMxferStore (h : Hand) (w : Word64) (s : State) : Host.Outcome State Fault Refusal :=
  issueQueued .matrix .mxferStore h w 0 0 (fun s => (mxferCodes .mxferStore s h w, s)) s

/-- MXFER_ADD (R234). -/
def execMxferAdd (h : Hand) (w : Word64) (s : State) : Host.Outcome State Fault Refusal :=
  issueQueued .matrix .mxferAdd h w 0 0 (fun s => (mxferCodes .mxferAdd s h w, s)) s

/-- MXFER_LOAD (R234). -/
def execMxferLoad (h : Hand) (w : Word64) (s : State) : Host.Outcome State Fault Refusal :=
  issueQueued .matrix .mxferLoad h w 0 0 (fun s => (mxferCodes .mxferLoad s h w, s)) s

/-- MXFER_COMPLETE (R234). -/
def execMxferComplete (pb seq : Nat) (s : State) : Host.Outcome State Fault Refusal :=
  completeEntry .matrix (fun o => decide (o = .mxferStore ∨ o = .mxferAdd ∨ o = .mxferLoad)) 1 pb seq runXfer s

/-- Bits of the slots for which a test holds. -/
def slotBits (f : Nat → Bool) : Nat := bitN (f 0) 0 + bitN (f 1) 1 + bitN (f 2) 2 + bitN (f 3) 3

/-- BAY_SLOTS [15:0]: LOADED, LOADING, BUSY, STALE (chapter 3, R77–R81). -/
def baySlots (b : Bay) : Nat :=
  let run := b.matrixQ.filter (·.started)
  slotBits (fun i => (tabGet {} b.slots i).loaded) +
  16 * slotBits (fun i => run.any (fun e => decide (issuesAs e.word = .mloadw) && decide (MX.w e.word = i))) +
  256 * slotBits (fun i => run.any (fun e => decide (issuesAs e.word = .mstream) && (streamSlots e.word).contains i)) +
  4096 * slotBits (fun i => (tabGet {} b.slots i).stale)

/-- MSTAT (R235): the matrix status sampled at issue into s[RS]. -/
def execMstat (h : Hand) (w : Word64) (s : State) : Host.Outcome State Fault Refusal :=
  issue .mstat h w s (fun s =>
    let b := bayGet s h.pb
    let v := b.matrixQ.length * 2 ^ 24 + bitN (b.matrixQ.any (·.started)) 20 + baySlots b
    regStep h (fun r => r.setS (MX.rs w) (BitVec.ofNat 64 v)) s)

end Sys2Proof.Machine
end

