-- ==== Sys2Proof/Machine/ExecMemory.lean ====
section
/-!
DEFINITION. Hand-processor loads and stores, and the DMA instructions (chapter 6, R73, R74, R182, R191, R236–R238).
-/

namespace Sys2Proof.Machine

/-! Hand-processor accesses. -/

/-- The decision on one hand-processor access (R73, R74, R200): the fault code, or none with whether it is in the own store
and whether it lies in a CONTEST region. Of several failures the lowest subcode is reported. -/
structure HandAcc where
  code : Option Nat := none
  own : Option Nat := none
  contest : Bool := false
  verdict : Verdict := .ok false
  deriving DecidableEq, Repr

/-- Decide an access of `n` bytes at `a`, aligned to `al`; `ownOnly` for vector accesses. -/
def handAccess (s : State) (h : Hand) (k : AccKind) (ownOnly : Bool) (a n al : Nat) : HandAcc × State :=
  let mis := decide (a % al ≠ 0)
  match ownOff (ownNum s h.pb) a n with
  | some off =>
    ({ code := if mis then some 0x503 else if off < storeFloor s h then some 0x504 else none, own := some off }, s)
  | none =>
    match accessCheck s (handGet s h).part 0 k a n with
    | (.ok c, s1) =>
      let beyond := match homeOf s a n with | .dram | .loft => ownOnly | _ => true
      ({ code := if mis then some 0x503 else if beyond then some 0x504 else none, contest := c }, s1)
    | (.hole, s1) => ({ code := some 0x501, verdict := .hole }, s1)
    | (.refused ne, s1) => ({ code := some 0x502, verdict := .refused ne }, s1)
    | (.unreachable, s1) => ({ code := if mis then some 0x503 else some 0x504 }, s1)

/-- A hand-processor access: it waits for earlier queued accesses of the same own-store bytes (R186), faults precisely, or
takes effect and moves on. `eff` is told whether the bytes lie in a CONTEST region. -/
def handMem (h : Hand) (k : AccKind) (ownOnly : Bool) (a n al : Nat) (eff : Bool → State → State) (s : State) : State :=
  let (acc, s1) := handAccess s h k ownOnly a n al
  match acc.code with
  | some code =>
    preciseFault h code (reportVerdict raise (handInit s h.pb) (handGet s h).part 0 k a acc.verdict s1)
  | none =>
    match acc.own with
    | some off => if storeBusy s h.pb off n (decide (k = .write)) then s else eff acc.contest s1
    | none => eff acc.contest s1

/-- The effective address: s[RA] + sign-extended OFF32, modulo 2^64. -/
def memAddr (s : State) (h : Hand) (w : Word64) : Nat := ((handGet s h).regs.getS (MEM.ra w) + MEM.off w).toNat

/-- Read for the hand processor: the own store, or device memory. -/
def handRead (s : State) (h : Hand) (a n : Nat) : List Byte :=
  match ownOff (ownNum s h.pb) a n with
  | some off => (bayGet s h.pb).storeRead off n
  | none => devRead s a n

/-- Write for the hand processor, with the contest count (R402). -/
def handWrite (h : Hand) (contest : Bool) (a : Nat) (l : List Byte) (s : State) : State :=
  match ownOff (ownNum s h.pb) a l.length with
  | some off => storeWrite s h.pb off l
  | none => bayWrite h contest a l s

/-- LD (R191): s[RD] = 2^SZ bytes, zero-extended. -/
def execLd (h : Hand) (w : Word64) (s : State) : Host.Outcome State Fault Refusal :=
  issue .ld h w s (fun s =>
    let n := 2 ^ MEM.sz w
    let a := memAddr s h w
    handMem h .read false a n n (fun _ s =>
      regStep h (fun r => r.setS (MEM.rd w) (BitVec.ofNat 64 (leVal (handRead s h a n)))) s) s)

/-- LDS (R191): s[RD] = 2^SZ bytes, sign-extended. -/
def execLds (h : Hand) (w : Word64) (s : State) : Host.Outcome State Fault Refusal :=
  issue .lds h w s (fun s =>
    let n := 2 ^ MEM.sz w
    let a := memAddr s h w
    handMem h .read false a n n (fun _ s =>
      regStep h (fun r => r.setS (MEM.rd w) (sext64 (8 * n) (leVal (handRead s h a n)))) s) s)

/-- ST (R191): store the low 2^SZ bytes of s[RD]. -/
def execSt (h : Hand) (w : Word64) (s : State) : Host.Outcome State Fault Refusal :=
  issue .st h w s (fun s =>
    let n := 2 ^ MEM.sz w
    let a := memAddr s h w
    handMem h .write false a n n (fun contest s =>
      advance h (handWrite h contest a (leBytes n ((handGet s h).regs.getS (MEM.rd w)).toNat) s)) s)

/-- Byte `i` of a vector access takes part (R219). -/
def byteActive (w : Word64) (r : HandRegs) (i : Nat) : Bool := !MEM.ke w || (r.getK (MEM.km w)).getLsbD i

/-- VLD (R236): 2^SZ bytes into the low bytes of v[RD], the rest 0; masked-off bytes are kept. -/
def execVld (h : Hand) (w : Word64) (s : State) : Host.Outcome State Fault Refusal :=
  issue .vld h w s (fun s =>
    let n := 2 ^ MEM.sz w
    let a := memAddr s h w
    handMem h .read true a n n (fun _ s =>
      let m := leVal (handRead s h a n)
      regStep h (fun r =>
        let old := r.getV (MEM.rd w)
        r.setV (MEM.rd w) (ofLanes 8 ((List.range 64).map (fun i =>
          if byteActive w r i then nfld m (8 * i) 8 else lane old 8 i)))) s) s)

/-- VST (R236): store the low 2^SZ bytes of v[RD]; masked-off bytes are not written. -/
def execVst (h : Hand) (w : Word64) (s : State) : Host.Outcome State Fault Refusal :=
  issue .vst h w s (fun s =>
    let n := 2 ^ MEM.sz w
    let a := memAddr s h w
    handMem h .write true a n n (fun _ s =>
      let r := (handGet s h).regs
      let v := r.getV (MEM.rd w)
      advance h
        (if MEM.ke w then
          (List.range n).foldl (fun s i =>
            if byteActive w r i then handWrite h false (a + i) [BitVec.ofNat 8 (lane v 8 i)] s else s) s
        else handWrite h false a (leBytes n v.toNat) s)) s)

/-- DLD (R182): D[RD] = 24 bytes on an 8-byte boundary, word 0 first. -/
def execDld (h : Hand) (w : Word64) (s : State) : Host.Outcome State Fault Refusal :=
  issue .dld h w s (fun s =>
    let a := memAddr s h w
    handMem h .read false a 24 8 (fun _ s =>
      regStep h (fun r => r.setD (MEM.rd w) (BitVec.ofNat 192 (leVal (handRead s h a 24)))) s) s)

/-- DST (R182). -/
def execDst (h : Hand) (w : Word64) (s : State) : Host.Outcome State Fault Refusal :=
  issue .dst h w s (fun s =>
    let a := memAddr s h w
    handMem h .write false a 24 8 (fun contest s =>
      advance h (handWrite h contest a (leBytes 24 ((handGet s h).regs.getD (MEM.rd w)).toNat) s)) s)

/-! DMA. -/

/-- The PEG fault of a queued instruction that signals a peg (R207). -/
def pegCodes (s : State) (h : Hand) (w : Word64) : List Nat :=
  failIf (Q.pe w && !ownsPeg s (handGet s h).part (Q.peg w)) 0x901

/-- The code and report of a verdict on a bulk access at issue. -/
def verdictCodes : Verdict → List Nat
  | .ok _ => []
  | .hole => [0x501]
  | .refused _ => [0x502]
  | .unreachable => [0x504]

/-- A filler program reaches no other bay's store (R590). -/
def fillerBeyond (s : State) (h : Hand) (a : Nat) : Bool :=
  h.filler && (windowOf a).isSome && (ownOff (ownNum s h.pb) a 1).isNone

/-- Check one side of a DMA transfer: its requests and one home for the whole range (R185, R237). -/
def dmaSide (h : Hand) (k : AccKind) (ps : List (Nat × Nat)) (a len : Nat) (s : State) : List Nat × State :=
  let p := (handGet s h).part
  let (v, at_, s1) := bulkCheck h.pb p 1 k ps false s
  let s2 := reportVerdict raise (handInit s h.pb) p 1 k at_ v s1
  let home := (ownOff (ownNum s h.pb) a len).isSome ||
    (match homeOf s a len with | .dram | .loft | .store _ _ | .remote _ _ => true | _ => false)
  (verdictCodes v ++ failIf (!home) 0x707 ++
    failIf (belowFloor s h a len || fillerBeyond s h a) 0x504, s2)

/-- COPY's checks (R237). -/
def copyCheck (h : Hand) (w : Word64) (ra rb : Nat) (s : State) : List Nat × State :=
  let len := 64 * Q.opt w
  let (c1, s1) := dmaSide h .read (pieces (len / 4096 + 2) ra len) ra len s
  let (c2, s2) := dmaSide h .write (pieces (len / 4096 + 2) rb len) rb len s1
  (c1 ++ c2 ++ failIf (decide (ra % 64 ≠ 0 ∨ rb % 64 ≠ 0)) 0x503 ++ failIf (rangesMeet ra len rb len) 0x707 ++
    pegCodes s h w, s2)

/-- SCOPY's and PREF's checks (R182, R183, R237); PREF reads the loft or DRAM and writes the own store. -/
def scopyCheck (pref : Bool) (h : Hand) (w : Word64) (s : State) : List Nat × State :=
  let n := ownNum s h.pb
  let c := handGet s h
  let da := c.regs.getD (Q.da w)
  let db := c.regs.getD (Q.db w)
  let bad := !(Desc.wellFormed da && Desc.wellFormed db) || decide (Desc.rows da ≠ Desc.rows db) ||
    decide (Desc.rowLen da ≠ Desc.rowLen db) ||
    rangesMeet (Desc.base da) (Desc.extent da) (Desc.base db) (Desc.extent db)
  let (c1, s1) := dmaSide h .read (descPieces da) (Desc.base da) (Desc.extent da) s
  let (c2, s2) := dmaSide h .write (descPieces db) (Desc.base db) (Desc.extent db) s1
  let place := pref && ((windowOf (Desc.base da)).isSome || (descRange n db).isEmpty)
  (c1 ++ c2 ++ failIf (bad || place) 0x707 ++ pegCodes s h w, s2)

/-- The rows of a transfer: source, destination and length of each; a COPY is one row. -/
def dmaRows (e : QEntry) : List (Nat × Nat × Nat) :=
  if issuesAs e.word = .copy then [(e.ra.toNat, e.rb.toNat, 64 * Q.opt e.word)]
  else
    let da := tabGet 0 e.descs (Q.da e.word)
    let db := tabGet 0 e.descs (Q.db e.word)
    (List.range (Desc.rows da)).map (fun r => (Desc.rowAddr da r, Desc.rowAddr db r, Desc.rowLen da))

/-- Move the rows in order. A row whose access a region update has removed writes no byte and ends the transfer with DMA
0x01 or 0x02 (R201, R238). -/
def moveRows (h : Hand) (p : Nat) : List (Nat × Nat × Nat) → State → State × Option Nat
  | [], s => (s, none)
  | (a, b, n) :: t, s =>
    let code : Verdict → Nat := fun v => if v = .hole then 0x701 else 0x702
    match bulkCheck h.pb p 1 .read (rowPieces a n) false s with
    | (.ok _, _, s1) =>
      match bulkCheck h.pb p 1 .write (rowPieces b n) false s1 with
      | (.ok contest, _, s2) => moveRows h p t (handWrite h contest b (handRead s2 h a n) s2)
      | (v, x, s2) => (reportVerdict raise (handInit s h.pb) p 1 .write x v s2, some (code v))
    | (v, x, s1) => (reportVerdict raise (handInit s h.pb) p 1 .read x v s1, some (code v))

/-- What a DMA transfer does (R195, R237): the rows, then its peg signal. -/
def runDma (h : Hand) (e : QEntry) (s : State) : State × Option Nat :=
  match moveRows h e.part (dmaRows e) s with
  | (s1, some c) => (s1, some c)
  | (s1, none) =>
    let s2 := (dmaRows e).foldl (fun s r => match homeOf s r.1 r.2.2 with | .remote _ _ => farUse r.1 r.2.2 s | _ => s) s1
    (if Q.pe e.word then signalAt (((dmaRows e).map (fun r => r.2.1)).getLastD 0) (Q.peg e.word) s2 else s2, none)

/-- The sources of the transfer with an issue number, when it runs. -/
def dmaSources (s : State) (pb seq : Nat) : List (Nat × Nat) :=
  match runningEntry s pb .dma seq with
  | some e => (dmaRows e).map (fun r => (r.1, r.2.2))
  | none => []

/-- COPY (R237): queues a copy of OPT × 64 bytes from s[RA] to s[RB]. -/
def execCopy (h : Hand) (w : Word64) (s : State) : Host.Outcome State Fault Refusal :=
  let r := (handGet s h).regs
  issueQueued .dma .copy h w (r.getS (Q.ra w)) (r.getS (Q.rb w))
    (copyCheck h w (r.getS (Q.ra w)).toNat (r.getS (Q.rb w)).toNat) s

/-- SCOPY (R237): queues a strided copy. -/
def execScopy (h : Hand) (w : Word64) (s : State) : Host.Outcome State Fault Refusal :=
  issueQueued .dma .scopy h w 0 0 (scopyCheck false h w) s

/-- PREF (R196): queues a prefetch into the own store. It issues in program order, so it samples nothing early; the
run-ahead that R196 allows changes no result. -/
def execPref (h : Hand) (w : Word64) (s : State) : Host.Outcome State Fault Refusal :=
  issueQueued .dma .pref h w 0 0 (scopyCheck true h w) s

/-- A row of a list of transfers of bay `pb` lies in another bay's window that waits (R96). -/
def rowsWait (s : State) (pb : Nat) (l : List (Nat × Nat)) : Bool :=
  l.any (fun r => (ownOff (ownNum s pb) r.1 r.2).isNone && windowWaits s r.1 r.2)

/-- The destinations of the transfer with an issue number, when it runs. -/
def dmaDests (s : State) (pb seq : Nat) : List (Nat × Nat) :=
  match runningEntry s pb .dma seq with
  | some e => (dmaRows e).map (fun r => (r.2.1, r.2.2))
  | none => []

/-- DMA_TRANSFER_COMPLETE (R195). Sources in the peer's windows are read over the link first (R646): until their bytes have come
the transfer goes on, and so it does while a window that it reads or writes waits (R96). -/
def execDmaTransferComplete (pb seq : Nat) (s : State) : Host.Outcome State Fault Refusal :=
  if rowsWait s pb (dmaSources s pb seq ++ dmaDests s pb seq) then (if pb < bayCount then .next s else .fault .absentUnit) else
  match farFetch (dmaSources s pb seq) s with
  | (false, s1) => .next s1
  | (true, _) => completeEntry .dma (fun o => decide (o = .copy ∨ o = .scopy ∨ o = .pref)) 2 pb seq runDma s

end Sys2Proof.Machine
end

