-- ==== Sys2Proof/Machine/ExecJointer.lean ====
section
/-!
DEFINITION. The jointer instructions (chapter 7): the checks at issue (R254, R257–R260), the commands as their completion
carries them out, and the status and wait instructions.
-/

namespace Sys2Proof.Machine

/-- The verdict of a jointer access of one request at issue or on the way (R254): the fault code, 0 when granted. The code
of a window that the jointer does not serve is REACH. -/
def jointerAccess (pb p : Nat) (k : AccKind) (a n : Nat) (s : State) : Nat × Bool × Verdict × State :=
  let own := ownNum s pb
  if (ownOff own a n).isSome then (0, false, .ok false, s)
  else
    match homeOf s a n with
    | .store b _ => (if b / 4 = own / 4 ∧ ownsBay s p b = true then 0 else 0x80A, false, .ok false, s)
    | .remote _ _ => (0x80A, false, .ok false, s)
    | .hole => (0x501, false, .hole, s)
    | .regs | .aplic | .imsicFile _ _ => (0x504, false, .unreachable, s)
    | .dram | .loft =>
      match accessCheck s p 2 k a n with
      | (.ok c, s1) => (0, c, .ok c, s1)
      | (v, s1) => (0x502, false, v, s1)

/-- The initiator ID of the jointer of a bay (R42). -/
def jointerInit (s : State) (pb : Nat) : Nat := 0x60 + ownNum s pb % 32 / 4

/-- Check requests in order; the first failure ends the check, reported when it is a hole or a violation. The flag says that
a byte lies in a CONTEST region. -/
def jointerCheck (pb p : Nat) (k : AccKind) : List (Nat × Nat) → Bool → State → Nat × Bool × State
  | [], c, s => (0, c, s)
  | (a, n) :: t, c, s =>
    match jointerAccess pb p k a n s with
    | (0, c', _, s1) => jointerCheck pb p k t (c || c') s1
    | (code, _, v, s1) => (code, false, reportVerdict raise (jointerInit s pb) p 2 k a v s1)

/-- A descriptor is valid for a jointer command: no reserved bit, rows and length nonzero, one home (R182, R183). -/
def jointerDescHome (s : State) (pb : Nat) (d : Desc) : Bool :=
  Desc.wellFormed d &&
    ((ownOff (ownNum s pb) (Desc.base d) (Desc.extent d)).isSome ||
      (match homeOf s (Desc.base d) (Desc.extent d) with | .dram | .loft | .store _ _ | .remote _ _ => true | _ => false))

/-- A result word lies in the own store (R259); a bucket table of JHPARTO or JHPARTU may lie wherever the jointer reaches. -/
def resultInOwn (n : Nat) (o : Op) (nm : JNames) : Bool :=
  match nm.res with
  | none => true
  | some r => decide (o = .jhparto ∨ o = .jhpartu) || !(ownRange n r.1 r.2.1).isEmpty

/-- The requests of a result word or bucket table. -/
def resultPieces (nm : JNames) : List (Nat × Nat) :=
  match nm.res with | none => [] | some r => rowPieces r.1 r.2.1

/-- The checks of a jointer command at issue. -/
def jointerCodes (o : Op) (h : Hand) (w : Word64) (rb : Nat) (s : State) : List Nat × State :=
  let n := ownNum s h.pb
  let c := handGet s h
  let d := c.regs.getD
  let nm := jointerNames o w d rb
  let all := nm.ins ++ nm.outs
  let (k1, _, s1) := jointerCheck h.pb c.part .read (nm.ins.flatMap descPieces) false s
  let (k2, _, s2) := if k1 ≠ 0 then (0, false, s1)
    else jointerCheck h.pb c.part .write (nm.outs.flatMap descPieces ++ resultPieces nm) false s1
  let dd := d (fld w 0 4)
  (failIf (decide (k1 ≠ 0)) k1 ++ failIf (decide (k2 ≠ 0)) k2 ++
    failIf (all.any (fun x => belowFloor s h (Desc.base x) (Desc.extent x) || fillerBeyond s h (Desc.base x))) 0x504 ++
    failIf (jointerOverlap nm) 0x804 ++
    failIf (jointerMisaligned o w d nm) 0x805 ++
    failIf (!(all.all (jointerDescHome s h.pb) && nm.lists.all isList && jointerDescOk o w d && resultInOwn n o nm &&
      (decide (o ≠ .jsegpack) || !(descRange n dd).isEmpty))) 0x807 ++
    pegCodes s h w, s2)

/-- Issue a jointer command. -/
def issueJointer (o : Op) (h : Hand) (w : Word64) (s : State) : Host.Outcome State Fault Refusal :=
  let r := (handGet s h).regs
  issueQueued .jointer o h w (r.getS (Q.ra w)) (r.getS (Q.rb w)) (jointerCodes o h w (r.getS (Q.rb w)).toNat) s

/-- JGATHER (R262). -/
def execJgather (h : Hand) (w : Word64) (s : State) : Host.Outcome State Fault Refusal := issueJointer .jgather h w s
/-- JSCATO (R265). -/
def execJscato (h : Hand) (w : Word64) (s : State) : Host.Outcome State Fault Refusal := issueJointer .jscato h w s
/-- JSCATU (R268). -/
def execJscatu (h : Hand) (w : Word64) (s : State) : Host.Outcome State Fault Refusal := issueJointer .jscatu h w s
/-- JSEGPACK (R270). -/
def execJsegpack (h : Hand) (w : Word64) (s : State) : Host.Outcome State Fault Refusal := issueJointer .jsegpack h w s
/-- JCOMPACT (R281). -/
def execJcompact (h : Hand) (w : Word64) (s : State) : Host.Outcome State Fault Refusal := issueJointer .jcompact h w s
/-- JSORT (R277). -/
def execJsort (h : Hand) (w : Word64) (s : State) : Host.Outcome State Fault Refusal := issueJointer .jsort h w s
/-- JHPARTO (R278). -/
def execJhparto (h : Hand) (w : Word64) (s : State) : Host.Outcome State Fault Refusal := issueJointer .jhparto h w s
/-- JHPARTU (R278). -/
def execJhpartu (h : Hand) (w : Word64) (s : State) : Host.Outcome State Fault Refusal := issueJointer .jhpartu h w s
/-- JISECT (R279). -/
def execJisect (h : Hand) (w : Word64) (s : State) : Host.Outcome State Fault Refusal := issueJointer .jisect h w s
/-- JTOPK (R280). -/
def execJtopk (h : Hand) (w : Word64) (s : State) : Host.Outcome State Fault Refusal := issueJointer .jtopk h w s

/-- JSTAT (R252): s[RA] = the bay's jointer commands queued or outstanding. -/
def execJstat (h : Hand) (w : Word64) (s : State) : Host.Outcome State Fault Refusal :=
  issue .jstat h w s (fun s =>
    regStep h (fun r => r.setS (Q.ra w) (BitVec.ofNat 64 (bayGet s h.pb).jointerQ.length)) s)

/-- JWAIT (R252): stalls until that number is at most OPT[4:0]. -/
def execJwait (h : Hand) (w : Word64) (s : State) : Host.Outcome State Fault Refusal :=
  issue .jwait h w s (fun s => if (bayGet s h.pb).jointerQ.length ≤ fld w 0 5 then advance h s else s)

/-! Completion. -/

/-- Make the writes of a command in order; a write whose access a region update has removed ends it (R261). -/
def jointerWrites (h : Hand) (p : Nat) : List (Nat × List Byte) → State → State × Option Nat
  | [], s => (s, none)
  | (a, l) :: t, s =>
    match jointerCheck h.pb p .write (rowPieces a l.length) false s with
    | (0, c, s1) => jointerWrites h p t (handWrite h c a l s1)
    | (code, _, s1) => (s1, some (if code = 0x501 then 0x801 else 0x802))

/-- The record of a jointer fault in its bent's page (chapter 7). -/
def jointerFault (pb sub : Nat) (s : State) : State :=
  let n := ownNum s pb
  let k := n % 32 / 4
  if regBit s (Reg.JOINTER_FAULT k) 31 then s
  else regPut s (Reg.JOINTER_FAULT k) (BitVec.ofNat 32 (2 ^ 31 + n % 4 * 2 ^ 24 + 0x800 + sub))

/-- What a jointer command does (chapter 7): its reads see the stores as they stand, its writes land in order, the result
word last, then its peg; an imprecise fault ends it (R259, R261). -/
def runJointer (h : Hand) (e : QEntry) (s : State) : State × Option Nat :=
  let o := issuesAs e.word
  let d := fun i => tabGet 0 e.descs i
  let nm := jointerNames o e.word d e.rb.toNat
  let k := ownNum s h.pb % 32 / 4
  match jointerCheck h.pb e.part .read (nm.ins.flatMap descPieces) false s with
  | (0, _, s0) =>
    let rd : Reader := fun a =>
      match ownOff (ownNum s0 h.pb) a 1 with
      | some off => tabGet 0 (bayGet s0 h.pb).store off
      | none => devByte s0 a
    let r := jointerRun rd o e.word d e.ra.toNat e.rb.toNat s0.freeCtr
    let s1 := cntAdd { s0 with freeCtr := s0.freeCtr + r.draws } (Reg.JOINTER_RANGE_CNT k) r.ranged
    match jointerWrites h e.part r.writes s1 with
    | (s2, some code) => (jointerFault h.pb (code % 256) s2, some code)
    | (s2, none) =>
      match r.fault with
      | some sub => (jointerFault h.pb sub s2, some (0x800 + sub))
      | none =>
        let s3 := cntInc s2 (Reg.JOINTER_CMD_CNT k)
        let s4 := match o with
          | .jscatu => countChoice h Reg.PART_DIV_JSCAT 1 s3
          | .jhpartu => countChoice h Reg.PART_DIV_JHPART 1 s3
          | _ => s3
        (if Q.pe e.word then pegSignal s4 (Q.peg e.word) (.add 1) else s4, none)
  | (code, _, s0) =>
    let sub := if code = 0x501 then 1 else 2
    (jointerFault h.pb sub s0, some (0x800 + sub))

/-- The ranges that the jointer command with an issue number names, when it runs. -/
def jointerRanges (s : State) (pb seq : Nat) : List (Nat × Nat) :=
  match runningEntry s pb .jointer seq with
  | some e =>
    let nm := jointerNames (issuesAs e.word) e.word (fun i => tabGet 0 e.descs i) e.rb.toNat
    (nm.ins ++ nm.outs).map (fun d => (Desc.base d, Desc.extent d))
  | none => []

/-- JOINTER_COMMAND_COMPLETE (R259). A command goes on while a window that it names waits (R96). -/
def execJointerCommandComplete (pb seq : Nat) (s : State) : Host.Outcome State Fault Refusal :=
  if rowsWait s pb (jointerRanges s pb seq) then (if pb < bayCount then .next s else .fault .absentUnit) else
  completeEntry .jointer (fun _ => true) 3 pb seq runJointer s

end Sys2Proof.Machine
end

