-- ==== Sys2Proof/Machine/ExecPeg.lean ====
section
/-!
DEFINITION. The peg and time instructions and the system and plumb instructions (chapter 6), and the fetch of a panel
(chapter 5).
-/

namespace Sys2Proof.Machine

/-! Pegs. -/

/-- A peg instruction on pegs n to n + k: PEG 0x01 when one is outside the partition's range (R207). -/
def onPegs (h : Hand) (w : Word64) (k : Nat) (eff : Nat → State → State) (s : State) : State :=
  let c := handGet s h
  let n := pgPeg w c.regs
  if pegsOwned s c.part n k then eff n s else preciseFault h 0x901 s

/-- A signal with release ordering: it waits for the bay's earlier writes (R194); s[RD] takes the count after (R244). -/
def signalPeg (h : Hand) (w : Word64) (op : Nat → PegOp) (s : State) : State :=
  onPegs h w 0 (fun n s =>
    if writesPending s h.pb then s
    else
      let s1 := handSignal h n (op (pgValue w (handGet s h).regs)) s
      regStep h (fun r => r.setS (PG.rd w) ((pegGet s1 n).count.zeroExtend 64)) s1) s

/-- PADD (R328). -/
def execPadd (h : Hand) (w : Word64) (s : State) : Host.Outcome State Fault Refusal :=
  issue .padd h w s (signalPeg h w .add)

/-- PSET (R328). -/
def execPset (h : Hand) (w : Word64) (s : State) : Host.Outcome State Fault Refusal :=
  issue .pset h w s (signalPeg h w .set)

/-- PARRIVE (R245): adds 1, once, then waits until count ≥ target. An arrive abandoned at a kerf end issues again without a
second add. -/
def execParrive (h : Hand) (w : Word64) (s : State) : Host.Outcome State Fault Refusal :=
  issue .parrive h w s (onPegs h w 0 (fun n s =>
    if writesPending s h.pb then s
    else
      let s1 := if (handGet s h).arrived then s
        else handMod (handSignal h n .arrive s) h (fun c => { c with arrived := true })
      startWait h (.arrive (PG.rd w) n) s1))

/-- PWAIT (R328). -/
def execPwait (h : Hand) (w : Word64) (s : State) : Host.Outcome State Fault Refusal :=
  issue .pwait h w s (onPegs h w 0 (fun n s =>
    startWait h (.pegs (PG.rd w) n 0 (pgValue w (handGet s h).regs) false) s))

/-- PWANY (R240). With CNT = 0 it makes no choice. -/
def execPwany (h : Hand) (w : Word64) (s : State) : Host.Outcome State Fault Refusal :=
  issue .pwany h w s (onPegs h w (PG.cnt w) (fun n s =>
    startWait h (.pegs (PG.rd w) n (PG.cnt w) (pgValue w (handGet s h).regs) true) s))

/-- Read one field of a peg into s[RD]. -/
def pegRead (h : Hand) (w : Word64) (f : Peg → Word64) (s : State) : State :=
  onPegs h w 0 (fun n s => regStep h (fun r => r.setS (PG.rd w) (f (pegGet s n))) s) s

/-- PCOUNT (R328): the count in [31:0] and the poison bit in [32]. -/
def execPcount (h : Hand) (w : Word64) (s : State) : Host.Outcome State Fault Refusal :=
  issue .pcount h w s (pegRead h w (fun p => BitVec.ofNat 64 (p.count.toNat + bitN p.poison 32)))

/-- PTARGET (R328). -/
def execPtarget (h : Hand) (w : Word64) (s : State) : Host.Outcome State Fault Refusal :=
  issue .ptarget h w s (pegRead h w (fun p => p.target.zeroExtend 64))

/-- PSTAMP (R328). -/
def execPstamp (h : Hand) (w : Word64) (s : State) : Host.Outcome State Fault Refusal :=
  issue .pstamp h w s (pegRead h w (fun p => p.stamp.zeroExtend 64))

/-! Time. -/

/-- TREAD (R208): working time in [31:0]. -/
def execTread (h : Hand) (w : Word64) (s : State) : Host.Outcome State Fault Refusal :=
  issue .tread h w s (fun s => regStep h (fun r => r.setS (PG.rd w) (BitVec.ofNat 64 (workTime s))) s)

/-- TWAIT (R197, R241): completes at once when the target has been reached, else waits for it. -/
def execTwait (h : Hand) (w : Word64) (s : State) : Host.Outcome State Fault Refusal :=
  issue .twait h w s (fun s =>
    let t := ((handGet s h).regs.getS (PG.ra w)).toNat % 2 ^ 32
    if reached (workTime s) t then advance h s else handMod s h (fun c => { c with wait := .time t }))

/-- TWAIT_REACHED (R197): working time has reached the target of a waiting TWAIT. -/
def execTwaitReached (h : Hand) (s : State) : Host.Outcome State Fault Refusal :=
  if h.pb < bayCount then
    .next
      (match (handGet s h).wait with
       | .time t =>
         if reached (workTime s) t then handMod s h (fun c => { c with wait := .none, pc := nextPc c.pc }) else s
       | .none | .pegs _ _ _ _ _ | .arrive _ _ | .released _ _ _ | .poisoned => s)
  else .fault .absentUnit

/-! System. -/

/-- The special registers of R208. -/
def specialReg (s : State) (h : Hand) (sr : Nat) : Word64 :=
  let c := handGet s h
  let n := ownNum s h.pb
  match sr with
  | 0 => c.regs.flags.toWord
  | 1 => BitVec.ofNat 64 (workTime s)
  | 2 => BitVec.ofNat 64 n
  | 3 => BitVec.ofNat 64 c.divcnt
  | 4 => BitVec.ofNat 64 (pairGet s (Reg.BAY_PLUMBSIG n))
  | 5 => BitVec.ofNat 64 c.nbays
  | 6 => BitVec.ofNat 64 c.rank
  | 7 => BitVec.ofNat 64 c.args
  | 8 => BitVec.ofNat 64 c.progid
  | 9 => BitVec.ofNat 64 c.part
  | _ => BitVec.ofNat 64 c.handle

/-- MFSR (R208): FLAGS waits for the flags of earlier drains and streams (R159); the others are read at issue. -/
def execMfsr (h : Hand) (w : Word64) (s : State) : Host.Outcome State Fault Refusal :=
  issue .mfsr h w s (fun s =>
    if SY.sr w = 0 ∧ flagsBusy s h = true then s
    else regStep h (fun r => r.setS (SY.rd w) (specialReg s h (SY.sr w))) s)

/-- MTSR (R242): FLAGS = s[RA], after the flags of earlier drains and streams (R159). -/
def execMtsr (h : Hand) (w : Word64) (s : State) : Host.Outcome State Fault Refusal :=
  issue .mtsr h w s (fun s =>
    if flagsBusy s h then s
    else regStep h (fun r => { r with flags := HandFlags.ofWord (r.getS (SY.ra w)) }) s)

/-- PLBFOLD (R242): signature = (signature rotated left by 1) XOR s[RA]. -/
def execPlbfold (h : Hand) (w : Word64) (s : State) : Host.Outcome State Fault Refusal :=
  issue .plbfold h w s (fun s =>
    handMod s h (fun c =>
      { c with plumbSig := c.plumbSig.rotateLeft 1 ^^^ c.regs.getS (SY.ra w), pc := nextPc c.pc }))

/-- PLBGOLD (R242): s[RD] = golden word IMM32[11:0] of fuse-ROM. -/
def execPlbgold (h : Hand) (w : Word64) (s : State) : Host.Outcome State Fault Refusal :=
  issue .plbgold h w s (fun s => regStep h (fun r => r.setS (SY.rd w) (tabGet 0 s.golden (SY.imm w % 4096))) s)

/-- The slots of a bay reloaded from their recorded sources, but for STALE ones (R80). -/
def reloadSlots (b : Bay) : Bay :=
  { b with slots := b.slots.map (fun (i, sl) =>
      (i, if sl.loaded && !sl.stale then { sl with tile := b.storeRead sl.src (slotBytes sl) } else sl)) }

/-- What a passed run leaves (R97, R80): every sill zero, FLAGS clear, the slots reloaded, the bay IDLE. -/
def plumbLeave (now : Nat) (b : Bay) : Bay :=
  reloadSlots
    { b with
      st := .idle, sills := [], idleSince := now, plumbFor := 0, cache := [], badAhead := []
      main := { b.main with active := false, progid := 0, regs := { b.main.regs with flags := {} } } }

/-- A passed gated run counts for the held jobs that had ended when it started (R465). -/
def gatePass (n since : Nat) (s : State) : State :=
  { s with cmd := { s.cmd with slots := s.cmd.slots.map (fun (k, d) =>
      (k, if d.held && decide (d.endNs ≤ since) then { d with gateLeft := d.gateLeft.filter (fun x => decide (x ≠ n)) } else d)) } }

/-- A passed plumb run (R459–R462): it counts for the beat in progress and for the held jobs it gates, and marks a spare's
substitution as served (R429). -/
def plumbPass (pb : Nat) (s : State) : State :=
  let b := bayGet s pb
  let s1 := landWrites (bayMod s pb (plumbLeave s.tb.elapsed))
  match pbLogical s1 pb with
  | some n =>
    let s2 := if b.plumbFor = 1 then gatePass n b.phaseSince s1 else s1
    { s2 with part := { s2.part with
        plumbed := if s2.part.plumbed.contains n then s2.part.plumbed else s2.part.plumbed ++ [n]
        owesPlumb := s2.part.owesPlumb.filter (fun x => decide (x ≠ n))
        lastPass := tabPut 0 s2.part.lastPass n s2.tb.elapsed, lastPassWt := tabPut 0 s2.part.lastPassWt n (workTime s2) } }
  | none =>
    { s1 with repair := { s1.repair with
        substs := s1.repair.substs.map (fun x => if x.spare = some pb then { x with passed := true } else x) } }

/-- PLBDONE (R459): the signature is written to BAY_PLUMBSIG of the logical number and compared with SAFETY_PLUMB_GOLD; a
pass ends the run, a mismatch is a fence event. -/
def execPlbdone (h : Hand) (w : Word64) (s : State) : Host.Outcome State Fault Refusal :=
  issue .plbdone h w s (fun s =>
    let sig := (handGet s h).plumbSig.toNat
    let s1 := match pbLogical s h.pb with
      | some n => pairPut s (Reg.BAY_PLUMBSIG n) sig
      | none => s
    if sig = pairGet s1 Reg.SAFETY_PLUMB_GOLD then plumbPass h.pb s1 else plumbMismatch raise h.pb s1)

/-! Panel fetch (R169–R175). -/

/-- A panel of the plumb ROM (R171). -/
def romPanel (s : State) (a : Addr) : List Byte := (rangeFrom a 64).map (tabGet 0 s.plumbRom)

/-- Verify a panel in the order of R172: check word (R44), reserved trailer bits, program ID (R173). The answer is the fault
code, 0 for a good panel. `job` is the job's program ID, 0 while its entry panel is being fetched. -/
def panelCode (a : Addr) (p : List Byte) (plumb : Bool) (job : Nat) : Nat :=
  let trailer := leAt p 56 8
  let progid := nfld trailer 16 16
  if nfld trailer 32 32 ≠ (crc32c (p.take 56 ++ leBytes 8 (a / 64))).toNat then 0x201
  else if nfld trailer 0 16 ≠ 0 then 0x202
  else if progid = 0 then 0x301
  else if plumb then (if progid = 0xFFFF then 0 else 0x302)
  else if progid = 0xFFFF then 0x303
  else if job ≠ 0 ∧ progid ≠ job then 0x302
  else 0

/-- Where a panel may be fetched from (R170, R171): the code of a FETCH fault, 0 when it may, and the verdict. -/
def fetchPlace (s : State) (h : Hand) (a : Addr) : Nat × Verdict × State :=
  if (bayGet s h.pb).st = .plumb then (if a < 0x800 then 0 else 0x404, .ok false, s)
  else
    match homeOf s a 64 with
    | .dram | .loft =>
      match accessCheck s (handGet s h).part 0 .fetch a 64 with
      | (.ok _, s1) => (0, .ok false, s1)
      | (v, s1) => (0x402, v, s1)
    | .hole => (0x401, .hole, s)
    | .store _ _ | .remote _ _ | .regs | .aplic | .imsicFile _ _ => (0x401, .ok false, s)

/-- The bytes of a panel. -/
def panelBytes (s : State) (h : Hand) (a : Addr) : List Byte :=
  if (bayGet s h.pb).st = .plumb then romPanel s a else memRead s a 64

/-- Count a panel that fails verification (BAY_ICHECK_CNT). -/
def countIcheck (s : State) (pb : Nat) : State :=
  match pbLogical s pb with | some n => cntInc s (Reg.BAY_ICHECK_CNT n) | none => s

/-- A verified panel enters the panel cache; the entry panel gives the job its program ID (R173). -/
def cachePanel (h : Hand) (a : Addr) (p : List Byte) (s : State) : State :=
  bayMod s h.pb (fun b =>
    let c := handOf b h.filler
    let b1 := { b with cache := tabPut [] b.cache a p, badAhead := tabErase b.badAhead a }
    b1.setHand h.filler (if c.progid = 0 then { c with progid := leAt p 58 2 } else c))

/-- Fetch the panel of the program position (R172): a failure faults when its first instruction is the next to issue. -/
def fetchHere (h : Hand) (s : State) : State :=
  let c := handGet s h
  let a := panelOf c.pc
  match tabGet 0 (bayGet s h.pb).badAhead a with
  | k + 1 => takeFault raise h (k + 1) 0 a s
  | 0 =>
  match fetchPlace s h a with
  | (0, _, s1) =>
    let s2 := match pbLogical s1 h.pb with | some n => cntInc s1 (Reg.BAY_PANEL_MISS_CNT n) | none => s1
    let p := panelBytes s2 h a
    let code := panelCode a p (decide ((bayGet s2 h.pb).st = .plumb)) c.progid
    if code = 0 then cachePanel h a p s2 else takeFault raise h code 0 a (countIcheck s2 h.pb)
  | (code, v, s1) => takeFault raise h code 0 c.pc (reportVerdict raise (handInit s h.pb) c.part 0 .fetch a v s1)

/-- Fetch the following panel before the program reaches it: a run-ahead read, dropped and counted when it may not be made
(R174, R325); a panel that fails verification is counted and faults only when it is reached. -/
def fetchAhead (h : Hand) (s : State) : State :=
  let c := handGet s h
  let b := bayGet s h.pb
  let a := panelOf c.pc + 64
  if tabGet [] b.cache a ≠ [] ∨ tabGet [] b.cache (panelOf c.pc) = [] ∨ tabGet 0 b.badAhead a ≠ 0 then s
  else
    match fetchPlace s h a with
    | (0, _, s1) =>
      let p := panelBytes s1 h a
      let code := panelCode a p (decide (b.st = .plumb)) c.progid
      if code = 0 then cachePanel h a p s1
      else bayMod (countIcheck s1 h.pb) h.pb (fun b => { b with badAhead := tabPut 0 b.badAhead a code })
    | (_, _, s1) => if b.st = .plumb then s1 else cntInc s1 (Reg.CMDPROC_SPEC_DROP c.part)

/-- PANEL_FETCH (R172): of the panel at the program position when it is not cached, or ahead of it. -/
def execPanelFetch (h : Hand) (ahead : Bool) (s : State) : Host.Outcome State Fault Refusal :=
  if h.pb < bayCount then
    .next
      (let b := bayGet s h.pb
       let c := handOf b h.filler
       if issuing b c then
         if ahead then fetchAhead h s
         else if tabGet [] b.cache (panelOf c.pc) = [] then fetchHere h s else s
       else s)
  else .fault .absentUnit

end Sys2Proof.Machine
end

