-- ==== Sys2Proof/Machine/ExecKerf.lean ====
section
/-!
DEFINITION. Kerf entries and the steps of a context switch (R372–R382, R591).
-/

namespace Sys2Proof.Machine

/-- The schedule moves on once the entry in force has lasted LEN × 10 µs: to the next entry, after the last one to the open tail,
or with BEAT = 0 back to entry 0 (R372). -/
def nextEntry (p : Nat) (s : State) : State :=
  let b := beatGet s p
  let until_ := b.entryNs + schedLen s p b.entry * 10000
  if recNkerf s p = 0 ∨ b.tail = true ∨ s.tb.elapsed < until_ then s
  else
    let b1 :=
      if b.entry + 1 < recNkerf s p then { b with entry := b.entry + 1, entryNs := until_ }
      else if recBeat s p = 0 then { b with entry := 0, entryNs := until_ }
      else { b with tail := true, entryNs := until_ }
    kerfPass p (beatPut s p b1)

/-- KERF_ENTRY_START (R372). -/
def execKerfEntryStart (part : Nat) (s : State) : Host.Outcome State Fault Refusal :=
  if part < 8 then .next (nextEntry part s) else .fault .absentUnit

/-- A draining bay whose queues are empty enters SAVING (R378 step 3); a part that ended in the drain ends instead (R386). -/
def drainDone (pb : Nat) (s : State) : State :=
  let b := bayGet s pb
  if decide (b.st = .running) && b.drain && b.entries.isEmpty then
    if b.main.ended then settle s { pb := pb } else bayPut s pb { b with st := .saving, drain := false, phaseSince := s.tb.elapsed }
  else s

/-- KERF_DRAIN_COMPLETE (R378). -/
def execKerfDrainComplete (pb : Nat) (s : State) : Host.Outcome State Fault Refusal :=
  if pb < bayCount then .next (drainDone pb s) else .fault .absentUnit

/-- A drain longer than DRAIN_LIMIT × 10 µs is reported once (R382). -/
def drainOver (pb : Nat) (s : State) : State :=
  let b := bayGet s pb
  let p := b.main.part
  if decide (b.st = .running) && b.drain && !b.overrun &&
      decide (b.phaseSince + regFld s (Reg.PART_KERF_CFG p) 0 16 * 10000 < s.tb.elapsed) then
    raise 0x05B (some p) 0 (cntInc (bayPut s pb { b with overrun := true }) (Reg.PART_OVERRUN_CNT p))
  else s

/-- KERF_OVERRUN (R382). -/
def execKerfOverrun (pb : Nat) (s : State) : Host.Outcome State Fault Refusal :=
  if pb < bayCount then .next (drainOver pb s) else .fault .absentUnit

/-! Save images (R380). -/

/-- `n` bytes that the manual does not state: the image's hand state and slot records, whose layout it does not give. -/
def freeBytes (n : Nat) (s : State) : List Byte × State :=
  ((List.range n).map (fun i => (Config.freeValue (s.freeCtr + i)).truncate 8), { s with freeCtr := s.freeCtr + n })

/-- The parts of a context: its store range, its first sill set, and its weight slots; a filler has the store from GFX_FILL, sets
A2–A3 and slots W2–W3, and its host's image omits them (R591). -/
structure CtxParts where
  storeLo : Nat
  storeHi : Nat
  sets : List Nat
  slots : List Nat

/-- The parts that belong to a context of a bay. -/
def ctxParts (s : State) (b : Bay) (filler : Bool) : CtxParts :=
  let base := regFld s Reg.GFX_FILL 0 5 * 0x10000
  if filler then { storeLo := base, storeHi := storeSize, sets := [2, 3], slots := [2, 3] }
  else if b.filler.active then { storeLo := 0, storeHi := base, sets := [0, 1], slots := [0, 1] }
  else { storeLo := 0, storeHi := storeSize, sets := [0, 1, 2, 3], slots := [0, 1, 2, 3] }

/-- Write one context's save image (R380). -/
def saveCtx (pb : Nat) (filler : Bool) (s : State) : State :=
  let b := bayGet s pb
  let c := handOf b filler
  let q := ctxParts s b filler
  match pbLogical s pb with
  | none => s
  | some n =>
    let base := imageBase s c.part c.kclass n
    let s1 := memWrite s (base + q.storeLo) (b.storeRead q.storeLo (q.storeHi - q.storeLo))
    let s2 := q.sets.foldl (fun s a =>
      memWrite s (base + 0x140000 + 10240 * a)
        ((List.range 128).flatMap (fun k => sillImage (tabGet {} b.sills (128 * a + k))))) s1
    let (l, s3) := freeBytes (2944 + 64) s2
    let img : SaveImg := { hand := c, slots := b.slots.filter (fun (i, _) => q.slots.contains i) }
    let s4 := memWrite s3 (base + 0x14A000) l
    { s4 with part := { s4.part with images := tabPut {} s4.part.images base img } }

/-- A context whose image is complete leaves the bay; its job is suspended when no bay runs it any more (R373). -/
def suspendCtx (pb n : Nat) (filler : Bool) (s : State) : State :=
  let c := handOf (bayGet s pb) filler
  let s1 := bayMod s pb (fun b => b.setHand filler { handOf b filler with active := false, wait := .none })
  let slot := slotOf c.handle
  let last := (jobHands s1 c.handle).isEmpty
  dowelMod s1 slot (fun d =>
    { d with
      savedBays := d.savedBays ++ [n], savedDiv := d.savedDiv + c.divcnt, savedFlags := d.savedFlags.or c.regs.flags.sticky
      suspended := last, switchDue := true })

/-- One context at the end of SAVING: saved, or ended when its job is being stopped or replayed meanwhile (R113). -/
def finishCtx (pb n : Nat) (filler : Bool) (s : State) : State :=
  let c := handOf (bayGet s pb) filler
  let d := dowelGet s (slotOf c.handle)
  if !c.active then s
  else if d.ending.isSome || d.replayDue || c.ended then endContext s { pb := pb, filler := filler }
  else suspendCtx pb n filler (saveCtx pb filler s)

/-- The end of SAVING (R378 step 4): the bay is IDLE, and the scheduler goes on. -/
def saveDone (pb : Nat) (s : State) : State :=
  let b := bayGet s pb
  if b.st = .saving then
    match pbLogical s pb with
    | some n =>
      let s1 := finishCtx pb n false (finishCtx pb n true s)
      kerfPass b.main.part
        (landWrites (bayMod s1 pb (fun b =>
          { b with st := .idle, drain := false, idleSince := s.tb.elapsed, cache := [], badAhead := [],
                   main := { b.main with active := false }, filler := { b.filler with active := false } })))
    | none => s
  else s

/-- SAVE_COMPLETE (R380). -/
def execSaveComplete (pb : Nat) (s : State) : Host.Outcome State Fault Refusal :=
  if pb < bayCount then .next (saveDone pb s) else .fault .absentUnit

/-! Restores. -/

/-- Read the sill sets of an image. -/
def readSets (s : State) (base : Addr) (sets : List Nat) (t : Tab Sill) : Tab Sill :=
  sets.foldl (fun t a =>
    (List.range 128).foldl (fun t k =>
      tabPut {} t (128 * a + k) (sillOfImage (memRead s (base + 0x140000 + 10240 * a + 80 * k) 80))) t) t

/-- Read one context's image into a bay. -/
def loadCtx (s : State) (base : Addr) (q : CtxParts) (filler : Bool) (b : Bay) : Bay :=
  let img := tabGet {} s.part.images base
  let b1 : Bay :=
    { b with
      store := putBytes b.store q.storeLo (memRead s (base + q.storeLo) (q.storeHi - q.storeLo))
      sills := readSets s base q.sets b.sills
      slots := img.slots.foldl (fun t (i, x) => tabPut {} t i x) (b.slots.filter (fun (i, _) => !q.slots.contains i)) }
  b1.setHand filler { img.hand with active := true, stopped := false, wait := .none }

/-- The filler job suspended with a render job on logical bay `n`, if any (R591). -/
def fillerWith (s : State) (host n : Nat) : Option Nat :=
  if (dowelGet s host).render then
    (jobsWhere s (dowelGet s host).part (fun d => d.suspended && isFiller s d && d.savedBays.contains n)).head?
  else none

/-- Take logical bay `n` out of the save images of a job. -/
def unsave (slot n : Nat) (c : HandCtx) (s : State) : State :=
  dowelMod s slot (fun d =>
    { d with savedBays := d.savedBays.filter (fun x => decide (x ≠ n)), savedDiv := d.savedDiv - c.divcnt, suspended := false })

/-- Restore one context of the job in `slot` on a bay. -/
def restoreCtx (pb n slot : Nat) (filler other : Bool) (s : State) : State :=
  let d := dowelGet s slot
  let base := imageBase s d.part (dsClass d.desc) n
  let q := ctxParts s { filler := { active := other } } filler
  let s1 := bayMod s pb (loadCtx s base q filler)
  let s2 := unsave slot n (handOf (bayGet s1 pb) filler) s1
  { s2 with part := { s2.part with images := tabPut {} s2.part.images base {} } }

/-- The end of RESTORING (R378, R80, R175): the image is in place, the slots are reloaded, and the bay is RUNNING; a context whose
job is being stopped or replayed meanwhile leaves at once. -/
def restoreDone (pb : Nat) (s : State) : State :=
  let b := bayGet s pb
  if b.st = .restoring then
    match pbLogical s pb with
    | some n =>
      let f := fillerWith s b.incoming n
      let s1 := restoreCtx pb n b.incoming false f.isSome s
      let s2 := match f with | some k => restoreCtx pb n k true true s1 | none => s1
      let s3 := landWrites (bayMod s2 pb (fun b => { reloadSlots b with st := .running, cache := [], badAhead := [] }))
      let stop := fun (h : Hand) (s : State) =>
        let d := dowelGet s (slotOf (handGet s h).handle)
        if (handGet s h).active && (d.ending.isSome || d.replayDue) then stopHand s h else s
      kerfPass (bayGet s3 pb).main.part
        (countSwitches b.incoming [n] (stop { pb := pb } (stop { pb := pb, filler := true } s3)))
    | none => s
  else s

/-- RESTORE_COMPLETE (R378). -/
def execRestoreComplete (pb : Nat) (s : State) : Host.Outcome State Fault Refusal :=
  if pb < bayCount then .next (restoreDone pb s) else .fault .absentUnit

end Sys2Proof.Machine
end

