-- ==== Sys2Proof/Machine/Mailbox.lean ====
section
/-!
DEFINITION. Mailbox rings, message headers and notices (R683–R695).
-/

namespace Sys2Proof.Machine

/-- MB_CFG.EN. -/
def mbOn (s : State) (m : Nat) : Bool := regBit s (Reg.MB_CFG m) 31
/-- Slots of the ring, 2^SIZE (R684). -/
def mbSlots (s : State) (m : Nat) : Nat := 2 ^ regFld s (Reg.MB_CFG m) 0 4
/-- Producer index. -/
def mbPI (s : State) (m : Nat) : Nat := regFld s (Reg.MB_PI m) 0 9
/-- Consumer index. -/
def mbCI (s : State) (m : Nat) : Nat := regFld s (Reg.MB_CI m) 0 9
/-- Messages in the ring (R684). -/
def mbHeld (s : State) (m : Nat) : Nat := (mbPI s m + 512 - mbCI s m) % 512
/-- The address of the slot an index selects. -/
def mbAddr (s : State) (m i : Nat) : Addr := pairGet s (Reg.MB_BASE m) % 2 ^ 48 + i % mbSlots s m * 256

/-- The message format of the firmware (R690). -/
def msgMajor (s : State) : Nat := regFld s Reg.FC_MSGVER 8 8
/-- Its minor. -/
def msgMinor (s : State) : Nat := regFld s Reg.FC_MSGVER 0 8

/-- What a message says beside its payload (R688). -/
structure MsgHead where
  vmaj : Nat
  vmin : Nat
  typ : Nat
  part : Nat
  kind : Nat
  tag : Nat := 0
  status : Nat := 0
  handle : Nat := 0

/-- A message: header with its check word over bytes 0–27 and the payload, then the payload (R688). -/
def message (h : MsgHead) (payload : List Byte) : List Byte :=
  let head := leBytes 1 h.vmaj ++ leBytes 1 h.vmin ++ leBytes 2 h.typ ++ leBytes 2 payload.length ++ leBytes 1 h.part ++
    leBytes 1 h.kind ++ leBytes 4 h.tag ++ leBytes 2 h.status ++ leBytes 2 0 ++ leBytes 4 h.handle ++ leBytes 8 0
  head ++ leBytes 4 (crc32c (head ++ payload)).toNat ++ payload

/-- Put a message in the ring of response mailbox `m` through its partition's regions, advance PI and send the MSI (R684, R686);
the flag says whether it was written. The island's ring is not bound by region tables. -/
def putMessage (m : Nat) (l : List Byte) (s : State) : State × Bool :=
  if !mbOn s m || decide (mbHeld s m = mbSlots s m) then (s, false)
  else
    let a := mbAddr s m (mbPI s m)
    let (v, s1) := if m < 16 then accessCheck s (m / 2) 7 .write a 256 else (.ok false, s)
    match v with
    | .ok _ =>
      let s2 := regPut (devWrite s1 a l) (Reg.MB_PI m) (BitVec.ofNat 32 ((mbPI s1 m + 1) % 512))
      (if decide (m < 16) && regBit s2 (Reg.MB_CFG m) 30 then msi s2 (m / 2) (regFld s2 (Reg.MB_CFG m) 8 4) else s2, true)
    | _ => (reportVerdict raise 0x10 (m / 2) 7 .write a v s1, false)

/-- A notice of the firmware to response mailbox `m` (R686, R687, R692): dropped and counted when it cannot be written. -/
def notice (m part typ : Nat) (payload : List Byte) (s : State) : State :=
  let l := message { vmaj := msgMajor s, vmin := msgMinor s, typ := typ, part := part, kind := 2 } payload
  match putMessage m l s with
  | (s1, true) => s1
  | (s1, false) => cntInc s1 (Reg.MB_NOTE_DROP m)

/-- REPAIR_EVENT (R693, R695), to mailbox 1 and to mailbox 17. `new` is none for a dropped unit. -/
def repairEvent (unit : Nat) (bent : Bool) (old : Nat) (new : Option Nat) (cause : Nat) (s : State) : State :=
  let l := leBytes 1 unit ++ leBytes 1 (bitN bent 0) ++ leBytes 1 old ++ leBytes 1 (new.getD 0xFF) ++ leBytes 1 cause ++
    leBytes 1 s.repair.pendingEntries.length ++ leBytes 2 0 ++ leBytes 4 (workTime s)
  notice 17 0 0x50 l (notice 1 0 0x50 l s)

end Sys2Proof.Machine
end

