-- ==== Sys2Proof/Machine/ExecRepair.lean ====
section
/-!
DEFINITION. Repair in service (chapter 11): fence events, the retirement point, the plumb run of a spare, the hang of a jointer
and the memory patrol.
-/

namespace Sys2Proof.Machine

/-! Fence events (R106). -/

/-- BAY_FENCE (R107): a fence event with a cause of R439 that a bay can have: 1 plumb mismatch, 2 domain, 3 hang, 4 field log. -/
def execBayFence (pb cause : Nat) (s : State) : Host.Outcome State Fault Refusal :=
  if pb < bayCount then .next (if 1 ≤ cause ∧ cause ≤ 4 then fenceBay raise pb cause s else s) else .fault .absentUnit

/-- A RUNNING bay without progress for 1,048,576 cycles is fenced (R106, R190); a hang in a plumb run is a mismatch (R459). -/
def bayHang (pb : Nat) (s : State) : State :=
  if (bayGet s pb).st = .running then fenceBay raise pb 3 s
  else if (bayGet s pb).st = .plumb then plumbMismatch raise pb s
  else s

/-- BAY_HANG (R106). -/
def execBayHang (pb : Nat) (s : State) : Host.Outcome State Fault Refusal :=
  if pb < bayCount then .next (bayHang pb s) else .fault .absentUnit

/-- A bay's clock or VDD_BAY fault: BAY_DOMAINp for the owner of the bay, then the fence (R106, R477). -/
def bayDomain (pb : Nat) (s : State) : State := fenceBay raise pb 2 (raise (0x020 + pb) ((pbLogical s pb).bind (bayOwner s)) 0 s)

/-- BAY_DOMAIN_FAULT (R477). -/
def execBayDomainFault (pb : Nat) (s : State) : Host.Outcome State Fault Refusal :=
  if pb < bayCount then .next (bayDomain pb s) else .fault .absentUnit

/-! The map image (R419). -/

/-- The code of a physical bay. -/
def bayCode (s : State) (pb : Nat) : Nat :=
  match pbLogical s pb with
  | some n => n
  | none => if s.repair.badBays.getLsbD pb || decide ((bayGet s pb).st = .retired) then 0xFF else 0xFE

/-- The physical jointer that serves logical bent `k` of this device, if any. -/
def bentJointer (s : State) (k : Nat) : Option Nat :=
  match tabGet 0 s.jmap k with
  | 0 => none
  | j + 1 => some j

/-- The bent that a physical jointer serves. -/
def jointerBent (s : State) (j : Nat) : Option Nat := (List.range 8).find? (fun k => decide (bentJointer s k = some j))

/-- The first logical bent of this device. -/
def bentBase (s : State) : Nat := if twinSecondary s then 8 else 0

/-- A physical jointer is out of service. -/
def jointerBad (s : State) (j : Nat) : Bool := s.repair.badJointers.getLsbD j || (tabGet {} s.jointers j).retired

/-- The code of a physical jointer. -/
def jointerCode (s : State) (j : Nat) : Nat :=
  match jointerBent s j with
  | some k => bentBase s + k
  | none => if jointerBad s j then 0xFF else 0xFE

/-- The logical number of a good loft bank: its place among the good ones (R421). -/
def bankRank (s : State) (b : Nat) : Nat := ((List.range b).filter (fun x => !s.repair.badLoft.getLsbD x)).length

/-- The code of a physical loft bank. -/
def bankCode (s : State) (b : Nat) : Nat :=
  if s.repair.badLoft.getLsbD b then 0xFF else if bankRank s b < 48 then bankRank s b else 0xFE

/-- The 94 bytes of the map image. -/
def mapImage (s : State) : List Byte :=
  ((List.range 36).map (bayCode s) ++ (List.range 9).map (jointerCode s) ++ (List.range 49).map (bankCode s)).map (BitVec.ofNat 8)

/-- GLOBAL_REPAIR_DIGEST takes the digest of the map in force. -/
def putDigest (s : State) : State := pairPut s Reg.GLOBAL_REPAIR_DIGEST (leVal ((sha384 (mapImage s)).take 8))

/-! Pending entries (R440). -/

/-- Bytes 0–7 of a field repair log entry (R439). -/
def logEntry (kind cause unit row : Nat) : List Byte :=
  leBytes 1 kind ++ leBytes 1 cause ++ leBytes 2 unit ++ leBytes 2 row ++ leBytes 2 0

/-- Hold a pending entry, but for a thirty-third one or one that is held already. -/
def addPending (e : List Byte) (s : State) : State :=
  if s.repair.pendingEntries.length < 32 ∧ ¬ e ∈ s.repair.pendingEntries then
    { s with repair := { s.repair with pendingEntries := s.repair.pendingEntries ++ [e] } }
  else s

/-! The retirement point. -/

/-- Logical number `lb` passes from its fenced bay to a spare that has passed (R430); the new bay's patrol sweep starts at row 0
(R454). -/
def passNumber (x : Subst) (sp : Nat) (s : State) : State :=
  let s0 := { s with bayMap := tabPut 0 s.bayMap x.lb (sp + 1)
                     repair := { s.repair with patrolRow := tabPut 0 s.repair.patrolRow sp 0 } }
  let s1 := bayMod s0 x.pb (fun b => { b with st := .retired })
  let s2 := raise 0x060 none 0 (cntInc (putDigest s1) Reg.GLOBAL_SUBST_CNT)
  repairEvent x.lb false x.pb (some sp) x.cause (addPending (logEntry 1 x.cause x.pb 0) s2)

/-- BAY_DROPPED, as CRITICAL with a safe-state request under GRADE_LOCK (R424, R436). -/
def raiseDropped (lb : Nat) (s : State) : State :=
  if regBit s Reg.GLOBAL_GRADE 2 then raiseN 12 (some 2) 3 0x063 (bayOwner s lb) 0 s else raise 0x063 (bayOwner s lb) 0 s

/-- The jobs that wait to be replayed and have a bay on logical number `lb`. -/
def replaysOn (s : State) (lb : Nat) : List Nat :=
  (s.cmd.slots.filter (fun (_, d) => decide (d.st = .running) && d.replayDue && (jobBays d).contains lb)).map (·.1)

/-- No bay holds logical number `lb` any more: its jobs end DONE_FAULT 0x3002 (R436). -/
def dropNumber (lb : Nat) (s : State) : State :=
  let s1 := match lbPhys s lb with
    | some pb => bayMod { s with bayMap := tabPut 0 s.bayMap lb 0 } pb (fun b => { isolate b with st := .retired })
    | none => s
  let s2 := putDigest (regPut s1 Reg.GLOBAL_DROP (regGet s1 Reg.GLOBAL_DROP ||| BitVec.ofNat 32 (2 ^ (lb % 32))))
  (replaysOn s2 lb).foldl (fun s k => stopJob raise k .doneFault 0x3002 s) (raiseDropped lb s2)

/-- The retirement point of one substitution: with a spare that has passed, or with none left (R430, R436, R448). -/
def retire (x : Subst) (s : State) : State :=
  let s0 := { s with repair := { s.repair with substs := s.repair.substs.filter (fun y => decide (y.lb ≠ x.lb)) } }
  match x.spare with
  | some sp => if x.passed then passNumber x sp s0 else s
  | none => repairEvent x.lb false x.pb none x.cause (addPending (logEntry 1 x.cause x.pb 0) (dropNumber x.lb s0))

/-- RETIREMENT_POINT (R430). -/
def execRetirementPoint (lb : Nat) (s : State) : Host.Outcome State Fault Refusal :=
  if lb < 64 then
    .next (match s.repair.substs.find? (fun x => decide (x.lb = lb)) with
      | some x => landWrites (retire x s)
      | none => s)
  else .fault .absentUnit

/-- SPARE_PERIODIC_PLUMB (R437): the fabric controller runs a plumb run on a spare bay. -/
def execSparePeriodicPlumb (pb : Nat) (s : State) : Host.Outcome State Fault Refusal :=
  if pb < bayCount then
    .next (if freeSpare s pb && decide ((bayGet s pb).st = .idle) then startPlumb s pb 3 else s)
  else .fault .absentUnit

/-! Jointer retirement (R438). -/

/-- A spare jointer. -/
def spareJointer (s : State) (j : Nat) : Bool := !jointerBad s j && (jointerBent s j).isNone

/-- The logical bays of bent `k` of this device. -/
def bentBays (s : State) (k : Nat) : List Nat := rangeFrom (4 * (bentBase s + k)) 4

/-- Some bay of the bent has a jointer command running. -/
def jointerBusy (s : State) (k : Nat) : Bool :=
  (bentBays s k).any (fun n => match lbPhys s n with | some pb => (bayGet s pb).jointerQ.any (·.started) | none => false)

/-- End the jointer commands of a bent (R287). -/
def dropJointerWork (k : Nat) (s : State) : State :=
  (bentBays s k).foldl (fun s n => match lbPhys s n with | some pb => bayMod s pb (fun b => { b with jointerQ := [] }) | none => s) s

/-- Every job running on the bent is marked for replay. -/
def replayBent (k : Nat) (s : State) : State :=
  (bentBays s k).foldl (fun s n => (jobsOn s n).foldl (markReplay raise) s) s

/-- A jointer that has made no request for 1,048,576 cycles is retired: its bent passes to the lowest spare, or its four
numbers are dropped (R438). -/
def jointerHang (pj : Nat) (s : State) : State :=
  match jointerBent s pj with
  | none => s
  | some k =>
    if !jointerBusy s k then s
    else
      let s1 := { s with jointers := tabPut {} s.jointers pj { tabGet {} s.jointers pj with retired := true } }
      let s2 := addPending (logEntry 2 6 pj 0) (replayBent k (dropJointerWork k s1))
      match (List.range 9).find? (spareJointer s2) with
      | some j =>
        let s3 := putDigest { s2 with jmap := tabPut 0 s2.jmap k (j + 1) }
        repairEvent (bentBase s + k) true pj (some j) 6 (raise 0x061 none 0 (cntInc s3 Reg.GLOBAL_SUBST_CNT))
      | none =>
        let s3 := { s2 with jmap := tabPut 0 s2.jmap k 0 }
        repairEvent (bentBase s + k) true pj none 6 ((bentBays s k).foldl (fun s n => dropNumber n s) s3)

/-- JOINTER_HANG (R438). -/
def execJointerHang (pj : Nat) (s : State) : Host.Outcome State Fault Refusal :=
  if pj < 9 then .next (jointerHang pj s) else .fault .absentUnit

/-! The memory patrol (R443–R445). -/

/-- A bay the patrol may visit: IDLE, in use or spare (R443). -/
def patrolBay (s : State) (pb : Nat) : Bool :=
  regBit s Reg.GLOBAL_PATROL_CFG 17 && decide ((bayGet s pb).st = .idle) && ((pbLogical s pb).isSome || isSpare s pb)

/-- A loft bank the patrol may visit. -/
def patrolBank (s : State) (b : Nat) : Bool := regBit s Reg.GLOBAL_PATROL_CFG 16 && !s.repair.badLoft.getLsbD b

/-- A row that reads back wrong (R445). `kind` and `unit` name its unit, `mac` and `row` the row. -/
def patrolBad (kind unit mac row : Nat) (s : State) : State :=
  let used := tabGet 0 s.repair.rowsUsed mac
  if used < 4 then
    let s1 := { s with repair := { s.repair with rowsUsed := tabPut 0 s.repair.rowsUsed mac (used + 1) } }
    addPending (logEntry 4 5 mac row) (raise 0x066 none 0 (cntInc s1 Reg.GLOBAL_PATROL_CNT))
  else addPending (logEntry kind 5 unit 0) (raise 0x067 none 0 s)

/-- Test the next row of a target of `rows` rows, `per` to a macro (R443, R444): the row keeps its value. A completed sweep of a
loft bank counts. -/
def patrolRow (kind unit key macBase rows per : Nat) (bad : Bool) (s : State) : State :=
  let r := tabGet 0 s.repair.patrolRow key
  let s1 := { s with repair := { s.repair with patrolRow := tabPut 0 s.repair.patrolRow key ((r + 1) % rows) } }
  let s2 := if decide (kind = 3) && decide (r + 1 = rows) then
      regPut s1 Reg.GLOBAL_PATROL_POS (regGet s1 Reg.GLOBAL_PATROL_POS + 1) else s1
  if bad then patrolBad kind unit (macBase + r / per) (r % per) s2 else s2

/-- PATROL_ROW_TEST (R444). -/
def execPatrolRowTest (loft : Bool) (unit : Nat) (bad : Bool) (s : State) : Host.Outcome State Fault Refusal :=
  if loft then
    if unit < 49 then
      .next (if regBit s Reg.GLOBAL_PATROL_CFG 31 && patrolBank s unit then
        patrolRow 3 unit (64 + unit) (0x1000 + 32 * unit) 8192 256 bad s else s)
    else .fault .absentUnit
  else if unit < bayCount then
    .next (if regBit s Reg.GLOBAL_PATROL_CFG 31 && patrolBay s unit then
      patrolRow 1 unit unit (80 * unit) 10240 128 bad s else s)
  else .fault .absentUnit

end Sys2Proof.Machine
end

