-- ==== Sys2Proof/Machine/RegField.lean ====
section
/-!
DEFINITION. A write of one word to a stored register, field by field (R35, R38, R39, R41, R355).
-/

namespace Sys2Proof.Machine

/-- A word places a reserved encoding in a field that a write reaches (R39). -/
def RField.reserved (f : RField) (v : Word32) : Bool :=
  decide (f.acc ≠ .ro) && decide (f.acc ≠ .sealed) && (decide (fld v f.lo f.len < f.mn) || decide (f.mx < fld v f.lo f.len))

/-- A word has a nonzero bit outside every field (R38). -/
def RRow.strays (r : RRow) (v : Word32) : Bool :=
  (List.range 32).any (fun i => bitAt v i && r.fields.all (fun f => decide (i < f.lo) || decide (f.lo + f.len ≤ i)))

/-- What a write of `v` makes of one field of the word `w`. -/
def RField.write (locked : Bool) (v w : Word32) (f : RField) : Word32 :=
  let x := fld v f.lo f.len
  let old := fld w f.lo f.len
  match f.acc with
  | .rw => setFld w f.lo f.len x
  | .rwl => if locked then w else setFld w f.lo f.len x
  | .w1c => setFld w f.lo f.len (old &&& (x ^^^ (2 ^ f.len - 1)))
  | .w1s => setFld w f.lo f.len (old ||| x)
  | .ro | .wo | .sealed => w

/-- What a write of `v` makes of the word `w`: CLR empties a counter (R41). -/
def RRow.write (locked : Bool) (v w : Word32) (r : RRow) : Word32 :=
  if r.fields = cntFields then (if bitAt v 31 then 0 else w) else r.fields.foldl (RField.write locked v) w

/-- The word at `a` refuses a write of `v` as a reserved encoding (R39). -/
def wordRefuses (a : Addr) (v : Word32) : Bool :=
  match regRow a with
  | some r => r.fields.any (fun f => f.reserved v)
  | none => false

/-- A write that carries a reserved encoding is discarded and counted; other writes take effect, and one with a nonzero reserved
bit is counted (R38, R39). -/
def tryWrite (a : Addr) (v : Word32) (eff : State → State) (s : State) : State :=
  if wordRefuses a v then cntInc s Reg.GLOBAL_RSVD_CNT
  else
    match regRow a with
    | some r => eff (if r.strays v then cntInc s Reg.GLOBAL_RSVD_CNT else s)
    | none => s

/-- Store the fields of a written word. -/
def storeFields (a : Addr) (v : Word32) (s : State) : State :=
  match regRow a with
  | some r => regPut s a (r.write (pageLocked s a) v (regGet s a))
  | none => s

/-- A write of one word to a stored register. -/
def fieldWrite (a : Addr) (v : Word32) (s : State) : State := tryWrite a v (storeFields a v) s

end Sys2Proof.Machine
end

