-- ==== Sys2Proof/Machine/ExecSafety.lean ====
section
/-!
DEFINITION. The safety mechanisms (chapter 12): scheduled and gated plumb runs, age channels, dual-channel inputs, the monitors,
the island's own checks and the FAULT pins.
-/

namespace Sys2Proof.Machine

/-! Plumb runs (R460–R467). -/

/-- LEAD of SAFETY_PLUMB_CFG, in ns. -/
def plumbLead (s : State) (p : Nat) : Nat := regFld s (Reg.SAFETY_PLUMB_CFG p) 16 8 * 100000

/-- PERIOD of SAFETY_PLUMB_CFG, in ns. -/
def plumbPeriod (s : State) (p : Nat) : Nat := regFld s (Reg.SAFETY_PLUMB_CFG p) 0 10 * 1000000

/-- A plumb run of logical bay `n` of partition `p` is due: one it owes (R461), one for the beat (R460), or with BEAT = 0 one after
PERIOD (R462). -/
def plumbDue (s : State) (p n : Nat) : Bool :=
  s.part.owesPlumb.contains n ||
  (if recBeat s p = 0 then decide (tabGet 0 s.part.lastPass n + plumbPeriod s p ≤ s.tb.elapsed)
   else
     (beatGet s p).started && !s.part.plumbed.contains n &&
       decide ((beatGet s p).startNs + (recBeat s p * 1000 - plumbLead s p) ≤ s.tb.elapsed))

/-- Logical bay `n` waits for a gated run (R465). -/
def gateOwed (s : State) (n : Nat) : Bool := s.cmd.slots.any (fun (_, d) => d.held && d.gateLeft.contains n)

/-- Start the scheduled run of an IDLE bay of a partition other than P0. -/
def plumbSchedule (pb : Nat) (s : State) : State :=
  match pbLogical s pb with
  | some n =>
    match bayOwner s n with
    | some p => if decide (p ≠ 0) && bayIdle s n && plumbDue s p n && !gateOwed s n then startPlumb s pb 2 else s
    | none => s
  | none => s

/-- PLUMB_SCHEDULED_START (R460). -/
def execPlumbScheduledStart (pb : Nat) (s : State) : Host.Outcome State Fault Refusal :=
  if pb < bayCount then .next (plumbSchedule pb s) else .fault .absentUnit

/-- Start the gated runs of a held job on its bays that are IDLE (R465). -/
def gateStart (slot : Nat) (s : State) : State :=
  let d := dowelGet s slot
  if decide (d.st = .running) && d.held then
    d.gateLeft.foldl (fun s n => match lbPhys s n with | some pb => if bayIdle s n then startPlumb s pb 1 else s | none => s) s
  else s

/-- PLUMB_GATED_START (R465). -/
def execPlumbGatedStart (slot : Nat) (s : State) : Host.Outcome State Fault Refusal :=
  if slot < 65536 then .next (gateStart slot s) else .fault .absentUnit

/-- Every bay of a held job has passed: the job is released (R465, R313). -/
def gateRelease (slot : Nat) (s : State) : State :=
  let d := dowelGet s slot
  if decide (d.st = .running) && d.held && d.gateLeft.isEmpty then
    kerfPass d.part (completeDowel raise slot d.endState 0 (dowelPut s slot { d with held := false }))
  else s

/-- GATED_RELEASE (R465). -/
def execGatedRelease (slot : Nat) (s : State) : Host.Outcome State Fault Refusal :=
  if slot < 65536 then .next (gateRelease slot s) else .fault .absentUnit

/-- One bay without a passed run: reported, and it owes one (R461). -/
def plumbLate (p n : Nat) (s : State) : State :=
  let s1 := raise 0x051 (some p) n s
  { s1 with part := { s1.part with owesPlumb := if s1.part.owesPlumb.contains n then s1.part.owesPlumb else s1.part.owesPlumb ++ [n] } }

/-- PLUMB_OVERDUE (R461): the bays of a partition that a beat's end found without a passed run. -/
def execPlumbOverdue (part : Nat) (s : State) : Host.Outcome State Fault Refusal :=
  if part < 8 then
    let mine := s.part.overdue.filter (fun x => decide (x.2 = part))
    .next (mine.foldl (fun s x => plumbLate part x.1 s)
      { s with part := { s.part with overdue := s.part.overdue.filter (fun x => decide (x.2 ≠ part)) } })
  else .fault .absentUnit

/-- With BEAT = 0, 2 × PERIOD without a passed run are reported once (R462). -/
def periodLate (n : Nat) (s : State) : State :=
  match bayOwner s n with
  | some p =>
    let last := tabGet 0 s.part.lastPass n
    if decide (p ≠ 0) && decide (recBeat s p = 0) && (lbPhys s n).isSome && decide (tabGet 0 s.part.lateSince n ≠ last + 1) &&
        decide (last + 2 * plumbPeriod s p ≤ s.tb.elapsed) then
      raise 0x051 (some p) n { s with part := { s.part with lateSince := tabPut 0 s.part.lateSince n (last + 1) } }
    else s
  | none => s

/-- PLUMB_PERIOD_OVERDUE (R462). -/
def execPlumbPeriodOverdue (lb : Nat) (s : State) : Host.Outcome State Fault Refusal :=
  if lb < 64 then .next (periodLate lb s) else .fault .absentUnit

/-! Age channels (R469–R472). -/

/-- The partition of an age channel. -/
def ageOwner (s : State) (a : Nat) : Option Nat := ownerBy (fun p => ownsAge s p a)

/-- LIMIT of a channel, in ns. -/
def ageLimit (s : State) (a : Nat) : Nat := regFld s (Reg.SAFETY_AGE_LIMIT a) 0 20 * 1000

/-- An event of a channel arms its gap timer anew (R471). -/
def ageArm (a : Nat) (s : State) : State :=
  { regPut s (Reg.SAFETY_AGE_ARRIVE a) (BitVec.ofNat 32 (workTime s)) with
    safety := { s.safety with age := tabPut {} s.safety.age a {} } }

/-- Judge an event whose capture word lies at `addr` (R470). The island reads the word; a read that ends in an access error is a
violation with DETAIL all ones. -/
def ageJudge (a addr : Nat) (s : State) : State :=
  let s1 := ageArm a s
  match homeOf s1 addr 4 with
  | .dram | .loft | .store _ _ | .remote _ _ =>
    let cap := leVal (devRead s1 addr 4)
    let age := (workTime s1 + 2 ^ 32 - cap) % 2 ^ 32
    let s2 := regPut s1 (Reg.SAFETY_AGE_LAST a) (BitVec.ofNat 32 cap)
    if ageLimit s2 a < age then raise (0x080 + a) (ageOwner s2 a) age s2 else s2
  | .regs | .aplic | .imsicFile _ _ | .hole =>
    raise (0x080 + a) (ageOwner s1 a) 0xFFFFFFFF (holeError raise 0x11 (ageOwner s1 a) 0 addr s1)

/-- AGE_EVENT (R470): the channel's oldest event. -/
def execAgeEvent (a : Nat) (s : State) : Host.Outcome State Fault Refusal :=
  if a < 64 then
    .next (match s.safety.ageDue.find? (fun e => decide (e.1 = a)) with
      | some e => ageJudge a e.2 { s with safety := { s.safety with ageDue := s.safety.ageDue.erase e } }
      | none => s)
  else .fault .absentUnit

/-- No event for longer than LIMIT: reported once per gap, after any event of the same evaluation (R471, R499). -/
def ageGap (a : Nat) (s : State) : State :=
  if regBit s (Reg.SAFETY_AGE_CFG a) 31 && !(tabGet {} s.safety.age a).gapRaised && s.safety.ageDue.all (fun e => decide (e.1 ≠ a)) &&
      decide (ageLimit s a < (workTime s + 2 ^ 32 - (regGet s (Reg.SAFETY_AGE_ARRIVE a)).toNat) % 2 ^ 32) then
    raise (0x080 + a) (ageOwner s a) 0
      { s with safety := { s.safety with age := tabPut {} s.safety.age a { gapRaised := true } } }
  else s

/-- AGE_GAP (R471). -/
def execAgeGap (a : Nat) (s : State) : Host.Outcome State Fault Refusal :=
  if a < 64 then .next (ageGap a s) else .fault .absentUnit

/-! Dual-channel inputs (R473–R475). -/

/-- An agreeing sample of pair `n` with level `v` on DINnA. -/
def dinAgree (n : Nat) (v : Bool) (s : State) : State :=
  let x := tabGet {} s.safety.din n
  let s1 := { s with safety := { s.safety with din := tabPut {} s.safety.din n { x with count := 0, resolved := v } } }
  if v && !x.resolved && regBit s1 (Reg.SAFETY_DIN_CFG n) 29 then raise (0x04C + n) (some 0) 0 s1 else s1

/-- A disagreeing sample of pair `n`: the Nth of a run is reported. -/
def dinDisagree (n : Nat) (s : State) : State :=
  let x := tabGet {} s.safety.din n
  let c := min (x.count + 1) 65535
  let hit := decide (x.count < c) && decide (c = regFld s (Reg.SAFETY_DIN_CFG n) 0 16)
  let s1 := { s with safety := { s.safety with din := tabPut {} s.safety.din n { x with count := c, disc := x.disc || hit } } }
  if hit then raise (0x048 + n) (some 0) c s1 else s1

/-- DIN_SAMPLE (R473, R474): levels `a` and `b` of an enabled pair. -/
def execDinSample (n : Nat) (a b : Bool) (s : State) : Host.Outcome State Fault Refusal :=
  if n < 4 then
    .next
      (if regBit s (Reg.SAFETY_DIN_CFG n) 31 then
        (if (a == b) != regBit s (Reg.SAFETY_DIN_CFG n) 30 then dinAgree n a s else dinDisagree n s)
      else s)
  else .fault .absentUnit

/-! Monitors (R476, R477). -/

/-- The frequency in kHz of a bay clock step (R712). -/
def bayStepKhz (step : Nat) : Nat := if step = 0 then 1500000 else if step = 1 then 1200000 else if step = 2 then 1000000 else 750000

/-- The numerator and denominator of the expected frequency in kHz of the clock that a source watches (R711, R712, R717); 0 for a
source that watches none. -/
def clockFreq (s : State) (src : Nat) : Nat × Nat :=
  match src with
  | 0x004 => (25000, 1)
  | 0x005 => (250000, 1)
  | 0x006 => (2000000, 1)
  | 0x007 => (1000000, 1)
  | 0x008 => (500000, 1)
  | 0x009 => (250000, 1)
  | 0x00A => (4000000, 1)
  | _ =>
    if 0x00B ≤ src ∧ src ≤ 0x00E then
      let i := src - 0x00B
      (12000000 * 2 ^ 24, pixDivisor s i)
    else if 0x020 ≤ src ∧ src ≤ 0x043 then (bayStepKhz (regFld s Reg.CRP_BAY_CLK 16 2), 1)
    else (0, 1)

/-- The clock is running and watched: a pixel clock of an enabled pipe; a bay that is neither clock-gated nor power-gated (R740). -/
def clockWatched (s : State) (src : Nat) : Bool :=
  if 0x00B ≤ src ∧ src ≤ 0x00E then regBit s (Reg.DISP_PIPE_CFG (src - 0x00B)) 31
  else if 0x020 ≤ src ∧ src ≤ 0x043 then
    let b := bayGet s (src - 0x020)
    !b.gated && decide (b.st ≠ .retired) && ((pbLogical s (src - 0x020)).isSome || decide (b.st = .plumb))
  else true

/-- A window's count of the clock divided by 64 lies outside 0.75 to 1.25 times the expected count of 10 µs (R476). -/
def clockOut (s : State) (src count : Nat) : Bool :=
  let (n, d) := clockFreq s src
  decide (25600 * count * d < 3 * n) || decide (5 * n < 25600 * count * d)

/-- The end of a window of one monitored clock (R476, R477, R716). -/
def clockWindow (src count : Nat) (s : State) : State :=
  if tabGet false s.safety.clkSkip src then { s with safety := { s.safety with clkSkip := tabPut false s.safety.clkSkip src false } }
  else if clockWatched s src && clockOut s src count then
    if 0x020 ≤ src then bayDomain (src - 0x020) s
    else if 0x00B ≤ src then raise src (ownerBy (fun p => ownsPlane s p (6 * (src - 0x00B)))) 0 s
    else raise src none 0 s
  else s

/-- CLOCK_MONITOR_WINDOW (R476): the prescaled count of the clock of source `src`. -/
def execClockMonitorWindow (src count : Nat) (s : State) : Host.Outcome State Fault Refusal :=
  if (0x004 ≤ src ∧ src ≤ 0x00E) ∨ (0x020 ≤ src ∧ src ≤ 0x043) then .next (clockWindow src count s) else .fault .absentUnit

/-- The window of a rail's monitor in mV (R477), by source number. -/
def railWindow (src : Nat) : Nat × Nat :=
  match src with
  | 0x010 => (690, 810)
  | 0x011 => (736, 864)
  | 0x012 => (966, 1134)
  | 0x013 => (828, 972)
  | 0x014 => (460, 540)
  | 0x015 => (1656, 1944)
  | 0x016 => (828, 972)
  | 0x017 => (782, 918)
  | _ => (690, 810)

/-- A level in mV lies outside the window of the rail of source `src`. -/
def railOut (src mv : Nat) : Bool := decide (mv < (railWindow src).1) || decide ((railWindow src).2 < mv)

/-- A rail has stood outside its window for 1 µs: it is reported, and VDD_SAFE holds the pins while its fault persists (R477, R478,
R489). -/
def railLevel (src mv : Nat) (s : State) : State :=
  if railOut src mv then
    raise src none 0 (if src = 0x011 then pinsUpdate { s with safety := { s.safety with vddSafeBad := true } } else s)
  else s

/-- VOLTAGE_EXCURSION (R477): the rail of source `src` stands at `mv` millivolts. -/
def execVoltageExcursion (src mv : Nat) (s : State) : Host.Outcome State Fault Refusal :=
  if 0x010 ≤ src ∧ src ≤ 0x018 then .next (railLevel src mv s) else .fault .absentUnit

/-- VOLTAGE_RETURN (R478, R489): the rail is back inside its window; a VDD_SAFE fault no longer persists. -/
def execVoltageReturn (src : Nat) (s : State) : Host.Outcome State Fault Refusal :=
  if 0x010 ≤ src ∧ src ≤ 0x018 then
    .next (if src = 0x011 then { s with safety := { s.safety with vddSafeBad := false } } else s)
  else .fault .absentUnit

/-- A temperature sample as SAFETY_TEMP holds it: two's complement in 1/16 °C. -/
def tempOf (v : Nat) : Int := (BitVec.ofNat 16 v).toInt

/-- The sources of the temperature thresholds and whether the highest sensor is beyond each (R477). -/
def thermHits (hi : Int) : List (Nat × Bool) :=
  [(0x019, decide (115 * 16 ≤ hi)), (0x01A, decide (125 * 16 ≤ hi)), (0x01B, decide (135 * 16 ≤ hi)), (0x01C, decide (hi < -45 * 16))]

/-- Count one threshold; it counts after two consecutive samples. -/
def thermOne (s : State) (x : Nat × Bool) : State :=
  let run := if x.2 then tabGet 0 s.safety.thermRun x.1 + 1 else 0
  let s1 := { s with safety := { s.safety with thermRun := tabPut 0 s.safety.thermRun x.1 run } }
  if 2 ≤ run then raise x.1 none 0 s1 else s1

/-- The sixteen sensors are sampled: SAFETY_TEMP takes the samples and the highest is judged; under THERM_HIGH the throttle limit
moves to 0.750 GHz (R477, R741). -/
def thermSample (t : List Nat) (s : State) : State :=
  let l := (List.range 16).map (fun i => t.getD i 0)
  let hi := (l.map tempOf).foldl max (-(2 ^ 15 : Int))
  let s1 := (List.range 16).foldl (fun s i => regPut s (Reg.SAFETY_TEMP i) (BitVec.ofNat 32 (l.getD i 0 % 2 ^ 16))) s
  let s2 := { s1 with safety := { s1.safety with coolSince := if hi < 110 * 16 then s1.safety.coolSince else s1.tb.elapsed } }
  let s3 := (thermHits hi).foldl thermOne s2
  if 2 ≤ tabGet 0 s3.safety.thermRun 0x01A then regSetFld s3 Reg.CRP_THROTTLE 16 2 3 else s3

/-- TEMPERATURE_SAMPLE (R477). -/
def execTemperatureSample (t : List Nat) (s : State) : Host.Outcome State Fault Refusal :=
  if t.length = 16 then .next (thermSample t s) else .fault .absentUnit

/-! The safety island (R479, R480). -/

/-- LOCKSTEP_MISMATCH (R479): the cores of a pair disagree. -/
def execLockstepMismatch (pair : Nat) (s : State) : Host.Outcome State Fault Refusal :=
  if pair < 2 then .next (raise pair none 0 s) else .fault .absentUnit

/-- ISLAND_BIST_STEP (R479): the next 4 KiB of the island SRAM, and whether they fail. -/
def execIslandBistStep (bad : Bool) (s : State) : Host.Outcome State Fault Refusal :=
  let s1 := { s with safety := { s.safety with bistBlock := (s.safety.bistBlock + 1) % 128 } }
  .next (if bad then raise 0x002 none 0 s1 else s1)

/-- The safety island's initiator IDs (R42). -/
def isIsland (init : Nat) : Bool := decide (init = 0x11 ∨ init = 0x12)

/-- Judge a kick on all 32 bits (R480): before RUN it has no effect. -/
def kick (init : Nat) (v : Word32) (s : State) : State :=
  if !s.safety.run then s
  else if isIsland init && decide (v.toNat = if s.safety.kickFirst then 0x5A5A else 0xA5A5) then
    { s with safety := { s.safety with kickFirst := !s.safety.kickFirst, kickNs := s.tb.elapsed } }
  else raise 0x003 none 0 s

/-- A write of SAFETY_KICK is judged on all 32 bits; R38 does not apply to it (R480). -/
def kickWrite (init : Nat) (v : Word32) (s : State) : State := kick init v s

/-- SAFETY_KICK (R480). -/
def execSafetyKick (init : Nat) (v : Word32) (s : State) : Host.Outcome State Fault Refusal :=
  .next (asInit init Reg.SAFETY_KICK true (kickWrite init v) s)

/-- Ten milliseconds without a kick raise SAFE_WDOG; the next ten begin (R480). -/
def watchdog (s : State) : State :=
  if s.safety.run && decide (s.safety.kickNs + 10000000 < s.tb.elapsed) then
    raise 0x003 none 0 { s with safety := { s.safety with kickNs := s.safety.kickNs + 10000000 } }
  else s

/-- SAFE_WDOG (R480). -/
def execSafeWdog (s : State) : Host.Outcome State Fault Refusal := .next (watchdog s)

/-! The FAULT pins (R488, R489). -/

/-- The next phase boundary: the pins toggle, or resume with FAULT0_N high after the last hold. -/
def phaseBoundary (s : State) : State :=
  let x := s.safety
  if !x.run then s
  else
    let x1 := { x with phase := x.phase + (if x.fast then 1 else 4 - x.phase % 4) }
    if pinsHeld s then { s with safety := { x1 with fault0 := false, fault1 := false, hold := true } }
    else
      let f := if x.hold then true else !x.fault0
      { s with safety := { x1 with hold := false, fault0 := f, fault1 := !f } }

/-- FAULT_PHASE_BOUNDARY (R488). -/
def execFaultPhaseBoundary (s : State) : Host.Outcome State Fault Refusal := .next (phaseBoundary s)

/-- In TEST the scribe pins are enabled from the moment RUN is set (R770, R772). -/
def scribeInTest (s : State) : State :=
  if regFld s Reg.GLOBAL_LIFECYCLE 0 3 = 1 then regSetFld { s with safety := { s.safety with fast := true } } Reg.SCRIBE_STATE 0 1 1
  else s

/-- Step 8 of the boot ends with RUN; step 9 starts once the application image is verified too (R735). -/
def bootRun (s : State) : State :=
  if regFld s Reg.CRP_BOOT_STAT 24 4 = 8 ∧ s.safety.run ∧ s.boot.appDone then regSetFld s Reg.CRP_BOOT_STAT 24 4 9 else s

/-- RUN is set once, by the island: the grid and the watchdog start (R480, R488). -/
def setRun (s : State) : State :=
  if s.safety.run then s
  else
    let x := { s.safety with run := true, kickNs := s.tb.elapsed, kickFirst := true, phase := 0 }
    bootRun (scribeInTest
      (if pinsHeld { s with safety := x } then { s with safety := { x with hold := true, fault0 := false, fault1 := false } }
       else { s with safety := { x with hold := false, fault0 := true, fault1 := false } }))

/-- SAFETY_CTRL_RUN (R488). -/
def execSafetyCtrlRun (init : Nat) (s : State) : Host.Outcome State Fault Refusal :=
  .next (asInit init Reg.SAFETY_CTRL true (fun s => if isIsland init then setRun s else s) s)

/-! Software access to the aggregator. -/

/-- A CRITICAL source attributed to the partition is pending (R492). -/
def critOf (s : State) (p : Nat) : Bool :=
  s.safety.srcs.any (fun (n, f) => f.pend && decide (pendClass n f = some 2) && f.parts.testBit p)

/-- Release a STOPPED partition, but not in safe state or while a CRITICAL source of it is pending (R492). -/
def releasePart (p : Nat) (s : State) : State :=
  if s.safety.safe || critOf s p then s
  else { s with safety := { s.safety with stopped := s.safety.stopped &&& ~~~(BitVec.ofNat 32 (2 ^ p)) } }

/-- SAFETY_PSTOP_RELEASE (R492). -/
def execSafetyPstopRelease (init part : Nat) (s : State) : Host.Outcome State Fault Refusal :=
  if part < 8 then .next (asInit init Reg.SAFETY_PSTOP true (releasePart part) s) else .fault .absentUnit

/-- A nonzero write to a reserved field is ignored and counted (R38). -/
def countRsvd (bad : Bool) (s : State) : State := if bad then cntInc s Reg.GLOBAL_RSVD_CNT else s

/-- A write of SAFETY_SWRAISE raises SW0–SW15, attributed to P0 (R481). -/
def swRaise (v : Word32) (s : State) : State := raise (0x110 + fld v 0 4) (some 0) 0 (countRsvd (decide (16 ≤ v.toNat)) s)

/-- SAFETY_SWRAISE (R481). -/
def execSafetySwraise (init : Nat) (v : Word32) (s : State) : Host.Outcome State Fault Refusal :=
  .next (asInit init Reg.SAFETY_SWRAISE true (swRaise v) s)

/-- Clear the PEND bit of a source. -/
def clearPend (n : Nat) (s : State) : State := fsrcPut s n { fsrc s n with pend := false, critPend := false, parts := 0 }

/-- SAFETY_SRC_PEND_CLEAR (R487): a CRITICAL occurrence is not cleared by W1C. -/
def execSafetySrcPendClear (init src : Nat) (s : State) : Host.Outcome State Fault Refusal :=
  if src < 512 then
    .next (asInit init (Reg.SAFETY_SRC src) true
      (fun s => if pendClass src (fsrc s src) = some 2 then s else clearPend src s) s)
  else .fault .absentUnit

end Sys2Proof.Machine
end

