-- ==== Sys2Proof/Machine/ExecClock.lean ====
section
/-!
DEFINITION. Bay clock steps, thermal throttling, pixel clocks and clock gating (R714–R719, R740, R741, R744).
-/

namespace Sys2Proof.Machine

/-- SPEED: the fastest step that the fuses allow (R714). -/
def speedBin (s : State) : Nat := regFld s Reg.GLOBAL_GRADE 4 4

/-- The step to be in force: the slower of REQ and the throttle limit (R714). -/
def stepWanted (s : State) : Nat := max (regFld s Reg.CRP_BAY_CLK 0 2) (regFld s Reg.CRP_THROTTLE 16 2)

/-- A bay is in PLUMB. -/
def anyPlumb (s : State) : Bool := (List.range bayCount).any (fun pb => decide ((bayGet s pb).st = .plumb))

/-- Write REQ: a step faster than the speed bin is a reserved encoding (R714). -/
def bayClkWrite (v : Word32) (s : State) : State :=
  if fld v 0 2 < speedBin s then cntInc s Reg.GLOBAL_RSVD_CNT else fieldWrite Reg.CRP_BAY_CLK v s

/-- CRP_BAY_CLK_REQ (R714). -/
def execCrpBayClkReq (init : Nat) (v : Word32) (s : State) : Host.Outcome State Fault Refusal :=
  .next (asInit init Reg.CRP_BAY_CLK true (bayClkWrite v) s)

/-- The divider changes: the clock monitors' windows in progress are not judged (R715, R716). -/
def clockStep (s : State) : State :=
  if stepWanted s = regFld s Reg.CRP_BAY_CLK 16 2 ∨ anyPlumb s = true then s
  else
    let s1 := cntInc (regSetFld s Reg.CRP_BAY_CLK 16 2 (stepWanted s)) Reg.CRP_STEP_CNT
    { s1 with safety := { s1.safety with clkSkip := (rangeFrom 0x020 36).foldl (fun t k => tabPut false t k true) s1.safety.clkSkip } }

/-- BAY_CLOCK_STEP (R715): no bay is in PLUMB. -/
def execBayClockStep (s : State) : Host.Outcome State Fault Refusal := .next (clockStep s)

/-- Change the throttle limit. -/
def limitPut (n : Nat) (s : State) : State := regSetFld s Reg.CRP_THROTTLE 16 2 n

/-- One step slower at a 1 ms boundary while THERM_WARN holds (R741). -/
def throttleSlower (s : State) : State :=
  let ms := s.tb.elapsed / 1000000
  if 2 ≤ tabGet 0 s.safety.thermRun 0x019 ∧ s.boot.throttleMs < ms then
    limitPut (min 3 (regFld s Reg.CRP_THROTTLE 16 2 + 1)) { s with boot := { s.boot with throttleMs := ms } }
  else s

/-- THROTTLE_STEP_SLOWER (R741). -/
def execThrottleStepSlower (s : State) : Host.Outcome State Fault Refusal := .next (throttleSlower s)

/-- One step faster after each 10 ms below 110 °C (R741). -/
def throttleFaster (s : State) : State :=
  if s.safety.coolSince + 10000000 ≤ s.tb.elapsed then
    limitPut (regFld s Reg.CRP_THROTTLE 16 2 - 1) { s with safety := { s.safety with coolSince := s.safety.coolSince + 10000000 } }
  else s

/-- THROTTLE_STEP_FASTER (R741). -/
def execThrottleStepFaster (s : State) : Host.Outcome State Fault Refusal := .next (throttleFaster s)

/-! Pixel clocks. -/

/-- Writing CRP_PIX_FRAC applies N and F, and the cleanup PLL locks anew; while the pipe is enabled the write is discarded (R717,
R719). -/
def pixFrac (i : Nat) (v : Word32) (s : State) : State :=
  if regBit s (Reg.DISP_PIPE_CFG i) 31 then cntInc s Reg.GLOBAL_RSVD_CNT
  else
    let s1 := fieldWrite (Reg.CRP_PIX_FRAC i) v s
    let d := (regFld s1 (Reg.CRP_PIX_INT i) 0 9, regFld s1 (Reg.CRP_PIX_FRAC i) 0 24)
    regSetFld { s1 with boot := { s1.boot with pix := tabPut (80, 0) s1.boot.pix i d } } (Reg.CRP_PIX_STAT i) 0 1 0

/-- CRP_PIX_FRAC (R719). -/
def execCrpPixFrac (init i : Nat) (v : Word32) (s : State) : Host.Outcome State Fault Refusal :=
  if i < 4 then .next (asInit init (Reg.CRP_PIX_FRAC i) true (pixFrac i v) s) else .fault .absentUnit

/-- PIXEL_PLL_LOCK (R717): LOCK reads 1. -/
def execPixelPllLock (i : Nat) (s : State) : Host.Outcome State Fault Refusal :=
  if i < 4 then .next (regSetFld s (Reg.CRP_PIX_STAT i) 0 1 1) else .fault .absentUnit

/-- PIXEL_PLL_LOCK_LOSS (R748): LOCK falls; the pipe keeps its configuration. -/
def execPixelPllLockLoss (i : Nat) (s : State) : Host.Outcome State Fault Refusal :=
  if i < 4 then .next (regSetFld s (Reg.CRP_PIX_STAT i) 0 1 0) else .fault .absentUnit

/-! Clock gating. -/

/-- BAY_CLOCK_GATE (R740): a bay IDLE for 100 µs. -/
def execBayClockGate (pb : Nat) (s : State) : Host.Outcome State Fault Refusal :=
  if pb < bayCount then
    .next (if decide ((bayGet s pb).st = .idle) && decide ((bayGet s pb).idleSince + 100000 ≤ s.tb.elapsed) then
      bayMod s pb (fun b => { b with gated := true }) else s)
  else .fault .absentUnit

end Sys2Proof.Machine
end

