-- ==== Sys2Proof/Machine/GfxNum.lean ====
section
/-!
DEFINITION. The numbers of the graphics front end (chapter 15): FP32 under RNE, UNORM and colour formats, depth, blend.
-/

namespace Sys2Proof.Machine

/-- An FP32 result under RNE. -/
def fpOut (x : FExact) : Nat := (Fmt.fp32.finish .rne false false x).bits
/-- FP32 sum. -/
def fpAdd (a b : Nat) : Nat := fpOut (addExact .rne (Fmt.fp32.decode a) (Fmt.fp32.decode b))
/-- FP32 difference. -/
def fpSub (a b : Nat) : Nat := fpOut (addExact .rne (Fmt.fp32.decode a) (Fmt.fp32.decode b).neg)
/-- FP32 product. -/
def fpMul (a b : Nat) : Nat := fpOut (mulExact (Fmt.fp32.decode a) (Fmt.fp32.decode b))
/-- FP32 quotient. -/
def fpDiv (a b : Nat) : Nat := fpOut (divExact (Fmt.fp32.decode a) (Fmt.fp32.decode b))
/-- FP32 minimum or maximum. -/
def fpMinMax (isMax : Bool) (a b : Nat) : Nat := fpOut (minMaxExact isMax (Fmt.fp32.decode a) (Fmt.fp32.decode b))
/-- `a` is below, equal to or above `b`. -/
def fpCmp (a b : Nat) : Option Int := (Fmt.fp32.decode a).compare (Fmt.fp32.decode b)
/-- FP32 1.0. -/
def fpOne : Nat := 0x3F800000

/-- The FP32 value of the quotient of two naturals. -/
def fpRatio (n d : Nat) : Nat := fpOut (divExact (.fin false n 0) (.fin false d 0))

/-- FP32 to UNORM of `n` bits, under RNE after clamping to [0, 1] (R581, R583). -/
def unormOf (n x : Nat) : Nat :=
  match Fmt.fp32.decode x with
  | .nan _ => Config.unormOfNan n x % 2 ^ n
  | .inf neg => if neg then 0 else 2 ^ n - 1
  | .fin neg m e => if neg then 0 else min (roundMag .rne false (m * (2 ^ n - 1)) e 0).1 (2 ^ n - 1)

/-- A stored colour as four FP32 components R, G, B, A: 0 RGBA8, 1 BGRA8, 2 RGBA16F. -/
def colorIn (fmt x : Nat) : List Nat :=
  let u := fun (i : Nat) => fpRatio (nfld x (8 * i) 8) 255
  match fmt with
  | 0 => [u 0, u 1, u 2, u 3]
  | 1 => [u 2, u 1, u 0, u 3]
  | _ => (List.range 4).map (fun i => fpOut { val := Fmt.fp16.decode (nfld x (16 * i) 16) })

/-- Four FP32 components as a stored colour (R583): RGBA16F saturates to ±65,504. -/
def colorOut (fmt : Nat) (c : List Nat) : Nat :=
  let g := fun (i : Nat) => c.getD i 0
  let u := fun (i : Nat) => unormOf 8 (g i)
  let h := fun (i : Nat) =>
    match Fmt.fp32.decode (g i) with
    | .inf neg => Fmt.fp16.signBit neg + Fmt.fp16.maxFinite
    | v => (Fmt.fp16.deliver .rne true false v).bits
  match fmt with
  | 0 => u 0 + u 1 * 2 ^ 8 + u 2 * 2 ^ 16 + u 3 * 2 ^ 24
  | 1 => u 2 + u 1 * 2 ^ 8 + u 0 * 2 ^ 16 + u 3 * 2 ^ 24
  | _ => h 0 + h 1 * 2 ^ 16 + h 2 * 2 ^ 32 + h 3 * 2 ^ 48

/-- Bytes of a stored colour. -/
def colorBytes (fmt : Nat) : Nat := if fmt = 2 then 8 else 4

/-- The resolve of four samples (R583). -/
def resolveFour (fmt : Nat) (l : List Nat) : Nat :=
  let c := l.map (colorIn fmt)
  let k := fun (s i : Nat) => (c.getD s []).getD i 0
  colorOut fmt ((List.range 4).map (fun i =>
    fpMul (fpAdd (fpAdd (k 0 i) (k 1 i)) (fpAdd (k 2 i) (k 3 i))) 0x3E800000))

/-- A blend factor of component `i`, in the order of the subset table. -/
def blendFactor (f i : Nat) (src dst : List Nat) : Nat :=
  let s := fun (k : Nat) => src.getD k 0
  let d := fun (k : Nat) => dst.getD k 0
  match f with
  | 0 => 0
  | 1 => fpOne
  | 2 => s 3
  | 3 => fpSub fpOne (s 3)
  | 4 => d 3
  | 5 => fpSub fpOne (d 3)
  | 6 => s i
  | _ => fpSub fpOne (s i)

/-- One component of the blend equation; `b` is its 12-bit state: enable, factors, op (R583). -/
def blendOne (b i : Nat) (src dst : List Nat) : Nat :=
  let s := src.getD i 0
  let d := dst.getD i 0
  if nfld b 0 1 = 0 then s
  else
    let fs := fpMul s (blendFactor (nfld b 1 4) i src dst)
    let fd := fpMul d (blendFactor (nfld b 5 4) i src dst)
    match nfld b 9 3 with
    | 0 => fpAdd fs fd
    | 1 => fpSub fs fd
    | 2 => fpSub fd fs
    | 3 => fpMinMax false s d
    | _ => fpMinMax true s d

/-- Blend a fragment's colour into a stored one. -/
def blendColor (fmt state old : Nat) (src : List Nat) : Nat :=
  let dst := colorIn fmt old
  colorOut fmt ((List.range 4).map (fun i => blendOne (if i < 3 then nfld state 0 12 else nfld state 16 12) i src dst))

/-- Depth as the format stores it: 0 D16, 1 D32, 2 D24S8 (R581). -/
def depthOut (fmt z : Nat) : Nat := match fmt with | 0 => unormOf 16 z | 1 => z | _ => unormOf 24 z

/-- A comparison in Vulkan order. -/
def vkCompare (op : Nat) (o : Option Int) : Bool :=
  match op with
  | 0 => false
  | 1 => decide (o = some (-1))
  | 2 => decide (o = some 0)
  | 3 => decide (o = some (-1) ∨ o = some 0)
  | 4 => decide (o = some 1)
  | 5 => decide (o ≠ some 0)
  | 6 => decide (o = some 1 ∨ o = some 0)
  | _ => true

/-- The order of two naturals. -/
def natCmp (a b : Nat) : Option Int := some (if a < b then -1 else if a = b then 0 else 1)

/-- The order of two stored depths. -/
def depthCmp (fmt a b : Nat) : Option Int := if fmt = 1 then fpCmp a b else natCmp a b

/-- A stencil operation in Vulkan order. -/
def stencilOp (op ref old : Nat) : Nat :=
  match op with
  | 0 => old
  | 1 => 0
  | 2 => ref
  | 3 => min (old + 1) 255
  | 4 => old - 1
  | 5 => 255 - old
  | 6 => (old + 1) % 256
  | _ => (old + 255) % 256

/-- The rotate-and-XOR signature over 8-byte words, the last one zero-padded (R584). -/
def foldWords (sig : Word64) (l : List Byte) : Word64 :=
  (List.range ((l.length + 7) / 8)).foldl (fun sig w => sig.rotateLeft 1 ^^^ BitVec.ofNat 64 (leAt l (8 * w) 8)) sig

end Sys2Proof.Machine
end

