-- ==== Sys2Proof/Machine/UnitMem.lean ====
section
/-!
DEFINITION. Memory accesses of the units that act for a partition: camera intake, graphics front end, display and gateway (R342, R358).
-/

namespace Sys2Proof.Machine

/-- Decide the requests of an access in order; the first that is not granted is reported and ends it. -/
def unitCheck (init p cls : Nat) (k : AccKind) : List (Nat × Nat) → State → Bool × State
  | [], s => (true, s)
  | (a, n) :: t, s =>
    match accessCheck s p cls k a n with
    | (.ok _, s1) => unitCheck init p cls k t s1
    | (v, s1) => (false, reportVerdict raise init p cls k a v s1)

/-- Write bytes for a partition; the flag says whether every request was granted. Nothing is written otherwise. -/
def unitWrite (init p cls : Nat) (a : Addr) (l : List Byte) (s : State) : Bool × State :=
  match unitCheck init p cls .write (rowPieces a l.length) s with
  | (true, s1) => (true, devWrite s1 a l)
  | (false, s1) => (false, s1)

/-- Read bytes for a partition; none when a request was not granted. -/
def unitRead (init p cls : Nat) (a : Addr) (n : Nat) (s : State) : Option (List Byte) × State :=
  match unitCheck init p cls .read (rowPieces a n) s with
  | (true, s1) => (some (devRead s1 a n), s1)
  | (false, s1) => (none, s1)

end Sys2Proof.Machine
end

