-- ==== Sys2Proof/Machine/Display.lean ====
section
/-!
DEFINITION. The display (R592–R607): planes, flips, composition and the watch signature.
-/

namespace Sys2Proof.Machine

/-- The owner of plane `q` = 6 · pipe + plane; plane 5 is read through P0 (R594). -/
def planeOwner (s : State) (q : Nat) : Option Nat := if q % 6 = 5 then some 0 else ownerBy (fun p => ownsPlane s p q)

/-- The latched fields of plane `q`. -/
def planeLat (s : State) (q : Nat) : PlaneLat := tabGet {} s.disp.planes q

/-- Bytes of a pixel: ARGB8888 and XRGB8888 four, RGB565 two (R596). -/
def pixBytes (fmt : Nat) : Nat := if fmt = 2 then 2 else 4

/-! Flips (R596). -/

/-- The RANGE test of an argument block. -/
def flipRangeOk (b : List Byte) : Bool :=
  decide (leAt b 0 1 < 4) && decide (leAt b 1 1 < 6) && decide (leAt b 2 1 < 3) && dsZero b 3 1 &&
    decide (leAt b 4 4 % 64 = 0) && decide (64 ≤ leAt b 4 4) && decide (leAt b 4 4 ≤ 65536) &&
    decide (leAt b 8 8 % 64 = 0) && decide (leAt b 8 8 < 2 ^ 48) && dsZero b 16 16

/-- A running flip reads and tests its block; the first failure completes it DONE_FAULT. -/
def testFlip (slot q : Nat) (s : State) : State :=
  let d := dowelGet s slot
  if d.tested then s
  else
    match unitRead 0x72 d.part 6 (dsArgs d.desc) 32 s with
    | (none, s1) => completeDowel raise slot .doneFault 0x6001 s1
    | (some b, s1) =>
      if !flipRangeOk b then completeDowel raise slot .doneFault 0x6001 s1
      else if !ownsPlane s1 d.part q then completeDowel raise slot .doneFault 0x6002 s1
      else dowelPut s1 slot { d with tested := true, payload := b }

/-- Test the flip that runs on plane `q`, and those that become running as others fail. -/
def testRunning (q : Nat) (s : State) : State :=
  let one := fun (s : State) => match (updGet s (planeRegion q)).running with
    | some slot => testFlip slot q s
    | none => s
  one (one s)

/-- The requests of a source of `h` lines. -/
def sourcePieces (base pitch w h : Nat) : List (Nat × Nat) := (List.range h).flatMap (fun y => rowPieces (base + y * pitch) w)

/-- The running flip of plane `q` latches: the owner's regions must grant its source (R596). -/
def latchFlip (q : Nat) (s : State) : State :=
  match (updGet s (planeRegion q)).running with
  | none => s
  | some slot =>
    let d := dowelGet s slot
    if !d.tested || !d.waitsMet || d.waitPoison then s
    else
      let base := leAt d.payload 8 8
      let pitch := leAt d.payload 4 4
      let fmt := leAt d.payload 2 1
      let l := planeLat s q
      match unitCheck 0x72 ((planeOwner s q).getD 0) 6 .read (sourcePieces base pitch (l.w * pixBytes fmt) l.h) s with
      | (false, s1) => completeDowel raise slot .doneFault 0x6003 s1
      | (true, s1) =>
        let s2 := regSetFld (regPut (pairPut s1 (Reg.DISP_PL_BASE q) base) (Reg.DISP_PL_PITCH q) (BitVec.ofNat 32 pitch))
          (Reg.DISP_PL_CFG q) 24 2 fmt
        completeDowel raise slot .doneOk 0 s2

/-! Vertical blanking. -/

/-- What plane `q` latches (R597, R604): nothing of a stopped owner, and in safe state plane 5 alone. -/
def latchPlane (s : State) (q : Nat) : PlaneLat :=
  let live := match planeOwner s q with
    | some p => !s.safety.stopped.getLsbD p
    | none => false
  { on := regBit s (Reg.DISP_PL_CFG q) 31 && live && (!s.safety.safe || decide (q % 6 = 5))
    alpha := regFld s (Reg.DISP_PL_CFG q) 0 10
    w := regFld s (Reg.DISP_PL_SIZE q) 0 13, h := regFld s (Reg.DISP_PL_SIZE q) 16 13
    x := regFld s (Reg.DISP_PL_POS q) 0 13, y := regFld s (Reg.DISP_PL_POS q) 16 13 }

/-- The planes of a pipe. -/
def pipePlanes (pipe : Nat) : List Nat := rangeFrom (6 * pipe) 6

/-- A pipe enters vertical blanking (R592, R596, R597, R605). -/
def enterBlank (pipe : Nat) (s : State) : State :=
  let s1 := (pipePlanes pipe).foldl (fun s q => { s with disp := { s.disp with planes := tabPut {} s.disp.planes q (latchPlane s q) } }) s
  let s2 := (pipePlanes pipe).foldl (fun s q => latchFlip q (testRunning q s)) s1
  let s3 := regSetFld s2 (Reg.DISP_PIPE_STAT pipe) 16 16 (regFld s2 (Reg.DISP_PIPE_STAT pipe) 16 16 + 1)
  { s3 with disp := { s3.disp with
      blankNs := tabPut 0 s3.disp.blankNs pipe s3.tb.elapsed
      late := s3.disp.late.filter (fun (k, _) => decide (k / 65536 ≠ pipe)) } }

/-! Composition (R593). -/

/-- A pixel of a source as alpha, R, G and B of 10 bits. -/
def pixelOf (fmt x : Nat) : Nat × Nat × Nat × Nat :=
  let c8 := fun (v : Nat) => 4 * v + v / 64
  let c5 := fun (v : Nat) => 32 * v + v
  match fmt with
  | 0 => (c8 (nfld x 24 8), c8 (nfld x 16 8), c8 (nfld x 8 8), c8 (nfld x 0 8))
  | 1 => (1023, c8 (nfld x 16 8), c8 (nfld x 8 8), c8 (nfld x 0 8))
  | _ => (1023, c5 (nfld x 11 5), 16 * nfld x 5 6 + nfld x 5 6 / 4, c5 (nfld x 0 5))

/-- One channel of a plane over what lies below it. -/
def blendChannel (a s d : Nat) : Nat := (s * a + d * (1023 - a) + 511) / 1023

/-- A source pixel over a composed one, as R [29:20], G [19:10], B [9:0]. -/
def overPixel (pa fmt x below : Nat) : Nat :=
  let (p, r, g, b) := pixelOf fmt x
  let a := (p * pa + 511) / 1023
  blendChannel a r (nfld below 20 10) * 2 ^ 20 + blendChannel a g (nfld below 10 10) * 2 ^ 10 + blendChannel a b (nfld below 0 10)

/-- The columns of a plane inside the active area (R593). -/
def planeWidth (s : State) (q : Nat) : Nat := min (planeLat s q).w (regFld s (Reg.DISP_HTIME (q / 6)) 0 16 - (planeLat s q).x)

/-- What a plane's refused reads deliver is open; the pixels of the plane's row are otherwise those of its source (R594). -/
def planeRow (q y : Nat) (s : State) : List Byte × State :=
  let l := planeLat s q
  let n := planeWidth s q * pixBytes (regFld s (Reg.DISP_PL_CFG q) 24 2)
  match unitRead 0x72 ((planeOwner s q).getD 0) 6
      (pairGet s (Reg.DISP_PL_BASE q) % 2 ^ 48 + (y - l.y) * regFld s (Reg.DISP_PL_PITCH q) 0 17) n s with
  | (some b, s1) => (b, s1)
  | (none, s1) =>
    ((List.range n).map (fun i => ((Config.freeValue (s1.freeCtr + i / 8)) >>> (8 * (i % 8))).setWidth 8),
     { s1 with freeCtr := s1.freeCtr + n / 8 + 1 })

/-- Compose plane `q` over one line, given as pixels from column `x0`. -/
def overLine (q y x0 : Nat) (line : List Nat) (s : State) : List Nat × State :=
  let l := planeLat s q
  if l.on && decide (l.y ≤ y) && decide (y < l.y + l.h) then
    let fmt := regFld s (Reg.DISP_PL_CFG q) 24 2
    let (b, s1) := planeRow q y s
    ((List.zip (rangeFrom x0 line.length) line).map (fun e =>
      if l.x ≤ e.1 ∧ e.1 < l.x + planeWidth s q then overPixel l.alpha fmt (leAt b ((e.1 - l.x) * pixBytes fmt) (pixBytes fmt)) e.2 else e.2), s1)
  else (line, s)

/-- `w` composed pixels of line `y` from column `x0`; columns not fetched in time show BG (R593, R595). -/
def composeLine (pipe y x0 w : Nat) (s : State) : List Nat × State :=
  let bg := regFld s (Reg.DISP_BG pipe) 0 30
  let (line, s1) := (pipePlanes pipe).foldl (fun (acc : List Nat × State) q => overLine q y x0 acc.1 acc.2) (List.replicate w bg, s)
  match tabGet none s.disp.late (65536 * pipe + y) with
  | some x => ((List.zip (rangeFrom x0 w) line).map (fun e => if x ≤ e.1 then bg else e.2), s1)
  | none => (line, s1)

/-- The pixels of the watch window in raster order (R598). -/
def watchPixels (pipe : Nat) : List Nat → State → List Nat × State
  | [], s => ([], s)
  | y :: t, s =>
    let (a, s1) := composeLine pipe y (regFld s (Reg.DISP_WATCH_WIN pipe) 0 12) (regFld s (Reg.DISP_WATCH_SIZE pipe) 0 11) s
    let (b, s2) := watchPixels pipe t s1
    (a ++ b, s2)

/-- The watch signature: two pixels a word, folded by the rotate-and-XOR of R584 (R598). -/
def watchSig (pipe : Nat) (s : State) : Word64 × State :=
  let rows := rangeFrom (regFld s (Reg.DISP_WATCH_WIN pipe) 16 12) (regFld s (Reg.DISP_WATCH_SIZE pipe) 16 11)
  let (px, s1) := watchPixels pipe rows s
  let bytes := px.flatMap (leBytes 4)
  (foldWords 0 bytes, s1)

/-- Nanoseconds of one display frame: total pixels and lines at CLK_PIX, 12 GHz divided by N + F / 2^24 (R592, R712). -/
def framePeriod (s : State) (pipe : Nat) : Nat :=
  regFld s (Reg.DISP_HTIME pipe) 16 16 * regFld s (Reg.DISP_VTIME pipe) 16 16 *
    pixDivisor s pipe / (12 * 2 ^ 24)

end Sys2Proof.Machine
end

