-- ==== Sys2Proof/Machine/ExecDisplay.lean ====
section
/-!
DEFINITION. The commands of the display (chapter 15), and REGION_UPDATE_TAKE_EFFECT.
-/

namespace Sys2Proof.Machine

/-- A running update takes effect when its region's conditions hold (R54, R56): a partition's operation at a beat, the wheels' at
the start of a turn, a swap at a beat; a running flip is tested, and latches at vertical blanking. -/
def takeUpdate (r : Nat) (s : State) : State :=
  if r < 8 then (if atBeat s r then takeConfig r s else s)
  else if r = 8 then (if s.part.wheelSlots % 64 = 0 then takeConfig 8 s else s)
  else if 16 ≤ r ∧ r < 144 then (if atBeat s ((r - 16) / 16) then takeSwap ((r - 16) / 16) ((r - 16) % 16) s else s)
  else if 256 ≤ r ∧ r < 280 then testRunning (r - 256) s
  else s

/-- REGION_UPDATE_TAKE_EFFECT (R56): regions 0–7 the partitions, 8 the wheels, 16 + 16p + g the swap groups, 256 + 6i + j the planes. -/
def execRegionUpdateTakeEffect (region : Nat) (s : State) : Host.Outcome State Fault Refusal :=
  if region < 280 then .next (takeUpdate region s) else .fault .absentUnit

/-- VERTICAL_BLANKING (R592): of an enabled pipe. -/
def execVerticalBlanking (pipe : Nat) (s : State) : Host.Outcome State Fault Refusal :=
  if pipe < 4 then .next (if regBit s (Reg.DISP_PIPE_CFG pipe) 31 then enterBlank pipe s else s) else .fault .absentUnit

/-- The rest of a line from column `x` shows BG, and the line is counted once (R595). -/
def lineUnderrun (pipe x line : Nat) (s : State) : State :=
  let k := 65536 * pipe + line
  match tabGet none s.disp.late k with
  | some y => { s with disp := { s.disp with late := tabPut none s.disp.late k (some (min x y)) } }
  | none => cntInc { s with disp := { s.disp with late := tabPut none s.disp.late k (some x) } } (Reg.DISP_UNDERRUN_CNT pipe)

/-- DISPLAY_LINE_UNDERRUN (R595): of an active line of an enabled pipe. -/
def execDisplayLineUnderrun (pipe x line : Nat) (s : State) : Host.Outcome State Fault Refusal :=
  if pipe < 4 then
    .next
      (if regBit s (Reg.DISP_PIPE_CFG pipe) 31 && decide (line < regFld s (Reg.DISP_VTIME pipe) 0 16) &&
          decide (x < regFld s (Reg.DISP_HTIME pipe) 0 16) then lineUnderrun pipe x line s else s)
  else .fault .absentUnit

/-- The watch of a pipe is enabled. -/
def watchOn (s : State) (pipe : Nat) : Bool := regBit s (Reg.DISP_WATCH_CFG pipe) 31

/-- The signature equals a valid expected one (R599). -/
def sigExpected (s : State) (pipe : Nat) (sig : Word64) : Bool :=
  (List.range 8).any (fun k =>
    regBit s (Reg.DISP_WATCH_CFG pipe) (8 + k) && decide (pairGet s (Reg.DISP_WATCH_EXP pipe k) = sig.toNat))

/-- The island judges a signature (R599): the fault is raised when the run reaches WATCH_N. -/
def judgeSig (pipe : Nat) (sig : Word64) (s : State) : State :=
  let s1 := { pairPut s (Reg.DISP_WATCH_LAST pipe) sig.toNat with
    disp := { s.disp with watchNs := tabPut 0 s.disp.watchNs pipe s.tb.elapsed } }
  if sigExpected s pipe sig then regSetFld s1 (Reg.DISP_WATCH_STAT pipe) 0 8 0
  else
    let run := regFld s (Reg.DISP_WATCH_STAT pipe) 0 8 + 1
    let s2 := regSetFld s1 (Reg.DISP_WATCH_STAT pipe) 0 8 (min run 255)
    if run = regFld s (Reg.DISP_WATCH_CFG pipe) 0 8 then raise (0x0D0 + pipe) (some 0) (sig.toNat % 2 ^ 32) s2 else s2

/-- OUTPUT_WATCH_SIGNATURE (R598, R599): the display frame that an enabled, watched pipe has composed. -/
def execOutputWatchSignature (pipe : Nat) (s : State) : Host.Outcome State Fault Refusal :=
  if pipe < 4 then
    .next
      (if watchOn s pipe && regBit s (Reg.DISP_PIPE_CFG pipe) 31 then
        let (sig, s1) := watchSig pipe s
        judgeSig pipe sig s1
      else s)
  else .fault .absentUnit

/-- Three display-frame periods have passed without a signature (R599). -/
def watchMissing (pipe : Nat) (s : State) : State :=
  if watchOn s pipe && decide (tabGet 0 s.disp.watchNs pipe + 3 * framePeriod s pipe ≤ s.tb.elapsed) then
    raise (0x0D0 + pipe) (some 0) 0xFFFFFFFF
      { regSetFld s (Reg.DISP_WATCH_STAT pipe) 31 1 1 with
        disp := { s.disp with watchNs := tabPut 0 s.disp.watchNs pipe s.tb.elapsed } }
  else s

/-- OUTPUT_WATCH_MISSING (R599). -/
def execOutputWatchMissing (pipe : Nat) (s : State) : Host.Outcome State Fault Refusal :=
  if pipe < 4 then .next (watchMissing pipe s) else .fault .absentUnit

/-- DISP_AUX_GO (R600): a write of AUX_CMD with GO. -/
def execDispAuxGo (init pipe : Nat) (v : Word32) (s : State) : Host.Outcome State Fault Refusal :=
  if pipe < 4 then
    .next (asInit init (Reg.DISP_AUX_CMD pipe) true (fieldWrite (Reg.DISP_AUX_CMD pipe) (v ||| 0x80000000#32)) s)
  else .fault .absentUnit

/-- The end of an AUX transaction: GO clears, DONE is set, and REPLY holds the reply code, 0xF for a timeout; the bytes that a reply
brings enter the data registers. -/
def auxDone (pipe reply : Nat) (data : List Byte) (s : State) : State :=
  let s1 := regSetFld s (Reg.DISP_AUX_CMD pipe) 31 1 0
  let s2 := regSetFld (regSetFld s1 (Reg.DISP_AUX_STAT pipe) 31 1 1) (Reg.DISP_AUX_STAT pipe) 0 4 reply
  (List.range (min data.length 16)).foldl (fun s i =>
    regSetFld s (Reg.DISP_AUX_DATA0 pipe + i / 4 * 4) (8 * (i % 4)) 8 (leAt data i 1)) s2

/-- AUX_TRANSACTION_DONE (R600): of a transaction that GO has started. -/
def execAuxTransactionDone (pipe reply : Nat) (data : List Byte) (s : State) : Host.Outcome State Fault Refusal :=
  if pipe < 4 then .next (if regBit s (Reg.DISP_AUX_CMD pipe) 31 then auxDone pipe reply data s else s) else .fault .absentUnit

/-- HPD_EVENT (R600): the hot-plug level, and an IRQ_HPD pulse. -/
def execHpdEvent (pipe : Nat) (level irq : Bool) (s : State) : Host.Outcome State Fault Refusal :=
  if pipe < 4 then
    .next
      (let s1 := regSetFld s (Reg.DISP_AUX_STAT pipe) 17 1 (bitN level 0)
       if irq then regSetFld s1 (Reg.DISP_AUX_STAT pipe) 16 1 1 else s1)
  else .fault .absentUnit

end Sys2Proof.Machine
end

