-- ==== Sys2Proof/Machine/Coll.lean ====
section
/-!
DEFINITION. Collectives (R406–R412, R672, R696–R706): participants, contributions, reductions, results and their ends.
-/

namespace Sys2Proof.Machine

/-! The request's fields (R696). -/

/-- KIND. -/
def Coll.kind (c : Coll) : Nat := leAt c.req 0 1
/-- ETYPE. -/
def Coll.etype (c : Coll) : Nat := leAt c.req 1 1
/-- OP. -/
def Coll.op (c : Coll) : Nat := leAt c.req 2 1
/-- ORDER = ARRIVAL. -/
def Coll.arrival (c : Coll) : Bool := (leAt c.req 3 1).testBit 0
/-- The participants in ascending logical number: a participant's rank is its place (R696). -/
def collBays (req : List Byte) : List Nat := (List.range 64).filter (fun n => (leAt req 4 8).testBit n)
/-- COUNT. -/
def Coll.count (c : Coll) : Nat := leAt c.req 12 4
/-- RESPEG. -/
def Coll.respeg (c : Coll) : Nat := leAt c.req 26 2 % 2048
/-- GOBASE + r. -/
def Coll.gopeg (c : Coll) (r : Nat) : Nat := leAt c.req 24 2 % 2048 + r
/-- L. -/
def Coll.leaves (c : Coll) : Nat := leAt c.req 40 2
/-- OWNER. -/
def Coll.owner (c : Coll) : Nat := leAt c.req 44 4

/-- The bytes of one element. -/
def elemBytes (etype : Nat) : Nat := if etype = 0 then 80 else 4

/-- An FP32 reduction. -/
def fpReduction (req : List Byte) : Bool := decide (leAt req 1 1 = 2) && decide (leAt req 0 1 ≤ 2)

/-- A collective by its creation number. -/
def collGet (s : State) (n : Nat) : Option Coll := tabGet none s.fc.colls n

/-- Replace a collective. -/
def collPut (s : State) (n : Nat) (c : Option Coll) : State := { s with fc := { s.fc with colls := tabPut none s.fc.colls n c } }

/-- The rank's bay lies on the peer. -/
def collFar (s : State) (c : Coll) (r : Nat) : Bool := isPeerNumber s ((collBays c.req).getD r 0) && twinJoined s

/-- A collective ends in a fault: at its home its dowel completes; on the peer the home is told (R672, R702). -/
def collFail (n code : Nat) (c : Coll) (s : State) : State :=
  match c.peerHandle with
  | some h => sendCtl (.collFault h code) (collPut s n none)
  | none => completeDowel raise c.slot .doneFault code s

/-! Contributions (R699). -/

/-- The leaf table of an FP32 reduction, read for the partition. -/
def leafTable (p : Nat) (req : List Byte) (s : State) : Option (List Nat) × State :=
  match unitRead 0x10 p 7 (leAt req 32 8) (8 * leAt req 40 2) s with
  | (some l, s1) => (some ((List.range (leAt req 40 2)).map (fun i => leAt l (8 * i) 8)), s1)
  | (none, s1) => (none, s1)

/-- What the participant at logical bay `n` contributes: (index, address, bytes). -/
def contribRanges (c : Coll) (n : Nat) (table : List Nat) : List (Nat × Nat × Nat) :=
  if fpReduction c.req then
    ((List.range table.length).filter (fun i => decide (nfld (table.getD i 0) 0 6 = n))).map
      (fun i => (i, windowBase n + nfld (table.getD i 0) 8 21, 4 * c.count))
  else if c.kind = 5 ∨ (c.kind = 4 ∧ leAt c.req 43 1 ≠ n) then []
  else [(0, windowBase n + leAt c.req 16 4, elemBytes c.etype * c.count)]

/-- Read ranges for the partition; none when an access is refused or reaches a hole. -/
def readRanges (p : Nat) : List (Nat × Nat × Nat) → State → Option (List (Nat × List Byte)) × State
  | [], s => (some [], s)
  | (i, a, m) :: t, s =>
    match unitRead 0x10 p 7 a m s with
    | (some l, s1) =>
      (match readRanges p t s1 with
       | (some r, s2) => (some ((i, l) :: r), s2)
       | (none, s2) => (none, s2))
    | (none, s1) => (none, s1)

/-- The signature of a contribution: the fold of R584 over its bytes (R703). -/
def contribSig (d : List (Nat × List Byte)) : Word64 := foldWords 0 (d.flatMap (fun e => e.2))

/-- A contribution of rank `r` arrives at the home of its collective: the first is kept, and a repeated one must carry the same
signature (R411, R703). The dowel is RUNNING from the first one on. -/
def enterContrib (n r : Nat) (d : List (Nat × List Byte)) (c : Coll) (s : State) : State :=
  let sig := contribSig d
  let s1 := dowelMod s c.slot (fun x => if x.st = .queued then { x with st := .running } else x)
  match c.first.find? (fun x => decide (x.rank = r)) with
  | some x =>
    if x.sig = sig then collPut s1 n (some { c with taken := c.taken ++ [r] })
    else completeDowel raise c.slot .doneFault 0xA003 (raise 0x055 (some c.part) 0 s1)
  | none => collPut s1 n (some { c with first := c.first ++ [{ rank := r, data := d, sig := sig }], taken := c.taken ++ [r] })

/-- Take the contribution of rank `r`. -/
def takeContrib (n r : Nat) (c : Coll) (s : State) : State :=
  let bay := (collBays c.req).getD r 0
  let (table, s1) := if fpReduction c.req then leafTable c.part c.req s else (some [], s)
  match table with
  | none => collFail n 0xA001 c s1
  | some t =>
    match readRanges c.part (contribRanges c bay t) s1 with
    | (none, s2) => collFail n 0xA001 c s2
    | (some d, s2) =>
      match c.peerHandle with
      | some h => sendCtl (.contribution h r d) (collPut s2 n (some { c with taken := c.taken ++ [r] }))
      | none => enterContrib n r d c s2

/-- The contribution of rank `r` is due: a participant of this device, not taken yet, whose go peg has reached THR; a poisoned go
peg ends the collective instead (R699, R702, R705, R706). -/
def contribute (n r : Nat) (s : State) : State :=
  match collGet s n with
  | some c =>
    let g := pegGet s (c.gopeg r)
    if c.written || c.taken.contains r || decide ((collBays c.req).length ≤ r) || collFar s c r then s
    else if g.poison then collFail n 0xA002 c s
    else if leAt c.req 28 4 ≤ g.count.toNat then takeContrib n r c s
    else s
  | none => s

/-- A poisoned go peg ends the collectives that wait for it (R702). -/
def collPoisoned (n : Nat) (s : State) : State :=
  match collGet s n with
  | some c =>
    if (List.range (collBays c.req).length).any (fun r => !c.taken.contains r && !collFar s c r && (pegGet s (c.gopeg r)).poison) then
      collFail n 0xA002 c s
    else s
  | none => s

/-! Reductions (R406–R410). -/

/-- A value with flags: one FP32 combination (R151, R153). -/
def fpCombine (op a b : Nat) : FRes :=
  let x := Fmt.fp32.decode a
  let y := Fmt.fp32.decode b
  Fmt.fp32.finish .rne false false (match op with | 0 => addExact .rne x y | 1 => minMaxExact false x y | _ => minMaxExact true x y)

/-- One level of R408's tree. -/
def fpLevel (op : Nat) : List Nat → List Nat × FFlags
  | a :: b :: t =>
    let r := fpCombine op a b
    let u := fpLevel op t
    (r.bits :: u.1, r.flags.or u.2)
  | l => (l, {})

/-- R408's tree over the leaves; the first argument bounds the levels. -/
def fpTree (op : Nat) : Nat → List Nat → Nat × FFlags
  | 0, l => (l.headD 0, {})
  | k + 1, l =>
    match l with
    | [] => (0, {})
    | [a] => (a, {})
    | _ =>
      let (m, f) := fpLevel op l
      let (v, g) := fpTree op k m
      (v, f.or g)

/-- R409's combination from left to right. -/
def seqFold (op : Nat) : List Nat → Nat × FFlags
  | [] => (0, {})
  | a :: t => t.foldl (fun acc b => let r := fpCombine op acc.1 b; (r.bits, acc.2.or r.flags)) (a, {})

/-- One INT32 combination. -/
def intCombine (op a b : Nat) : Nat :=
  match op with
  | 0 => (a + b) % 2 ^ 32
  | 1 => if sintOf 32 b < sintOf 32 a then b else a
  | _ => if sintOf 32 a < sintOf 32 b then b else a

/-- Exact sum of sill images; none out of range (R407). -/
def sillFold : List (List Byte) → Option Sill
  | [] => some Sill.zero
  | l :: t =>
    let x := sillOfImage l
    match sillFold t with
    | some y => some { val := x.val + y.val, pinf := x.pinf || y.pinf, ninf := x.ninf || y.ninf, nan := x.nan || y.nan }
    | none => none

/-- The whole contribution of a rank. -/
def contribOf (c : Coll) (r i : Nat) : List Byte :=
  match (c.first.flatMap (fun x => if x.rank = r then x.data else [])).find? (fun e => decide (e.1 = i)) with
  | some e => e.2
  | none => []

/-- The leaves in the order of combination: by leaf index, or of arrival (R408, R409). -/
def leafList (c : Coll) : List (List Byte) :=
  let all := c.first.flatMap (fun x => x.data)
  if c.arrival then all.map (fun e => e.2)
  else (List.range c.leaves).filterMap (fun i => (all.find? (fun e => decide (e.1 = i))).map (fun e => e.2))

/-- Element `j` of the reduction: its bytes, and the flags; none for a sill sum out of range. -/
def reduceElem (c : Coll) (j : Nat) : Option (List Byte × FFlags) :=
  let parts := (List.range (collBays c.req).length).map (fun r => contribOf c r 0)
  match c.etype with
  | 0 =>
    match sillFold (parts.map (fun l => bytesAt l (80 * j) 80)) with
    | some x => if sillInRange x.val then some (sillImage x, {}) else none
    | none => none
  | 1 =>
    match parts.map (fun l => leAt l (4 * j) 4) with
    | [] => some ([], {})
    | a :: t => some (leBytes 4 (t.foldl (intCombine c.op) a), {})
  | _ =>
    let l := (leafList c).map (fun b => leAt b (4 * j) 4)
    let r := if c.arrival then seqFold c.op l else fpTree c.op 13 l
    some (leBytes 4 r.1, r.2)

/-- The elements of a reduction. -/
def reduceAll (c : Coll) : Nat → List (List Byte) → FFlags → Option (List Byte × FFlags)
  | 0, acc, f => some (acc.reverse.flatten, f)
  | k + 1, acc, f =>
    match reduceElem c (c.count - (k + 1)) with
    | some (l, g) => reduceAll c k (l :: acc) (f.or g)
    | none => none

/-- The result of each participant by rank, and the flags (R698); none for a sill sum out of range. -/
def collResults (c : Coll) : Option (List (List Byte) × FFlags) :=
  let n := (collBays c.req).length
  let es := elemBytes c.etype
  match c.kind with
  | 1 => (reduceAll c c.count [] {}).map (fun r => (List.replicate n r.1, r.2))
  | 2 => (reduceAll c c.count [] {}).map (fun r =>
      ((List.range n).map (fun i => bytesAt r.1 (i * (c.count / n) * es) (c.count / n * es)), r.2))
  | 3 => some (List.replicate n ((List.range n).flatMap (fun i => contribOf c i 0)), {})
  | 4 => some (List.replicate n (c.first.flatMap (fun x => x.data.flatMap (fun e => e.2))), {})
  | _ => some (List.replicate n [], {})

/-! Results (R699). -/

/-- Where the result of rank `r` goes. -/
def resultAddr (c : Coll) (r : Nat) : Addr := windowBase ((collBays c.req).getD r 0) + leAt c.req 20 4

/-- RESPEG is added; the peer's peg of that number is signalled with the last WRITE flit of a participant there (R660, R672). -/
def addRespeg (c : Coll) (s : State) : State :=
  let s1 := pegSignal s c.respeg (.add 1)
  if collSpans s c.req && twinJoined s then
    sendFlit { typ := 1, part := c.part, signal := 2 ^ 15 + c.respeg } s1
  else s1

/-- Every contribution has been taken: the results are written and RESPEG is added, or the collective faults. A repeated write
counts no choice again (R409, R699, R703). -/
def writeResults (n : Nat) (c : Coll) (s : State) : State :=
  let missing := fpReduction c.req && decide ((leafList c).length ≠ c.leaves)
  if missing then collFail n 0xA001 c s
  else
    match collResults c with
    | none => collFail n 0x0603 c s
    | some (rs, f) =>
      let ranks := List.range (collBays c.req).length
      let at_ := fun r => resultAddr c r
      match unitCheck 0x10 c.part 7 .write (ranks.flatMap (fun r => rowPieces (at_ r) (rs.getD r []).length)) s with
      | (false, s1) => collFail n 0xA001 c s1
      | (true, s1) =>
        let s2 := ranks.foldl (fun s r => devWrite s (at_ r) (rs.getD r [])) s1
        let again := (dowelGet s2 c.slot).replays
        let k := if c.arrival && decide (again = 0) then c.leaves - 1 else 0
        let s3 := dowelMod s2 c.slot (fun d => { d with flags := d.flags.or f, div := d.div + k })
        let s4 := if k = 0 then s3
          else cntAdd (regPut s3 (Reg.PART_DIVERGENCE c.part) (regGet s3 (Reg.PART_DIVERGENCE c.part) + BitVec.ofNat 32 k))
            (Reg.PART_DIV_FPARR c.part) k
        addRespeg c (collPut s4 n (some { c with written := true }))

/-- The results are due. -/
def collResult (n : Nat) (s : State) : State :=
  match collGet s n with
  | some c =>
    if c.peerHandle.isNone && !c.written && decide (c.taken.length = (collBays c.req).length) then writeResults n c s else s
  | none => s

/-- The state in which a collective with its results written, or its owner ended, completes; none while it waits (R701). -/
def collEndState (c : Coll) : Option (DSt × Nat) :=
  if c.owner = 0 then (if c.written then some (.doneOk, 0) else none)
  else
    match c.ownerEnd with
    | none => none
    | some .split => some (.split, 0)
    | some st =>
      if (decide (st = .doneOk ∨ st = .doneReplayed ∨ st = .expired)) && c.written then some (.doneOk, 0) else some (.doneFault, 0xA004)

/-- A collective completes. -/
def collComplete (n : Nat) (s : State) : State :=
  match collGet s n with
  | some c =>
    (match c.peerHandle, collEndState c with
     | none, some (st, code) => completeDowel raise c.slot st code s
     | _, _ => s)
  | none => s

/-! Replays (R703). -/

/-- RESPEG goes back to the count it held at creation, and every contribution is to be taken again. -/
def collReset (n : Nat) (c : Coll) (s : State) : State :=
  let p := pegGet s c.respeg
  let s1 := if p.poison then s else judgeAll (pegPut s c.respeg { p with count := c.pegCount, sat := c.pegSat })
  collPut s1 n (some { c with taken := [], written := false })

/-- The collectives that satisfy a test, by creation number. -/
def collsWhere (s : State) (f : Coll → Bool) : List (Nat × Coll) :=
  s.fc.colls.filterMap (fun e => match e.2 with | some c => if f c then some (e.1, c) else none | none => none)

/-- The replay of the job of a handle begins: each collective that it owns reruns. -/
def collReruns (handle : Nat) (s : State) : State :=
  (collsWhere s (fun c => c.peerHandle.isNone && decide (c.owner = handle))).foldl (fun s e =>
    let s1 := cntInc (dowelMod (collReset e.1 e.2 s) e.2.slot (fun d => { d with replays := d.replays + 1 })) Reg.FC_RERUN_CNT
    if collSpans s1 e.2.req && twinJoined s1 then sendCtl (.collReplay (handleOf s1 e.2.slot)) s1 else s1) s

/-! The peer's part (R672). -/

/-- What a CONTROL flit of a collective does. -/
def collCtl (ctl : Ctl) (s : State) : State :=
  let mine := fun h (s : State) (eff : Nat → Coll → State → State) =>
    match collsWhere s (fun c => c.peerHandle.isNone && decide (handleOf s c.slot = h)) with
    | (n, c) :: _ => eff n c s
    | [] => s
  let theirs := fun h (s : State) (eff : Nat → Coll → State → State) =>
    match collsWhere s (fun c => decide (c.peerHandle = some h)) with
    | (n, c) :: _ => eff n c s
    | [] => s
  match ctl with
  | .coll h p req =>
    let c : Coll := { part := p, req := req, peerHandle := some h }
    let g := pegGet s c.respeg
    let n := s.fc.nextColl
    collPut { s with fc := { s.fc with nextColl := n + 1 } } n (some { c with pegCount := g.count, pegSat := g.sat })
  | .contribution h r d => mine h s (enterContrib · r d)
  | .collFault h code => mine h s (fun _ c => completeDowel raise c.slot .doneFault code)
  | .collReplay h => theirs h s collReset
  | .collEnd h poison => theirs h s (fun n c s => let s1 := collPut s n none; if poison then pegPoison s1 c.respeg else s1)
  | .ask _ _ _ | .granted _ | .start _ _ | .ended _ _ _ | .fault _ _ _ | .stopped _ _ | .stop _ | .replay _ _ | .leave
  | .config _ _ _ _ | .ready _ | .apply _ | .drop _ | .version _ _ => s

end Sys2Proof.Machine
end

