-- ==== Sys2Proof/Machine/ExecFc.lean ====
section
/-!
DEFINITION. The commands of the fabric controller (chapter 18): doorbells, requests, their answers, and collectives.
-/

namespace Sys2Proof.Machine

/-- Firmware serves mailboxes (FC_STATUS.RUN). -/
def fcRuns (s : State) : Bool := regBit s Reg.FC_STATUS 31

/-! Doorbells (R685, R687). -/

/-- A write of MB_PI of request mailbox `m`: a disabled mailbox ignores it; one that would hold more requests than slots is a
reserved encoding. -/
def doorbell (m : Nat) (v : Word32) (s : State) : State :=
  if !mbOn s m then s
  else if mbSlots s m < (fld v 0 9 + 512 - mbCI s m) % 512 then cntInc s Reg.GLOBAL_RSVD_CNT
  else fieldWrite (Reg.MB_PI m) v s

/-- MAILBOX_DOORBELL (R685). -/
def execMailboxDoorbell (init m : Nat) (v : Word32) (s : State) : Host.Outcome State Fault Refusal :=
  if m ≤ 16 ∧ m % 2 = 0 then .next (asInit init (Reg.MB_PI m) true (doorbell m v) s) else .fault .absentUnit

/-! Answers (R686, R688, R690, R691). -/

/-- The request of mailbox `m` that waits for its answer. -/
def reqOf (s : State) (m : Nat) : List Byte := tabGet [] s.fc.taken m

/-- The payload of a request. -/
def reqPayload (l : List Byte) : List Byte := (l.drop 32).take (leAt l 4 2)

/-- Answer a request: the response is written in the lower minor, and the mailbox is free for its next request. -/
def answer (m : Nat) (l : List Byte) (status handle : Nat) (payload : List Byte) (s : State) : State :=
  let fw := decide (leAt l 2 2 = 1)
  let h : MsgHead :=
    { vmaj := if fw then leAt l 0 1 else msgMajor s
      vmin := if fw then leAt l 1 1 else if status = 2 then msgMinor s else min (leAt l 1 1) (msgMinor s)
      typ := leAt l 2 2, part := if m < 16 then m / 2 else 0, kind := 1, tag := leAt l 8 4, status := status, handle := handle }
  let s1 := (putMessage (m + 1) (message h payload) s).1
  { s1 with fc := { s1.fc with taken := tabPut [] s1.fc.taken m [] } }

/-- Answer a request of which nothing is used: TAG and TYPE are 0 (R689). -/
def answerNone (m status : Nat) (s : State) : State :=
  let h : MsgHead := { vmaj := msgMajor s, vmin := msgMinor s, typ := 0, part := if m < 16 then m / 2 else 0, kind := 1, status := status }
  (putMessage (m + 1) (message h []) s).1

/-! Taking a request (R685, R689). -/

/-- Mailbox `m` has a request that firmware may take: its response can be written (R686). -/
def mbReady (s : State) (m : Nat) : Bool :=
  mbOn s m && decide (0 < mbHeld s m) && decide (reqOf s m = []) && mbOn s (m + 1) && decide (mbHeld s (m + 1) < mbSlots s (m + 1))

/-- The request mailbox next in rotation (R52). -/
def mbNext (s : State) : Option Nat :=
  ((rangeFrom (s.fc.lastBox + 1) 18).map (· % 18)).find? (fun m => decide (m % 2 = 0) && mbReady s m)

/-- The least payload of a type; none for a reserved one (R693). -/
def typeLength (t : Nat) : Option Nat :=
  match t with | 1 => some 0 | 0x10 => some 64 | 0x20 => some 8 | 0x21 => some 4 | 0x30 => some 1 | 0x40 => some 1 | _ => none

/-- The mailbox may send the type (R693). -/
def typeAllowed (m t : Nat) : Bool :=
  match t with
  | 1 => true
  | 0x10 | 0x20 | 0x21 => decide (m < 16)
  | 0x30 | 0x40 => decide (m = 0 ∨ m = 16)
  | _ => false

/-- The tests of a request before those of its type: the first code that fails, none when all pass (R689). -/
def requestTest (s : State) (m : Nat) (l : List Byte) : Option Nat :=
  let t := leAt l 2 2
  let n := min (leAt l 4 2) 224
  if leAt l 28 4 ≠ (crc32c (l.take 28 ++ (l.drop 32).take n)).toNat then some 1
  else if leAt l 0 1 ≠ msgMajor s ∧ t ≠ 1 then some 2
  else if !typeAllowed m t then some 3
  else if 224 < leAt l 4 2 ∨ leAt l 4 2 < (typeLength t).getD 0 then some 4
  else if leAt l 6 1 ≠ (if m < 16 then m / 2 else 0) ∨ leAt l 7 1 ≠ 0 ∨ leAt l 12 2 ≠ 0 ∨ leAt l 14 2 ≠ 0 ∨ leAt l 16 4 ≠ 0 ∨
      leAt l 20 8 ≠ 0 then some 5
  else none

/-- Take the request at the head of mailbox `m`: MB_CI advances once it has been read. -/
def takeRequest (m : Nat) (s0 : State) : State :=
  let s := { s0 with fc := { s0.fc with lastBox := m } }
  let a := mbAddr s m (mbCI s m)
  let (l, s1) := if m < 16 then unitRead 0x10 (m / 2) 7 a 256 s else (some (devRead s a 256), s)
  let s2 := regPut s1 (Reg.MB_CI m) (BitVec.ofNat 32 ((mbCI s1 m + 1) % 512))
  match l with
  | none => answerNone m 6 s2
  | some l =>
    match requestTest s2 m l with
    | some 1 => answerNone m 1 (raise 0x05C (if m < 16 then some (m / 2) else none) 0 (cntInc s2 (Reg.MB_CHECK_CNT m)))
    | some c => answer m l c 0 [] s2
    | none => { s2 with fc := { s2.fc with taken := tabPut [] s2.fc.taken m l } }

/-- MAILBOX_REQUEST_TAKE (R689). -/
def execMailboxRequestTake (m : Nat) (s : State) : Host.Outcome State Fault Refusal :=
  if m ≤ 16 ∧ m % 2 = 0 then .next (if fcRuns s && decide (mbNext s = some m) then takeRequest m s else s) else .fault .absentUnit

/-- Act on the request of mailbox `m`, if it is of the type. -/
def serve (typ m : Nat) (eff : List Byte → State → State) (s : State) : Host.Outcome State Fault Refusal :=
  if m ≤ 16 ∧ m % 2 = 0 then
    .next (if reqOf s m ≠ [] ∧ leAt (reqOf s m) 2 2 = typ then eff (reqOf s m) s else s)
  else .fault .absentUnit

/-! The types (R693, R694). -/

/-- FW_VERSION (R690). -/
def execFwVersion (m : Nat) (s : State) : Host.Outcome State Fault Refusal :=
  serve 1 m (fun l s =>
    answer m l 0 0
      (leBytes 1 (regFld s Reg.FC_VERSION 24 8) ++ leBytes 1 (regFld s Reg.FC_VERSION 16 8) ++ leBytes 2 (regFld s Reg.FC_VERSION 0 16) ++
        leBytes 1 (msgMajor s) ++ leBytes 1 (msgMinor s) ++ leBytes 2 0 ++ bytesAt s.boot.fcDigest 0 8) s) s

/-- The route table allows partition `p` to reach partition `q` (R694). -/
def routed (s : State) (p q : Nat) : Bool := regBit s (Reg.FC_ROUTE p) q

/-- A signal to a peg of another partition. -/
def pegRequest (m : Nat) (l : List Byte) (s : State) : State :=
  let b := reqPayload l
  let q := leAt b 0 1
  let n := leAt b 2 2
  let v := leAt b 4 4
  if 8 ≤ q ∨ 1 < leAt b 1 1 ∨ 2048 ≤ n then answer m l 5 0 [] s
  else if !ownsPeg s q n then answer m l 6 0 [] s
  else if !routed s (m / 2) q then answer m l 7 0 [] s
  else answer m l 0 0 [] (pegSignal s n (if leAt b 1 1 = 0 then .add v else .set v))

/-- PEG_SIGNAL (R694). -/
def execPegSignal (m : Nat) (s : State) : Host.Outcome State Fault Refusal := serve 0x20 m (pegRequest m) s

/-- Data for another partition, as a notice; to a STOPPED one it is dropped and counted (R709). -/
def postRequest (m : Nat) (l : List Byte) (s : State) : State :=
  let b := reqPayload l
  let q := leAt b 0 1
  if 8 ≤ q ∨ leAt b 1 3 ≠ 0 then answer m l 5 0 [] s
  else if !routed s (m / 2) q then answer m l 7 0 [] s
  else
    answer m l 0 0 []
      (if s.safety.stopped.getLsbD q then cntInc s (Reg.MB_NOTE_DROP (2 * q + 1))
       else notice (2 * q + 1) (m / 2) 0x51 ((b.drop 4).take 192) s)

/-- MESSAGE_POST (R694). -/
def execMessagePost (m : Nat) (s : State) : Host.Outcome State Fault Refusal := serve 0x21 m (postRequest m) s

/-- The plumb history of a logical bay of this device; a number that no bay holds is out of range. -/
def plumbRequest (m : Nat) (l : List Byte) (s : State) : State :=
  let n := leAt (reqPayload l) 0 1
  match lbPhys s n with
  | some pb =>
    answer m l 0 0
      (leBytes 4 (tabGet 0 s.part.lastPassWt n) ++ leBytes 1 (bitN (s.part.plumbed.contains n) 0) ++ leBytes 1 pb ++
        leBytes 2 (min (tabGet 0 s.safety.plumbRuns pb) 0xFFFF)) s
  | none => answer m l 5 0 [] s

/-- PLUMB_STATUS (R693). -/
def execPlumbStatus (m : Nat) (s : State) : Host.Outcome State Fault Refusal := serve 0x30 m (plumbRequest m) s

/-- The pending entries from an index, at most 24. -/
def repairRequest (m : Nat) (l : List Byte) (s : State) : State :=
  let i := leAt (reqPayload l) 0 1
  let es := (s.repair.pendingEntries.drop i).take 24
  if 31 < i then answer m l 5 0 [] s
  else
    answer m l 0 0 (leBytes 1 s.repair.pendingEntries.length ++ leBytes 1 es.length ++ leBytes 6 0 ++ es.flatMap (fun e => bytesAt e 0 8)) s

/-- REPAIR_LIST (R693). -/
def execRepairList (m : Nat) (s : State) : Host.Outcome State Fault Refusal := serve 0x40 m (repairRequest m) s

/-! COLL_CREATE (R696, R697). -/

/-- A range of a bay store of `n` bytes at an offset. -/
def inStore (off n : Nat) : Bool := decide (off + n ≤ storeSize)

/-- The bytes of a participant's result. -/
def resultBytes (b : List Byte) : Nat :=
  let n := leAt b 12 4 * elemBytes (leAt b 1 1)
  let p := (collBays b).length
  match leAt b 0 1 with | 2 => n / p | 3 => p * n | 5 => 0 | _ => n

/-- The conditions on the payload's fields alone. -/
def collFieldsOk (b : List Byte) : Bool :=
  let kind := leAt b 0 1
  let et := leAt b 1 1
  let op := leAt b 2 1
  let opts := leAt b 3 1
  let count := leAt b 12 4
  let fp := fpReduction b
  let bays := collBays b
  decide (1 ≤ kind ∧ kind ≤ 5) && decide (et ≤ 2) && decide (op ≤ 2) && decide (opts < 8) && decide (bays ≠ []) &&
  (decide (kind ≤ 2) || decide (op = 0)) && (decide (kind ≠ 5) || decide (et = 0 ∧ count = 0)) &&
  (decide (et ≠ 0) || decide (kind = 5) || decide (op = 0 ∧ 1 ≤ count ∧ count ≤ 512)) &&
  (!opts.testBit 0 || (fp && decide (op = 0))) &&
  (decide (kind ≠ 2) || decide (count % bays.length = 0)) &&
  (if kind = 4 then bays.contains (leAt b 43 1) else decide (leAt b 43 1 = 0)) &&
  decide (leAt b 24 2 < 2048) && decide (leAt b 26 2 < 2048) && decide (0 < leAt b 28 4) &&
  (if fp then decide (leAt b 32 8 < 2 ^ 48) && decide (1 ≤ leAt b 40 2 ∧ leAt b 40 2 ≤ 4096)
   else decide (leAt b 32 8 = 0) && decide (leAt b 40 2 = 0)) &&
  decide (leAt b 42 1 % 128 < 8) && decide (leAt b 52 12 = 0) &&
  (decide (kind = 5) || ((fp || inStore (leAt b 16 4) (count * elemBytes et)) && inStore (leAt b 20 4) (resultBytes b)))

/-- The entries of a leaf table name places of participants. -/
def leavesOk (b : List Byte) (t : List Nat) : Bool :=
  t.all (fun e => (collBays b).contains (nfld e 0 6) && decide (nfld e 6 2 = 0) && decide (e < 2 ^ 29) &&
    inStore (nfld e 8 21) (4 * leAt b 12 4))

/-- What the partition owns. -/
def collOwnedOk (s : State) (p : Nat) (b : List Byte) : Bool :=
  !s.safety.stopped.getLsbD p && (collBays b).all (ownsBay s p) && ownsPeg s p (leAt b 26 2) &&
    (List.range (collBays b).length).all (fun r => ownsPeg s p (leAt b 24 2 + r))

/-- The collectives that are not terminal: of the device, and of a partition. -/
def collCount (s : State) (f : Coll → Bool) : Nat := (collsWhere s (fun c => c.peerHandle.isNone && f c)).length

/-- The dowel of a collective: its ring, MSI and SEQ stand in the fields of a descriptor that its record uses. -/
def collDowel (p : Nat) (b : List Byte) : Dowel :=
  { kind := .coll, part := p, payload := b,
    desc := leBytes 1 0 ++ leBytes 1 (leAt b 42 1 / 128) ++ leBytes 1 p ++ leBytes 3 0 ++ leBytes 1 0xFF ++ leBytes 1 (leAt b 42 1 % 8) ++
      leBytes 20 0 ++ bytesAt b 48 4 ++ leBytes 96 0 }

/-- The owner of a collective has already ended, or does not exist. -/
def ownerAtCreate (s : State) (p : Nat) (b : List Byte) : Option DSt :=
  let h := leAt b 44 4
  if h = 0 then none
  else if !handleCurrent s p (BitVec.ofNat 32 h) then some .doneFault
  else if (dowelGet s (slotOf h)).st.terminal then some (dowelGet s (slotOf h)).st
  else none

/-- Create the collective in a dowel slot, and answer with its handle; participants on the peer are announced there (R672). -/
def collMake (m p : Nat) (l b : List Byte) (s : State) : State :=
  if 64 ≤ collCount s (fun _ => true) ∨ 16 ≤ collCount s (fun c => decide (c.part = p)) then answer m l 9 0 [] s
  else
    match freeRun s 1 with
    | none => answer m l 9 0 [] s
    | some slot =>
      if !twinJoined s && (collBays b).any (fun n => if twinSecondary s then decide (n < 32) else decide (32 ≤ n)) then
        answer m l 0xA 0 [] s
      else
        let s1 := takeSlot s slot (collDowel p b)
        let g := pegGet s1 (leAt b 26 2)
        let n := s1.fc.nextColl
        let c : Coll := { slot := slot, part := p, req := b, pegCount := g.count, pegSat := g.sat, ownerEnd := ownerAtCreate s p b }
        let s2 := collPut { s1 with fc := { s1.fc with nextColl := n + 1 } } n (some c)
        let s3 := if collSpans s2 b && twinJoined s2 then sendCtl (.coll (handleOf s2 slot) p b) s2 else s2
        answer m l 0 (handleOf s3 slot) [] s3

/-- The tests of COLL_CREATE in order (R689, R697, R710). -/
def collRequest (m : Nat) (l : List Byte) (s : State) : State :=
  let p := m / 2
  let b := bytesAt (reqPayload l) 0 64
  if !collFieldsOk b then answer m l 5 0 [] s
  else
    let (t, s1) := if fpReduction b then leafTable p b s else (some [], s)
    if (match t with | some t => !leavesOk b t | none => false) then answer m l 5 0 [] s1
    else if t.isNone || !collOwnedOk s1 p b then answer m l 6 0 [] s1
    else if dowelQuota s1 p ≤ dowelsInUse s1 p then answer m l 8 0 [] s1
    else collMake m p l b s1

/-- COLL_CREATE (R696). -/
def execCollCreate (m : Nat) (s : State) : Host.Outcome State Fault Refusal := serve 0x10 m (collRequest m) s

/-! Collectives. -/

/-- COLL_CONTRIBUTION_TAKE (R699): collective `n` by creation number, participant of rank `r`. -/
def execCollContributionTake (n r : Nat) (s : State) : Host.Outcome State Fault Refusal :=
  .next (if fcRuns s then contribute n r s else s)

/-- COLL_RESULT_WRITE (R699). -/
def execCollResultWrite (n : Nat) (s : State) : Host.Outcome State Fault Refusal := .next (if fcRuns s then collResult n s else s)

/-- COLL_COMPLETE (R701). -/
def execCollComplete (n : Nat) (s : State) : Host.Outcome State Fault Refusal := .next (if fcRuns s then collComplete n s else s)

end Sys2Proof.Machine
end

