-- ==== Sys2Proof/Machine/Aes.lean ====
section
/-!
DEFINITION. AES-128 (FIPS 197) and AES-CMAC (NIST SP 800-38B), which R626 and R418 name. PRESUMED: the manual cites the standards and
does not restate the algorithms.
-/

namespace Sys2Proof.Machine

/-- Multiplication by x in GF(2^8). -/
def aesX (b : Byte) : Byte := if b.msb then (b <<< 1) ^^^ 0x1B#8 else b <<< 1

/-- The S-box of FIPS 197, rows 0 to 7. -/
def aesSbox0 : List (List Byte) := [
  [0x63, 0x7C, 0x77, 0x7B, 0xF2, 0x6B, 0x6F, 0xC5, 0x30, 0x01, 0x67, 0x2B, 0xFE, 0xD7, 0xAB, 0x76],
  [0xCA, 0x82, 0xC9, 0x7D, 0xFA, 0x59, 0x47, 0xF0, 0xAD, 0xD4, 0xA2, 0xAF, 0x9C, 0xA4, 0x72, 0xC0],
  [0xB7, 0xFD, 0x93, 0x26, 0x36, 0x3F, 0xF7, 0xCC, 0x34, 0xA5, 0xE5, 0xF1, 0x71, 0xD8, 0x31, 0x15],
  [0x04, 0xC7, 0x23, 0xC3, 0x18, 0x96, 0x05, 0x9A, 0x07, 0x12, 0x80, 0xE2, 0xEB, 0x27, 0xB2, 0x75],
  [0x09, 0x83, 0x2C, 0x1A, 0x1B, 0x6E, 0x5A, 0xA0, 0x52, 0x3B, 0xD6, 0xB3, 0x29, 0xE3, 0x2F, 0x84],
  [0x53, 0xD1, 0x00, 0xED, 0x20, 0xFC, 0xB1, 0x5B, 0x6A, 0xCB, 0xBE, 0x39, 0x4A, 0x4C, 0x58, 0xCF],
  [0xD0, 0xEF, 0xAA, 0xFB, 0x43, 0x4D, 0x33, 0x85, 0x45, 0xF9, 0x02, 0x7F, 0x50, 0x3C, 0x9F, 0xA8],
  [0x51, 0xA3, 0x40, 0x8F, 0x92, 0x9D, 0x38, 0xF5, 0xBC, 0xB6, 0xDA, 0x21, 0x10, 0xFF, 0xF3, 0xD2]]

/-- Rows 8 to 15. -/
def aesSbox1 : List (List Byte) := [
  [0xCD, 0x0C, 0x13, 0xEC, 0x5F, 0x97, 0x44, 0x17, 0xC4, 0xA7, 0x7E, 0x3D, 0x64, 0x5D, 0x19, 0x73],
  [0x60, 0x81, 0x4F, 0xDC, 0x22, 0x2A, 0x90, 0x88, 0x46, 0xEE, 0xB8, 0x14, 0xDE, 0x5E, 0x0B, 0xDB],
  [0xE0, 0x32, 0x3A, 0x0A, 0x49, 0x06, 0x24, 0x5C, 0xC2, 0xD3, 0xAC, 0x62, 0x91, 0x95, 0xE4, 0x79],
  [0xE7, 0xC8, 0x37, 0x6D, 0x8D, 0xD5, 0x4E, 0xA9, 0x6C, 0x56, 0xF4, 0xEA, 0x65, 0x7A, 0xAE, 0x08],
  [0xBA, 0x78, 0x25, 0x2E, 0x1C, 0xA6, 0xB4, 0xC6, 0xE8, 0xDD, 0x74, 0x1F, 0x4B, 0xBD, 0x8B, 0x8A],
  [0x70, 0x3E, 0xB5, 0x66, 0x48, 0x03, 0xF6, 0x0E, 0x61, 0x35, 0x57, 0xB9, 0x86, 0xC1, 0x1D, 0x9E],
  [0xE1, 0xF8, 0x98, 0x11, 0x69, 0xD9, 0x8E, 0x94, 0x9B, 0x1E, 0x87, 0xE9, 0xCE, 0x55, 0x28, 0xDF],
  [0x8C, 0xA1, 0x89, 0x0D, 0xBF, 0xE6, 0x42, 0x68, 0x41, 0x99, 0x2D, 0x0F, 0xB0, 0x54, 0xBB, 0x16]]

/-- The S-box. -/
def aesSub (a : Byte) : Byte := ((aesSbox0 ++ aesSbox1).getD (a.toNat / 16) []).getD (a.toNat % 16) 0

/-- Byte-wise exclusive or. -/
def xorBytes (a b : List Byte) : List Byte := List.zipWith (· ^^^ ·) a b

/-- The next round key. -/
def aesNextKey (rcon : Byte) (k : List Byte) : List Byte :=
  let w := fun (i : Nat) => bytesAt k (4 * i) 4
  let t := xorBytes ((bytesAt k 13 3 ++ bytesAt k 12 1).map aesSub) [rcon, 0, 0, 0]
  let w0 := xorBytes (w 0) t
  let w1 := xorBytes (w 1) w0
  let w2 := xorBytes (w 2) w1
  w0 ++ w1 ++ w2 ++ xorBytes (w 3) w2

/-- The rotation of the rows. -/
def aesRows (s : List Byte) : List Byte := (List.range 16).map (fun i => s.getD (i % 4 + 4 * ((i / 4 + i % 4) % 4)) 0)

/-- The mixing of the columns. -/
def aesCols (s : List Byte) : List Byte :=
  (List.range 16).map (fun i =>
    let b := fun (j : Nat) => s.getD (i / 4 * 4 + (i + j) % 4) 0
    aesX (b 0) ^^^ (aesX (b 1) ^^^ b 1) ^^^ b 2 ^^^ b 3)

/-- The rounds: how many are left, the round constant, the round key and the state. -/
def aesRounds : Nat → Byte → List Byte → List Byte → List Byte
  | 0, _, _, s => s
  | n + 1, rcon, k, s =>
    let k1 := aesNextKey rcon k
    let t := aesRows (s.map aesSub)
    aesRounds n (aesX rcon) k1 (xorBytes (if n = 0 then t else aesCols t) k1)

/-- AES-128 of one block. -/
def aes128 (key block : List Byte) : List Byte := aesRounds 10 1 key (xorBytes block key)

/-- Doubling in GF(2^128). -/
def cmacDouble (l : List Byte) : List Byte :=
  let v := beVal l
  let w := beBytes 16 (2 * v % 2 ^ 128)
  if 2 ^ 127 ≤ v then xorBytes w (List.replicate 15 0 ++ [0x87]) else w

/-- The chaining over `n` whole blocks. -/
def cmacChain (key m : List Byte) : Nat → List Byte
  | 0 => List.replicate 16 0
  | n + 1 => aes128 key (xorBytes (cmacChain key m n) (bytesAt m (16 * n) 16))

/-- AES-CMAC of a message. -/
def aesCmac (key m : List Byte) : List Byte :=
  let k1 := cmacDouble (aes128 key (List.replicate 16 0))
  let n := (m.length + 15) / 16 - 1
  let rest := m.drop (16 * n)
  let last := if rest.length = 16 then xorBytes rest k1
    else xorBytes (bytesAt (rest ++ [0x80]) 0 16) (cmacDouble k1)
  aes128 key (xorBytes (cmacChain key m n) last)

/-- The tag: the first 64 bits (R626). -/
def cmacTag (key m : List Byte) : List Byte := (aesCmac key m).take 8

end Sys2Proof.Machine
end

