-- ==== Sys2Proof/Machine/Timebase.lean ====
section
/-!
DEFINITION. The timebase (chapter 13): the tick, events, steps of working time, the bridge and the switch of domains.
-/

namespace Sys2Proof.Machine

/-- Domain `d`: 0 A, 1 B. -/
def domGet (s : State) (d : Nat) : Dom := if d = 0 then s.tb.a else s.tb.b

/-- Replace a domain. -/
def domPut (s : State) (d : Nat) (x : Dom) : State :=
  if d = 0 then { s with tb := { s.tb with a := x } } else { s with tb := { s.tb with b := x } }

/-- The selected domain. -/
def selDom (s : State) : Nat := if s.tb.selB then 1 else 0

/-- A signed value as a 32-bit word reads back (R515). -/
def wrap32 (v : Int) : Int := (BitVec.ofInt 32 v).toInt

/-- One tick of a domain: 4 ns plus RATE × 2^−32 ns (R504). -/
def Dom.tick (rate : Word32) (x : Dom) : Dom :=
  let v := (((x.time * 2 ^ 32 + x.frac + 4 * 2 ^ 32 : Nat) : Int) + rate.toInt) % (2 ^ 64 : Int) |>.toNat
  { x with time := v / 2 ^ 32, frac := v % 2 ^ 32 }

/-- One tick of a followed working time: the manual leaves the increment open within 4 ns ± 50 ppm (R666). -/
def followTick (free : Word64) (t : Nat × Nat) : Nat × Nat :=
  let v := (t.1 * 2 ^ 32 + t.2 + 4 * 2 ^ 32 + free.toNat % 1717987 - 858993) % 2 ^ 64
  (v / 2 ^ 32, v % 2 ^ 32)

/-- Bit 31 of working time. -/
def topBit (t : Nat) : Bool := t.testBit 31

/-- WRAP crossing since the previous tick (R510). -/
def wrapSeen (s : State) : Bool := !s.tb.stepped && topBit s.tb.prevNow && !topBit (workTime s)

/-- HALF crossing since the previous tick (R510). -/
def halfSeen (s : State) : Bool := !s.tb.stepped && !topBit s.tb.prevNow && topBit (workTime s)

/-- One CLK_TB tick: the domains advance, and elapsed time by what working time advances (R505 steps 1 and 6, R507, R509). -/
def tick (s : State) : State :=
  let old := workTime s
  let s0 := match s.tb.follow with
    | some t => { s with tb := { s.tb with follow := some (followTick (Config.freeValue s.freeCtr) t) }, freeCtr := s.freeCtr + 1 }
    | none => s
  let s1 : State := { s0 with tb := { s0.tb with
      a := s.tb.a.tick (regGet s (Reg.TB_DOM_RATE 0)), b := s.tb.b.tick (regGet s (Reg.TB_DOM_RATE 1)) } }
  { s1 with tb := { s1.tb with
      ticks := s.tb.ticks + 1
      decayCtr := s.tb.decayCtr + 1
      elapsed := s.tb.elapsed + (workTime s1 + 2 ^ 32 - old) % 2 ^ 32
      wrapDue := s.tb.wrapDue || wrapSeen s
      halfDue := s.tb.halfDue || halfSeen s
      prevNow := old
      stepped := false } }

/-- The partition that owns the timebase's CTRL page. -/
def tbOwner (s : State) : Nat := (pageOwner s Reg.TB_CTRL).getD 0

/-- Raise timebase event `i`: the EVENT bit is set, and an enabled one sends its MSI at every occurrence (R790). -/
def tbEvent (i : Nat) (s : State) : State :=
  let s1 := regPut s Reg.TB_EVENT (regGet s Reg.TB_EVENT ||| BitVec.ofNat 32 (2 ^ i))
  if regBit s1 Reg.TB_IRQ (8 + i) then msi s1 (tbOwner s1) (regFld s1 Reg.TB_IRQ 0 4) else s1

/-- A step of working time by `v` ns: recorded, STEP raised, every age channel's ARRIVE moved with it (R507, R510, R521); the
twin learns of it in the next TIME flit (R667). -/
def workStep (v : Int) (s : State) : State :=
  let s1 := regPut s Reg.TB_STEP_LAST (BitVec.ofInt 32 v)
  let s2 := (List.range 64).foldl (fun s a =>
    regPut s (Reg.SAFETY_AGE_ARRIVE a) (regGet s (Reg.SAFETY_AGE_ARRIVE a) + BitVec.ofInt 32 v)) s1
  tbEvent 2 { s2 with tb := { s2.tb with stepped := true, carry := s2.tb.carry + v } }

/-- Change the bridge other than by decay: the decay counter restarts (R515, R516). -/
def bridgePut (v : Int) (s : State) : State := { s with tb := { s.tb with bridge := wrap32 v, decayCtr := 0 } }

/-- Select a domain: the bridge keeps working time continuous (R515). While working time follows a twin the bridge is not in use
(R539). -/
def selectDom (d : Nat) (s : State) : State :=
  let w := workTime s
  let s1 := { s with tb := { s.tb with selB := decide (d = 1) } }
  tbEvent 3 (if s.tb.follow.isSome then s1 else bridgePut ((w : Int) - (domGet s1 d).time) s1)

/-- Stop following the twin and go on from domain `d`, without a step (R515, R668, R670). -/
def leaveFollow (d : Nat) (s : State) : State :=
  match s.tb.follow with
  | some t =>
    let s1 := { s with tb := { s.tb with follow := none, selB := decide (d = 1) } }
    let s2 := bridgePut ((t.1 : Int) - (domGet s1 d).time) s1
    if s1.tb.selB = s.tb.selB then s2 else tbEvent 3 s2
  | none => s

/-- The selected domain has become invalid: with AUTO, or on a joined primary, a valid other domain is selected (R514, R668). -/
def autoSwitch (d : Nat) (s : State) : State :=
  if decide (selDom s = d) && (regBit s Reg.TB_CTRL 31 || joinedPrimary s) && (domGet s (1 - d)).valid then selectDom (1 - d) s else s

/-- A domain becomes invalid with the LOSS event (R512). -/
def loseDom (d : Nat) (s : State) : State :=
  autoSwitch d (tbEvent (4 + d) (domPut s d { domGet s d with valid := false }))

/-- A step of a domain by `v` ns. -/
def domStep (d : Nat) (v : Int) (s : State) : State :=
  domPut s d { domGet s d with time := (((domGet s d).time : Int) + v) % (2 ^ 32 : Int) |>.toNat }

end Sys2Proof.Machine
end

