-- ==== Sys2Proof/Machine/ExecTime.lean ====
section
/-!
DEFINITION. The commands of the timebase (chapter 13): domains, steps, events, timestamp queues, captures and pulses.
-/

namespace Sys2Proof.Machine

/-! Domains and steps. -/

/-- A valid domain's timeout has expired (R512). -/
def domLoss (d : Nat) (s : State) : State :=
  let t := regFld s (Reg.TB_DOM_CFG d) 0 16
  if (domGet s d).valid && decide (t ≠ 0) && decide ((domGet s d).syncNs + t * 1000000 ≤ s.tb.elapsed) then
    loseDom d (raise 0x0E3 none d s)
  else s

/-- TB_DOMAIN_LOSS (R512). -/
def execTbDomainLoss (d : Nat) (s : State) : Host.Outcome State Fault Refusal :=
  if d < 2 then .next (domLoss d s) else .fault .absentUnit

/-- SYNC makes a domain valid, ends its acquisition and restarts its timeout (R512, R513); a joined primary goes back to domain A
(R668). -/
def domSync (d : Nat) (s : State) : State :=
  let s1 := domPut s d { domGet s d with valid := true, acq := false, syncNs := s.tb.elapsed }
  if joinedPrimary s1 && decide (d = 0) && s1.tb.selB then selectDom 0 s1 else s1

/-- TB_DOM_SYNC (R512). -/
def execTbDomSync (init d : Nat) (s : State) : Host.Outcome State Fault Refusal :=
  if d < 2 then .next (asInit init (Reg.TB_DOM_SYNC d) true (domSync d) s) else .fault .absentUnit

/-- DROP makes a valid domain invalid (R512). -/
def domDrop (d : Nat) (s : State) : State := if (domGet s d).valid then loseDom d s else s

/-- TB_DOM_DROP (R512). -/
def execTbDomDrop (init d : Nat) (s : State) : Host.Outcome State Fault Refusal :=
  if d < 2 then .next (asInit init (Reg.TB_DOM_SYNC d) true (domDrop d) s) else .fault .absentUnit

/-- A SEL write (R514): the selected domain requests nothing, an invalid one raises SELREF. -/
def selWrite (d : Nat) (s : State) : State :=
  if selDom s = d then s else if (domGet s d).valid then selectDom d s else tbEvent 7 s

/-- TB_CTRL_SEL (R514). SEL is an RWL field (R355). -/
def execTbCtrlSel (init d : Nat) (s : State) : Host.Outcome State Fault Refusal :=
  if d < 2 then .next (asInit init Reg.TB_CTRL true (fun s => if pageLocked s Reg.TB_CTRL then s else selWrite d s) s)
  else .fault .absentUnit

/-- TB_DOM_STEP (R517, R518): the last request before the tick. -/
def execTbDomStep (init d : Nat) (v : Word32) (s : State) : Host.Outcome State Fault Refusal :=
  if d < 2 then
    .next (asInit init (Reg.TB_DOM_STEP d) true (fun s => domPut s d { domGet s d with step := some v.toInt }) s)
  else .fault .absentUnit

/-- Working time is the selected domain plus the bridge, and domain `d` is selected. -/
def inForce (s : State) (d : Nat) : Bool := decide (selDom s = d) && s.tb.follow.isNone

/-- Decide a step request (R517). -/
def applyStep (d : Nat) (v : Int) (s : State) : State :=
  if v = 0 then s
  else if (domGet s d).acq then
    if inForce s d then workStep v (domStep d v s) else domStep d v s
  else if v.natAbs ≤ regFld s Reg.TB_JUMP_LIMIT 0 20 then
    if inForce s d then bridgePut (s.tb.bridge - v) (domStep d v s) else domStep d v s
  else raise 0x0E2 none (BitVec.ofInt 32 v).toNat (cntInc (tbEvent 6 s) Reg.TB_JUMP_CNT)

/-- UNSEALED_STEP_APPLY (R505 step 2, R517). -/
def execUnsealedStepApply (d : Nat) (s : State) : Host.Outcome State Fault Refusal :=
  if d < 2 then
    .next (match (domGet s d).step with
      | some v => applyStep d v (domPut s d { domGet s d with step := none })
      | none => s)
  else .fault .absentUnit

/-- Apply a forced step, whatever its size (R519). -/
def applyForce (target : Nat) (v : Int) (s : State) : State :=
  if v = 0 then s
  else if target = 0 then workStep v (bridgePut (s.tb.bridge + v) s)
  else if inForce s (target - 1) then workStep v (domStep (target - 1) v s)
  else domStep (target - 1) v s

/-- FORCE_STEP_APPLY (R505 step 3, R519): the accepted forced steps apply and their dowels complete. -/
def execForceStepApply (s : State) : Host.Outcome State Fault Refusal :=
  .next (s.tb.forces.foldl (fun s f => completeDowel raise f.slot .doneOk 0 (applyForce f.target f.amount s))
    { s with tb := { s.tb with forces := [] } })

/-- BRIDGE_DECAY_STEP (R505 step 5, R516): 1 ns toward zero. -/
def execBridgeDecayStep (s : State) : Host.Outcome State Fault Refusal :=
  .next
    (if s.tb.follow.isNone && decide (s.tb.bridge ≠ 0) && decide (regFld s Reg.TB_DECAY 0 20 ≤ s.tb.decayCtr) then
      if 0 < s.tb.bridge then
        { s with tb := { s.tb with bridge := s.tb.bridge - 1, decayCtr := 0, elapsed := s.tb.elapsed - 1 } }
      else { s with tb := { s.tb with bridge := s.tb.bridge + 1, decayCtr := 0, elapsed := s.tb.elapsed + 1 } }
    else s)

/-- WRAP (R510): once for each crossing. -/
def execWrap (s : State) : Host.Outcome State Fault Refusal :=
  .next
    (if s.tb.wrapDue then tbEvent 0 { s with tb := { s.tb with wrapDue := false } }
     else if wrapSeen s then tbEvent 0 { s with tb := { s.tb with prevNow := workTime s } }
     else s)

/-- HALF (R510). -/
def execHalf (s : State) : Host.Outcome State Fault Refusal :=
  .next
    (if s.tb.halfDue then tbEvent 1 { s with tb := { s.tb with halfDue := false } }
     else if halfSeen s then tbEvent 1 { s with tb := { s.tb with prevNow := workTime s } }
     else s)

/-! Timestamp queues (R523, R524). -/

/-- Word 0 of a timestamp record as popped. -/
def tsWord0 (r : TsRec) : Word32 := BitVec.ofNat 32 (2 ^ 31 + r.typ * 2 ^ 24 + r.domain * 2 ^ 16 + r.seq)

/-- Pop a queue of a zone port into its latch; the read returns word 0 (R524). -/
def tsPop (port : Nat) (tx : Bool) (s : State) : State :=
  let q := tabGet [] (if tx then s.tb.tstx else s.tb.tsrx) port
  match q with
  | [] => { s with reply := some 0 }
  | r :: t =>
    let tb := { s.tb with tsLatch := tabPut none s.tb.tsLatch (2 * port + (if tx then 1 else 0)) (some r) }
    { s with
      tb := if tx then { tb with tstx := tabPut [] tb.tstx port t } else { tb with tsrx := tabPut [] tb.tsrx port t }
      reply := some ((tsWord0 r).zeroExtend 64) }

/-- TB_TS_RECORD_POP (R524). -/
def execTbTsRecordPop (init port : Nat) (tx : Bool) (s : State) : Host.Outcome State Fault Refusal :=
  if port < 4 then .next (asInit init (if tx then Reg.TB_TSTX0 port else Reg.TB_TSRX0 port) false (tsPop port tx) s)
  else .fault .absentUnit

/-- Push a timestamp record of an event message on an enabled zone port (R523): ING_LAT is subtracted on receive, EGR_LAT added on
transmit. -/
def tsPush (port : Nat) (tx : Bool) (typ domain seq : Nat) (s : State) : State :=
  let cfg := Reg.TB_TS_CFG port
  if !regBit s cfg 31 then s
  else
    let off := fun (t : Nat) => if tx then (t + regFld s cfg 16 12) % 2 ^ 32 else (t + 2 ^ 32 - regFld s cfg 0 12) % 2 ^ 32
    let r : TsRec := { typ := typ, domain := domain, seq := seq, tsa := off s.tb.a.time, tsb := off s.tb.b.time }
    let q := tabGet [] (if tx then s.tb.tstx else s.tb.tsrx) port
    if 16 ≤ q.length then cntInc s (if tx then Reg.TB_TSTX_LOST port else Reg.TB_TSRX_LOST port)
    else if tx then { s with tb := { s.tb with tstx := tabPut [] s.tb.tstx port (q ++ [r]) } }
    else { s with tb := { s.tb with tsrx := tabPut [] s.tb.tsrx port (q ++ [r]) } }

/-! Captures (R525–R527). -/

/-- A capture input. -/
def tcapGet (s : State) (n : Nat) : TcapSt := tabGet {} s.tb.tcap n

/-- Replace a capture input. -/
def tcapPut (s : State) (n : Nat) (x : TcapSt) : State := { s with tb := { s.tb with tcap := tabPut {} s.tb.tcap n x } }

/-- An edge that an input captures: stamped, queued or lost, and its MSI (R525, R526). -/
def tcapTake (n : Nat) (rise : Bool) (s : State) : State :=
  let x := tcapGet s n
  let r : TcapRec := { stamp := (workTime s + 2 ^ 32 - 8) % 2 ^ 32, rise := rise, ns := s.tb.elapsed }
  let y := { x with last := some (r.stamp, r.ns) }
  let s1 := if 8 ≤ x.queue.length then cntInc (tcapPut s n y) (Reg.TCAP_LOST n) else tcapPut s n { y with queue := x.queue ++ [r] }
  match ownerBy (fun p => ownsTcap s1 p n) with
  | some p => if regBit s1 (Reg.TCAP_CFG n) 30 then msi s1 p (regFld s1 (Reg.TCAP_CFG n) 0 4) else s1
  | none => s1

/-- A change of an input's level between samples (R525). -/
def tcapEdge (n : Nat) (rise : Bool) (s : State) : State :=
  let x := tcapGet s n
  if x.level = rise then s
  else
    let s1 := tcapPut s n { x with level := rise }
    let e := regFld s1 (Reg.TCAP_CFG n) 4 2
    if regBit s1 (Reg.TCAP_CFG n) 31 && e.testBit (if rise then 0 else 1) then tcapTake n rise s1 else s1

/-- TCAP_EDGE (R525). -/
def execTcapEdge (n : Nat) (rise : Bool) (s : State) : Host.Outcome State Fault Refusal :=
  if n < 16 then .next (tcapEdge n rise s) else .fault .absentUnit

/-- TCAP_HEAD as a pop returns it. -/
def tcapWord (r : TcapRec) (left : Nat) : Word32 :=
  BitVec.ofNat 32 (2 ^ 31 + bitN r.aged 30 + bitN r.rise 29 + left)

/-- Pop the head of an input's queue (R526). -/
def tcapPop (n : Nat) (s : State) : State :=
  let x := tcapGet s n
  match x.queue with
  | [] => { s with reply := some 0 }
  | r :: t => { tcapPut s n { x with queue := t, latch := some r } with reply := some ((tcapWord r t.length).zeroExtend 64) }

/-- TCAP_HEAD_READ (R526). -/
def execTcapHeadRead (init n : Nat) (s : State) : Host.Outcome State Fault Refusal :=
  if n < 16 then .next (asInit init (Reg.TCAP_HEAD n) false (tcapPop n) s) else .fault .absentUnit

/-- TCAP_AGED (R527): unread records that are 2^31 ns old. -/
def execTcapAged (n : Nat) (s : State) : Host.Outcome State Fault Refusal :=
  if n < 16 then
    let x := tcapGet s n
    .next (tcapPut s n { x with queue := x.queue.map (fun r =>
      if r.ns + 2 ^ 31 ≤ s.tb.elapsed then { r with aged := true } else r) })
  else .fault .absentUnit

/-! Pulse outputs (R528–R531). -/

/-- A pulse output. -/
def tpulseGet (s : State) (n : Nat) : TpulseSt := tabGet {} s.tb.tpulse n

/-- Replace a pulse output. -/
def tpulsePut (s : State) (n : Nat) (x : TpulseSt) : State := { s with tb := { s.tb with tpulse := tabPut {} s.tb.tpulse n x } }

/-- Whole periods from a reached target to the first target not reached. -/
def periodsPast (now target period : Nat) : Nat :=
  if reached now target then (now + 2 ^ 32 - target % 2 ^ 32) % 2 ^ 32 / period + 1 else 0

/-- Advance a target by `k` periods. -/
def targetAfter (target period k : Nat) : Nat := (target + k * period) % 2 ^ 32

/-- Writing ARM (R530): a late one-shot fires at the next tick, a late periodic output passes over the targets already reached. -/
def tpulseArm (n : Nat) (s : State) : State :=
  if regBit s (Reg.TPULSE_CFG n) 31 then s
  else
    let start := (regGet s (Reg.TPULSE_START n)).toNat
    let period := (regGet s (Reg.TPULSE_PERIOD n)).toNat
    let late := reached (workTime s) start
    let k := if period = 0 then 0 else periodsPast (workTime s) start period
    let s1 := regPut s (Reg.TPULSE_CFG n)
      (regGet s (Reg.TPULSE_CFG n) ||| BitVec.ofNat 32 (2 ^ 31 + bitN late 29))
    cntAdd (tpulsePut s1 n { tpulseGet s1 n with next := targetAfter start period k, armTick := s.tb.ticks }) (Reg.TPULSE_SKIP n) k

/-- TPULSE_ARM (R528). -/
def execTpulseArm (init n : Nat) (s : State) : Host.Outcome State Fault Refusal :=
  if n < 8 then .next (asInit init (Reg.TPULSE_CFG n) true (tpulseArm n) s) else .fault .absentUnit

/-- An armed output's target is reached: one edge, and the next target (R528, R531). -/
def tpulseFire (n : Nat) (s : State) : State :=
  let x := tpulseGet s n
  if regBit s (Reg.TPULSE_CFG n) 31 && reached (workTime s) x.next && decide (x.armTick < s.tb.ticks) then
    let period := (regGet s (Reg.TPULSE_PERIOD n)).toNat
    let y := { x with
      active := true, endTick := s.tb.ticks + regFld s (Reg.TPULSE_WIDTH n) 0 16, last := some (workTime s, s.tb.elapsed) }
    if period = 0 then
      tpulsePut (regPut s (Reg.TPULSE_CFG n) (setFld (regGet s (Reg.TPULSE_CFG n)) 31 1 0)) n y
    else
      let t := targetAfter x.next period 1
      let k := periodsPast (workTime s) t period
      cntAdd (tpulsePut s n { y with next := targetAfter t period k }) (Reg.TPULSE_SKIP n) k
  else s

/-- TPULSE_FIRE (R528). -/
def execTpulseFire (n : Nat) (s : State) : Host.Outcome State Fault Refusal :=
  if n < 8 then .next (tpulseFire n s) else .fault .absentUnit

/-- TPULSE_WIDTH_END (R528). -/
def execTpulseWidthEnd (n : Nat) (s : State) : Host.Outcome State Fault Refusal :=
  if n < 8 then
    let x := tpulseGet s n
    .next (if x.active && decide (x.endTick ≤ s.tb.ticks) then tpulsePut s n { x with active := false } else s)
  else .fault .absentUnit

end Sys2Proof.Machine
end

