-- ==== Sys2Proof/Machine/NetBytes.lean ====
section
/-!
DEFINITION. Network frames as bytes: the Ethernet frame check sequence, the fields of Ethernet, IPv4, IPv6 and UDP headers (R608–R614,
R628). PRESUMED: the manual names these standards and does not restate their layouts.
-/

namespace Sys2Proof.Machine

/-- One bit of the reflected IEEE 802.3 CRC-32. -/
def fcsBit (c : Word32) : Word32 := if c.getLsbD 0 then (c >>> 1) ^^^ 0xEDB88320#32 else c >>> 1

/-- One byte of it. -/
def fcsByte (c : Word32) (b : Byte) : Word32 := (List.range 8).foldl (fun x _ => fcsBit x) (c ^^^ b.zeroExtend 32)

/-- A frame with its FCS. -/
def withFcs (l : List Byte) : List Byte := l ++ leBytes 4 (l.foldl fcsByte 0xFFFFFFFF#32 ^^^ 0xFFFFFFFF#32).toNat

/-- The frame carries an 802.1Q tag. -/
def ethTagged (l : List Byte) : Bool := decide (beAt l 12 2 = 0x8100)

/-- Where the EtherType after at most one tag stands. -/
def ethTypeOff (l : List Byte) : Nat := if ethTagged l then 16 else 12

/-- The EtherType after at most one tag. -/
def ethType (l : List Byte) : Nat := beAt l (ethTypeOff l) 2

/-- Where the payload begins. -/
def ethBody (l : List Byte) : Nat := ethTypeOff l + 2

/-- VID of a tagged frame. -/
def ethVid (l : List Byte) : Option Nat := if ethTagged l then some (beAt l 14 2 % 4096) else none

/-- PCP; 0 when untagged (R613). -/
def ethPcp (l : List Byte) : Nat := if ethTagged l then beAt l 14 2 / 8192 else 0

/-- A MAC address as a number, its first octet most significant. -/
def macOf (l : List Byte) (o : Nat) : Nat := beAt l o 6

/-- An IPv4 frame without options. -/
def isIp4 (l : List Byte) : Bool := decide (ethType l = 0x0800) && decide (leAt l (ethBody l) 1 = 0x45)

/-- IPv4 fragment offset. -/
def ip4Frag (l : List Byte) : Nat := beAt l (ethBody l + 6) 2 % 8192

/-- IPv4 more-fragments bit. -/
def ip4More (l : List Byte) : Bool := (beAt l (ethBody l + 6) 2).testBit 13

/-- The IPv6 next-header values that are extension headers. -/
def ip6Ext : List Nat := [0, 43, 44, 50, 51, 60, 135, 139, 140, 253, 254]

/-- An IPv6 frame without extension headers. -/
def isIp6 (l : List Byte) : Bool := decide (ethType l = 0x86DD) && !ip6Ext.contains (leAt l (ethBody l + 6) 1)

/-- The leading `n` bits of two numbers of `w` bits agree. -/
def prefixEq (w n a b : Nat) : Bool := decide (a / 2 ^ (w - n) = b / 2 ^ (w - n))

/-- One's complement sum of 16-bit words, folded. -/
def inetSum (l : List Byte) : Nat :=
  let t := ((List.range ((l.length + 1) / 2)).map (fun i => beAt l (2 * i) 2)).sum
  let u := t % 65536 + t / 65536
  u % 65536 + u / 65536

/-- The Internet checksum. -/
def inetCheck (l : List Byte) : Nat := 65535 - inetSum l

end Sys2Proof.Machine
end

