-- ==== Sys2Proof/Machine/Gateway.lean ====
section
/-!
DEFINITION. The gateway's engine (R608–R625): matching, filters and meters, wrapping of CAN frames, queues and copies.
-/

namespace Sys2Proof.Machine

/-- A frame inside the gateway: an Ethernet frame with its FCS, or a CAN frame. -/
inductive GwFrame where
  | eth (l : List Byte)
  | can (f : CanFrame)
  deriving DecidableEq, Repr

/-- Where a frame comes from: a port as INPORTS numbers it, or the host page of a partition. -/
inductive GwIn where
  | port (n : Nat)
  | host (p : Nat)
  deriving DecidableEq, Repr

/-! Matching (R613–R615). -/

/-- An L2 rule's fields. -/
def matchL2 (r l : List Byte) : Bool :=
  let m := leAt r 18 1
  (!m.testBit 0 || decide (macOf l (if m.testBit 1 then 6 else 0) = leAt r 8 6)) &&
    (decide (leAt r 14 2 = 0) || decide (leAt r 14 2 = ethType l)) &&
    (!m.testBit 2 || decide (ethVid l = some (leAt r 16 2 % 4096))) && (!m.testBit 3 || !ethTagged l)

/-- An IPv4 rule's fields. A rule that names a port matches no other protocol and no later fragment. -/
def matchIp4 (r l : List Byte) : Bool :=
  let b := ethBody l
  let proto := leAt l (b + 9) 1
  let lo := beAt r 24 2
  let hi := beAt r 26 2
  let dport := beAt l (b + 22) 2
  let named := decide (beAt r 22 2 ≠ 0) || decide (lo ≠ 0) || decide (hi ≠ 0)
  isIp4 l && prefixEq 32 (leAt r 16 1) (beAt l (b + 12) 4) (beAt r 8 4) && prefixEq 32 (leAt r 17 1) (beAt l (b + 16) 4) (beAt r 12 4) &&
    (decide (leAt r 18 1 = 0) || decide (leAt r 18 1 = proto)) &&
    (!(leAt r 19 1).testBit 0 || decide (ethVid l = some (leAt r 20 2 % 4096))) &&
    (!named ||
      (decide (proto = 6 ∨ proto = 17) && decide (ip4Frag l = 0) &&
        (decide (beAt r 22 2 = 0) || decide (beAt r 22 2 = beAt l (b + 20) 2)) &&
        ((decide (lo = 0) && decide (hi = 0)) || (decide (lo ≤ dport) && decide (dport ≤ hi)))))

/-- An IPv6 rule's fields. -/
def matchIp6 (r l : List Byte) : Bool :=
  let b := ethBody l
  let proto := leAt l (b + 6) 1
  isIp6 l && prefixEq 128 (leAt r 24 1) (beAt l (if (leAt r 25 1).testBit 0 then b + 8 else b + 24) 16) (beAt r 8 16) &&
    (match nfld (leAt r 25 1) 1 2 with | 0 => true | 1 => decide (proto = 6) | 2 => decide (proto = 17) | _ => false) &&
    (decide (beAt r 26 2 = 0) || (decide (proto = 6 ∨ proto = 17) && decide (beAt r 26 2 = beAt l (b + 42) 2)))

/-- A CAN rule's fields. -/
def matchCan (r : List Byte) (f : CanFrame) : Bool :=
  let id := f.id + bitN f.ide 29
  decide ((id ^^^ leAt r 8 4) &&& (leAt r 12 4 % 2 ^ 30) = 0) &&
    (!(leAt r 16 1).testBit 0 || decide (f.fdf = (leAt r 16 1).testBit 1))

/-- A rule of reserved encoding never matches: TC above 8, and prefix lengths above their range. -/
def ruleForm (r : List Byte) : Bool :=
  decide (leAt r 1 1 / 16 ≤ 8) &&
    (match leAt r 0 1 / 16 with
     | 0 | 3 => true
     | 1 => decide (leAt r 16 1 ≤ 32) && decide (leAt r 17 1 ≤ 32)
     | 2 => decide (leAt r 24 1 ≤ 128)
     | _ => false)

/-- A rule matches a frame (R614); its check word is verified at every evaluation. -/
def ruleMatches (src : GwIn) (f : GwFrame) (r : List Byte) : Bool :=
  (leAt r 0 1).testBit 0 && checkOk r && ruleForm r &&
    (match src with | .port n => (leAt r 2 2).testBit n | .host p => (leAt r 4 1).testBit p) &&
    (match f, leAt r 0 1 / 16 with
     | .eth l, 0 => matchL2 r l
     | .eth l, 1 => matchIp4 r l
     | .eth l, 2 => matchIp6 r l
     | .can c, 3 => matchCan r c
     | _, _ => false)

/-- The acting rule: index, bytes, and whether the choice was a tie (R50, R615). -/
def gwActing : List (Nat × List Byte) → Option (Nat × List Byte × Bool)
  | [] => none
  | (i, r) :: t =>
    match gwActing t with
    | none => some (i, r, false)
    | some (j, q, tie) =>
      if nfld (leAt q 0 1) 1 3 < nfld (leAt r 0 1) 1 3 then some (i, r, false)
      else if nfld (leAt q 0 1) 1 3 = nfld (leAt r 0 1) 1 3 then some (i, r, true)
      else some (j, q, tie)

/-! Policing (R622). -/

/-- The bytes that MAXSDU limits: an Ethernet frame without addresses, tag, EtherType and FCS; a CAN frame's data. -/
def sduLen : GwFrame → Nat
  | .eth l => l.length - (ethBody l + 4)
  | .can f => f.data.length

/-- The bytes that a meter counts. -/
def meterLen : GwFrame → Nat
  | .eth l => l.length
  | .can f => f.data.length

/-- The meter's verdict, 0 green, 1 yellow, 2 red, by the colour-blind flow meter of 802.1Q. -/
def meterFrame (m len : Nat) (s : State) : Nat × State :=
  let cir := regFld s (Reg.GW_METER0 m) 0 32
  let eir := regFld s (Reg.GW_METER1 m) 0 32
  let w := regFld s (Reg.GW_METER2 m) 0 32 + 2 ^ 32 * regFld s (Reg.GW_METER3 m) 0 32
  let cbs := nfld w 0 24 * 80000
  let ebs := nfld w 24 24 * 80000
  let b := tabGet {} s.gw.meters m
  let dt := s.tb.elapsed - b.last
  let c := b.c - cir * dt
  let e := b.e - (eir * dt + (if w.testBit 48 then cir * dt - b.c else 0))
  let need := len * 80000
  let put := fun (c e : Nat) => { s with gw := { s.gw with meters := tabPut {} s.gw.meters m { c := c, e := e, last := s.tb.elapsed } } }
  if c + need ≤ cbs then (0, put (c + need) e)
  else if e + need ≤ ebs then (1, put c (e + need))
  else (2, put c e)

/-- Stream filter `k` passes a frame or blocks it (R622). -/
def police (k : Nat) (f : GwFrame) (s : State) : Bool × State :=
  let r := regGet s (Reg.GW_FILTER0 k)
  let st := tabGet {} s.gw.filters k
  let block := st.oversize && bitAt r 22
  let big := decide (fld r 0 16 ≠ 0) && decide (fld r 0 16 < sduLen f)
  let (colour, s1) := if !(block || big) && bitAt r 21 then meterFrame (fld r 16 5) (meterLen f) s else (0, s)
  let drop := block || big || decide (colour = 2) || (decide (colour = 1) && regBit s (Reg.GW_METER3 (fld r 16 5)) 17)
  let st1 : FilterSt := { oversize := bitAt r 22 && (block || big), passed := st.passed + (if drop then 0 else 1),
                          blocked := st.blocked + (if drop then 1 else 0) }
  (!drop, { s1 with gw := { s1.gw with filters := tabPut {} s1.gw.filters k st1 } })

/-! Queues (R611, R618–R620). -/

/-- The egress queue of class `c` of Ethernet port `n`. -/
def egressQ (s : State) (n c : Nat) : List (List Byte) := tabGet [] s.gw.egress (8 * n + c)

/-- Queue a frame on an Ethernet port, or drop and count it (R620). -/
def queueEth (n c : Nat) (l : List Byte) (s : State) : State :=
  if (egressQ s n c).length < 64 then
    { s with gw := { s.gw with egress := tabPut [] s.gw.egress (8 * n + c) (egressQ s n c ++ [l]) } }
  else cntInc s (Reg.GW_PORT_DROP n)

/-- The transmit queue of a CAN controller. -/
def canQ (s : State) (k : Nat) : List CanFrame := tabGet [] s.gw.canTx k

/-- Queue a frame on a CAN controller, or drop and count it. -/
def queueCan (k : Nat) (f : CanFrame) (s : State) : State :=
  if (canQ s k).length < 32 then { s with gw := { s.gw with canTx := tabPut [] s.gw.canTx k (canQ s k ++ [f]) } }
  else cntInc s (Reg.GW_CAN_DROP k)

/-- The 16-byte tunnel header (R618). -/
def tunnelHead (k stamp : Nat) (f : CanFrame) : List Byte :=
  leBytes 4 (f.id + bitN f.ide 29 + bitN f.fdf 30 + bitN f.brs 31) ++ leBytes 1 (f.dlc + bitN f.esi 4 + bitN f.rtr 5) ++
    leBytes 1 k ++ leBytes 2 f.data.length ++ leBytes 4 stamp ++ leBytes 4 0

/-- A CAN frame as an Ethernet frame of port `n` (R618). -/
def wrapCan (s : State) (n k stamp : Nat) (f : CanFrame) : List Byte :=
  let l := beBytes 6 (pairGet s Reg.GW_CANTUN_DMAC) ++ beBytes 6 (pairGet s (Reg.GW_PORT_MAC n)) ++
    beBytes 2 (regFld s Reg.GW_CANTUN 0 16) ++ tunnelHead k stamp f ++ f.data
  withFcs (l ++ List.replicate (60 - l.length) 0)

/-- The data length of a DLC (ISO 11898-1). -/
def dlcLen (fdf : Bool) (dlc : Nat) : Nat :=
  if fdf then [0, 1, 2, 3, 4, 5, 6, 7, 8, 12, 16, 20, 24, 32, 48, 64].getD dlc 0 else min dlc 8

/-- The CAN frame that an Ethernet frame describes; none when the gateway discards it (R619). -/
def unwrapCan (s : State) (l : List Byte) : Option CanFrame :=
  let b := ethBody l
  let w := leAt l b 4
  let x := leAt l (b + 4) 1
  let n := leAt l (b + 6) 2
  let fdf := w.testBit 30
  if decide (ethType l = regFld s Reg.GW_CANTUN 0 16) && decide (b + 16 + n + 4 ≤ l.length) && (fdf || decide (nfld x 0 4 ≤ 8)) &&
      !(x.testBit 5 && fdf) && decide (n = if x.testBit 5 then 0 else dlcLen fdf (nfld x 0 4)) then
    some { id := nfld w 0 29, ide := w.testBit 29, fdf := fdf, brs := w.testBit 31, esi := x.testBit 4, rtr := x.testBit 5,
           dlc := nfld x 0 4, data := bytesAt l (b + 16) n }
  else none

/-- The CAN controller a frame came from, for its tunnel header. -/
def GwIn.can : GwIn → Nat
  | .port n => n - 8
  | .host _ => 0

/-- Forward a frame to one output port (R616, R618, R619). -/
def forwardTo (src : GwIn) (f : GwFrame) (tc stamp : Nat) (s : State) (n : Nat) : State :=
  match f with
  | .eth l =>
    if n < 5 then queueEth n tc l s
    else if 8 ≤ n then
      match unwrapCan s l with
      | some c => queueCan (n - 8) c s
      | none => cntInc s (Reg.GW_CAN_DROP (n - 8))
    else s
  | .can c => if n < 5 then queueEth n tc (wrapCan s n src.can stamp c) s else if 8 ≤ n then queueCan (n - 8) c s else s

/-! Copies (R624, R625). -/

/-- Deliver a copy to partition `p`. -/
def copyTo (src : GwIn) (f : GwFrame) (p rule stamp : Nat) (s : State) : State :=
  let drop := cntInc s (Reg.GW_RX_DROP p)
  let size := 2 ^ regFld s (Reg.GW_RX_CFG p) 0 4
  let pi := tabGet 0 s.gw.rxPI p
  let recs := tabGet [] s.gw.rxRecs p
  if s.safety.stopped.getLsbD p || !regBit s (Reg.GW_RX_CFG p) 31 ||
      decide ((pi + 512 - regFld s (Reg.GW_RX_CI p) 0 9) % 512 = size) || decide (256 ≤ recs.length) then drop
  else
    let l := match f with | .eth l => l | .can c => tunnelHead src.can stamp c ++ c.data
    match unitWrite 0x73 p 7 (pairGet s (Reg.GW_RX_BASE p) % 2 ^ 48 + pi % size * 2048) l s with
    | (false, s1) => cntInc s1 (Reg.GW_RX_DROP p)
    | (true, s1) =>
      let x : RxRec := { port := match src with | .port n => n | .host _ => 16, rule := rule, len := l.length, stamp := stamp }
      { s1 with gw := { s1.gw with
          rxPI := tabPut 0 s1.gw.rxPI p ((pi + 1) % 512), rxRecs := tabPut [] s1.gw.rxRecs p (recs ++ [x]) } }

/-! The acting rule's actions (R616). -/

/-- Forward and copy by rule `i`, once the filter has passed the frame. -/
def actOn (src : GwIn) (f : GwFrame) (i : Nat) (r : List Byte) (s : State) : State :=
  let a := leAt r 1 1
  let stamp := if a.testBit 3 then workTime s else 0
  let tc := if a / 16 = 8 then (match f with | .eth l => ethPcp l | .can _ => 0) else a / 16 % 8
  let outs := (List.range 16).filter (fun n => (leAt r 5 2).testBit n && decide (src ≠ .port n))
  let s1 := if a.testBit 0 then outs.foldl (forwardTo src f tc stamp) s else s
  if a.testBit 1 then copyTo src f (nfld (leAt r 7 1) 0 3) i stamp s1 else s1

/-- Match a frame and apply the acting rule's actions (R615, R616). -/
def gwHandle (src : GwIn) (f : GwFrame) (s : State) : State :=
  match gwActing (s.gw.rules.filter (fun e => ruleMatches src f e.2)) with
  | none => cntInc s Reg.GW_MISS_CNT
  | some (i, r, tie) =>
    let s1 := if tie then cntInc s Reg.GW_TIE else s
    if (leAt r 1 1).testBit 2 then
      match police (leAt r 7 1 / 8) f s1 with
      | (true, s2) => actOn src f i r s2
      | (false, s2) => s2
    else actOn src f i r s1

/-! Time stamps (R522, R523). -/

/-- Push the record of a gPTP event message on a zone port. -/
def ptpStamp (port : Nat) (tx : Bool) (l : List Byte) (s : State) : State :=
  let b := ethBody l
  if port < 4 ∧ ethType l = 0x88F7 ∧ leAt l b 1 % 16 < 4 then
    tsPush port tx (leAt l b 1 % 16) (leAt l (b + 4) 1) (beAt l (b + 30) 2) s
  else s

end Sys2Proof.Machine
end

