-- ==== Sys2Proof/Machine/Seal.lean ====
section
/-!
DEFINITION. The seal unit (R626–R642): input buffers, the tests of a frame, responses, and the dowels of accepted commands.
-/

namespace Sys2Proof.Machine

/-- The boot epoch has been drawn (R641); it is never 0 (R631). -/
def epochDrawn (s : State) : Bool := decide (regGet s Reg.SEAL_EPOCH ≠ 0)

/-! Responses (R627). -/

/-- A response frame. -/
def sealResponse (s : State) (cmd status handle : Nat) (payload : List Byte) : List Byte :=
  withCheck (leBytes 1 1 ++ leBytes 1 cmd ++ leBytes 1 status ++ leBytes 1 0 ++ leBytes 2 payload.length ++ leBytes 2 0 ++
    leBytes 4 handle ++ leBytes 4 (regGet s Reg.SEAL_EPOCH).toNat ++ payload)

/-- A reply datagram in its Ethernet frame, from SEAL_MAC, SEAL_IP4 and port 47,615. The manual leaves open the service field, the
identification and the time to live: they are taken from `free`. -/
def sealDatagram (s : State) (f : SealFrame) (free : Nat) (body : List Byte) : List Byte :=
  let src := beBytes 4 (regGet s Reg.SEAL_IP4).toNat
  let dst := beBytes 4 f.ip
  let udp := beBytes 2 47615 ++ beBytes 2 f.port ++ beBytes 2 (8 + body.length)
  let sum := inetCheck (src ++ dst ++ beBytes 2 17 ++ beBytes 2 (8 + body.length) ++ udp ++ beBytes 2 0 ++ body)
  let a := beBytes 1 0x45 ++ beBytes 1 (nfld free 0 8) ++ beBytes 2 (28 + body.length) ++ beBytes 2 (nfld free 8 16) ++ beBytes 2 0 ++
    beBytes 1 (nfld free 24 8) ++ beBytes 1 17
  let l := f.mac ++ beBytes 6 (pairGet s Reg.SEAL_MAC) ++ beBytes 2 0x0800 ++ a ++ beBytes 2 (inetCheck (a ++ beBytes 2 0 ++ src ++ dst)) ++
    src ++ dst ++ udp ++ beBytes 2 (if sum = 0 then 0xFFFF else sum) ++ body
  withFcs (l ++ List.replicate (60 - l.length) 0)

/-- Send a response to the frame's source (R610, R627, R628). The egress class of a datagram is a free value. -/
def sealDeliver (f : SealFrame) (rsp : List Byte) (s : State) : State :=
  if f.src = 0 then { s with sealU := { s.sealU with supRsp := rsp } }
  else if f.src = 5 then
    regPut { s with sealU := { s.sealU with swRsp := rsp } } Reg.SEAL_SW_STAT (BitVec.ofNat 32 (2 ^ 31 + rsp.length))
  else
    let (v, s1) := takeFree s
    queueEth (f.src - 1) (nfld v.toNat 32 3) (sealDatagram s1 f v.toNat rsp) s1

/-- Answer a frame. -/
def sealAnswer (f : SealFrame) (status handle : Nat) (payload : List Byte) (s : State) : State :=
  sealDeliver f (sealResponse s (leAt f.bytes 1 1) status handle payload) s

/-- Reject a frame (R632). -/
def sealReject (f : SealFrame) (code : Nat) (s : State) : State :=
  sealAnswer f code 0 [] (raise 0x0E1 none (f.src * 256 + code) (cntInc s Reg.SEAL_REJ_CNT))

/-! Arrival (R628, R629). -/

/-- The input buffers by source: 0 SUP, 1 ZONE, 2 SW. -/
def sealBuf (s : State) (k : Nat) : Option SealFrame := match k with | 0 => s.sealU.sup | 1 => s.sealU.zone | _ => s.sealU.sw

/-- Replace an input buffer. -/
def sealBufPut (s : State) (k : Nat) (f : Option SealFrame) : State :=
  { s with sealU := match k with
    | 0 => { s.sealU with sup := f } | 1 => { s.sealU with zone := f } | _ => { s.sealU with sw := f } }

/-- The source of a frame. -/
def SealFrame.buf (f : SealFrame) : Nat := if f.src = 0 then 0 else if f.src = 5 then 2 else 1

/-- A frame arrives at its source's buffer; a full one answers BUSY. -/
def sealArrive (f : SealFrame) (s : State) : State :=
  match sealBuf s f.buf with
  | none => sealBufPut s f.buf (some f)
  | some _ => sealReject f 0x09 s

/-- The sealed datagram that a frame on zone port `n` carries (R628). -/
def sealDatagramOf (s : State) (n : Nat) (l : List Byte) : Option SealFrame :=
  let b := ethBody l
  if isIp4 l && decide (leAt l (b + 9) 1 = 17) && decide (ip4Frag l = 0) && !ip4More l &&
      decide (beAt l (b + 16) 4 = (regGet s Reg.SEAL_IP4).toNat) && decide (beAt l (b + 22) 2 = 47615) then
    some { src := n + 1, bytes := (l.drop (b + 28)).take (beAt l (b + 24) 2 - 8), mac := bytesAt l 6 6, ip := beAt l (b + 12) 4,
           port := beAt l (b + 20) 2 }
  else none

/-! The tests of a frame (R632). -/

/-- A critical command. -/
def sealCritical (c : Nat) : Bool := decide (1 ≤ c) && decide (c ≤ 10)

/-- The payload lengths of a command (R634); none for a reserved one. -/
def sealPaylen (c : Nat) : List Nat :=
  match c with
  | 1 => [516, 532, 132] | 2 => [8] | 3 => [0] | 4 => [8] | 5 => [4] | 6 => [16] | 7 => [4] | 8 => [8] | 9 => [4] | 10 => [4]
  | 0x20 => [8] | 0x21 => [0] | 0x22 => [4] | _ => []

/-- The reserved bytes of a payload, as (offset, length), of a command whose own refusals do not name them. -/
def sealZeros (c : Nat) : List (Nat × Nat) :=
  match c with | 1 => [(2, 2)] | 5 => [(1, 3)] | 7 => [(1, 3)] | 9 => [(2, 2)] | 10 => [(1, 3)] | _ => []

/-- FORMAT. -/
def sealFormatOk (l : List Byte) : Bool :=
  let c := leAt l 1 1
  decide (leAt l 0 1 = 1) && decide (leAt l 2 1 < 8) && decide (leAt l 6 2 = 0) && (sealPaylen c).contains (leAt l 4 2) &&
    (sealZeros c).all (fun z => decide (leAt l (16 + z.1) z.2 = 0)) && (decide (c ≠ 5) || decide (leAt l 16 1 = 1)) &&
    (sealCritical c || decide (leAt l 8 8 = 0))

/-- KEY: the slot may authorise the command from the source (R630). -/
def sealKeyOk (s : State) (f : SealFrame) : Bool :=
  let c := leAt f.bytes 1 1
  let a := regGet s (Reg.SEAL_KEY_ATTR (leAt f.bytes 2 1 % 8))
  bitAt a 31 && !bitAt a 30 && bitAt a (24 + f.buf) && bitAt a (if c = 0x20 then 10 else c - 1)

/-- A key slot's key. -/
def sealKey (s : State) (k : Nat) : List Byte := tabGet (List.replicate 16 0) s.sealU.keys k

/-- The first failing test up to TAG, in order; 0 when all pass. -/
def sealTest (s : State) (f : SealFrame) : Nat :=
  let l := f.bytes
  let c := leAt l 1 1
  let n := leAt l 4 2
  let k := leAt l 2 1 % 8
  if l.length < 20 ∨ 576 < l.length ∨ l.length ≠ 20 + n + leAt l 3 1 then 0x01
  else if !checkOk l then 0x02
  else if !sealFormatOk l then 0x03
  else if leAt l 3 1 ≠ (if sealCritical c then 8 else 0) then 0x04
  else if sealCritical c ∧ (regFld s Reg.GLOBAL_LIFECYCLE 0 3 = 0 ∨ regFld s Reg.GLOBAL_LIFECYCLE 0 3 = 5) then 0x0B
  else if (sealCritical c ∨ c = 0x20) ∧ sealKeyOk s f = false then 0x05
  else if !sealCritical c then 0
  else if leAt l 8 4 ≠ (regGet s Reg.SEAL_EPOCH).toNat then 0x06
  else if leAt l 12 4 ≤ (regGet s (Reg.SEAL_LASTSEQ k)).toNat then 0x07
  else if bytesAt l (16 + n) 8 ≠ cmacTag (sealKey s k) (l.take (16 + n)) then 0x08
  else 0

/-- Accept a frame: the command waits for its effect. -/
def sealAccept (f : SealFrame) (slot : Nat) (s : State) : State :=
  let s1 := cntInc s Reg.SEAL_ACC_CNT
  { s1 with sealU := { s1.sealU with
      accepted := some { frame := f, payload := bytesAt f.bytes 16 (leAt f.bytes 4 2), slot := slot } } }

/-- Remember a dowel of the seal unit among its last 16 (R634). -/
def sealRemember (handle : Nat) (s : State) : State :=
  let l := s.sealU.recent ++ [{ handle := handle }]
  { s with sealU := { s.sealU with recent := l.drop (l.length - 16) } }

/-- Authentication sets LASTSEQ (R631); the dowel is charged to P0 (R632, R633). -/
def sealAuth (f : SealFrame) (s : State) : State :=
  let s1 := regPut s (Reg.SEAL_LASTSEQ (leAt f.bytes 2 1 % 8)) (BitVec.ofNat 32 (leAt f.bytes 12 4))
  let (v, s2) := takeFree s1
  match allocDowel s2 (sealedDowel (.sealed (leAt f.bytes 1 1)) (bytesAt f.bytes 16 (leAt f.bytes 4 2)) v) with
  | none => sealReject f 0x0A s2
  | some (slot, s3) => sealAnswer f 0 (handleOf s3 slot) [] (sealRemember (handleOf s3 slot) (sealAccept f slot s3))

/-- Test a frame that the unit has taken. -/
def sealProcess (f : SealFrame) (s : State) : State :=
  match sealTest s f with
  | 0 => if sealCritical (leAt f.bytes 1 1) then sealAuth f s else sealAccept f 0 s
  | c => sealReject f c s

/-- The source next in rotation that holds a frame (R52, R629). -/
def sealNext (s : State) : Option Nat :=
  ((rangeFrom (s.sealU.last + 1) 3).map (· % 3)).find? (fun k => (sealBuf s k).isSome)

/-! Effects. -/

/-- Begin the effect of the accepted command of code `c`, if it is the one that waits. -/
def sealRun (c : Nat) (eff : SealCmd → State → State) (s : State) : State :=
  match s.sealU.accepted with
  | some x => if leAt x.frame.bytes 1 1 = c then eff x { s with sealU := { s.sealU with accepted := none } } else s
  | none => s

/-- Complete the dowel of a sealed command: code 0 is DONE_OK (R633, R634). -/
def sealDone (slot code : Nat) (s : State) : State :=
  completeDowel raise slot (if code = 0 then .doneOk else .doneFault) code s

end Sys2Proof.Machine
end

