-- ==== Sys2Proof/Machine/ExecGateway.lean ====
section
/-!
DEFINITION. The commands of the gateway (chapter 16).
-/

namespace Sys2Proof.Machine

/-! Reception. -/

/-- A frame on an enabled Ethernet port: lengths out of range are dropped (R609), event messages stamped (R523), sealed datagrams
taken (R628, R641), the rest matched. -/
def ethReceive (n : Nat) (l : List Byte) (s : State) : State :=
  if !regBit s (Reg.GW_PORT_CFG n) 31 then s
  else if l.length < 64 ∨ 2000 < l.length then cntInc s (Reg.GW_PORT_DROP n)
  else
    let s1 := ptpStamp n false l s
    match (if n < 4 ∧ regBit s1 Reg.SEAL_SRC_CFG n = true then sealDatagramOf s1 n l else none) with
    | some f => if epochDrawn s1 then sealArrive f s1 else s1
    | none => gwHandle (.port n) (.eth l) s1

/-- ETHERNET_FRAME_RECEIVE (R615): a frame with its FCS on ZONE0–ZONE3 (0–3) or MGMT (4). -/
def execEthernetFrameReceive (port : Nat) (l : List Byte) (s : State) : Host.Outcome State Fault Refusal :=
  if port < 5 then .next (ethReceive port l s) else .fault .absentUnit

/-- A CAN controller takes part in its bus. -/
def canOn (s : State) (k : Nat) : Bool := regBit s (Reg.GW_CAN_CTRL k) 31 && !regBit s (Reg.GW_CAN_STAT k) 24

/-- A frame received without error lowers REC (ISO 11898-1: by 1, and from above 127 to 127). -/
def canReceived (k : Nat) (s : State) : State :=
  let rec' := regFld s (Reg.GW_CAN_STAT k) 8 8
  regSetFld s (Reg.GW_CAN_STAT k) 8 8 (if 127 < rec' then 127 else rec' - 1)

/-- CAN_FRAME_RECEIVE (R615). -/
def execCanFrameReceive (k : Nat) (f : CanFrame) (s : State) : Host.Outcome State Fault Refusal :=
  if k < 8 then .next (if canOn s k then gwHandle (.port (8 + k)) (.can f) (canReceived k s) else s) else .fault .absentUnit

/-! Host frames (R623). -/

/-- The frames queued by a partition. -/
def hostQ (s : State) (p : Nat) : List (Nat × Nat) := tabGet [] s.gw.hostTx p

/-- The length write commits the pair and queues the frame; a full queue sets FULL, and a STOPPED partition's write is discarded
(R625). -/
def hostSend (init p : Nat) (v : Word32) (s : State) : State :=
  if s.safety.stopped.getLsbD p then s
  else
    tryWrite (Reg.GW_TX_CMD p) v (fun s =>
      if 32 ≤ (hostQ s p).length then regSetFld s (Reg.GW_TX_STAT p) 31 1 1
      else
        let a := Reg.GW_TX_ADDR p
        let word := fun (x : Addr) => ((tabGet none s.staging (init * 2 ^ 48 + x)).getD (regGet s x)).toNat
        let s0 := commitPair s a (word a + 2 ^ 32 * word (a + 4))
        let s1 := { s0 with staging := s0.staging.filter (fun (k, _) => decide (k % 2 ^ 48 ≠ a + 4)) }
        { s1 with gw := { s1.gw with
            hostTx := tabPut [] s1.gw.hostTx p (hostQ s1 p ++ [(pairGet s1 a % 2 ^ 48, fld v 0 11)]) } }) s

/-- GW_TX_CMD (R623). -/
def execGwTxCmd (init p : Nat) (v : Word32) (s : State) : Host.Outcome State Fault Refusal :=
  if p < 8 then .next (asInit init (Reg.GW_TX_CMD p) true (hostSend init p v) s) else .fault .absentUnit

/-- The gateway reads the first queued frame of a partition, adds its FCS and matches it (R609, R623). -/
def hostProcess (p : Nat) (s : State) : State :=
  match hostQ s p with
  | [] => s
  | (a, n) :: t =>
    let s1 := { s with gw := { s.gw with hostTx := tabPut [] s.gw.hostTx p t } }
    match unitRead 0x73 p 7 a n s1 with
    | (some l, s2) => gwHandle (.host p) (.eth (withFcs l)) s2
    | (none, s2) => s2

/-- HOST_FRAME_PROCESS (R623). -/
def execHostFrameProcess (p : Nat) (s : State) : Host.Outcome State Fault Refusal :=
  if p < 8 then .next (hostProcess p s) else .fault .absentUnit

/-- RX_HEAD of a record. -/
def rxHead (x : RxRec) : Word32 := BitVec.ofNat 32 (2 ^ 31 + x.port * 2 ^ 24 + x.rule * 2 ^ 14 + x.len)

/-- Pop a receive record into the latch (R624). -/
def rxPop (p : Nat) (s : State) : State :=
  match tabGet [] s.gw.rxRecs p with
  | [] => { s with reply := some 0 }
  | x :: t =>
    { s with
      gw := { s.gw with rxRecs := tabPut [] s.gw.rxRecs p t, rxLatch := tabPut none s.gw.rxLatch p (some x) }
      reply := some ((rxHead x).zeroExtend 64) }

/-- GW_RX_HEAD_READ (R624). -/
def execGwRxHeadRead (init p : Nat) (s : State) : Host.Outcome State Fault Refusal :=
  if p < 8 then .next (asInit init (Reg.GW_RX_HEAD p) false (rxPop p) s) else .fault .absentUnit

/-! Rules (R617). -/

/-- A write of GW_RULE_CTRL: GO starts a load, or is refused while one runs. FIRST + COUNT above 1,024 is reserved (R39). -/
def ruleCtrl (v : Word32) (s : State) : State :=
  let a := Reg.GW_RULE_CTRL
  if 1024 < fld v 0 10 + fld v 16 11 then cntInc s Reg.GLOBAL_RSVD_CNT
  else
    tryWrite a v (fun s =>
      let s1 := storeFields a v s
      if !bitAt v 31 then s1
      else if s1.gw.load.isSome then regSetFld s1 Reg.GW_RULE_STAT 30 1 1
      else
        { regSetFld s1 Reg.GW_RULE_STAT 31 1 1 with gw := { s1.gw with
            load := some { first := fld v 0 10, count := fld v 16 11, base := pairGet s1 Reg.GW_RULE_LOAD % 2 ^ 48 } } }) s

/-- GW_RULE_LOAD_GO (R617). -/
def execGwRuleLoadGo (init : Nat) (v : Word32) (s : State) : Host.Outcome State Fault Refusal :=
  .next (asInit init Reg.GW_RULE_CTRL true (ruleCtrl (v ||| 0x80000000#32)) s)

/-- A rule that fails its check word is reported. -/
def ruleBad (i : Nat) (s : State) : State :=
  raise 0x0E0 none i (regSetFld (regSetFld s Reg.GW_RULE_STAT 29 1 1) Reg.GW_RULE_STAT 0 10 i)

/-- Install the rules of a load as one version; a refused read ends the load and installs nothing. -/
def ruleCommit (g : GwLoad) (s : State) : State :=
  let s0 := regSetFld { s with gw := { s.gw with load := none } } Reg.GW_RULE_STAT 31 1 0
  match unitRead 0x73 ((pageOwner s0 Reg.GW_RULE_CTRL).getD 0) 7 g.base (32 * g.count) s0 with
  | (none, s1) => s1
  | (some l, s1) =>
    (List.range g.count).foldl (fun s k =>
      let r := bytesAt l (32 * k) 32
      let s2 := { s with gw := { s.gw with rules := tabPut (List.replicate 32 0) s.gw.rules (g.first + k) r } }
      if checkOk r then s2 else ruleBad (g.first + k) s2) s1

/-- GW_RULE_LOAD_COMMIT (R617). -/
def execGwRuleLoadCommit (s : State) : Host.Outcome State Fault Refusal :=
  .next (match s.gw.load with | some g => ruleCommit g s | none => s)

/-! Egress (R620, R621). -/

/-- The gates of a port. -/
def tasGet (s : State) (n : Nat) : TasSt := tabGet {} s.gw.tas n

/-- Replace them. -/
def tasPut (s : State) (n : Nat) (t : TasSt) : State := { s with gw := { s.gw with tas := tabPut {} s.gw.tas n t } }

/-- The time until class `c`'s gate closes along entries that follow; none when it never does. -/
def openFor (c : Nat) : List (Nat × Nat) → Option Nat
  | [] => none
  | (g, t) :: r => if g.testBit c then (openFor c r).map (t + ·) else some 0

/-- Class `c` of port `n` may start a frame that lasts `ns`: its gate is open, and closes no earlier than the frame ends. -/
def gateFits (s : State) (n c ns : Nat) : Bool :=
  let t := tasGet s n
  if !regBit s (Reg.GW_TAS_CTRL n) 31 || decide (4 ≤ n) || t.list.isEmpty then true
  else
    let (g, len) := t.list.getD t.entry (0, 0)
    let rest := t.list.drop (t.entry + 1) ++ t.list.take (t.entry + 1)
    g.testBit c &&
      (match openFor c rest with | none => true | some x => decide (s.tb.elapsed + ns ≤ t.entryNs + len + x))

/-- Nanoseconds a frame takes with its preamble and start delimiter at the port's speed; none when the link is down. -/
def frameNs (s : State) (n : Nat) (l : List Byte) : Option Nat :=
  match regFld s (Reg.GW_PORT_CFG n) 0 3 with
  | 1 => some ((l.length + 8) * 80)
  | 2 => some ((l.length + 8) * 8)
  | 3 => some (((l.length + 8) * 32 + 9) / 10)
  | 4 => some (((l.length + 8) * 16 + 9) / 10)
  | 5 => some (((l.length + 8) * 8 + 9) / 10)
  | _ => none

/-- The class that sends next: the highest whose first frame may start. -/
def sendClass (s : State) (n : Nat) : Option Nat :=
  [7, 6, 5, 4, 3, 2, 1, 0].find? (fun c =>
    match egressQ s n c with
    | [] => false
    | l :: _ => match frameNs s n l with | some ns => gateFits s n c ns | none => false)

/-- An enabled port starts its next frame. -/
def egressSend (n : Nat) (s : State) : State :=
  match (if regBit s (Reg.GW_PORT_CFG n) 31 then sendClass s n else none) with
  | none => s
  | some c =>
    match egressQ s n c with
    | [] => s
    | l :: t =>
      ptpStamp n true l { s with gw := { s.gw with
        egress := tabPut [] s.gw.egress (8 * n + c) t, wire := tabPut [] s.gw.wire n l } }

/-- EGRESS_FRAME_SEND (R620). -/
def execEgressFrameSend (port : Nat) (s : State) : Host.Outcome State Fault Refusal :=
  if port < 5 then .next (egressSend port s) else .fault .absentUnit

/-- Elapsed nanoseconds at which the current entry ends. -/
def entryEnd (t : TasSt) : Nat := t.entryNs + (t.list.getD t.entry (0, 0)).2

/-- A committed list takes over at this cycle start. -/
def takesOver (s : State) (t : TasSt) : Bool := match t.next with | some (_, base) => reached (workTime s) base | none => false

/-- The next entry begins; a cycle start at which a committed list takes over belongs to that list. -/
def gateStep (n : Nat) (s : State) : State :=
  let t := tasGet s n
  let last := decide (t.list.length ≤ t.entry + 1)
  if t.list.isEmpty || decide (s.tb.elapsed < entryEnd t) || (last && takesOver s t) then s
  else tasPut s n { t with entry := if last then 0 else t.entry + 1, entryNs := entryEnd t }

/-- GATE_ENTRY_START (R621). -/
def execGateEntryStart (port : Nat) (s : State) : Host.Outcome State Fault Refusal :=
  if port < 4 then .next (gateStep port s) else .fault .absentUnit

/-- A write of GW_TAS_CTRL: COMMIT copies the first LEN entries of the admin list (R621). -/
def tasCtrl (n : Nat) (v : Word32) (s : State) : State :=
  let a := Reg.GW_TAS_CTRL n
  tryWrite a v (fun s =>
    let s1 := storeFields a v s
    if !bitAt v 30 then s1
    else
      let l := (List.range (fld v 0 9)).map (fun e => (regFld s1 (Reg.GW_TAS_LIST0 n e) 0 8, (regGet s1 (Reg.GW_TAS_LIST1 n e)).toNat))
      regSetFld (tasPut s1 n { tasGet s1 n with next := some (l, (regGet s1 (Reg.GW_TAS_BASE n)).toNat) }) a 29 1 1) s

/-- TAS_COMMIT (R621). -/
def execTasCommit (init port : Nat) (v : Word32) (s : State) : Host.Outcome State Fault Refusal :=
  if port < 4 then .next (asInit init (Reg.GW_TAS_CTRL port) true (tasCtrl port (v ||| 0x40000000#32)) s) else .fault .absentUnit

/-- A committed list becomes operational: at a cycle start of the running list at or after BASE, or at BASE when none runs. -/
def takeOver (n : Nat) (s : State) : State :=
  let t := tasGet s n
  match t.next with
  | none => s
  | some (l, _) =>
    if !takesOver s t then s
    else if t.list.isEmpty then
      regSetFld (tasPut s n { list := l, entryNs := s.tb.elapsed }) (Reg.GW_TAS_CTRL n) 29 1 0
    else if t.list.length ≤ t.entry + 1 ∧ entryEnd t ≤ s.tb.elapsed then
      regSetFld (tasPut s n { list := l, entryNs := entryEnd t }) (Reg.GW_TAS_CTRL n) 29 1 0
    else s

/-- GATE_LIST_TAKEOVER (R621). -/
def execGateListTakeover (port : Nat) (s : State) : Host.Outcome State Fault Refusal :=
  if port < 4 then .next (takeOver port s) else .fault .absentUnit

/-! CAN controllers (R611). -/

/-- The arbitration order of a frame: base identifier, remote or substitute remote bit, IDE, identifier extension, remote bit. -/
def canRank (f : CanFrame) : Nat :=
  if f.ide then f.id / 2 ^ 18 * 2 ^ 21 + 2 ^ 20 + 2 ^ 19 + f.id % 2 ^ 18 * 2 + bitN f.rtr 0
  else f.id % 2 ^ 11 * 2 ^ 21 + bitN f.rtr 20

/-- The queued frame of highest priority, the oldest among equals, with its place. -/
def canBest : List CanFrame → Option (Nat × CanFrame)
  | [] => none
  | f :: t =>
    match canBest t with
    | none => some (0, f)
    | some (i, g) => if canRank g < canRank f then some (i + 1, g) else some (0, f)

/-- A controller sends its next frame, stamped with working time; a sent frame lowers TEC by 1 (ISO 11898-1). -/
def canSend (k : Nat) (s : State) : State :=
  match (if canOn s k && !regBit s (Reg.GW_CAN_CTRL k) 1 then canBest (canQ s k) else none) with
  | none => s
  | some (i, f) =>
    let s1 := { s with gw := { s.gw with
      canTx := tabPut [] s.gw.canTx k ((canQ s k).eraseIdx i), canWire := tabPut none s.gw.canWire k (some (f, workTime s)) } }
    regSetFld s1 (Reg.GW_CAN_STAT k) 0 8 (regFld s1 (Reg.GW_CAN_STAT k) 0 8 - 1)

/-- CAN_FRAME_TRANSMIT (R611). -/
def execCanFrameTransmit (k : Nat) (s : State) : Host.Outcome State Fault Refusal :=
  if k < 8 then .next (canSend k s) else .fault .absentUnit

/-- Recovery from bus-off clears both error counters. -/
def canRecover (k : Nat) (s : State) : State :=
  let a := Reg.GW_CAN_STAT k
  regSetFld (regSetFld (regSetFld s a 24 1 0) a 8 8 0) a 0 8 0

/-- CAN_BUSOFF_RECOVERY (R611): automatic recovery of an enabled controller. -/
def execCanBusoffRecovery (k : Nat) (s : State) : Host.Outcome State Fault Refusal :=
  if k < 8 then
    .next (if regBit s (Reg.GW_CAN_CTRL k) 31 && regBit s (Reg.GW_CAN_CTRL k) 0 && regBit s (Reg.GW_CAN_STAT k) 24 then canRecover k s else s)
  else .fault .absentUnit

/-- A bus error by ISO 11898-1: a transmitter adds 8 to TEC and is bus-off above 255, a receiver adds 1 or 8 to REC. -/
def canError (k : Nat) (tx eight : Bool) (s : State) : State :=
  let a := Reg.GW_CAN_STAT k
  if tx then
    let t := regFld s a 0 8 + 8
    if 255 < t then regSetFld (regSetFld s a 0 8 255) a 24 1 1 else regSetFld s a 0 8 t
  else regSetFld s a 8 8 (min 255 (regFld s a 8 8 + (if eight then 8 else 1)))

/-- CAN_BUS_ERROR (R611). A listen-only controller signals no error and counts none. -/
def execCanBusError (k : Nat) (tx eight : Bool) (s : State) : Host.Outcome State Fault Refusal :=
  if k < 8 then .next (if canOn s k && !regBit s (Reg.GW_CAN_CTRL k) 1 then canError k tx eight s else s) else .fault .absentUnit

/-- PORT_LINK_CHANGE (R608): the speeds of a zone port are 1 Gb/s and above, those of MGMT 1 Gb/s and 100 Mb/s. -/
def execPortLinkChange (port speed : Nat) (s : State) : Host.Outcome State Fault Refusal :=
  if port < 5 then
    .next
      (if (if port < 4 then speed = 0 ∨ (2 ≤ speed ∧ speed ≤ 5) else speed ≤ 2) then regSetFld s (Reg.GW_PORT_CFG port) 0 3 speed
       else s)
  else .fault .absentUnit

end Sys2Proof.Machine
end

