-- ==== Sys2Proof/Machine/ExecGirt.lean ====
section
/-!
DEFINITION. Girts (R363–R369): budget windows, wheel slots and grants.
-/

namespace Sys2Proof.Machine

/-- The girt of class `c` on target `t` (0 DRAM, 1 loft) of partition `p`, as a key. -/
def girtKey (p t c : Nat) : Nat := 16 * p + 8 * t + c

/-- A girt's state. -/
def girtGet (s : State) (p t c : Nat) : Girt := tabGet {} s.part.girts (girtKey p t c)

/-- Replace it. -/
def girtPut (s : State) (p t c : Nat) (g : Girt) : State :=
  { s with part := { s.part with girts := tabPut {} s.part.girts (girtKey p t c) g } }

/-- The girt's configuration (R363). -/
def girtCfg (s : State) (p t c : Nat) : Nat := girtEntry s p (8 * t + c)

/-- BUDGET. -/
def girtBudget (e : Nat) : Nat := nfld e 0 24
/-- MODE is time division. -/
def girtTd (e : Nat) : Bool := decide (nfld e 28 2 = 1)
/-- TARGET in ns. -/
def girtTarget (e : Nat) : Nat := nfld e 32 20

/-- The used units have reached BUDGET; 0xFF_FFFF is no budget (R363, R364). -/
def overBudget (e : Nat) (g : Girt) : Bool := decide (girtBudget e ≠ 0xFFFFFF) && decide (girtBudget e ≤ g.used)

/-- The girt that owns the wheel slot in force on target `t`: partition and class (R344, R366). -/
def slotOwner (s : State) (t : Nat) : Option (Nat × Nat) :=
  let w := (ptByte s (64 * t + s.part.wheelSlots % 64)).toNat
  if w.testBit 7 then some (nfld w 3 3, nfld w 0 3) else none

/-- The level of a girt (R364). -/
def girtLevel (s : State) (p t c : Nat) : Nat :=
  let e := girtCfg s p t c
  let g := girtGet s p t c
  if overBudget e g then 0
  else if girtTd e then (if slotOwner s t = some (p, c) then 16 else nfld e 24 4)
  else max (nfld e 52 4) (min 15 (16 * g.latNum / (256 ^ g.latExp * girtTarget e)))

/-- One miss (R368): counted; the first of a run sets the status bit and interrupts. -/
def girtMiss (p t c : Nat) (s : State) : State :=
  let g := girtGet s p t c
  let s1 := cntInc s (Reg.GIRT_MISS_CNT p t c)
  if g.missing then s1
  else
    let s2 := girtPut s1 p t c { g with missing := true }
    let s3 := regPut s2 (Reg.GIRT_MISS_STAT p) (regGet s2 (Reg.GIRT_MISS_STAT p) ||| BitVec.ofNat 32 (2 ^ (8 * t + c)))
    if regBit s3 (Reg.GIRT_IRQ p) 31 then msi s3 p (regFld s3 (Reg.GIRT_IRQ p) 0 4) else s3

/-- The end of a budget window for one girt: a latency-target girt that issued requests and ends with L above TARGET is late, and
from the fourth window in a row it misses (R368); the window's counts start anew (R365). -/
def windowGirt (p t c : Nat) (s : State) : State :=
  let e := girtCfg s p t c
  let g := girtGet s p t c
  let late := !girtTd e && g.active && decide (girtTarget e * 256 ^ g.latExp < g.latNum)
  let k := if late then g.lateWindows + 1 else 0
  let s1 := girtPut s p t c
    { g with used := 0, active := false, demoted := false, lateWindows := k,
             missing := if girtTd e then g.missing else g.missing && decide (4 ≤ k) }
  if 4 ≤ k then girtMiss p t c s1 else s1

/-- Do something for every girt. -/
def allGirts (f : Nat → Nat → Nat → State → State) (s : State) : State :=
  (List.range 128).foldl (fun s k => f (k / 16) (k / 8 % 2) (k % 8) s) s

/-- GIRT_WINDOW_START (R365): the next window of 10,000 CLK_FAB cycles, 2,500 ticks, once its time has come. -/
def execGirtWindowStart (s : State) : Host.Outcome State Fault Refusal :=
  .next
    (if s.part.windows < s.tb.ticks / 2500 then
      allGirts windowGirt { s with part := { s.part with windows := s.part.windows + 1 } }
    else s)

/-- The end of a wheel slot on target `t`: its owner misses when a request of its own waited ungranted, unless it had forfeited the
slot (R368, R369). -/
def endSlot (t : Nat) (waiting : Bool) (s : State) : State :=
  match slotOwner s t with
  | some (p, c) =>
    if waiting && !(girtGet s p t c).forfeited then girtMiss p t c s else girtPut s p t c { girtGet s p t c with missing := false }
  | none => s

/-- The owner of the slot in force forfeits it once its budget is reached; counted once a slot (R369). -/
def forfeit (p t c : Nat) (s : State) : State :=
  let g := girtGet s p t c
  if decide (slotOwner s t = some (p, c)) && overBudget (girtCfg s p t c) g && !g.forfeited then
    cntInc (girtPut s p t c { g with forfeited := true }) (Reg.GIRT_FORFEIT_CNT p t c)
  else s

/-- The beginning of a wheel slot on target `t`. -/
def openSlot (t : Nat) (s : State) : State :=
  match slotOwner s t with
  | some (p, c) => forfeit p t c (girtPut s p t c { girtGet s p t c with forfeited := false })
  | none => s

/-- A slot has begun: at the start of a turn a WHEELS operation takes effect (R351). -/
def slotBegins (s : State) : State :=
  openSlot 1 (openSlot 0 (if s.part.wheelSlots % 64 = 0 then takeConfig 8 s else s))

/-- The slot in force moves on (R366). -/
def nextSlot (s : State) : State := { s with part := { s.part with wheelSlots := s.part.wheelSlots + 1 } }

/-- WHEEL_SLOT_START (R366): the next slot of 128 CLK_FAB cycles, 32 ticks, once its time has come. The operands say whether the
owner of the ending slot has a request still waiting at DRAM and at the loft. -/
def execWheelSlotStart (dram loft : Bool) (s : State) : Host.Outcome State Fault Refusal :=
  .next
    (if s.part.wheelSlots < s.tb.ticks / 32 then
      slotBegins (nextSlot (endSlot 1 loft (endSlot 0 dram s)))
    else s)

/-! Grants. -/

/-- The candidate index of a request at a channel or bank: its girt's partition and class. -/
def reqIndex (r : GirtReq) : Nat := 8 * r.part + r.cls

/-- The request granted: the highest level; among equals the next after the last one granted, ascending with wrap (R52, R364). -/
def pickReq (s : State) (t last : Nat) : List GirtReq → Option GirtReq
  | [] => none
  | r :: rest =>
    match pickReq s t last rest with
    | none => some r
    | some q =>
      let a := girtLevel s r.part t r.cls
      let b := girtLevel s q.part t q.cls
      let turn := fun (x : GirtReq) => (reqIndex x + 64 - (last + 1) % 64) % 64
      if b < a then some r else if a < b then some q else if turn r ≤ turn q then some r else some q

/-- Charge a granted request to its girt and update its latency: L = L + (l − L)/256, exactly (R365, R367). -/
def chargeReq (t : Nat) (r : GirtReq) (s : State) : State :=
  let e := girtCfg s r.part t r.cls
  let g := girtGet s r.part t r.cls
  let g1 : Girt :=
    { g with
      used := g.used + (r.bytes + 63) / 64, active := true
      latNum := 255 * g.latNum + r.latency * 256 ^ g.latExp, latExp := g.latExp + 1 }
  let full := overBudget e g1
  let s1 := girtPut s r.part t r.cls { g1 with demoted := g1.demoted || full }
  let s2 := if full && !g.demoted then cntInc s1 (Reg.GIRT_DEMOTE_CNT r.part t r.cls) else s1
  forfeit r.part t r.cls s2

/-- The requests that wait have been issued in this window (R368). -/
def markActive (t : Nat) (s : State) (r : GirtReq) : State :=
  girtPut s r.part t r.cls { girtGet s r.part t r.cls with active := true }

/-- A grant at a DRAM channel 0–31 or loft bank 32–79. -/
def grant (target : Nat) (reqs : List GirtReq) (s : State) : State :=
  let t := if target < 32 then 0 else 1
  let s1 := reqs.foldl (markActive t) s
  match pickReq s1 t (tabGet 63 s1.part.lastGrant target) reqs with
  | some r =>
    let s2 := chargeReq t r s1
    { s2 with part := { s2.part with lastGrant := tabPut 63 s2.part.lastGrant target (reqIndex r) } }
  | none => s1

/-- GIRT_GRANT (R364): targets 0–31 are the DRAM channels, 32–79 the loft banks in use. -/
def execGirtGrant (target : Nat) (reqs : List GirtReq) (s : State) : Host.Outcome State Fault Refusal :=
  if decide (target < 80) && reqs.all (fun r => decide (r.part < 8) && decide (r.cls < 8)) then .next (grant target reqs s)
  else .fault .absentUnit

end Sys2Proof.Machine
end

