-- ==== Sys2Proof/Machine/Intake.lean ====
section
/-!
DEFINITION. Camera intake (chapter 14): contexts and rings, pixel packing and fills, frame descriptors, the opening and the close of
a camera frame.
-/

namespace Sys2Proof.Machine

/-- A context. -/
def ctxGet (s : State) (n : Nat) : CtxSt := tabGet {} s.intake n

/-- Replace a context. -/
def ctxPut (s : State) (n : Nat) (x : CtxSt) : State := { s with intake := tabPut {} s.intake n x }

/-- The configuration in the registers. -/
def ctxCfg (s : State) (n : Nat) : CtxCfg :=
  { cfg := regGet s (Reg.INTAKE_CTX_CFG n), size := regGet s (Reg.INTAKE_CTX_SIZE n), stride := regGet s (Reg.INTAKE_CTX_STRIDE n)
    fstride := regGet s (Reg.INTAKE_CTX_FSTRIDE n), ring := regGet s (Reg.INTAKE_CTX_RING n), peg := regGet s (Reg.INTAKE_CTX_PEG n)
    test := regGet s (Reg.INTAKE_CTX_TEST n), trig := regGet s (Reg.INTAKE_CTX_TRIG n), fault := regGet s (Reg.INTAKE_CTX_FAULT n)
    buf := pairGet s (Reg.INTAKE_CTX_BUF n) % 2 ^ 48, desc := pairGet s (Reg.INTAKE_CTX_DESC n) % 2 ^ 48 }

/-- Port, virtual channel and data type of a configuration. -/
def CtxCfg.port (c : CtxCfg) : Nat := fld c.cfg 22 2
/-- VC. -/
def CtxCfg.vc (c : CtxCfg) : Nat := fld c.cfg 18 4
/-- DT. -/
def CtxCfg.dt (c : CtxCfg) : Nat := fld c.cfg 8 8
/-- PACK. -/
def CtxCfg.pack (c : CtxCfg) : Bool := bitAt c.cfg 24
/-- CNTSRC. -/
def CtxCfg.cntsrc (c : CtxCfg) : Nat := fld c.cfg 25 2
/-- LINES. -/
def CtxCfg.lines (c : CtxCfg) : Nat := fld c.size 16 14
/-- WIDTH; 8,192 is encoded as 0. -/
def CtxCfg.width (c : CtxCfg) : Nat := if fld c.size 0 14 = 0 then 8192 else fld c.size 0 14
/-- LSTRIDE in bytes. -/
def CtxCfg.lstride (c : CtxCfg) : Nat := fld c.stride 0 16 * 64
/-- SLOTS. -/
def CtxCfg.slots (c : CtxCfg) : Nat := fld c.ring 0 7

/-- Quarters of a byte per stored pixel (R542, R543). -/
def pixQuarters (dt : Nat) (pack : Bool) : Nat :=
  match dt with
  | 0x1E => 8
  | 0x24 => 12
  | 0x2A => 4
  | 0x2B => if pack then 8 else 5
  | 0x2C => if pack then 8 else 6
  | 0x2D => if pack then 8 else 7
  | _ => 8

/-- Line bytes LB (R543). -/
def CtxCfg.lb (c : CtxCfg) : Nat := c.width * pixQuarters c.dt c.pack / 4

/-- The pixels of a packed CSI-2 group (MIPI CSI-2): RAW10 four pixels in five bytes, RAW12 two in three, RAW14 four in seven. -/
def unpackGroup (dt : Nat) (g : List Byte) : List Nat :=
  let b := fun (i : Nat) => (g.getD i 0).toNat
  match dt with
  | 0x2B => (List.range 4).map (fun i => b i * 4 + nfld (b 4) (2 * i) 2)
  | 0x2C => (List.range 2).map (fun i => b i * 16 + nfld (b 2) (4 * i) 4)
  | _ =>
    let low := b 4 + b 5 * 2 ^ 8 + b 6 * 2 ^ 16
    (List.range 4).map (fun i => b i * 64 + nfld low (6 * i) 6)

/-- The packed bytes of a group of equal pixels. -/
def packGroup (dt v : Nat) : List Byte :=
  match dt with
  | 0x2B => List.replicate 4 (BitVec.ofNat 8 (v / 4)) ++ leBytes 1 (v % 4 * 0x55)
  | 0x2C => List.replicate 2 (BitVec.ofNat 8 (v / 16)) ++ leBytes 1 (v % 16 * 0x11)
  | _ => List.replicate 4 (BitVec.ofNat 8 (v / 64)) ++ leBytes 3 (v % 64 * 0x41041)

/-- Bytes of a packed group. -/
def groupLen (dt : Nat) : Nat := match dt with | 0x2B => 5 | 0x2C => 3 | _ => 7

/-- The stored bytes of a line's payload (R543): with PACK each pixel of the complete groups is a 16-bit word. -/
def storedLine (c : CtxCfg) (data : List Byte) : List Byte :=
  if c.pack then
    (List.range (data.length / groupLen c.dt)).flatMap (fun i =>
      (unpackGroup c.dt (bytesAt data (i * groupLen c.dt) (groupLen c.dt))).flatMap (leBytes 2))
  else data

/-- The bits of a pixel of a packed type. -/
def pixBits (dt : Nat) : Nat := match dt with | 0x2B => 10 | 0x2C => 12 | 0x2D => 14 | _ => 16

/-- The bytes that repeat in a filled line (R555, R556). FILL has 16 bits: the manual does not say how they make a 24-bit RGB888
pixel, which is a free value. -/
def fillUnit (c : CtxCfg) (free : Word64) : List Byte :=
  let v := fld c.fault 16 16
  match c.dt with
  | 0x24 => leBytes 3 free.toNat
  | 0x2A => leBytes 1 v
  | 0x2B | 0x2C | 0x2D =>
    if c.pack then leBytes 2 (v % 2 ^ pixBits c.dt) else packGroup c.dt (v % 2 ^ pixBits c.dt)
  | _ => leBytes 2 v

/-- The filled line. -/
def fillLine (c : CtxCfg) (free : Word64) : List Byte :=
  let u := fillUnit c free
  (List.range c.lb).map (fun i => u.getD (i % u.length) 0)

/-! Frames. -/

/-- The ring slot of a frame (R548). -/
def Frame.slot (f : Frame) : Nat := f.no % f.cfg.slots
/-- Its buffer. -/
def Frame.buffer (f : Frame) : Addr := f.cfg.buf + f.slot * (fld f.cfg.fstride 12 20 * 4096)
/-- Its descriptor. -/
def Frame.desc (f : Frame) : Addr := f.cfg.desc + 64 * f.slot

/-- Set FLAGS bits. -/
def Frame.flag (f : Frame) (i : Nat) (b : Bool) : Frame := if b then { f with flags := f.flags ||| 2 ^ i } else f

/-- The descriptor (R551). -/
def frameDesc (n : Nat) (f : Frame) (closed : Bool) (filled run sig : Nat) : List Byte :=
  let z := fun (v : Nat) => if closed then v else 0
  withCheck
    (leBytes 4 f.no ++ leBytes 1 (n + (if closed then 0x80 else 0x40)) ++ leBytes 1 f.cfg.dt ++ leBytes 2 (z f.flags) ++
     leBytes 4 f.softime ++ leBytes 4 (z f.eoftime) ++ leBytes 4 f.trigtime ++
     leBytes 2 (z f.got.length) ++ leBytes 2 (z filled) ++ leBytes 2 (z (min f.surplus 0xFFFF)) ++
     leBytes 2 (z (min f.short 0xFFFF)) ++ leBytes 2 (z (min f.long 0xFFFF)) ++ leBytes 2 (z (min run 0xFFFF)) ++
     leBytes 8 (z sig) ++ leBytes 8 f.buffer ++ leBytes 4 (z (f.counter.getD 0)) ++ leBytes 4 f.gap ++ leBytes 4 0)

/-- The trigger edge of R562: time and elapsed nanoseconds of the most recent edge, when the configuration names a source. -/
def trigEdge (s : State) (c : CtxCfg) : Option (Nat × Nat) :=
  let k := fld c.trig 24 4
  match fld c.trig 30 2 with
  | 1 => (tabGet {} s.tb.tpulse k).last
  | 2 => (tabGet {} s.tb.tcap k).last
  | _ => none

/-- TRIGTIME and the flags NOTRIG and TRIGLATE (R562). -/
def frameTrig (s : State) (c : CtxCfg) (prev : Option Nat) : Nat × Nat :=
  if fld c.trig 30 2 = 0 then (0, 0)
  else
    match trigEdge s c with
    | some (t, ns) =>
      if (match prev with | some p => decide (ns ≤ p) | none => false) then (0, 2 ^ 9)
      else
        let late := fld c.trig 12 12
        (t, bitN (decide (late ≠ 0) && decide (late * 1000 < (workTime s + 2 ^ 32 - t) % 2 ^ 32)) 10)
    | none => (0, 2 ^ 9)

/-- A refused write ends the writing of a frame's lines (R566). -/
def Frame.refuse (f : Frame) : Frame := { f.flag 11 true with dead := true }

/-- Write for the context's partition: initiator 0x70, class INTAKE (R545). -/
def intakeWrite (p : Nat) (a : Addr) (l : List Byte) (s : State) : Bool × State := unitWrite 0x70 p 4 a l s

/-- The frame that a frame start opens on context `n` (R549–R551). -/
def newFrame (n p cnt : Nat) (s : State) : Frame :=
  let x := ctxGet s n
  let c := ctxCfg s n
  let (t, fl) := frameTrig s c x.prevSof
  { cfg := c, part := p, no := x.next, softime := workTime s, sofNs := s.tb.elapsed, trigtime := t
    flags := fl + bitN (decide (x.gap ≠ 0)) 8, gap := x.gap, counter := if c.cntsrc = 1 then some cnt else none }

/-- A context after its OPEN descriptor `f` was written, or refused (R548, R551, R562). -/
def opened (n : Nat) (f : Frame) (r : Bool × State) : State :=
  let x := ctxGet r.2 n
  let f1 := if r.1 then f else { f.refuse with noDesc := true }
  ctxPut r.2 n { x with
    next := (x.next + 1) % 2 ^ 32, gap := if r.1 then 0 else 1, frame := some f1, prevSof := some r.2.tb.elapsed }

/-- Accept an FS (R548, R551): the frame takes its slot, and its descriptor is written OPEN. -/
def openFrame (n p cnt : Nat) (s : State) : State :=
  let f := newFrame n p cnt s
  opened n f (intakeWrite p f.desc (frameDesc n f false 0 0 0) s)

/-- Close the open frame with flags (R553): its close steps are still to come (R563). -/
def closeFrame (n flags : Nat) (s : State) : State :=
  let x := ctxGet s n
  match x.frame with
  | some f => ctxPut s n { x with
      frame := none, closing := x.closing ++ [{ f with eoftime := workTime s, flags := f.flags ||| flags }] }
  | none => s

/-- A long packet of an open frame (R554, R555, R544). `lost`: it arrived at a full line buffer. -/
def takeLine (n : Nat) (lost : Bool) (data : List Byte) (s : State) : State :=
  let x := ctxGet s n
  match x.frame with
  | none => s
  | some f =>
    let l := f.packets
    let f1 := { f with packets := l + 1 }
    if f.cfg.lines ≤ l then ctxPut s n { x with frame := some ({ f1 with surplus := f.surplus + 1 }.flag 1 true) }
    else if lost then ctxPut s n { x with frame := some (f1.flag 7 true) }
    else if f.dead then ctxPut s n { x with frame := some f1 }
    else
      let lb := f.cfg.lb
      let st := storedLine f.cfg data
      let (free, s1) := takeFree s
      let line := if st.length < lb then st ++ (fillLine f.cfg free).drop st.length else st.take lb
      let f2 := ({ f1 with
        short := f.short + (if st.length < lb then 1 else 0), long := f.long + (if lb < st.length then 1 else 0) }.flag 2
          (decide (st.length < lb))).flag 3 (decide (lb < st.length))
      let (ok, s2) := intakeWrite f.part (f.buffer + l * f.cfg.lstride) line s1
      let f3 := if !ok then f2.refuse
        else { f2 with got := f2.got ++ [l], lines := if l % fld f.cfg.test 16 8 = 0 then tabPut [] f2.lines l line else f2.lines }
      ctxPut s2 n { x with frame := some f3 }

/-- Fold the sampled words of a line into a signature (R558). -/
def foldLine (step : Nat) (sig : Word64) (l : List Byte) : Word64 :=
  (List.range ((l.length + 7) / 8)).foldl (fun sig w =>
    if w % step = 0 then sig.rotateLeft 1 ^^^ BitVec.ofNat 64 (leAt l (8 * w) 8) else sig) sig

/-- The signature of a frame (R558). -/
def frameSig (f : Frame) : Word64 := f.lines.foldl (fun sig e => foldLine (fld f.cfg.test 8 8) sig e.2) 0

/-- Fill the missing lines of a frame (R556): the frame, and the number filled. -/
def fillLines (f : Frame) (free : Word64) : List Nat → Frame × Nat → State → (Frame × Nat) × State
  | [], acc, s => (acc, s)
  | l :: t, (g, k), s =>
    if g.dead then ((g, k), s)
    else
      let line := fillLine f.cfg free
      match intakeWrite f.part (f.buffer + l * f.cfg.lstride) line s with
      | (true, s1) =>
        let g1 := { g with lines := if l % fld f.cfg.test 16 8 = 0 then tabPut [] g.lines l line else g.lines }
        fillLines f free t (g1, k + 1) s1
      | (false, s1) => ((g.refuse, k), s1)

/-- The frozen and repeated tests (R559, R560): the run count, and the flags FROZEN and REPEATED. -/
def frameTests (x : CtxSt) (f : Frame) (sig : Word64) : Nat × Nat :=
  let run := match x.prevSig with | some p => if p = sig then x.run + 1 else 0 | none => 0
  let rep := match f.counter, x.prevCounter with
    | some a, some b => decide (a = b) && !(decide (f.cfg.cntsrc = 1) && decide (a = 0))
    | _, _ => false
  (run, bitN (decide (fld f.cfg.test 24 8 ≤ run)) 4 + bitN rep 5)

/-- The hand-over of a closed frame (R563 steps 2 to 6), given its fills, run count and signature. -/
def handOver (n filled run : Nat) (sig : Word64) (f : Frame) (s : State) : State :=
  let p := f.part
  let (ok, s1) := if f.noDesc then (false, s) else intakeWrite p f.desc (frameDesc n f true filled run sig.toNat) s
  let f1 := if ok then f else f.refuse
  let s2 := if !ok && !f.noDesc then ctxPut s1 n { ctxGet s1 n with gap := (ctxGet s1 n).gap + 1 } else s1
  let s3 := if ok && bitAt f.cfg.peg 31 then pegSignal s2 (fld f.cfg.peg 16 11) (.add 1) else s2
  let s4 := if bitAt f.cfg.peg 30 then msi s3 p (fld f.cfg.peg 0 4) else s3
  if f1.flags &&& fld f.cfg.fault 0 13 ≠ 0 then raise (0x0C0 + n) (some p) (f.no % 2 ^ 16 * 2 ^ 16 + f1.flags % 2 ^ 16) s4 else s4

/-- The close steps of the oldest closed frame of a context (R556, R558–R560, R563). -/
def finishFrame (n : Nat) (s : State) : State :=
  let x := ctxGet s n
  match x.closing with
  | [] => s
  | f :: t =>
    let (free, s1) := takeFree s
    let missing := (List.range f.cfg.lines).filter (fun l => !f.got.contains l)
    let ((g, filled), s2) := fillLines f free missing (f.flag 0 (decide (f.packets < f.cfg.lines)), 0) s1
    let sig := frameSig g
    let (run, fl) := frameTests x g sig
    let y := ctxGet s2 n
    handOver n filled run sig { g with flags := g.flags ||| fl }
      (ctxPut s2 n { y with closing := t, prevSig := some sig, run := run, prevCounter := g.counter })

end Sys2Proof.Machine
end

