-- ==== Sys2Proof/Machine/ExecIntake.lean ====
section
/-!
DEFINITION. The commands of the camera intake (chapter 14): the packets of a port, timeouts, and the state of its lanes.
-/

namespace Sys2Proof.Machine

/-- The port is enabled. -/
def portOn (s : State) (p : Nat) : Bool := regBit s (Reg.INTAKE_PORT_CFG p) 31

/-- EN of a context. -/
def ctxOn (s : State) (n : Nat) : Bool := regBit s (Reg.INTAKE_CTX_CFG n) 31

/-- The partition of a context. -/
def ctxOwner (s : State) (n : Nat) : Option Nat := ownerBy (fun p => ownsCtx s p n)

/-- A context takes packets: it has a partition that is not STOPPED (R550). -/
def ctxLive (s : State) (n : Nat) : Bool :=
  match ctxOwner s n with
  | some p => !s.safety.stopped.getLsbD p
  | none => false

/-- Contexts that name a port and virtual channel. -/
def ctxsAt (s : State) (port vc : Nat) : List Nat :=
  (List.range 16).filter (fun n => decide ((ctxCfg s n).port = port) && decide ((ctxCfg s n).vc = vc))

/-- The enabled ones. -/
def ctxsOn (s : State) (port vc : Nat) : List Nat := (ctxsAt s port vc).filter (ctxOn s)

/-- No lower enabled context names the same data type (R546). -/
def firstOfDt (s : State) (l : List Nat) (n : Nat) : Bool :=
  l.all (fun m => decide (n ≤ m) || decide ((ctxCfg s m).dt ≠ (ctxCfg s n).dt))

/-- Count a discarded packet (R542). -/
def discardPacket (port : Nat) (s : State) : State := cntInc s (Reg.INTAKE_PORT_DISC port)

/-- One camera frame more in a context's gap count. -/
def gapOne (n : Nat) (s : State) : State := ctxPut s n { ctxGet s n with gap := (ctxGet s n).gap + 1 }

/-- The release peg leaves room for the next frame (R549). -/
def ringFree (s : State) (n : Nat) : Bool :=
  let c := ctxCfg s n
  !bitAt c.ring 31 ||
    decide (((ctxGet s n).next + 2 ^ 32 - (pegGet s (fld c.ring 16 11)).count.toNat) % 2 ^ 32 < c.slots)

/-- An FS at one context (R549, R550, R553): an open frame closes with NOFE, and a new one opens when it is accepted. -/
def fsAt (taker : Bool) (cnt n : Nat) (s : State) : State :=
  match ctxOwner s n with
  | some p =>
    if taker && ctxLive s n then
      let s1 := closeFrame n (2 ^ 6) s
      if ringFree s1 n then openFrame n p cnt s1 else gapOne n s1
    else gapOne n s
  | none => s

/-- CSI_FRAME_START (R549): FS with its 16-bit frame number; `ecc`: the header fails its ECC. A tie is counted once (R546). -/
def execCsiFrameStart (port vc cnt : Nat) (ecc : Bool) (s : State) : Host.Outcome State Fault Refusal :=
  if port < 4 then
    .next
      (if !portOn s port then s
       else
         let l := ctxsOn s port vc
         if ecc || l.isEmpty then
           discardPacket port (if ecc then s else ((ctxsAt s port vc).filter (fun n => !ctxOn s n)).foldl (fun s n => gapOne n s) s)
         else
           let tied := l.any (fun n => !firstOfDt s l n)
           let s1 := if tied then cntInc s (Reg.INTAKE_TIE port) else s
           let off := (ctxsAt s port vc).filter (fun n => !ctxOn s n)
           off.foldl (fun s n => gapOne n s) ((l.filter (firstOfDt s l)).foldl (fun s n => fsAt true cnt n s) s1))
  else .fault .absentUnit

/-- Contexts with an open frame of a port and virtual channel. -/
def openAt (s : State) (port vc : Nat) : List Nat :=
  (List.range 16).filter (fun n =>
    match (ctxGet s n).frame with
    | some f => decide (f.cfg.port = port) && decide (f.cfg.vc = vc)
    | none => false)

/-- CSI_FRAME_END (R553). -/
def execCsiFrameEnd (port vc : Nat) (ecc : Bool) (s : State) : Host.Outcome State Fault Refusal :=
  if port < 4 then
    .next
      (if !portOn s port then s
       else if ecc || ((openAt s port vc).isEmpty && (ctxsOn s port vc).isEmpty) then discardPacket port s
       else (openAt s port vc).foldl (fun s n => closeFrame n 0 s) s)
  else .fault .absentUnit

/-- The context that takes a long packet: the lowest with an open frame of the port, channel and type, none of a STOPPED
partition (R546, R550). -/
def lineTaker (s : State) (port vc dt : Nat) : Option Nat :=
  (openAt s port vc).find? (fun n =>
    match (ctxGet s n).frame with
    | some f => decide (f.cfg.dt = dt) && ctxLive s n
    | none => false)

/-- CSI_LONG_PACKET (R554): `full`: the port's line buffer is full (R544). -/
def execCsiLongPacket (port vc dt : Nat) (data : List Byte) (ecc full : Bool) (s : State) : Host.Outcome State Fault Refusal :=
  if port < 4 then
    .next
      (if !portOn s port then s
       else
         let named := (ctxsOn s port vc).filter (fun n => decide ((ctxCfg s n).dt = dt))
         if ecc then discardPacket port s
         else
           match lineTaker s port vc dt with
           | some n =>
             let s1 := if 1 < named.length then cntInc s (Reg.INTAKE_TIE port) else s
             takeLine n full data (if full then cntInc s1 (Reg.INTAKE_PORT_OVF port) else s1)
           | none =>
             match named with
             | n :: t =>
               let s1 := if t.isEmpty then s else cntInc s (Reg.INTAKE_TIE port)
               if ctxLive s n then cntInc s1 (Reg.INTAKE_CTX_ORPHAN n) else s1
             | [] => discardPacket port s)
  else .fault .absentUnit

/-- The counter of an embedded-data packet for a context (R560): the first packet of the frame; a word beyond the packet is a free
value. -/
def takeEmbedded (data : List Byte) (n : Nat) (s : State) : State :=
  let x := ctxGet s n
  match x.frame with
  | some f =>
    if f.cfg.cntsrc = 2 ∧ f.counter = none then
      let o := 4 * fld f.cfg.cfg 0 8
      let (free, s1) := takeFree s
      let v := if o + 4 ≤ data.length then leAt data o 4 else free.toNat % 2 ^ 32
      ctxPut s1 n { x with frame := some { f with counter := some v } }
    else s
  | none => s

/-- CSI_EMBEDDED_PACKET (R546, R560). -/
def execCsiEmbeddedPacket (port vc : Nat) (data : List Byte) (ecc : Bool) (s : State) : Host.Outcome State Fault Refusal :=
  if port < 4 then
    .next
      (if !portOn s port then s
       else
         let named := (ctxsOn s port vc).any (fun n => decide ((ctxCfg s n).cntsrc = 2))
         let opened := (openAt s port vc).filter (ctxLive s)
         let used := opened.any (fun n => match (ctxGet s n).frame with | some f => decide (f.cfg.cntsrc = 2) | none => false)
         if ecc || !(named || used) then discardPacket port s
         else opened.foldl (fun s n => takeEmbedded data n s) s)
  else .fault .absentUnit

/-- TIMEOUT ms after SOFTIME without an FE (R553). -/
def frameTimeout (n : Nat) (s : State) : State :=
  match (ctxGet s n).frame with
  | some f =>
    let t := fld f.cfg.trig 0 12
    if t ≠ 0 ∧ f.sofNs + t * 1000000 ≤ s.tb.elapsed then closeFrame n (2 ^ 6) s else s
  | none => s

/-- CSI_FRAME_TIMEOUT (R553). -/
def execCsiFrameTimeout (n : Nat) (s : State) : Host.Outcome State Fault Refusal :=
  if n < 16 then .next (frameTimeout n s) else .fault .absentUnit

/-- EN = 0 closes an open frame with ABORT (R553). -/
def ctxDisable (n : Nat) (s : State) : State :=
  closeFrame n (2 ^ 12) (regPut s (Reg.INTAKE_CTX_CFG n) (setFld (regGet s (Reg.INTAKE_CTX_CFG n)) 31 1 0))

/-- INTAKE_CTX_DISABLE (R553). EN is an RWL field (R355). -/
def execIntakeCtxDisable (init n : Nat) (s : State) : Host.Outcome State Fault Refusal :=
  if n < 16 then
    .next (asInit init (Reg.INTAKE_CTX_CFG n) true
      (fun s => if pageLocked s (Reg.INTAKE_CTX_CFG n) then s else ctxDisable n s) s)
  else .fault .absentUnit

/-- FRAME_CLOSE_COMPLETE (R563). -/
def execFrameCloseComplete (n : Nat) (s : State) : Host.Outcome State Fault Refusal :=
  if n < 16 then .next (finishFrame n s) else .fault .absentUnit

/-- Set or clear a bit of INTAKE_PORT_STAT of an enabled port. -/
def portStat (port bit : Nat) (v : Bool) (s : State) : Host.Outcome State Fault Refusal :=
  if port < 4 then
    .next (if portOn s port then regPut s (Reg.INTAKE_PORT_STAT port)
      (setFld (regGet s (Reg.INTAKE_PORT_STAT port)) bit 1 (if v then 1 else 0)) else s)
  else .fault .absentUnit

/-- ULPS_ENTRY (R541). -/
def execUlpsEntry (port : Nat) (s : State) : Host.Outcome State Fault Refusal := portStat port 2 true s

/-- ULPS_EXIT (R541). -/
def execUlpsExit (port : Nat) (s : State) : Host.Outcome State Fault Refusal := portStat port 2 false s

/-- DESKEW_SEQUENCE (R541). -/
def execDeskewSequence (port : Nat) (s : State) : Host.Outcome State Fault Refusal := portStat port 1 true s

/-- HS_BURST_START (R541). -/
def execHsBurstStart (port : Nat) (s : State) : Host.Outcome State Fault Refusal := portStat port 0 true s

/-- HS_BURST_END (R541). -/
def execHsBurstEnd (port : Nat) (s : State) : Host.Outcome State Fault Refusal := portStat port 0 false s

end Sys2Proof.Machine
end

