-- ==== Sys2Proof/Machine/P384.lean ====
section
/-!
DEFINITION. Verification of an ECDSA signature on curve P-384 (R733, FIPS 186-5). The manual names the algorithm; the curve's
numbers are those of the standard.
-/

namespace Sys2Proof.Machine

namespace P384

/-- The prime of the field. -/
def p : Nat := 2 ^ 384 - 2 ^ 128 - 2 ^ 96 + 2 ^ 32 - 1

/-- The order of the base point. -/
def n : Nat := 0xFFFFFFFFFFFFFFFFFFFFFFFFFFFFFFFFFFFFFFFFFFFFFFFFC7634D81F4372DDF581A0DB248B0A77AECEC196ACCC52973

/-- The coefficient b; a is −3. -/
def b : Nat := 0xB3312FA7E23EE7E4988E056BE3F82D19181D9C6EFE8141120314088F5013875AC656398D8A2ED19D2A85C8EDD3EC2AEF

/-- The base point. -/
def g : Nat × Nat :=
  (0xAA87CA22BE8B05378EB1C71EF320AD746E1D3B628BA79B9859F741E082542A385502F25DBF55296C3A545E3872760AB7,
   0x3617DE4A96262C6F5D9E98BF9292DC29F8F41DBD289A147CE9DA3113B5F0B8C00A60B1CE1D7E819D7A431D7C90EA0E5F)

/-- x to the low `k` bits of `e`, modulo m. -/
def powMod (m : Nat) : Nat → Nat → Nat → Nat
  | 0, _, _ => 1
  | k + 1, x, e => if e % 2 = 1 then x * powMod m k (x * x % m) (e / 2) % m else powMod m k (x * x % m) (e / 2)

/-- The inverse modulo a prime of 384 bits. -/
def inv (m x : Nat) : Nat := powMod m 384 (x % m) (m - 2)

/-- A point in Jacobian coordinates: x = X / Z², y = Y / Z³; Z = 0 is the point at infinity. -/
abbrev Point := Nat × Nat × Nat

/-- A product in the field. -/
def mulP (a b : Nat) : Nat := a * b % p

/-- A difference in the field. -/
def subP (a b : Nat) : Nat := (a + p - b) % p

/-- Twice a point. -/
def double (u : Point) : Point :=
  match u with
  | (x, y, z) =>
    let d := mulP z z
    let g := mulP y y
    let b := mulP x g
    let m := mulP 3 (mulP (subP x d) ((x + d) % p))
    let x3 := subP (mulP m m) (mulP 8 b)
    (x3, subP (mulP m (subP (mulP 4 b) x3)) (mulP 8 (mulP g g)), mulP 2 (mulP y z))

/-- The sum of two points whose x differ by `h` and whose y differ by `r`, over a common denominator. -/
def chord (x1 y1 z h r : Nat) : Point :=
  let h2 := mulP h h
  let h3 := mulP h h2
  let v := mulP x1 h2
  let x3 := subP (subP (mulP r r) h3) (mulP 2 v)
  (x3, subP (mulP r (subP v x3)) (mulP y1 h3), mulP z h)

/-- Addition of points. -/
def add (u v : Point) : Point :=
  match u, v with
  | (x1, y1, z1), (x2, y2, z2) =>
    if z1 = 0 then v
    else if z2 = 0 then u
    else
      let a := mulP z1 z1
      let b := mulP z2 z2
      let x := mulP x1 b
      let y := mulP y1 (mulP b z2)
      let h := subP (mulP x2 a) x
      let r := subP (mulP y2 (mulP a z1)) y
      if h = 0 then (if r = 0 then double u else (1, 1, 0)) else chord x y (mulP z1 z2) h r

/-- The multiple of a point by the low `k` bits of `e`. -/
def mul : Nat → Nat → Point → Point
  | 0, _, _ => (1, 1, 0)
  | k + 1, e, u => if e % 2 = 1 then add u (mul k (e / 2) (double u)) else mul k (e / 2) (double u)

/-- The coordinates are those of a point of the curve. -/
def onCurve (x y : Nat) : Bool := decide (x < p) && decide (y < p) && decide (y * y % p = (x * x * x + (p - 3) * x + b) % p)

/-- The signature (r, s) verifies for public key (x, y) and the 384-bit digest e. -/
def verify (x y r s e : Nat) : Bool :=
  onCurve x y && decide (1 ≤ r) && decide (r < n) && decide (1 ≤ s) && decide (s < n) &&
    (let w := inv n s
     match add (mul 384 (e * w % n) (g.1, g.2, 1)) (mul 384 (r * w % n) (x, y, 1)) with
     | (x1, _, z) => decide (z ≠ 0) && decide (x1 * inv p (z * z % p) % p % n = r))

end P384

end Sys2Proof.Machine
end

