-- ==== Sys2Proof/Machine/Image.lean ====
section
/-!
DEFINITION. The boot flash, its records and images (R730–R733), the fuses and their shadow (R40, R425), and CRP_BOOT_STAT.
-/

namespace Sys2Proof.Machine

/-! Fuses. -/

/-- The registers that show fuses, with the fused bits of each. -/
def fuseMasks : List (Addr × Nat) :=
  [(Reg.GLOBAL_DEVID, 0xFFFF), (Reg.GLOBAL_GRADE, 0xFFF0), (Reg.GLOBAL_LOT, 0xFFFFFFFF), (Reg.GLOBAL_LOT + 4, 0xF),
   (Reg.GLOBAL_DIEPOS, 0x1FFFFF), (Reg.GLOBAL_SERIAL, 0xFFFFFFFF), (Reg.GLOBAL_LIFECYCLE, 0x7),
   (Reg.SAFETY_PLUMB_GOLD, 0xFFFFFFFF), (Reg.SAFETY_PLUMB_GOLD + 4, 0xFFFFFFFF)]

/-- Give the bits of `m` of the register at `a` the value they have in `v`. -/
def putMasked (a m : Nat) (v : Word32) (s : State) : State :=
  let k : Word32 := BitVec.ofNat 32 m
  regPut s a ((regGet s a &&& ~~~k) ||| (v &&& k))

/-- A fuse word. -/
def fuseWord (s : State) (a : Addr) : Word32 := tabGet 0 s.boot.fuses a

/-- Load the fuses into the shadow (R735 step 2). -/
def loadFuses (s : State) : State := fuseMasks.foldl (fun s x => putMasked x.1 x.2 (fuseWord s x.1) s) s

/-- The lifecycle state in force (R738). -/
def lifeState (s : State) : Nat := regFld s Reg.GLOBAL_LIFECYCLE 0 3

/-- Burn the lifecycle state (R738). -/
def burnLife (n : Nat) (s : State) : State :=
  { s with boot := { s.boot with fuses := tabPut 0 s.boot.fuses Reg.GLOBAL_LIFECYCLE (BitVec.ofNat 32 n) } }

/-! CRP_BOOT_STAT. -/

/-- The current or failing step. -/
def bootPhase (s : State) : Nat := regFld s Reg.CRP_BOOT_STAT 24 4

/-- The boot code; 0 when the boot has not stopped. -/
def bootCode (s : State) : Nat := regFld s Reg.CRP_BOOT_STAT 16 8

/-- Go on to a step. -/
def bootGo (n : Nat) (s : State) : State := regSetFld s Reg.CRP_BOOT_STAT 24 4 n

/-- Stop at a step with a code (R737). -/
def bootStop (n code : Nat) (s : State) : State := regSetFld (bootGo n s) Reg.CRP_BOOT_STAT 16 8 code

/-- The boot stands at step `n` and has not stopped. -/
def bootAt (n : Nat) (s : State) : Bool := decide (bootPhase s = n) && decide (bootCode s = 0)

/-! Flash. -/

/-- Bytes of the flash. -/
def flashRead (s : State) (o n : Nat) : List Byte := (rangeFrom o n).map (tabGet 0xFF#8 s.boot.flash)

/-- Put bytes into the flash. -/
def flashPut : Tab Byte → Nat → List Byte → Tab Byte
  | t, _, [] => t
  | t, o, b :: r => flashPut (tabPut 0xFF#8 t o b) (o + 1) r

/-- Write bytes to the flash. -/
def flashWrite (o : Nat) (l : List Byte) (s : State) : State :=
  { s with boot := { s.boot with flash := flashPut s.boot.flash o l } }

/-- A copy of the boot record. -/
def recordCopy (s : State) (k : Nat) : List Byte := flashRead s (0x1000 * k) 64

/-- GEN of a boot record. -/
def recordGen (l : List Byte) : Nat := leAt l 16 4

/-- The copy in force: the one whose check word matches, the greater GEN when both do (R731). -/
def recordPick (s : State) : Option Nat :=
  match checkOk (recordCopy s 0), checkOk (recordCopy s 1) with
  | true, true => some (if recordGen (recordCopy s 0) < recordGen (recordCopy s 1) then 1 else 0)
  | true, false => some 0
  | false, true => some 1
  | false, false => none

/-- Take the boot record in force; without one every image boots from bank 0 with minimum SVN 0. -/
def takeRecord (s : State) : State :=
  let c := recordPick s
  { s with boot := { s.boot with copy := c, record := (c.map (recordCopy s)).getD [] } }

/-- The bank that the record in force names for an image type. -/
def recordBank (s : State) (t : Nat) : Nat := leAt s.boot.record t 1

/-- The minimum SVN of an image type. -/
def recordMin (s : State) (t : Nat) : Nat := leAt s.boot.record (4 + 4 * t) 4

/-! Images (R732, R733). -/

/-- The flash offset of bank `b` of an image type: 0 fabric controller, 1 application, 2 island. -/
def bankOffset (t b : Nat) : Nat :=
  match t with
  | 0 => 0x110000 + b * 0x80000
  | 1 => 0x1000000 + b * 0x2000000
  | _ => 0x10000 + b * 0x80000

/-- The header of a bank: its 4,096 bytes before the payload. -/
def imageHeader (s : State) (t b : Nat) : List Byte := flashRead s (bankOffset t b) 4096

/-- The bank has a header. -/
def hasHeader (s : State) (t b : Nat) : Bool := decide ((imageHeader s t b).take 4 = [0x41#8, 0x56#8, 0x46#8, 0x57#8])

/-- The payload of a bank. -/
def imagePayload (s : State) (t b : Nat) : List Byte := flashRead s (bankOffset t b + 4096) (leAt (imageHeader s t b) 24 4)

/-- SVN of a bank. -/
def imageSvn (s : State) (t b : Nat) : Nat := leAt (imageHeader s t b) 12 4

/-- The key slot that a bank names. -/
def imageKey (s : State) (t b : Nat) : ImageKey := tabGet {} s.boot.imageKeys (leAt (imageHeader s t b) 5 1)

/-- TYPE, the reserved bytes and the payload length of a header are as R732 gives. -/
def headerOk (t : Nat) (h : List Byte) : Bool :=
  decide (leAt h 4 1 = t) && decide (leAt h 5 1 < 4) && decide (leAt h 6 2 = 0) && (h.drop 272).all (fun x => decide (x = 0)) &&
    decide (leAt h 24 4 ≤ if t = 1 then 33550336 else 520192)

/-- The key slot is provisioned, not revoked, allows the type, and holds the digest of the header's public key. -/
def keyOk (k : ImageKey) (t : Nat) (h : List Byte) : Bool :=
  k.prov && !k.revoked && k.types.testBit t && decide ((sha384 (bytesAt h 80 96)).take 32 = k.digest)

/-- The header's signature verifies; key and signature are big-endian numbers. -/
def signatureOk (h : List Byte) : Bool :=
  P384.verify (beAt h 80 48) (beAt h 128 48) (beAt h 176 48) (beAt h 224 48) (beVal (sha384 (h.take 176)))

/-- Every test of R733 but that of SVN. -/
def imageOk (s : State) (t b : Nat) : Bool :=
  let h := imageHeader s t b
  hasHeader s t b && headerOk t h && keyOk (imageKey s t b) t h && signatureOk h && decide (sha384 (imagePayload s t b) = bytesAt h 32 48)

/-- The image verifies (R733). -/
def imageVerifies (s : State) (t b : Nat) : Bool := imageOk s t b && decide (recordMin s t ≤ imageSvn s t b)

/-- The bank used: the record's first, else the other one. -/
def pickBank (s : State) (t : Nat) : Option Nat :=
  if imageVerifies s t (recordBank s t) then some (recordBank s t)
  else if imageVerifies s t (1 - recordBank s t) then some (1 - recordBank s t)
  else none

/-- The load address and the entry of a bank. -/
def imageLoad (s : State) (t b : Nat) : Nat := leAt (imageHeader s t b) 16 8

/-- The address of the entry: load address plus the entry offset in the payload. -/
def imageEntry (s : State) (t b : Nat) : Nat := imageLoad s t b + leAt (imageHeader s t b) 28 4

end Sys2Proof.Machine
end

