-- ==== Sys2Proof/Machine/ExecReset.lean ====
section
/-!
DEFINITION. Reset and the root PLL (R711, R726–R729, R735 steps 1–3, R749).
-/

namespace Sys2Proof.Machine

/-! What a reset keeps. -/

/-- A cold reset keeps the attributes of the key slots, which are one-time programmable (R630). -/
def coldKeeps (a : Addr) : Bool := decide (Reg.SEAL_KEY_ATTR 0 ≤ a) && decide (a < Reg.SEAL_KEY_ATTR 8)

/-- A warm reset also keeps the SAFETY block, the sampled straps and the state of the root PLL (R726, R728, R756). -/
def warmKeeps (a : Addr) : Bool :=
  coldKeeps a || (decide (Reg.SAFETY ≤ a) && decide (a < Reg.SAFETY + 0x100000)) ||
    decide (a = Reg.SCRIBE_STRAPS) || decide (a = Reg.CRP_PLL_STAT)

/-- The device with every field at its reset value, but for fuses, flash, the test access port, the listed registers and the commands
that wait. -/
def reborn (keep : Addr → Bool) (s : State) : State :=
  { State.reset with
    regs := s.regs.filter (fun e => keep e.1), plumbRom := s.plumbRom, golden := s.golden, freeCtr := s.freeCtr, pending := s.pending
    boot := { fuses := s.boot.fuses, imageKeys := s.boot.imageKeys, flash := s.boot.flash, jtag := s.boot.jtag }
    repair := { factoryBays := s.repair.factoryBays, factoryJointers := s.repair.factoryJointers,
                factoryLoft := s.repair.factoryLoft, factoryRows := s.repair.factoryRows,
                fieldLog := s.repair.fieldLog, used := s.repair.used }
    sealU := { keys := s.sealU.keys } }

/-- CRP_RST_CAUSE.KIND. -/
def putKind (k : Nat) (s : State) : State := regPut s Reg.CRP_RST_CAUSE (BitVec.ofNat 32 k)

/-- The sampled straps (R650, R756). -/
def putStraps (role flip : Bool) (s : State) : State :=
  regSetFld (regPut s Reg.SCRIBE_STRAPS (BitVec.ofNat 32 (bitN role 0 + bitN flip 1))) Reg.TRUSS_CFG 30 1 (bitN role 0)

/-! Steps 1 to 3 of the boot. -/

/-- Draw the boot epoch: a random number that is not 0 (R631). -/
def drawEpoch (s : State) : State :=
  let (v, s1) := takeFree s
  regPut s1 Reg.SEAL_EPOCH (BitVec.ofNat 32 (1 + v.toNat % (2 ^ 32 - 1)))

/-- Step 3: the epoch is drawn and the boot record read; BLANK and SCRAPPED stop here (R735, R738). -/
def bootStep3 (s : State) : State :=
  let s1 := takeRecord (drawEpoch s)
  if lifeState s1 = 0 ∨ lifeState s1 = 5 then bootStop 3 7 s1 else bootGo 4 s1

/-- Steps 1 to 3 once the root PLL has locked: the island moves to CLK_IO and loads the fuses. -/
def bootLocked (s : State) : State := bootStep3 (loadFuses (regSetFld s Reg.CRP_PLL_STAT 0 2 3))

/-- ROOT_PLL_LOCK (R711): the boot leaves step 1. -/
def execRootPllLock (s : State) : Host.Outcome State Fault Refusal :=
  .next (if bootPhase s ≤ 1 ∧ bootCode s = 0 then bootLocked s else regSetFld s Reg.CRP_PLL_STAT 0 1 1)

/-- ROOT_PLL_LOCK_TIMEOUT (R737): no lock within 10 ms of reset release. -/
def execRootPllLockTimeout (s : State) : Host.Outcome State Fault Refusal :=
  .next (if bootPhase s ≤ 1 ∧ bootCode s = 0 ∧ regBit s Reg.CRP_PLL_STAT 0 = false then bootStop 1 1 s else s)

/-- ROOT_PLL_LOCK_LOSS (R17): LOCK falls. -/
def execRootPllLockLoss (s : State) : Host.Outcome State Fault Refusal := .next (regSetFld s Reg.CRP_PLL_STAT 0 1 0)

/-! Resets. -/

/-- Program the flash: what the board's flash holds when the device leaves reset. -/
def programFlash (l : List (Nat × List Byte)) (s : State) : State := l.foldl (fun s x => flashWrite x.1 x.2 s) s

/-- A cold reset of every domain; the boot starts at step 1 (R727, R749, R756). -/
def coldReset (porst role flip : Bool) (flash : List (Nat × List Byte)) (s : State) : State :=
  bootGo 1 (putStraps role flip (putKind (bitN porst 0) (programFlash flash (reborn coldKeeps s))))

/-- POWER_ON_RESET (R727): by PORST_N or by the power-on detector, with the levels of the straps and what has been programmed into
the flash while the device was held. -/
def execPowerOnReset (porst role flip : Bool) (flash : List (Nat × List Byte)) (s : State) : Host.Outcome State Fault Refusal :=
  .next (coldReset porst role flip flash s)

/-- What the ISLAND domain keeps of the safety hardware: RUN and the scribe pattern are cleared, and the FAULT pins are low (R728,
R773). Times kept in nanoseconds of the timebase start afresh with it. -/
def safetyKept (x : SafetySt) : SafetySt :=
  { x with
    srcs := x.srcs.map (fun e => (e.1, { e.2 with lastRecord := none })), run := false, fast := false, hold := true, fault0 := false
    fault1 := false, phase := 0, kickFirst := true, kickNs := 0, coolSince := 0, ageDue := [], clkSkip := [], lastJob := []
    plumbRuns := [] }

/-- A warm reset of CORE and APP: DRAM, the ISLAND domain and the fuse shadow survive, and the boot starts at step 3 (R727, R728). -/
def warmReset (kind : Nat) (s : State) : State :=
  let s1 := { reborn warmKeeps s with safety := safetyKept s.safety, mem := s.mem.filter (fun e => decide (e.1 < loftBase)) }
  let s2 := fuseMasks.foldl (fun x m => putMasked m.1 m.2 (regGet s m.1) x) s1
  let s3 := regSetFld (putKind kind s2) Reg.TRUSS_CFG 30 1 (regFld s Reg.TRUSS_CFG 30 1)
  if regBit s3 Reg.CRP_PLL_STAT 0 then bootStep3 s3 else bootGo 1 s3

/-- WRST_N_RESET (R727). -/
def execWrstNReset (s : State) : Host.Outcome State Fault Refusal := .next (warmReset 2 s)

/-- An application reset: IMSICs and the harts' accesses in flight are reset, and the harts restart at the image entry (R727, R750). -/
def appReset (s : State) : State :=
  regSetFld { s with imsic := [], aplic := [], staging := s.staging.filter (fun e => decide (12 * 2 ^ 48 ≤ e.1)),
                     latches := s.latches.filter (fun e => decide (12 * 2 ^ 48 ≤ e.1)) } Reg.CRP_RST_CAUSE 3 1 1

/-- A write to CRP_RST_CTRL acts only with KEY 0xA5C3 in the same word (R729). A warm reset covers an application reset. -/
def resetWrite (v : Word32) (s : State) : State :=
  tryWrite Reg.CRP_RST_CTRL v (fun s =>
    if fld v 16 16 ≠ 0xA5C3 then s else if bitAt v 0 then warmReset 3 s else if bitAt v 1 then appReset s else s) s

/-- CRP_RST_CTRL_WARM (R729). -/
def execCrpRstCtrlWarm (init : Nat) (v : Word32) (s : State) : Host.Outcome State Fault Refusal :=
  .next (asInit init Reg.CRP_RST_CTRL true (resetWrite v) s)

/-- CRP_RST_CTRL_APP (R729). -/
def execCrpRstCtrlApp (init : Nat) (v : Word32) (s : State) : Host.Outcome State Fault Refusal :=
  .next (asInit init Reg.CRP_RST_CTRL true (resetWrite v) s)

end Sys2Proof.Machine
end

