-- ==== Sys2Proof/Machine/ExecSeal.lean ====
section
/-!
DEFINITION. The commands of the seal unit (chapter 16) and the effects of sealed commands that belong to chapters 9, 11, 12 and 13.
-/

namespace Sys2Proof.Machine

/-! SUP and the software window (R610, R628). -/

/-- A WRITE hands its bytes to the seal unit when SUP_CS_N rises, once the epoch has been drawn (R641). -/
def supWrite (bytes : List Byte) (s : State) : State :=
  if epochDrawn s && regBit s Reg.SEAL_SRC_CFG 31 then sealArrive { src := 0, bytes := bytes } s else s

/-- SUP_WRITE (R610). -/
def execSupWrite (bytes : List Byte) (s : State) : Host.Outcome State Fault Refusal := .next (supWrite bytes s)

/-- A READ of `n` bytes shifts out the pending response, then zeros; it stays pending until its last byte has gone out. -/
def supRead (n : Nat) (s : State) : State :=
  let r := s.sealU.supRsp
  { s with sealU := { s.sealU with miso := bytesAt r 0 n, supRsp := if r.length ≤ n then [] else r } }

/-- SUP_READ (R610). -/
def execSupRead (n : Nat) (s : State) : Host.Outcome State Fault Refusal := .next (supRead n s)

/-- LEN submits the software window (R628). -/
def sealSubmit (v : Word32) (s : State) : State :=
  tryWrite Reg.SEAL_SW_CTRL v (fun s =>
    if epochDrawn s && regBit s Reg.SEAL_SRC_CFG 30 then
      sealArrive { src := 5, bytes := (List.range (fld v 0 10)).map (tabGet 0 s.sealU.swWin) } s
    else s) s

/-- SEAL_SW_CTRL (R628). -/
def execSealSwCtrl (init : Nat) (v : Word32) (s : State) : Host.Outcome State Fault Refusal :=
  .next (asInit init Reg.SEAL_SW_CTRL true (sealSubmit v) s)

/-- The unit takes the next waiting frame while no accepted command waits for its effect (R629, R632). -/
def sealTake (s : State) : State :=
  match s.sealU.accepted, sealNext s with
  | none, some k =>
    match sealBuf s k with
    | some f =>
      let s1 := sealBufPut s k none
      sealProcess f { s1 with sealU := { s1.sealU with last := k } }
    | none => s
  | _, _ => s

/-- SEAL_FRAME_TAKE (R632). -/
def execSealFrameTake (s : State) : Host.Outcome State Fault Refusal := .next (sealTake s)

/-! PARTITION_CONFIG (R347, R634). -/

/-- Accept an operation whose payload has the length of OP `op`; another OP, or a partition that does not exist, is refused RANGE. A
joined secondary follows its primary (R656). -/
def sealConfig (op : Nat) (x : SealCmd) (s : State) : State :=
  let p := leAt x.payload 1 1
  let l := x.payload.drop 4
  if twinJoined s && twinSecondary s then sealDone x.slot 0x9001 s
  else if leAt x.payload 0 1 ≠ op + 1 ∨ 8 ≤ p ∨ (op = 2 ∧ p ≠ 0) then sealDone x.slot 0x2002 s
  else configAccept op p l x.slot (dowelMod s x.slot (fun d => { d with kind := .config op p, payload := l }))

/-- The waiting command is an operation with a payload of `n` bytes. -/
def configWaits (s : State) (n : Nat) : Bool :=
  match s.sealU.accepted with | some x => decide (x.payload.length = n) | none => false

/-- PARTITION_CONFIG_RECORD (R347). -/
def execPartitionConfigRecord (s : State) : Host.Outcome State Fault Refusal :=
  .next (if configWaits s 516 then sealRun 1 (sealConfig 0) s else s)

/-- PARTITION_CONFIG_REGIONS (R347). -/
def execPartitionConfigRegions (s : State) : Host.Outcome State Fault Refusal :=
  .next (if configWaits s 532 then sealRun 1 (sealConfig 1) s else s)

/-- PARTITION_CONFIG_WHEELS (R347). -/
def execPartitionConfigWheels (s : State) : Host.Outcome State Fault Refusal :=
  .next (if configWaits s 132 then sealRun 1 (sealConfig 2) s else s)

/-! Safety (R487, R494). -/

/-- Clear CRITICAL sources. -/
def faultClear (x : SealCmd) (s : State) : State :=
  let n := leAt x.payload 0 2
  if n = 0xFFFF then
    sealDone x.slot 0
      ((List.range 512).foldl (fun s k => if pendClass k (fsrc s k) = some 2 then clearPend k s else s) s)
  else if pendClass n (fsrc s n) = some 2 then sealDone x.slot 0 (clearPend n s)
  else sealDone x.slot 0x8301 s

/-- FAULT_CLEAR_CRITICAL (R487). -/
def execFaultClearCritical (s : State) : Host.Outcome State Fault Refusal := .next (sealRun 9 faultClear s)

/-- Leave safe state: the partitions that it stopped are released (R494). -/
def safeExit (x : SealCmd) (s : State) : State :=
  if !s.safety.safe then sealDone x.slot 0x4101 s
  else if critPending s then sealDone x.slot 0x4102 s
  else
    let mask := s.safety.safeStopped.foldl (fun (m : Word32) p => m ||| BitVec.ofNat 32 (2 ^ p)) 0
    sealDone x.slot 0 { s with safety := { s.safety with
      safe := false, safeStopped := [], stopped := s.safety.stopped &&& ~~~mask } }

/-- SAFE_STATE_EXIT (R494). -/
def execSafeStateExit (s : State) : Host.Outcome State Fault Refusal := .next (sealRun 3 safeExit s)

/-! Time (R519, R520). -/

/-- Queue a forced step for the next tick. -/
def timeForce (x : SealCmd) (s : State) : State :=
  let t := leAt x.payload 0 1
  if 3 ≤ t ∨ leAt x.payload 1 3 ≠ 0 then sealDone x.slot 0x5001 s
  else if t = 0 ∧ s.tb.follow.isSome = true then sealDone x.slot 0x5002 s
  else { s with tb := { s.tb with
    forces := s.tb.forces ++ [{ target := t, amount := sintOf 32 (leAt x.payload 4 4), slot := x.slot }] } }

/-- TIME_FORCE_STEP (R519). -/
def execTimeForceStep (s : State) : Host.Outcome State Fault Refusal := .next (sealRun 4 timeForce s)

/-! Repair and grade (R424, R441, R442). -/

/-- The unit and row of a REPAIR_COMMIT exist (R439). -/
def repairUnitOk (kind unit row : Nat) : Bool :=
  match kind with
  | 1 => decide (unit < 36) && decide (row = 0)
  | 2 => decide (unit < 9) && decide (row = 0)
  | 3 => decide (unit < 49) && decide (row = 0)
  | 4 => (decide (unit < 2880) && decide (row < 128)) || (decide (0x1000 ≤ unit) && decide (unit < 0x1000 + 1568) && decide (row < 256))
  | 5 => decide (unit < 18) && decide (row = 0)
  | _ => false

/-- The lifecycle state allows a burn. -/
def repairLife (s : State) : Bool := decide (regFld s Reg.GLOBAL_LIFECYCLE 0 3 = 2 ∨ regFld s Reg.GLOBAL_LIFECYCLE 0 3 = 3)

/-- The refusal of a REPAIR_COMMIT entry, none when it may be burned (R442). -/
def repairTest (s : State) (e : List Byte) : Option Nat :=
  let cause := leAt e 1 1
  if !repairLife s then some 0x3103
  else if !repairUnitOk (leAt e 0 1) (leAt e 2 2) (leAt e 4 2) || !([1, 2, 3, 5, 6, 7].contains cause) || decide (leAt e 6 2 ≠ 0) then
    some 0x3102
  else if s.repair.fieldLog.any (fun x => decide (x.2.take 6 = e.take 6)) then some 0x3104
  else if 32 ≤ s.repair.used then some 0x3101
  else none

/-- Test an entry and begin its burn. -/
def repairCommit (x : SealCmd) (s : State) : State :=
  match repairTest s x.payload with
  | some c => sealDone x.slot c s
  | none => { s with repair := { s.repair with burning := some (x.payload, x.slot) } }

/-- REPAIR_COMMIT (R441): one burn at a time. -/
def execRepairCommit (s : State) : Host.Outcome State Fault Refusal :=
  .next (if s.repair.burning.isNone then sealRun 2 repairCommit s else s)

/-- A burn ends: `ok` says whether it verified (R441, R695). -/
def burnDone (ok : Bool) (s : State) : State :=
  match s.repair.burning with
  | none => s
  | some (e, slot) =>
    let full := withCheck (e ++ leBytes 4 (regGet s Reg.SEAL_EPOCH).toNat)
    let row := if ok then full else 0xFF#8 :: full.drop 1
    sealDone slot (if ok then 0 else 0x3105)
      { s with repair := { s.repair with
        burning := none, used := s.repair.used + 1, fieldLog := tabPut [] s.repair.fieldLog s.repair.used row
        pendingEntries := if ok then s.repair.pendingEntries.filter (fun x => decide (x ≠ e)) else s.repair.pendingEntries } }

/-- REPAIR_BURN_COMPLETE (R441). -/
def execRepairBurnComplete (ok : Bool) (s : State) : Host.Outcome State Fault Refusal := .next (burnDone ok s)

/-- Lock the grade (R424, R442). -/
def gradeLock (x : SealCmd) (s : State) : State :=
  if !repairLife s then sealDone x.slot 0x3103 s
  else if leAt x.payload 0 1 ≠ regFld s Reg.GLOBAL_GRADE 16 8 then sealDone x.slot 0x3106 s
  else if regBit s Reg.GLOBAL_GRADE 2 then sealDone x.slot 0x3107 s
  else sealDone x.slot 0 (regSetFld s Reg.GLOBAL_GRADE 2 1 1)

/-- GRADE_LOCK (R424). -/
def execGradeLock (s : State) : Host.Outcome State Fault Refusal := .next (sealRun 10 gradeLock s)

/-! Keys (R630, R634). -/

/-- A key slot that may authorise KEY_REVOKE. -/
def revokerOk (s : State) (k : Nat) : Bool :=
  let a := regGet s (Reg.SEAL_KEY_ATTR k)
  bitAt a 31 && !bitAt a 30 && bitAt a 6

/-- Begin the revocation of a slot, or refuse it. -/
def keyRevoke (x : SealCmd) (s : State) : State :=
  let k := leAt x.payload 0 1
  let a := regGet s (Reg.SEAL_KEY_ATTR k)
  if k = leAt x.frame.bytes 2 1 then sealDone x.slot 0x8101 s
  else if 8 ≤ k ∨ bitAt a 31 = false then sealDone x.slot 0x8102 s
  else if bitAt a 30 then sealDone x.slot 0x8103 s
  else if (List.range 8).all (fun j => decide (j = k) || !revokerOk s j) then sealDone x.slot 0x8104 s
  else { s with sealU := { s.sealU with revoking := s.sealU.revoking ++ [(k, x.slot)] } }

/-- KEY_REVOKE (R634). -/
def execKeyRevoke (s : State) : Host.Outcome State Fault Refusal := .next (sealRun 7 keyRevoke s)

/-- REVOKED is set and the dowel completes. -/
def revokeDone (k : Nat) (s : State) : State :=
  match s.sealU.revoking.find? (fun e => decide (e.1 = k)) with
  | some (_, slot) =>
    let s1 := { s with sealU := { s.sealU with revoking := s.sealU.revoking.filter (fun e => decide (e ≠ (k, slot))) } }
    sealDone slot 0 (regSetFld s1 (Reg.SEAL_KEY_ATTR k) 30 1 1)
  | none => s

/-- KEY_REVOKE_COMPLETE (R634). -/
def execKeyRevokeComplete (k : Nat) (s : State) : Host.Outcome State Fault Refusal :=
  if k < 8 then .next (revokeDone k s) else .fault .absentUnit

/-! Queries (R418, R634). -/

/-- The 64-byte identity report (R418). -/
def identityReport (s : State) (k : Nat) (nonce : List Byte) : List Byte :=
  let g := regGet s Reg.GLOBAL_GRADE
  let pos := regGet s Reg.GLOBAL_DIEPOS
  let l := leBytes 2 0x0736 ++ leBytes 1 (regFld s Reg.GLOBAL_DEVID 8 8) ++ leBytes 1 (regFld s Reg.GLOBAL_DEVID 0 8) ++
    leBytes 5 (pairGet s Reg.GLOBAL_LOT % 2 ^ 36) ++ leBytes 1 (fld pos 16 5) ++ leBytes 1 (fld pos 8 8) ++ leBytes 1 (fld pos 0 8) ++
    leBytes 4 (regGet s Reg.GLOBAL_SERIAL).toNat ++ leBytes 1 (fld g 16 8) ++ leBytes 1 (fld g 8 8) ++
    leBytes 1 (fld g 4 4 + bitN (bitAt g 3) 4 + bitN (bitAt g 2) 5) ++ leBytes 1 (regFld s Reg.GLOBAL_LIFECYCLE 0 3) ++
    leBytes 1 s.repair.used ++ leBytes 1 k ++ leBytes 2 0 ++ leBytes 8 (pairGet s Reg.GLOBAL_REPAIR_DIGEST) ++
    leBytes 4 (regGet s Reg.SEAL_EPOCH).toNat ++ nonce ++ leBytes 4 0
  withCheck (l ++ cmacTag (sealKey s k) l ++ leBytes 4 0)

/-- IDENTITY_REPORT (R418). -/
def execIdentityReport (s : State) : Host.Outcome State Fault Refusal :=
  .next (sealRun 0x20 (fun x s => sealAnswer x.frame 0 0 (identityReport s (leAt x.frame.bytes 2 1) x.payload) s) s)

/-- The payload of STATUS_QUERY. -/
def statusPayload (s : State) : List Byte :=
  leBytes 4 (regGet s Reg.SEAL_EPOCH).toNat ++
    leBytes 1 (bitN s.safety.safe 0 + bitN (pinsHeld s) 1 + bitN (critPending s) 2) ++
    leBytes 1 (regFld s Reg.GLOBAL_LIFECYCLE 0 3) ++ leBytes 2 0

/-- STATUS_QUERY (R634). -/
def execStatusQuery (s : State) : Host.Outcome State Fault Refusal :=
  .next (sealRun 0x21 (fun x s => sealAnswer x.frame 0 0 (statusPayload s) s) s)

/-- The payload of RESULT_QUERY: the fault code is that of a completion record. -/
def resultPayload (s : State) (h : Nat) : List Byte :=
  match s.sealU.recent.find? (fun e => decide (e.handle = h)) with
  | none => leBytes 4 0xF
  | some e =>
    let d := dowelGet s (slotOf h)
    let (st, fault) := e.final.getD (d.st.code, if d.st.terminal then d.fault else 0)
    leBytes 1 st ++ leBytes 1 0 ++ leBytes 2 fault

/-- RESULT_QUERY (R634). -/
def execResultQuery (s : State) : Host.Outcome State Fault Refusal :=
  .next (sealRun 0x22 (fun x s => sealAnswer x.frame 0 0 (resultPayload s (leAt x.payload 0 4)) s) s)

end Sys2Proof.Machine
end

