-- ==== Sys2Proof/Machine/ExecScribe.lean ====
section
/-!
DEFINITION. The sealed commands SCRIBE_ENABLE and FIRMWARE_ACCEPT, and the test access port (R742, R743, R770–R784).
-/

namespace Sys2Proof.Machine

/-! SCRIBE_ENABLE. -/

/-- Accept an enable in PRODUCTION (R772, R781, R782). -/
def scribeEnable (x : SealCmd) (s : State) : State :=
  if lifeState s ≠ 2 then sealDone x.slot 0x8001 s
  else
    let s1 := raise 0x100 none 0 s
    if regBit s1 Reg.SCRIBE_STATE 0 then sealDone x.slot 0 s1
    else
      let s2 := { s1 with boot := { s1.boot with scribe := s1.boot.scribe ++ [x.slot] } }
      if pinsHeld s2 && !s2.safety.fast then
        { s2 with safety := { s2.safety with fast := true }, boot := { s2.boot with scribeNs := s2.tb.elapsed } }
      else s2

/-- SCRIBE_ENABLE (R772). -/
def execScribeEnable (s : State) : Host.Outcome State Fault Refusal := .next (sealRun 5 scribeEnable s)

/-- At a 500 µs phase boundary the pins change to 4 kHz and SAFETY_CTRL.SCRIBE becomes 1 (R772 step 2). -/
def scribePattern (s : State) : State :=
  if !s.boot.scribe.isEmpty && !s.safety.fast then
    let s1 := phaseBoundary s
    { s1 with safety := { s1.safety with fast := true }, boot := { s1.boot with scribeNs := s1.tb.elapsed } }
  else s

/-- SCRIBE_PATTERN_START (R772). -/
def execScribePatternStart (s : State) : Host.Outcome State Fault Refusal := .next (scribePattern s)

/-- 125 µs later the drivers are enabled and the dowels complete (R772 step 3, R781). -/
def scribeDrivers (s : State) : State :=
  if !s.boot.scribe.isEmpty && s.safety.fast && decide (s.boot.scribeNs + 125000 ≤ s.tb.elapsed) then
    s.boot.scribe.foldl (fun s k => sealDone k 0 s)
      (regSetFld { s with boot := { s.boot with scribe := [] } } Reg.SCRIBE_STATE 0 1 1)
  else s

/-- SCRIBE_DRIVER_ENABLE (R772). -/
def execScribeDriverEnable (s : State) : Host.Outcome State Fault Refusal := .next (scribeDrivers s)

/-! FIRMWARE_ACCEPT (R742, R743). -/

/-- The first failing test of a FIRMWARE_ACCEPT, 0 when it may go on; `readOk` says whether the flash was read without error. -/
def fwTest (s : State) (l : List Byte) (readOk : Bool) : Nat :=
  let t := leAt l 0 1
  let b := leAt l 1 1
  if 3 ≤ t ∨ 2 ≤ b ∨ leAt l 2 6 ≠ 0 then 0x8201
  else if lifeState s = 0 ∨ 5 ≤ lifeState s then 0x8202
  else if s.boot.accept.isSome = true then 0x8208
  else if readOk = false ∨ hasHeader s t b = false then 0x8203
  else if imageOk s t b = false then 0x8204
  else if bytesAt (imageHeader s t b) 32 8 ≠ bytesAt l 8 8 then 0x8205
  else if imageSvn s t b < recordMin s t then 0x8206
  else 0

/-- Test the image, and begin to write the new record. -/
def fwAccept (readOk : Bool) (x : SealCmd) (s : State) : State :=
  let l := x.payload
  match fwTest s l readOk with
  | 0 =>
    { s with boot := { s.boot with
      accept := some { slot := x.slot, typ := leAt l 0 1, bank := leAt l 1 1, svn := imageSvn s (leAt l 0 1) (leAt l 1 1) } } }
  | c => sealDone x.slot c s

/-- FIRMWARE_ACCEPT (R742). -/
def execFirmwareAccept (readOk : Bool) (s : State) : Host.Outcome State Fault Refusal := .next (sealRun 6 (fwAccept readOk) s)

/-- The new boot record (R731, R742). -/
def newRecord (s : State) (a : FwAccept) : List Byte :=
  let part := fun (t : Nat) => if a.typ = t then a.bank else recordBank s t
  let svn := fun (t : Nat) => if a.typ = t then a.svn else recordMin s t
  withCheck (leBytes 1 (part 0) ++ leBytes 1 (part 1) ++ leBytes 1 (part 2) ++ leBytes 1 0 ++ leBytes 4 (svn 0) ++ leBytes 4 (svn 1) ++
    leBytes 4 (svn 2) ++ leBytes 4 (recordGen s.boot.record + 1) ++ leBytes 40 0)

/-- What a record that does not read back equal leaves in its copy: bytes that the manual does not state. -/
def freeRecord : Nat → State → List Byte × State
  | 0, s => ([], s)
  | k + 1, s =>
    let (v, s1) := takeFree s
    let (l, s2) := freeRecord k s1
    (leBytes 8 v.toNat ++ l, s2)

/-- The record is written over the copy not in use and read back (R742, R743). -/
def fwDone (ok : Bool) (s : State) : State :=
  match s.boot.accept with
  | none => s
  | some a =>
    let k := match s.boot.copy with | some 0 => 1 | _ => 0
    let s1 := { s with boot := { s.boot with accept := none } }
    if ok then
      let r := newRecord s a
      let s2 := flashWrite (0x1000 * k) r s1
      sealDone a.slot 0 { s2 with boot := { s2.boot with record := r, copy := some k } }
    else
      let (l, s2) := freeRecord 8 s1
      sealDone a.slot 0x8207 (flashWrite (0x1000 * k) l s2)

/-- FIRMWARE_ACCEPT_DONE (R742). -/
def execFirmwareAcceptDone (ok : Bool) (s : State) : Host.Outcome State Fault Refusal := .next (fwDone ok s)

/-! The test access port. -/

/-- Put an instruction in force with what drives the pins under it. -/
def jtagIr (ir drive : Nat) (s : State) : State := { s with boot := { s.boot with jtag := { s.boot.jtag with ir := ir, drive := drive } } }

/-- An instruction that is not available acts as BYPASS (R770, R779). -/
def jtagBypass (s : State) : State := jtagIr 0xFF 0 s

/-- The state that availability follows: the one read at the last cold reset; none before the fuses have been read (R784). -/
def jtagLife (s : State) : Option Nat := if 3 ≤ bootPhase s then some (lifeState s) else none

/-- A private instruction of code `ir`, available in the states `l` (R770). -/
def jtagPrivate (ir : Nat) (l : List Nat) (eff : State → State) (s : State) : State :=
  match jtagLife s with
  | some n => if l.contains n then eff (jtagIr ir 0 s) else jtagBypass s
  | none => jtagBypass s

/-- EXTEST, CLAMP and HIGHZ take effect in TEST, and in other states only while WRST_N is held low (R779). -/
def jtagPins (ir drive : Nat) (wrst : Bool) (s : State) : State :=
  if wrst || decide (jtagLife s = some 1) then jtagIr ir drive s else jtagBypass s

/-- EXTEST (R779); `wrst` says that WRST_N is held low. -/
def execExtest (wrst : Bool) (s : State) : Host.Outcome State Fault Refusal := .next (jtagPins 0x00 1 wrst s)

/-- CLAMP (R779). -/
def execClamp (wrst : Bool) (s : State) : Host.Outcome State Fault Refusal := .next (jtagPins 0x03 1 wrst s)

/-- HIGHZ (R779). -/
def execHighz (wrst : Bool) (s : State) : Host.Outcome State Fault Refusal := .next (jtagPins 0x04 2 wrst s)

/-- The identification register (R778). -/
def idcode (s : State) : Nat := regFld s Reg.GLOBAL_DEVID 8 4 * 2 ^ 28 + 0x0736 * 2 ^ 12 + 0x4E5 * 2 + 1

/-- IDCODE (R778): the identification register is shifted out. -/
def execIdcode (s : State) : Host.Outcome State Fault Refusal :=
  .next { jtagIr 0x01 0 s with reply := some (BitVec.ofNat 64 (idcode s)) }

/-- SAMPLE_PRELOAD (R777): the pins are sampled, and the boundary register takes what is shifted in. -/
def execSamplePreload (pins load : Nat) (s : State) : Host.Outcome State Fault Refusal :=
  let s1 := jtagIr 0x02 0 s
  .next { s1 with boot := { s1.boot with jtag := { s1.boot.jtag with sample := BitVec.ofNat 2968 pins, bsr := BitVec.ofNat 2968 load } } }

/-- BYPASS (R777). -/
def execBypass (s : State) : Host.Outcome State Fault Refusal := .next (jtagBypass s)

/-- TAP_RESET (R777): Test-Logic-Reset leaves IDCODE in force. -/
def execTapReset (s : State) : Host.Outcome State Fault Refusal := .next (jtagIr 0x01 0 s)

/-- Burn one item (R425): a fuse that is 1 stays 1. The lifecycle fuses are burned by LIFECYCLE alone. -/
def fuseProg (i : FuseItem) (s : State) : State :=
  match i with
  | .word a v =>
    match fuseMasks.find? (fun x => decide (x.1 = a) && decide (a ≠ Reg.GLOBAL_LIFECYCLE)) with
    | some (_, m) => { s with boot := { s.boot with fuses := tabPut 0 s.boot.fuses a (fuseWord s a ||| (v &&& BitVec.ofNat 32 m)) } }
    | none => s
  | .bay n => { s with repair := { s.repair with factoryBays := s.repair.factoryBays ||| BitVec.ofNat 64 (2 ^ n) } }
  | .jointer n => { s with repair := { s.repair with factoryJointers := s.repair.factoryJointers ||| BitVec.ofNat 16 (2 ^ n) } }
  | .loft n => { s with repair := { s.repair with factoryLoft := s.repair.factoryLoft ||| BitVec.ofNat 64 (2 ^ n) } }
  | .row m => { s with repair := { s.repair with factoryRows := tabModify 0 s.repair.factoryRows m (· + 1) } }

/-- The fuse item exists. -/
def fuseItemOk : FuseItem → Bool
  | .word a _ => fuseMasks.any (fun x => decide (x.1 = a)) && decide (a ≠ Reg.GLOBAL_LIFECYCLE)
  | .bay n => decide (n < 36)
  | .jointer n => decide (n < 9)
  | .loft n => decide (n < 49)
  | .row m => decide (m < 2880) || (decide (0x1000 ≤ m) && decide (m < 0x1000 + 1568))

/-- FUSE_PROG (R425): in BLANK and TEST. -/
def execFuseProg (i : FuseItem) (s : State) : Host.Outcome State Fault Refusal :=
  if fuseItemOk i then .next (jtagPrivate 0x40 [0, 1] (fuseProg i) s) else .fault .absentUnit

/-- Write a key slot that is not provisioned yet: one of the seal unit, or one of the four that authenticate images (R630, R733). -/
def keyProg (image : Bool) (k : Nat) (key : List Byte) (attr : Word32) (s : State) : State :=
  if image then
    let x : ImageKey := { prov := true, types := fld attr 0 3, rma := bitAt attr 3, digest := bytesAt key 0 32 }
    if (tabGet {} s.boot.imageKeys k).prov then s
    else { s with boot := { s.boot with imageKeys := tabPut {} s.boot.imageKeys k x } }
  else if regBit s (Reg.SEAL_KEY_ATTR k) 31 then s
  else
    let s1 := { s with sealU := { s.sealU with keys := tabPut (List.replicate 16 0) s.sealU.keys k (bytesAt key 0 16) } }
    putMasked (Reg.SEAL_KEY_ATTR k) 0x870007FF (attr ||| BitVec.ofNat 32 (2 ^ 31)) s1

/-- KEY_PROG (R630): in TEST. For an image slot `attr` holds the allowed types in [2:0] and the RMA attribute in [3]. -/
def execKeyProg (image : Bool) (k : Nat) (key : List Byte) (attr : Word32) (s : State) : Host.Outcome State Fault Refusal :=
  if k < (if image then 4 else 8) then .next (jtagPrivate 0x41 [1] (keyProg image k key attr) s) else .fault .absentUnit

/-- ISLAND_LOAD (R738): an unsigned image into island SRAM at an offset, in TEST. -/
def execIslandLoad (o : Nat) (l : List Byte) (s : State) : Host.Outcome State Fault Refusal :=
  .next (jtagPrivate 0x42 [1]
    (fun s => { s with boot := { s.boot with islandSram := putBytes s.boot.islandSram o (l.take (0x80000 - o)) } }) s)

/-- DEBUG (R770): the debug transport, in TEST. -/
def execDebug (s : State) : Host.Outcome State Fault Refusal := .next (jtagPrivate 0x43 [1] (fun s => s) s)

/-- The lifecycle states that JTAG may burn from a fused state (R738). -/
def jtagNext (n : Nat) : List Nat := match n with | 0 => [1] | 1 => [2, 5] | 4 => [5] | _ => []

/-- LIFECYCLE (R770, R784): burns a next state that the lifecycle table allows; it takes effect at the next cold reset. -/
def execLifecycle (target : Nat) (s : State) : Host.Outcome State Fault Refusal :=
  .next (jtagPrivate 0x44 [0, 1, 4]
    (fun s => if (jtagNext (fuseWord s Reg.GLOBAL_LIFECYCLE).toNat).contains target then burnLife target s else s) s)

end Sys2Proof.Machine
end

