-- ==== Sys2Proof/Machine/RegRead.lean ====
section
/-!
DEFINITION. What a register reads: the stored word, or the value that another piece of state gives it; read latches, queue pops and
the record windows (R33–R37, and the field tables of the chapters).
-/

namespace Sys2Proof.Machine

/-- A number of flags as bits of a field: bit i when `f i`. -/
def maskOf (n : Nat) (f : Nat → Bool) : Nat := (List.range n).foldl (fun m i => m + bitN (f i) i) 0

/-! GLOBAL (chapters 2 and 11). -/

/-- GLOBAL_SPARES: bays, jointers and whether a loft bank is spare. -/
def sparesView (s : State) : Nat :=
  ((List.range bayCount).filter (isSpare s)).length * 2 ^ 16 + ((List.range 9).filter (spareJointer s)).length * 2 ^ 8 +
    bitN (decide (48 < ((List.range 49).filter (fun b => !s.repair.badLoft.getLsbD b)).length)) 0

/-- Computed words of GLOBAL by offset. -/
def globalView (s : State) (o : Nat) : Option Nat :=
  match o with
  | 0x28 => some s.repair.used
  | 0x54 => some (sparesView s)
  | 0x5C => some s.repair.pendingEntries.length
  | _ => none

/-! BAY and JOINTER (chapters 3, 5, 7). -/

/-- BAY_STATE of a logical number. -/
def bayStateView (s : State) (n : Nat) (b : Bay) : Nat :=
  let code := match lbPhys s n with
    | some _ => b.st.code
    | none => if regBit s Reg.GLOBAL_DROP (n % 32) then BaySt.code .retired else 0
  (bayOwner s n).getD 0 * 2 ^ 16 + bitN (!b.jointerQ.isEmpty) 10 + bitN (!b.dmaQ.isEmpty) 9 + bitN (!b.matrixQ.isEmpty) 8 + code

/-- BAY_MAP of a logical number: PHYS reads 0x3F while no bay holds it (R436). -/
def bayMapView (s : State) (n : Nat) : Nat :=
  match lbPhys s n with
  | some pb => pb * 2 ^ 16 + n * 2 ^ 8 + pb / 4
  | none => 0x3F * 2 ^ 16 + n * 2 ^ 8

/-- A started matrix entry of the bay works on a slot: loading it, or streaming through it. -/
def slotWork (b : Bay) (load : Bool) (i : Nat) : Bool :=
  b.matrixQ.any (fun e => e.started &&
    (if load then decide (issuesAs e.word = .mloadw) && decide (MX.w e.word = i)
     else decide (issuesAs e.word = .mstream) && (streamSlots e.word).contains i))

/-- BAY_SLOTS. -/
def baySlotsView (b : Bay) : Nat :=
  let sl := fun (i : Nat) => tabGet {} b.slots i
  maskOf 4 (fun i => (sl i).stale) * 2 ^ 12 + maskOf 4 (slotWork b false) * 2 ^ 8 + maskOf 4 (slotWork b true) * 2 ^ 4 +
    maskOf 4 (fun i => (sl i).loaded)

/-- Computed words of a bay page. -/
def bayView (s : State) (n o : Nat) : Option Nat :=
  let b := match lbPhys s n with | some pb => bayGet s pb | none => {}
  match o with
  | 0x00 => some (bayStateView s n b)
  | 0x04 => some (bayMapView s n)
  | 0x08 => some b.main.regs.flags.sticky.toBits
  | 0x18 => some (baySlotsView b)
  | 0x30 => some (if b.main.active then b.main.handle else 0)
  | 0x44 => some (if b.main.active then b.main.progid else 0)
  | _ => none

/-- The bay of a bent whose command holds the work store: the oldest started command that uses it (R286). -/
def workStore (s : State) (k : Nat) : Option Nat :=
  (List.range 4).find? (fun i =>
    match lbPhys s (4 * (bentBase s + k) + i) with
    | some pb => (bayGet s pb).jointerQ.any (fun e =>
        e.started && [Op.jsort, Op.jtopk, Op.jhparto, Op.jhpartu].contains (issuesAs e.word))
    | none => false)

/-- Commands of bay i of a bent sent and not completed. -/
def bentOut (s : State) (k i : Nat) : Nat :=
  match lbPhys s (4 * (bentBase s + k) + i) with
  | some pb => min 16 (bayGet s pb).jointerQ.length
  | none => 0

/-- Computed words of a jointer page. -/
def jointerView (s : State) (k o : Nat) : Option Nat :=
  match o with
  | 0x0 => some ((bentJointer s k).getD 0xF * 2 ^ 16 + (bentBase s + k) * 2 ^ 8)
  | 0x4 =>
    some (bitN (workStore s k).isSome 31 + (workStore s k).getD 0 * 2 ^ 28 + bentOut s k 3 * 2 ^ 15 + bentOut s k 2 * 2 ^ 10 +
      bentOut s k 1 * 2 ^ 5 + bentOut s k 0)
  | _ => none

/-! CMDPROC, DOWEL and PEG (chapter 8). -/

/-- Computed words of a submit window. -/
def windowView (s : State) (w o : Nat) : Option Nat :=
  match o with
  | 0x8 => some (ticketValue s w).toNat
  | 0xC => some (tabGet {} s.cmd.tickets w).count
  | 0x10 => some (match windowOwner s w with | some p => 2 ^ 31 + p | none => 0)
  | _ => none

/-- Computed words of a DOWEL page for an initiator. -/
def dowelView (s : State) (init p o : Nat) : Option Nat :=
  match o with
  | 0x4 => some (tabGet 0 s.cmd.qlatch (8 * init + p)).toNat
  | 0x10 => some (dowelsInUse s p)
  | 0x14 => some (dowelQuota s p)
  | _ => none

/-- Words of a peg. -/
def pegView (s : State) (n o : Nat) : Option Nat :=
  let x := pegGet s n
  match o with
  | 0x0 => some x.count.toNat
  | 0x8 => some x.target.toNat
  | 0xC => some x.stamp.toNat
  | 0x10 => some (bitN x.sat 1 + bitN x.poison 0)
  | _ => none

/-! PART and GIRT (chapters 9, 10). -/

/-- PART_STATUS. -/
def partStatus (s : State) (p : Nat) : Nat :=
  let swap := (List.range 16).any (fun g => (updGet s (swapRegion p g)).running.isSome || (updGet s (swapRegion p g)).queued.isSome)
  bitN (s.part.zeroing.any (fun z => decide (z.2 = p))) 3 + bitN swap 2 + bitN (updGet s p).queued.isSome 1 +
    bitN (updGet s p).running.isSome 0

/-- Computed words of a PART page. -/
def partView (s : State) (p o : Nat) : Option Nat :=
  match o with
  | 0x04 => some (partStatus s p)
  | 0x08 => some (bitN ((beatGet s p).tail && s.part.tableHeld) 8 + (beatGet s p).entry)
  | 0x48 => some (contestCover s p / 4096)
  | _ => none

/-- Computed words of a girt. -/
def girtView (s : State) (p t c o : Nat) : Option Nat :=
  let g := girtGet s p t c
  match o with
  | 0x0 => some (min 0xFFFFF (g.latNum / 256 ^ g.latExp))
  | 0x4 => some (girtLevel s p t c)
  | 0x8 => some (min 0xFFFFFF g.used)
  | _ => none

/-! TIMEBASE (chapter 13). -/

/-- Words 1 to 3 of a popped timestamp record (R524). -/
def tsWord (s : State) (key k : Nat) : Nat :=
  match tabGet none s.tb.tsLatch key with
  | some r => if k = 1 then r.tsa else if k = 2 then r.tsb else 0
  | none => 0

/-- Computed words of TIMEBASE by offset in the block. -/
def timeView (s : State) (o : Nat) : Option Nat :=
  let pg := o / 0x1000
  let r := o % 0x1000
  if o = 0 then some (workTime s)
  else if o = 0x1000 then some (setFld (regGet s Reg.TB_CTRL) 0 1 (selDom s)).toNat
  else if o = 0x1004 then
    some (bitN s.tb.b.acq 4 + bitN s.tb.a.acq 3 + bitN s.tb.b.valid 2 + bitN s.tb.a.valid 1 + selDom s)
  else if o = 0x1008 then some (BitVec.ofInt 32 s.tb.bridge).toNat
  else if pg = 2 ∨ pg = 3 then
    (if r = 0 then some (domGet s (pg - 2)).time else if r = 4 then some (domGet s (pg - 2)).frac else none)
  else if 4 ≤ pg ∧ pg < 8 then
    (if 0x14 ≤ r ∧ r < 0x20 then some (tsWord s (2 * (pg - 4)) ((r - 0x10) / 4))
     else if 0x24 ≤ r ∧ r < 0x30 then some (tsWord s (2 * (pg - 4) + 1) ((r - 0x20) / 4)) else none)
  else if 0x10 ≤ pg ∧ pg < 0x20 ∧ r = 0x8 then some (match (tcapGet s (pg - 0x10)).latch with | some x => x.stamp | none => 0)
  else if 0x20 ≤ pg ∧ pg < 0x28 ∧ r = 0x10 then some (tpulseGet s (pg - 0x20)).next
  else none

/-! SAFETY (chapter 12). -/

/-- SAFETY_SRC of a source. -/
def srcView (s : State) (n : Nat) : Nat :=
  let f := fsrc s n
  bitN f.pend 31 + ((if f.pend then pendClass n f else srcClass n).getD 0) * 2 ^ 29 + f.count

/-- SAFETY_DIN_STAT. -/
def dinView (s : State) (n : Nat) : Nat :=
  let x := tabGet {} s.safety.din n
  bitN x.disc 31 + bitN x.resolved 16 + x.count

/-- Computed words of SAFETY by offset in the block. -/
def safetyView (s : State) (o : Nat) : Option Nat :=
  if o = 0 then some (bitN s.safety.fast 3 + bitN s.safety.safe 2 + bitN s.safety.hold 1 + bitN s.safety.run 0)
  else if o = 8 then some (s.safety.stopped.toNat % 256)
  else if o = 0x10 then some (s.safety.logPI % 2048)
  else if 0x90 ≤ o ∧ o < 0xA0 then some (dinView s ((o - 0x90) / 4))
  else if 0x2000 ≤ o ∧ o < 0x2800 then some (srcView s ((o - 0x2000) / 4))
  else if 0x10000 ≤ o ∧ o < 0x14000 then some (leAt (tabGet [] s.safety.log ((o - 0x10000) / 16)) (o % 16) 4)
  else none

/-! The other blocks. -/

/-- The line that a pipe outputs: VACTIVE at the start of vertical blanking. -/
def lineNow (s : State) (i : Nat) : Nat :=
  let ht := regFld s (Reg.DISP_HTIME i) 16 16
  let vt := regFld s (Reg.DISP_VTIME i) 16 16
  let lines := (s.tb.elapsed - tabGet 0 s.disp.blankNs i) * (12 * 2 ^ 24) / (pixDivisor s i * ht)
  if !regBit s (Reg.DISP_PIPE_CFG i) 31 || decide (vt = 0) then 0 else (regFld s (Reg.DISP_VTIME i) 0 16 + lines) % vt

/-- Computed words of GFX. -/
def gfxView (s : State) (o : Nat) : Option Nat :=
  match o with
  | 0x8 => some s.gfx.bound
  | 0xC => some (bitN (decide (s.gfx.bound ≠ 0)) 0 + bitN (decide (s.gfx.bound ≠ 0) && (dowelGet s (slotOf s.gfx.bound)).suspended) 1)
  | _ => none

/-- Computed words of a gateway host page. -/
def hostView (s : State) (p o : Nat) : Option Nat :=
  match o with
  | 0x0C => some (setFld (regGet s (Reg.GW_TX_STAT p)) 0 6 (hostQ s p).length).toNat
  | 0x24 => some (match tabGet none s.gw.rxLatch p with | some x => x.stamp | none => 0)
  | _ => none

/-- Collectives of this device that are not terminal. -/
def collLive (s : State) : Nat := collCount s (fun _ => true)

/-- Scribe access is allowed in the lifecycle state (R770). -/
def scribeAvail (s : State) : Bool := decide (lifeState s = 1 ∨ lifeState s = 2)

/-- The value that a piece of state outside `regs` gives the word at `a`, for an initiator; none for a stored word. -/
def wordView (s : State) (init : Nat) (a : Addr) : Option Nat :=
  let x := a - Reg.spaceBase
  let o := x % 0x100000
  let pg := o / 0x1000
  let r := o % 0x1000
  match x / 0x100000 with
  | 0x00 => globalView s o
  | 0x01 => if o = 4 then some (setFld (regGet s Reg.CRP_THROTTLE) 31 1
      (bitN (decide (regFld s Reg.CRP_BAY_CLK 0 2 < regFld s Reg.CRP_THROTTLE 16 2)) 0)).toNat else none
  | 0x02 => if pg < 64 then windowView s pg r else none
  | 0x03 =>
    if o < 0x10000 then pegView s (o / 0x20) (o % 0x20)
    else if 0x80000 ≤ o ∧ o < 0x80020 then
      some (recFld s ((o - 0x80000) / 4) 40 4 16 6 * 2 ^ 16 + recFld s ((o - 0x80000) / 4) 40 4 0 5)
    else none
  | 0x04 => if pg < 8 then dowelView s init pg r else none
  | 0x05 => if pg < 8 then partView s pg r else none
  | 0x06 => if pg < 8 ∧ r < 0x200 then girtView s pg (r / 0x100) (r % 0x100 / 0x20) (r % 0x20) else none
  | 0x07 => timeView s o
  | 0x08 => safetyView s o
  | 0x09 => if 0x10 ≤ pg ∧ pg < 0x20 ∧ r = 0x38 then some (ctxGet s (pg - 0x10)).next else none
  | 0x0A => gfxView s o
  | 0x0B => if pg < 4 ∧ r = 0x18 then some (setFld (regGet s (Reg.DISP_PIPE_STAT pg)) 0 16 (lineNow s pg)).toNat else none
  | 0x0C => if 0x40 ≤ pg ∧ pg < 0x48 then hostView s (pg - 0x40) r else none
  | 0x0E => if o = 0x20000 then some (setFld (regGet s Reg.FC_STATUS) 0 7 (collLive s)).toNat else none
  | 0x0F =>
    if 0x1000 ≤ o ∧ o < 0x1400 then some (leVal ((rangeFrom (o - 0x1000) 4).map (tabGet 0 s.sealU.swWin)))
    else if 0x1400 ≤ o ∧ o < 0x1800 then some (leAt s.sealU.swRsp (o - 0x1400) 4)
    else none
  | 0x10 => if o = 0 then some (bitN (scribeAvail s) 1 + regFld s Reg.SCRIBE_STATE 0 1) else none
  | 0x11 => bayView s (4 * bentBase s + o / 0x10000) (o % 0x10000)
  | 0x12 => if o < 0x80000 then jointerView s (o / 0x10000) (o % 0x10000) else none
  | 0x13 => bayView s (4 * bentBase s + 16 + o / 0x10000) (o % 0x10000)
  | _ => none

/-- The bits of a row that a read returns: those of fields that are not write-only. -/
def RRow.readMask (r : RRow) : Word32 :=
  BitVec.ofNat 32 (r.fields.foldl (fun m f => if f.acc = .wo then m else m + (2 ^ f.len - 1) * 2 ^ f.lo) 0)

/-- The word at `a` as it stands; a word that holds no register reads 0 (R35). -/
def liveWord (s : State) (init : Nat) (a : Addr) : Word32 :=
  match wordView s init a with
  | some v => BitVec.ofNat 32 v
  | none => match regRow a with | some r => regGet s a &&& r.readMask | none => 0

/-- A counter of clock cycles, which the model does not keep: its count is a value that it leaves open. -/
def cycleCounter (a : Addr) : Bool :=
  let x := a - Reg.spaceBase
  let o := x % 0x10000
  (decide (x / 0x100000 = 0x11 ∨ x / 0x100000 = 0x13) && decide (o = 0x20 ∨ o = 0x24 ∨ o = 0x28)) ||
    (decide (x / 0x100000 = 0x12) && decide (x % 0x100000 < 0x80000) && decide (o = 0x20))

/-- The half of a pair that a word is. -/
def halfOf (a : Addr) : PairHalf := match regRow a with | some r => r.half | none => .single

/-- The key of an initiator's staging word and read latch of a pair. -/
def pairKey (init : Nat) (a : Addr) : Nat := init * 2 ^ 48 + a

/-- Read one word: a low word loads the initiator's read latch, a high word returns it (R37). -/
def readWord (init : Nat) (a : Addr) (s : State) : Word32 × State :=
  if cycleCounter a then
    let (v, s1) := takeFree s
    (BitVec.ofNat 32 (v.toNat % 2 ^ 31), s1)
  else
    match halfOf a with
    | .low =>
      (liveWord s init a, { s with latches := tabPut none s.latches (pairKey init a) (some (liveWord s init (a + 4))) })
    | .high => ((tabGet none s.latches (pairKey init (a - 4))).getD (regReset a), s)
    | .single => (liveWord s init a, s)

/-- A read that acts: a ticket, and the heads of queues. -/
def readActs (a : Addr) : Option (State → State) :=
  let x := a - Reg.spaceBase
  let o := x % 0x100000
  let pg := o / 0x1000
  let r := o % 0x1000
  match x / 0x100000 with
  | 0x02 => if pg < 64 ∧ r = 8 then some (fun s => { ticketSeen pg s with reply := some ((ticketValue s pg).zeroExtend 64) }) else none
  | 0x07 =>
    if 4 ≤ pg ∧ pg < 8 ∧ r = 0x10 then some (tsPop (pg - 4) false)
    else if 4 ≤ pg ∧ pg < 8 ∧ r = 0x20 then some (tsPop (pg - 4) true)
    else if 0x10 ≤ pg ∧ pg < 0x20 ∧ r = 4 then some (tcapPop (pg - 0x10))
    else none
  | 0x0C => if 0x40 ≤ pg ∧ pg < 0x48 ∧ r = 0x20 then some (rxPop (pg - 0x40)) else none
  | _ => none

/-- The access has the width and alignment that register space takes: 4 bytes, or 8 at a pair (R34). -/
def widthOk (a : Addr) (size : Nat) : Bool :=
  (decide (size = 4) && decide (a % 4 = 0)) || (decide (size = 8) && decide (a % 8 = 0) && decide (halfOf a = .low))

/-- The action of an access, where the register has one of its own, else the plain access. -/
def actOr (act : Option (State → State)) (plain : State → State) (s : State) : State :=
  match act with
  | some f => f s
  | none => plain s

/-- The reply of a 64-bit read: the low word, and the high word just read. -/
def replyPair (lo : Word32) (hi : Word32 × State) : State :=
  { hi.2 with reply := some (BitVec.ofNat 64 (lo.toNat + 2 ^ 32 * hi.1.toNat)) }

/-- The reply of a read whose first word has been read: that word, or the pair with the word above it. -/
def replyWords (init : Nat) (a : Addr) (size : Nat) (lo : Word32 × State) : State :=
  if size = 4 then { lo.2 with reply := some (lo.1.zeroExtend 64) } else replyPair lo.1 (readWord init (a + 4) lo.2)

/-- A read of one word, or of a pair, that has no other effect than R37's latch. -/
def readPlain (init : Nat) (a : Addr) (size : Nat) (s : State) : State := replyWords init a size (readWord init a s)

/-- A read that the page and the width allow. -/
def readHere (init : Nat) (a : Addr) (size : Nat) (s : State) : State := actOr (readActs a) (readPlain init a size) s

/-- The partition that an initiator's access is attributed to. -/
def whoPart (s : State) (init : Nat) : Option Nat := match whoOf s init with | .part p => some p | _ => none

/-- An access that ends in an access error (R30, R34). -/
def accessError (init kind : Nat) (a : Addr) (s : State) : State := { holeError raise init (whoPart s init) kind a s with reply := none }

/-- A read of register space (R34–R37). -/
def regRead (init : Nat) (a : Addr) (size : Nat) (s : State) : State :=
  if !widthOk a size then accessError init 2 a s
  else asInit init a false (readHere init a size) s

end Sys2Proof.Machine
end

