-- ==== Sys2Proof/Machine/RegWrite.lean ====
section
/-!
DEFINITION. What a write of register space does: the words that act, the tests that a chapter adds to a field's range, the staging
words of 64-bit pairs (R34–R39), and the pages that ignore writes.
-/

namespace Sys2Proof.Machine

/-- Discard a write as a reserved encoding (R39). -/
def reserveWrite (s : State) : State := cntInc s Reg.GLOBAL_RSVD_CNT

/-- Write a word that also meets a test of its chapter, which otherwise discards it (R39). -/
def testedWrite (ok : Bool) (a : Addr) (v : Word32) (s : State) : State := if ok then fieldWrite a v s else reserveWrite s

/-! CMDPROC (chapter 8). -/

/-- The low word that an initiator has staged for a pair, or the committed one (R37). -/
def stagedLow (init : Nat) (a : Addr) (s : State) : Word32 := (tabGet none s.staging (pairKey init a)).getD (regGet s a)

/-- The high word of a submit window submits the descriptor (R308, R309). -/
def submitHigh (init w : Nat) (v : Word32) (s : State) : State :=
  tryWrite (Reg.CMDPROC_SUBMIT w + 4) v (fun s =>
    let addr := (stagedLow init (Reg.CMDPROC_SUBMIT w) s).toNat + 2 ^ 32 * fld v 0 16
    submitAt w addr (commitPair s (Reg.CMDPROC_SUBMIT w) addr)) s

/-! PEG and DOWEL (chapter 8). -/

/-- Writes of a peg's words: COUNT sets, ADD adds, TARGET, and CLEAR (R328, R330). -/
def pegWrites (n o : Nat) (v : Word32) : Option (State → State) :=
  match o with
  | 0x0 => some (fun s => pegSignal s n (.set v.toNat))
  | 0x4 => some (fun s => pegSignal s n (.add v.toNat))
  | 0x8 => some (fun s => pegSetTarget s n v)
  | 0x10 => some (tryWrite (Reg.PEG_STATUS n) v (fun s => if bitAt v 31 then pegClear s n else s))
  | _ => none

/-- Writes of a DOWEL page (R319, R320, R322). -/
def dowelWrites (init p o : Nat) (v : Word32) : Option (State → State) :=
  match o with
  | 0x0 => some (queryLatch init p v)
  | 0x8 => some (cancelDowel p v)
  | 0xC => some (releaseDowel p v)
  | _ => none

/-! TIMEBASE (chapter 13). -/

/-- TB_CTRL: AUTO and SEL are RWL fields (R355, R514). -/
def tbCtrlWrite (v : Word32) (s : State) : State :=
  tryWrite Reg.TB_CTRL v (fun s => if pageLocked s Reg.TB_CTRL then s else selWrite (fld v 0 1) (storeFields Reg.TB_CTRL v s)) s

/-- DOM_SYNC: SYNC, then DROP (R512). -/
def domSyncWrite (d : Nat) (v : Word32) (s : State) : State :=
  tryWrite (Reg.TB_DOM_SYNC d) v (fun s =>
    let s1 := if bitAt v 0 then domSync d s else s
    if bitAt v 1 then domDrop d s1 else s1) s

/-- DOM_RATE is within ±500 ppm (R504). -/
def rateOk (v : Word32) : Bool := decide (-8589935 ≤ v.toInt) && decide (v.toInt ≤ 8589935)

/-- TPULSE_CFG (R528, R530): POL keeps its value while the output is armed, and setting ARM arms it. -/
def tpulseCfgWrite (n : Nat) (v : Word32) (s : State) : State :=
  let a := Reg.TPULSE_CFG n
  tryWrite a v (fun s =>
    if regBit s a 31 then storeFields a (setFld v 30 1 (regFld s a 30 1)) s
    else
      let s1 := storeFields a (setFld v 31 1 0) s
      if bitAt v 31 then tpulseArm n s1 else s1) s

/-- PERIOD is 0, or at least 1,000 ns and 4 × WIDTH + 8 ns (R529). -/
def periodOk (s : State) (n : Nat) (v : Word32) : Bool :=
  decide (v = 0) ||
    (decide (1000 ≤ v.toNat) && decide (v.toNat < 2 ^ 31) && decide (4 * regFld s (Reg.TPULSE_WIDTH n) 0 16 + 8 ≤ v.toNat))

/-- Writes of a TPULSE page: START, PERIOD and WIDTH do not change while the output is armed (R529). -/
def tpulseWrites (n r : Nat) (v : Word32) : Option (State → State) :=
  match r with
  | 0x0 => some (tpulseCfgWrite n v)
  | 0x4 => some (fun s => testedWrite (!regBit s (Reg.TPULSE_CFG n) 31) (Reg.TPULSE_START n) v s)
  | 0x8 => some (fun s => testedWrite (!regBit s (Reg.TPULSE_CFG n) 31 && periodOk s n v) (Reg.TPULSE_PERIOD n) v s)
  | 0xC => some (fun s => testedWrite (!regBit s (Reg.TPULSE_CFG n) 31) (Reg.TPULSE_WIDTH n) v s)
  | _ => none

/-- Writes of TIMEBASE that act. -/
def timeWrites (o : Nat) (v : Word32) : Option (State → State) :=
  let pg := o / 0x1000
  let r := o % 0x1000
  if o = 0x1000 then some (tbCtrlWrite v)
  else if pg = 2 ∨ pg = 3 then
    (match r with
     | 0x8 => some (testedWrite (rateOk v) (Reg.TB_DOM_RATE (pg - 2)) v)
     | 0xC => some (fun s => domPut s (pg - 2) { domGet s (pg - 2) with step := some v.toInt })
     | 0x10 => some (domSyncWrite (pg - 2) v)
     | _ => none)
  else if 0x20 ≤ pg ∧ pg < 0x28 then tpulseWrites (pg - 0x20) r v
  else none

/-! SAFETY (chapter 12). -/

/-- SAFETY_CTRL: RUN is set once, by the island (R488). -/
def ctrlWrite (init : Nat) (v : Word32) (s : State) : State :=
  tryWrite Reg.SAFETY_CTRL v (fun s => if bitAt v 0 && isIsland init then setRun s else s) s

/-- SAFETY_PSTOP: each bit written 1 releases its partition (R492). -/
def pstopWrite (v : Word32) (s : State) : State :=
  tryWrite Reg.SAFETY_PSTOP v (fun s => (List.range 8).foldl (fun s p => if bitAt v p then releasePart p s else s) s) s

/-- SAFETY_DIN_CFG: a new configuration starts a run afresh (R473). -/
def dinCfgWrite (n : Nat) (v : Word32) (s : State) : State :=
  tryWrite (Reg.SAFETY_DIN_CFG n) v (fun s =>
    let x := tabGet {} s.safety.din n
    storeFields (Reg.SAFETY_DIN_CFG n) v
      { s with safety := { s.safety with din := tabPut {} s.safety.din n { x with count := 0, resolved := false } } }) s

/-- SAFETY_DIN_STAT: DISC is W1C. -/
def dinStatWrite (n : Nat) (v : Word32) (s : State) : State :=
  tryWrite (Reg.SAFETY_DIN_STAT n) v (fun s =>
    let x := tabGet {} s.safety.din n
    { s with safety := { s.safety with din := tabPut {} s.safety.din n { x with disc := x.disc && !bitAt v 31 } } }) s

/-- SAFETY_AGE_CFG: setting EN loads ARRIVE (R471). -/
def ageCfgWrite (a : Nat) (v : Word32) (s : State) : State :=
  let r := Reg.SAFETY_AGE_CFG a
  tryWrite r v (fun s =>
    let s1 := storeFields r v s
    if bitAt v 31 && !regBit s r 31 then ageArm a s1 else s1) s

/-- SAFETY_SRC: PEND is W1C, but not for a CRITICAL occurrence (R487). -/
def srcWrite (n : Nat) (v : Word32) (s : State) : State :=
  tryWrite (Reg.SAFETY_SRC n) v (fun s => if bitAt v 31 && decide (pendClass n (fsrc s n) ≠ some 2) then clearPend n s else s) s

/-- Writes of SAFETY that act. The log window ignores writes. -/
def safetyWrites (init o : Nat) (v : Word32) : Option (State → State) :=
  if o = 0 then some (ctrlWrite init v)
  else if o = 4 then some (kickWrite init v)
  else if o = 8 then some (pstopWrite v)
  else if o = 0xC then some (swRaise v)
  else if 0x80 ≤ o ∧ o < 0x90 then some (dinCfgWrite ((o - 0x80) / 4) v)
  else if 0x90 ≤ o ∧ o < 0xA0 then some (dinStatWrite ((o - 0x90) / 4) v)
  else if 0x1000 ≤ o ∧ o < 0x1800 ∧ o % 0x20 = 0 then some (ageCfgWrite ((o - 0x1000) / 0x20) v)
  else if 0x2000 ≤ o ∧ o < 0x2800 then some (srcWrite ((o - 0x2000) / 4) v)
  else none

/-! INTAKE (chapter 14). -/

/-- A field that names a peg names one of the context's owner (R545). -/
def ctxPegOk (s : State) (n : Nat) (v : Word32) : Bool :=
  match ctxOwner s n with | some p => ownsPeg s p (fld v 16 11) | none => false

/-- INTAKE_CTX_CFG: EN = 0 closes an open frame, and a new EN = 1 starts the frame counters and tests afresh (R548, R553, R559). -/
def ctxCfgWrite (n : Nat) (v : Word32) (s : State) : State :=
  let a := Reg.INTAKE_CTX_CFG n
  if 16384 < ({ ctxCfg s n with cfg := v } : CtxCfg).lb then reserveWrite s
  else
    tryWrite a v (fun s =>
      if pageLocked s a then s
      else
        let s1 := storeFields a v s
        if regBit s a 31 && !bitAt v 31 then ctxDisable n s1
        else if !regBit s a 31 && bitAt v 31 then ctxPut s1 n { ctxGet s1 n with next := 0, prevSig := none, run := 0 }
        else s1) s

/-- Writes of a context page, with the ranges of R547. -/
def ctxWrites (n r : Nat) (v : Word32) : Option (State → State) :=
  match r with
  | 0x0 => some (ctxCfgWrite n v)
  | 0x4 => some (fun s =>
      testedWrite (decide (({ ctxCfg s n with size := v } : CtxCfg).lb ≤ 16384)) (Reg.INTAKE_CTX_SIZE n) v s)
  | 0x8 => some (fun s =>
      testedWrite (decide ((ctxCfg s n).lb ≤ ({ ctxCfg s n with stride := v } : CtxCfg).lstride)) (Reg.INTAKE_CTX_STRIDE n) v s)
  | 0x20 => some (fun s =>
      testedWrite (decide ((ctxCfg s n).lines * (ctxCfg s n).lstride ≤ v.toNat)) (Reg.INTAKE_CTX_FSTRIDE n) v s)
  | 0x24 => some (fun s => testedWrite (!bitAt v 31 || ctxPegOk s n v) (Reg.INTAKE_CTX_RING n) v s)
  | 0x28 => some (fun s => testedWrite (!bitAt v 31 || ctxPegOk s n v) (Reg.INTAKE_CTX_PEG n) v s)
  | _ => none

/-! DISP (chapter 15). -/

/-- A watch window lies in the active area (R606). -/
def watchFits (s : State) (i : Nat) (win size : Word32) : Bool :=
  decide (fld win 0 12 + fld size 0 11 ≤ regFld s (Reg.DISP_HTIME i) 0 16) &&
    decide (fld win 16 12 + fld size 16 11 ≤ regFld s (Reg.DISP_VTIME i) 0 16)

/-- DISP_WATCH_CFG: the time to the missing signature starts with EN (R599). -/
def watchCfgWrite (i : Nat) (v : Word32) (s : State) : State :=
  let a := Reg.DISP_WATCH_CFG i
  tryWrite a v (fun s =>
    let s1 := storeFields a v s
    if bitAt v 31 && !regBit s a 31 then { s1 with disp := { s1.disp with watchNs := tabPut 0 s1.disp.watchNs i s1.tb.elapsed } } else s1) s

/-- Writes of a watch page. -/
def watchWrites (i r : Nat) (v : Word32) : Option (State → State) :=
  match r with
  | 0x0 => some (fun s => testedWrite (watchFits s i v (regGet s (Reg.DISP_WATCH_SIZE i))) (Reg.DISP_WATCH_WIN i) v s)
  | 0x4 => some (fun s => testedWrite (watchFits s i (regGet s (Reg.DISP_WATCH_WIN i)) v) (Reg.DISP_WATCH_SIZE i) v s)
  | 0x8 => some (watchCfgWrite i v)
  | _ => none

/-! GATEWAY (chapter 16). -/

/-- The bit timing of the nominal or the data phase is in range (R611). -/
def timingOk (data : Bool) (v : Word32) : Bool :=
  let lim := if data then (15, 15, 31, 31) else (127, 127, 255, 255)
  decide (fld v 24 8 ≤ lim.1) && decide (1 ≤ fld v 16 8 ∨ data = true) && decide (fld v 16 8 ≤ lim.2.1) &&
    decide (1 ≤ fld v 8 8 ∨ data = true) && decide (fld v 8 8 ≤ lim.2.2.1) && decide (fld v 0 8 ≤ lim.2.2.2)

/-- Bit timing changes only while the controller is off (R612). -/
def timingWrite (k : Nat) (data : Bool) (v : Word32) (s : State) : State :=
  if !timingOk data v then reserveWrite s
  else if regBit s (Reg.GW_CAN_CTRL k) 31 then s
  else fieldWrite (if data then Reg.GW_CAN_DBT k else Reg.GW_CAN_NBT k) v s

/-- GW_CAN_CTRL: joining the bus anew leaves bus-off (R611). -/
def canCtrlWrite (k : Nat) (v : Word32) (s : State) : State :=
  let a := Reg.GW_CAN_CTRL k
  tryWrite a v (fun s =>
    let s1 := storeFields a v s
    if bitAt v 31 && !regBit s a 31 && regBit s (Reg.GW_CAN_STAT k) 24 then canRecover k s1 else s1) s

/-- GW_FILTER0: clearing bit 22 lets a filter that an oversize frame has blocked pass frames again (R622). -/
def filterWrite (f : Nat) (v : Word32) (s : State) : State :=
  tryWrite (Reg.GW_FILTER0 f) v (fun s =>
    let x := tabGet {} s.gw.filters f
    storeFields (Reg.GW_FILTER0 f) v
      { s with gw := { s.gw with filters := tabPut {} s.gw.filters f { x with oversize := x.oversize && bitAt v 22 } } }) s

/-- Stage a word of an initiator (R37). -/
def stageWord (init : Nat) (a : Addr) (v : Word32) (s : State) : State :=
  { s with staging := tabPut none s.staging (pairKey init a) (some v) }

/-- Writes of GATEWAY that act. -/
def gwWrites (init o : Nat) (v : Word32) : Option (State → State) :=
  let pg := o / 0x1000
  let r := o % 0x1000
  if o = 8 then some (ruleCtrl v)
  else if 0x10 ≤ pg ∧ pg < 0x14 ∧ r = 0x10 then some (tasCtrl (pg - 0x10) v)
  else if 0x20 ≤ pg ∧ pg < 0x28 then
    (match r with
     | 0x0 => some (canCtrlWrite (pg - 0x20) v)
     | 0x4 => some (timingWrite (pg - 0x20) false v)
     | 0x8 => some (timingWrite (pg - 0x20) true v)
     | _ => none)
  else if pg = 0x30 ∧ r < 0x100 ∧ r % 8 = 0 then some (filterWrite (r / 8) v)
  else if 0x40 ≤ pg ∧ pg < 0x48 then
    (match r with
     | 0x4 => some (stageWord init (Reg.GW_TX_ADDR (pg - 0x40) + 4) v)
     | 0x8 => some (hostSend init (pg - 0x40) v)
     | _ => none)
  else none

/-! MAILBOX, SEAL, SCRIBE (chapters 16, 18, 20). -/

/-- Writes of a mailbox page: PI of a request mailbox is a doorbell; the index that the other side moves is read-only (R685). -/
def mailWrites (m r : Nat) (v : Word32) : Option (State → State) :=
  if r = 0xC then some (if m % 2 = 0 then doorbell m v else tryWrite (Reg.MB_PI m) v (fun s => s))
  else if r = 0x10 ∧ m % 2 = 0 then some (tryWrite (Reg.MB_CI m) v (fun s => s))
  else none

/-- Writes of SEAL that act: the submit word and the frame window; the response window ignores writes (R627, R628). -/
def sealWrites (o : Nat) (v : Word32) : Option (State → State) :=
  if o = 0x60 then some (sealSubmit v)
  else if 0x1000 ≤ o ∧ o < 0x1400 then
    some (fun s => { s with sealU := { s.sealU with swWin := putBytes s.sealU.swWin (o - 0x1000) (leBytes 4 v.toNat) } })
  else none

/-- The highest frequency of a source of SCRIBE_CLK, in MHz. -/
def scribeMhz (src : Nat) : Nat := [1500, 1000, 500, 2000, 4000].getD src 0

/-- The highest instance of a scribe unit (R776); none for a reserved one. -/
def scribeMax (unit : Nat) : Option Nat := ([0, 35, 8, 48, 31, 0, 0, 3, 0, 3, 0, 17, 0, 0] : List Nat)[unit]?

/-- Writes of SCRIBE with their tests (R775, R776). -/
def scribeWrites (o : Nat) (v : Word32) : Option (State → State) :=
  if o = 4 then
    some (testedWrite (decide (scribeMhz (fld v 16 3) ≤ 125 * (fld v 0 8 + 1))) Reg.SCRIBE_CLKCFG v)
  else if 0x10 ≤ o ∧ o < 0x20 then
    some (testedWrite (match scribeMax (fld v 8 4) with | some m => decide (fld v 24 6 ≤ m) | none => false)
      (Reg.SCRIBE_SEL ((o - 0x10) / 4)) v)
  else none

/-- Writes of CRP that act (R714, R719, R729). -/
def crpWrites (o : Nat) (v : Word32) : Option (State → State) :=
  if o = 0 then some (bayClkWrite v)
  else if o = 8 then some (resetWrite v)
  else if 0x1000 ≤ o ∧ o < 0x1040 ∧ o % 0x10 = 0 then
    some (fun s => testedWrite (!regBit s (Reg.DISP_PIPE_CFG ((o - 0x1000) / 0x10)) 31) (Reg.spaceBase + 0x100000 + o) v s)
  else if 0x1000 ≤ o ∧ o < 0x1040 ∧ o % 0x10 = 4 then some (pixFrac ((o - 0x1000) / 0x10) v)
  else none

/-- The effect of a word write whose register is more than a stored word; none for a stored word. -/
def writeActs (init : Nat) (a : Addr) (v : Word32) : Option (State → State) :=
  let x := a - Reg.spaceBase
  let o := x % 0x100000
  let pg := o / 0x1000
  let r := o % 0x1000
  match x / 0x100000 with
  | 0x01 => crpWrites o v
  | 0x02 => if pg < 64 ∧ r = 4 then some (submitHigh init pg v) else none
  | 0x03 => if o < 0x10000 then pegWrites (o / 0x20) (o % 0x20) v else none
  | 0x04 => if pg < 8 then dowelWrites init pg r v else none
  | 0x07 => timeWrites o v
  | 0x08 => safetyWrites init o v
  | 0x09 => if 0x10 ≤ pg ∧ pg < 0x20 then ctxWrites (pg - 0x10) r v else none
  | 0x0B => if 0x40 ≤ pg ∧ pg < 0x44 then watchWrites (pg - 0x40) r v else none
  | 0x0C => gwWrites init o v
  | 0x0E => if pg < 18 then mailWrites pg r v else none
  | 0x0F => sealWrites o v
  | 0x10 => scribeWrites o v
  | _ => none

/-! 64-bit pairs (R37). -/

/-- What a committed word becomes, with the locks of its fields. -/
def committed (a : Addr) (v : Word32) (s : State) : Word32 :=
  match regRow a with
  | some r => r.write (pageLocked s a) v (regGet s a)
  | none => 0

/-- A word has a nonzero reserved bit (R38). -/
def wordStrays (a : Addr) (v : Word32) : Bool := match regRow a with | some r => r.strays v | none => false

/-- Writing the high word of the pair at `a` commits the initiator's staging word with it. -/
def pairCommit (init : Nat) (a : Addr) (v : Word32) (s : State) : State :=
  let lo := stagedLow init a s
  if wordRefuses a lo || wordRefuses (a + 4) v then reserveWrite s
  else
    let s1 := if wordStrays a lo || wordStrays (a + 4) v then cntInc s Reg.GLOBAL_RSVD_CNT else s
    commitPair s1 a ((committed a lo s).toNat + 2 ^ 32 * (committed (a + 4) v s).toNat)

/-- A write of one word by its place in a pair (R37). -/
def writePlain (init : Nat) (a : Addr) (v : Word32) (s : State) : State :=
  match halfOf a with
  | .low => stageWord init a v s
  | .high => pairCommit init (a - 4) v s
  | .single => fieldWrite a v s

/-- Write one word of register space. -/
def writeWord (init : Nat) (a : Addr) (v : Word32) (s : State) : State := actOr (writeActs init a v) (writePlain init a v) s

/-- A write that the page and the width allow. -/
def writeHere (init : Nat) (a : Addr) (size : Nat) (v : Word64) (s : State) : State :=
  let lo := BitVec.ofNat 32 v.toNat
  if size = 4 then writeWord init a lo s
  else writeWord init (a + 4) (BitVec.ofNat 32 (v.toNat / 2 ^ 32)) (writeWord init a lo s)

/-- The page ignores the writes of a partition: TB_NOW, page 2 of CRP but for P0, and the firmware page (R343, and the page tables of
chapters 13, 18 and 19). -/
def ignoresWrite (s : State) (init : Nat) (a : Addr) : Bool :=
  match whoOf s init with
  | .part p =>
    let pg := (a - Reg.spaceBase) / 0x1000
    decide (pg = 0x700) || decide (pg = 0xE20) || (decide (pg = 0x102) && decide (p ≠ 0))
  | _ => false

/-- A write of register space (R34–R39). -/
def regWrite (init : Nat) (a : Addr) (size : Nat) (v : Word64) (s : State) : State :=
  if !widthOk a size then accessError init 2 a s
  else if ignoresWrite s init a then s
  else asInit init a true (writeHere init a size v) s

end Sys2Proof.Machine
end

