-- ==== Sys2Proof/Machine/Aplic.lean ====
section
/-!
DEFINITION. The APLIC's two domains and the IMSICs as a hart's loads and stores see them (R26, R59). The manual names the RISC-V
Advanced Interrupt Architecture for them and gives no register layout: the layout is that architecture's, PRESUMED. The 128 wired
sources stay low: the manual names nothing that drives one.
-/

namespace Sys2Proof.Machine

/-! State: `aplic` holds a domain's words at their offsets, the supervisor-level domain from 0x1_0000. -/

/-- A word of a domain. -/
def apGet (s : State) (d o : Nat) : Word32 := tabGet 0 s.aplic (0x10000 * d + o)

/-- Store a word of a domain. -/
def apPut (d o : Nat) (v : Word32) (s : State) : State := { s with aplic := tabPut 0 s.aplic (0x10000 * d + o) v }

/-- domaincfg reads 0x80 in its top byte, IE, and DM = 1: delivery is by MSI only (R59). -/
def apDomain (s : State) (d : Nat) : Word32 := 0x80000004#32 ||| (apGet s d 0 &&& 0x100#32)

/-- Source i is delegated by the machine-level domain to the supervisor-level one. -/
def apDelegated (s : State) (i : Nat) : Bool := bitAt (apGet s 0 (4 * i)) 10

/-- Source i belongs to a domain: 1–127, as the machine-level domain delegates it. -/
def apHas (s : State) (d i : Nat) : Bool :=
  decide (1 ≤ i) && decide (i < 128) && (if d = 0 then !apDelegated s i else apDelegated s i)

/-- A source is active in a domain: its source mode is not 0. -/
def apActive (s : State) (d i : Nat) : Bool := apHas s d i && decide (fld (apGet s d (4 * i)) 0 3 ≠ 0)

/-- The pending or enable bit of a source; `base` is 0x1C00 or 0x1E00. -/
def apBit (s : State) (d base i : Nat) : Bool := bitAt (apGet s d (base + 4 * (i / 32))) (i % 32)

/-- Set or clear a pending or enable bit. -/
def apBitPut (d base i : Nat) (v : Bool) (s : State) : State :=
  let o := base + 4 * (i / 32)
  apPut d o (setFld (apGet s d o) (i % 32) 1 (bitN v 0)) s

/-- An MSI to an interrupt file of a hart: identities 1–255 become pending. -/
def fileMsi (hart file id : Nat) (s : State) : State :=
  if hart < 12 ∧ file < 9 ∧ 1 ≤ id ∧ id < 256 then
    { s with imsic := tabPut 0 s.imsic (16 * hart + file) (tabGet 0 s.imsic (16 * hart + file) ||| (1 <<< id)) }
  else s

/-- Send the MSI of an enabled pending source, which is then no longer pending. -/
def apSend (d : Nat) (s : State) (i : Nat) : State :=
  if bitAt (apGet s d 0) 8 && apActive s d i && apBit s d 0x1C00 i && apBit s d 0x1E00 i then
    let t := apGet s d (0x3000 + 4 * i)
    fileMsi (fld t 18 14) (if d = 0 then 0 else 1 + fld t 12 6) (fld t 0 11) (apBitPut d 0x1C00 i false s)
  else s

/-- Send every MSI that a domain owes. -/
def apDeliver (d : Nat) (s : State) : State := (rangeFrom 1 127).foldl (apSend d) s

/-- Software sets or clears a pending or enable bit of an active source. A level-sensitive source takes its pending bit from its wire:
high for mode 7 of a low wire. -/
def apSet (d base : Nat) (v : Bool) (s : State) (i : Nat) : State :=
  let m := fld (apGet s d (4 * i)) 0 3
  if !apActive s d i || (decide (base = 0x1C00) && v && decide (m = 6)) then s else apBitPut d base i v s

/-- Apply a word of bits to sources 32k to 32k + 31. -/
def apWord (d base : Nat) (v : Bool) (k : Nat) (w : Word32) (s : State) : State :=
  (List.range 32).foldl (fun s i => if bitAt w i then apSet d base v s (32 * k + i) else s) s

/-- A write of sourcecfg[i]: the machine-level domain may delegate; an inactive source holds no pending or enable bit. -/
def apSource (d i : Nat) (w : Word32) (s : State) : State :=
  let keep := if d = 0 ∧ bitAt w 10 then 0x400#32 else BitVec.ofNat 32 (let m := fld w 0 3; if m = 2 ∨ m = 3 then 0 else m)
  if d = 1 ∧ apDelegated s i = false then s
  else
    let s1 := apPut d (4 * i) keep s
    let clear := fun (e : Nat) (s : State) => apBitPut e 0x1C00 i false (apBitPut e 0x1E00 i false s)
    let s2 := if apActive s1 d i then s1 else clear d s1
    if d = 0 ∧ bitAt w 10 = false then clear 1 (apPut 1 (4 * i) 0 s2) else s2

/-- A 32-bit write of a domain. -/
def apWrite (d o : Nat) (w : Word32) (s : State) : State :=
  apDeliver d
    (if o = 0 then (if bitAt w 2 then apPut d 0 (w &&& 0x100#32) s else s)
     else if o < 0x200 then apSource d (o / 4) w s
     else if 0x1C00 ≤ o ∧ o < 0x1C10 then apWord d 0x1C00 true ((o - 0x1C00) / 4) w s
     else if o = 0x1CDC ∨ o = 0x2000 then apSet d 0x1C00 true s w.toNat
     else if 0x1D00 ≤ o ∧ o < 0x1D10 then apWord d 0x1C00 false ((o - 0x1D00) / 4) w s
     else if o = 0x1DDC then apSet d 0x1C00 false s w.toNat
     else if 0x1E00 ≤ o ∧ o < 0x1E10 then apWord d 0x1E00 true ((o - 0x1E00) / 4) w s
     else if o = 0x1EDC then apSet d 0x1E00 true s w.toNat
     else if 0x1F00 ≤ o ∧ o < 0x1F10 then apWord d 0x1E00 false ((o - 0x1F00) / 4) w s
     else if o = 0x1FDC then apSet d 0x1E00 false s w.toNat
     else if o = 0x2004 then apSet d 0x1C00 true s (leVal (leBytes 4 w.toNat).reverse)
     else if o = 0x3000 then fileMsi (fld w 18 14) (if d = 0 then 0 else 1) (fld w 0 11) (apPut d 0x3000 (w &&& 0xFFFC07FF#32) s)
     else if 0x3004 ≤ o ∧ o < 0x3200 then
       (if apActive s d ((o - 0x3000) / 4) then apPut d o (w &&& (if d = 0 then 0xFFFC07FF#32 else 0xFFFFF7FF#32)) s else s)
     else s)

/-- The rectified inputs of sources 32k to 32k + 31: the wires are low, so falling-edge and active-low modes read 1. -/
def apInputs (s : State) (d k : Nat) : Word32 :=
  BitVec.ofNat 32 (maskOf 32 (fun i => let m := fld (apGet s d (4 * (32 * k + i))) 0 3; apActive s d (32 * k + i) && decide (m = 5 ∨ m = 7)))

/-- A 32-bit read of a domain: setip reads the pending bits, in_clrip the rectified inputs, setie the enable bits. -/
def apRead (s : State) (d o : Nat) : Word32 :=
  if o = 0 then apDomain s d
  else if 0x1D00 ≤ o ∧ o < 0x1D10 then apInputs s d ((o - 0x1D00) / 4)
  else if (1 ≤ o / 4 ∧ o < 0x200) ∨ (0x1C00 ≤ o ∧ o < 0x1C10) ∨ (0x1E00 ≤ o ∧ o < 0x1E10) ∨ (0x3000 ≤ o ∧ o < 0x3200) then apGet s d o
  else 0

/-- A store to an interrupt file: seteipnum in the byte order of its word; other words ignore it. -/
def fileWrite (hart file o : Nat) (w : Word32) (s : State) : State :=
  if o = 0 then fileMsi hart file w.toNat s
  else if o = 4 then fileMsi hart file (leVal (leBytes 4 w.toNat).reverse) s
  else s

end Sys2Proof.Machine
end

