-- ==== Sys2Proof/Machine/ExecAccess.lean ====
section
/-!
DEFINITION. The register commands without a row of their own, and the accesses of the application harts (R26, R30, R34–R39, R59,
R342, R357–R359).
-/

namespace Sys2Proof.Machine

/-- REGISTER_WRITE (R37). A write command whose address lies outside register space reaches a hole, or another place that is no
register. -/
def execRegisterWrite (init addr size : Nat) (v : Word64) (s : State) : Host.Outcome State Fault Refusal :=
  .next
    (match homeOf s addr size with
     | .regs => regWrite init addr size v s
     | .hole => accessError init 1 addr s
     | .dram | .loft | .store _ _ | .remote _ _ | .aplic | .imsicFile _ _ => s)

/-- REGISTER_READ (R37). -/
def execRegisterRead (init addr size : Nat) (s : State) : Host.Outcome State Fault Refusal :=
  .next
    (match homeOf s addr size with
     | .regs => regRead init addr size s
     | .hole => accessError init 0 addr s
     | .dram | .loft | .store _ _ | .remote _ _ | .aplic | .imsicFile _ _ => s)

/-- A hart's access returns this to it; none is an access fault. -/
def replyWith (v : Option Word64) (s : State) : State := { s with reply := v }

/-- A granted access of memory: a read of a window of the peer that has not been returned asks for it, and one of a window that
waits waits (R96). -/
def hartMem (k : AccKind) (addr size : Nat) (data : Word64) (s : State) : State :=
  match k with
  | .write => devWrite s addr (leBytes size data.toNat)
  | .read | .fetch =>
    let (here, s1) := farFetch [(addr, size)] s
    if here && !windowWaits s1 addr size then farUse addr size (replyWith (some (BitVec.ofNat 64 (leVal (devRead s1 addr size)))) s1) else s1

/-- An access of memory by a hart of partition `p`, as its regions and its bays allow (R342, R357, R358). -/
def hartChecked (hart p : Nat) (k : AccKind) (addr size : Nat) (data : Word64) (s : State) : State :=
  match accessCheck s p 3 k addr size with
  | (.ok _, s1) => hartMem k addr size data s1
  | (v, s1) => replyWith none (reportVerdict raise hart p 3 k addr v s1)

/-- An access of an interrupt controller: aligned words only. -/
def hartIrq (k : AccKind) (addr size : Nat) (rd : Word32) (wr : State → State) (s : State) : State :=
  if size ≠ 4 ∨ addr % 4 ≠ 0 then replyWith none s
  else
    match k with
    | .write => wr s
    | .read | .fetch => replyWith (some (rd.zeroExtend 64)) s

/-- A hart's load, store or fetch. A hart of no partition reaches no memory (R358). -/
def hartAccess (hart : Nat) (k : AccKind) (addr size : Nat) (data : Word64) (s : State) : State :=
  match homeOf s addr size with
  | .regs => if k = .write then regWrite hart addr size data s else regRead hart addr size s
  | .aplic =>
    let o := addr - 0x002010000000
    hartIrq k addr size (apRead s (o / 0x10000) (o % 0x10000)) (apWrite (o / 0x10000) (o % 0x10000) (BitVec.ofNat 32 data.toNat)) s
  | .imsicFile h f => hartIrq k addr size 0 (fileWrite h f (addr % 0x1000) (BitVec.ofNat 32 data.toNat)) s
  | .hole => accessError hart (if k = .write then 1 else 0) addr s
  | .dram | .loft | .store _ _ | .remote _ _ =>
    match hartPart s hart with
    | some p => hartChecked hart p k addr size data s
    | none => replyWith none s

/-- HART_ACCESS (R357): a load, a store or a fetch of 1 to 8 bytes. -/
def execHartAccess (hart : Nat) (k : AccKind) (addr size : Nat) (data : Word64) (s : State) : Host.Outcome State Fault Refusal :=
  if hart < 12 ∧ 1 ≤ size ∧ size ≤ 8 then .next (hartAccess hart k addr size data s) else .fault .absentUnit

end Sys2Proof.Machine
end

