-- ==== Sys2Proof/Machine/Twin.lean ====
section
/-!
DEFINITION. Twin operation (chapter 17): training, the twin states, the accord, what CONTROL flits do, shared working time and the
split.
-/

namespace Sys2Proof.Machine

/-! States (R651). -/

/-- TRUSS_STATE.STATE. -/
def twinState (s : State) : Nat := regFld s Reg.TRUSS_STATE 29 3

/-- Change state. -/
def twinGo (n : Nat) (s : State) : State := regSetFld s Reg.TRUSS_STATE 29 3 n

/-- The link trains. -/
def training (s : State) : Bool := regBit s Reg.TRUSS_STATE 26

/-- Set TRAIN. -/
def trainPut (b : Bool) (s : State) : State := regSetFld s Reg.TRUSS_STATE 26 1 (if b then 1 else 0)

/-- TRUSS_LANE with a kind and a lane; 0xFF when none is identified (R645). -/
def laneFault (kind lane : Nat) (s : State) : State := raise 0x0F4 none (kind * 2 ^ 24 + lane) s

/-- JOINING begins: an accord is due at once (R653). -/
def enterJoining (s : State) : State :=
  let s1 := twinGo 2 s
  { s1 with twin := { s1.twin with accordNs := none, failed := 0 } }

/-- STANDALONE begins with its CAUSE. -/
def standAlone (cause : Nat) (s : State) : State := regSetFld (twinGo 5 s) Reg.TRUSS_STATE 27 2 cause

/-- A REJOIN that is under way ends with a code (R673). -/
def rejoinEnds (code : Nat) (s : State) : State :=
  match s.twin.rejoin with
  | some (slot, _) => sealDone slot code { s with twin := { s.twin with rejoin := none } }
  | none => s

/-! Training (R644, R645, R648). -/

/-- A lane is good: no bit error in the test, not excluded by the log, not retired in service. -/
def laneGood (s : State) (mask l : Nat) : Bool := mask.testBit l && !s.twin.excluded.testBit l && !s.twin.retired.testBit l

/-- The good lanes of a direction. -/
def goodLanes (s : State) (mask : Nat) : List Nat := (List.range 18).filter (laneGood s mask)

/-- The width of a count of good lanes in the weaker direction; none when the link does not train. -/
def linkWidth (n : Nat) : Option Nat := if 16 ≤ n then some 16 else if 8 ≤ n then some 8 else none

/-- The lanes' test has ended with the lanes free of errors in each direction. -/
def trainTest (rx tx : Nat) (s : State) : State :=
  match linkWidth (min (goodLanes s rx).length (goodLanes s tx).length) with
  | some w =>
    let s1 := regSetFld s Reg.TRUSS_STATE 25 1 (if w = 8 then 1 else 0)
    let s2 := regPut s1 Reg.TRUSS_LANES (BitVec.ofNat 32 (((goodLanes s rx).take w).foldl (fun m l => m + 2 ^ l) 0))
    let s3 := { s2 with twin := { s2.twin with tested := some true } }
    if w = 8 then laneFault 3 0xFF s3 else s3
  | none => { s with twin := { s.twin with tested := some false } }

/-- Every flit not acknowledged is sent again after a retrain (R645). -/
def resendAll (s : State) : State :=
  cntAdd { s with twin := { s.twin with sent := s.twin.sent.map (fun e => (e.1, 1)) } } Reg.TRUSS_RETRY_CNT s.twin.sent.length

/-- The sequences of both directions start afresh: TRAINING has been passed. -/
def freshLink (s : State) : State :=
  { s with twin := { s.twin with seq := 0, rxSeq := 0, sent := [], nak := none, rx := [], reads := [], mirror := [] } }

/-- A retrain in service has failed: the link is down (R648, R651). -/
def linkDown (s : State) : State :=
  let s1 := laneFault 4 0xFF { s with twin := { s.twin with up := false, tested := none } }
  match twinState s1 with
  | 2 | 4 => twinGo 1 { s1 with twin := { s1.twin with alone := false } }
  | 5 => twinGo 1 { s1 with twin := { s1.twin with alone := true } }
  | _ => s1

/-- Training completes, or fails and begins again (R644, R648, R651). -/
def trainDone (s : State) : State :=
  match s.twin.tested with
  | some true =>
    let s1 := trainPut false { s with twin := { s.twin with up := true, tested := none } }
    if twinState s1 = 1 then
      (if s.twin.alone then twinGo 5 (freshLink { s1 with twin := { s1.twin with alone := false } }) else enterJoining (freshLink s1))
    else resendAll s1
  | some false => if s.twin.up then linkDown s else { s with twin := { s.twin with tested := none } }
  | none => s

/-- A retrain begins. -/
def retrain (s : State) : State := trainPut true { s with twin := { s.twin with tested := none } }

/-- A lane is retired in service (R645). -/
def laneRetire (lane : Nat) (s : State) : State :=
  let s1 := addPending (logEntry 5 7 lane 0) { s with twin := { s.twin with retired := s.twin.retired ||| 2 ^ lane } }
  retrain (laneFault 2 lane s1)

/-! Receiving (R647). -/

/-- Sequence number `a` is at or before `b`. -/
def seqUpTo (a b : Nat) : Bool := decide ((b + 65536 - a % 65536) % 65536 < 32768)

/-- ACKSEQ acknowledges every flit up to it. -/
def acked (a : Nat) (s : State) : State :=
  { s with twin := { s.twin with sent := s.twin.sent.filter (fun e => !seqUpTo e.1.seq a) } }

/-- A header's check word mismatches. -/
def headerBad (s : State) : State :=
  laneFault 1 0xFF (cntInc { s with twin := { s.twin with nak := some s.twin.rxSeq } } Reg.TRUSS_HDR_CNT)

/-- A data flit. -/
def flitData (f : Flit) : Bool := decide (1 ≤ f.typ) && decide (f.typ ≤ 3)

/-- The flit passes in the twin state: data and TIME only in JOINED, in HELD only accords, heartbeats and version queries (R652). -/
def flitPasses (s : State) (f : Flit) : Bool :=
  match f.typ with
  | 1 | 2 | 3 | 7 => twinJoined s
  | 4 => decide (twinState s ≠ 4) || (match f.ctl with | some (.version _ _) => true | _ => false)
  | 5 | 6 => true
  | _ => false

/-- A flit accepted in order waits for its effect; one that does not pass is dropped, a data flit after a split counted (R670). -/
def flitTake (f : Flit) (s : State) : State :=
  if flitPasses s f then { s with twin := { s.twin with rx := s.twin.rx ++ [f] } }
  else if flitData f && decide (twinState s = 5) then cntInc s Reg.TRUSS_DISCARD
  else s

/-- A flit arrives. -/
def flitArrive (f : Flit) (s : State) : State :=
  if f.typ = 8 ∨ s.twin.up = false then s
  else if f.check ≠ flitCheck f then headerBad s
  else if f.typ = 0 then acked f.ack s
  else if f.seq = (s.twin.rxSeq + 1) % 65536 then flitTake f (acked f.ack { s with twin := { s.twin with rxSeq := f.seq } })
  else { s with twin := { s.twin with nak := some s.twin.rxSeq } }

/-- The oldest flit that waits for its effect, if it is of a type: it is taken. -/
def flitPop (typ : Nat) (eff : Flit → State → State) (s : State) : State :=
  match s.twin.rx with
  | f :: t => if f.typ = typ then eff f { s with twin := { s.twin with rx := t } } else s
  | [] => s

/-! Shared working time (R665–R668). -/

/-- The secondary's working time steps by `v` (R666, R667). -/
def twinStep (v : Int) (s : State) : State :=
  if v = 0 then s
  else
    workStep v (match s.tb.follow with
      | some t => { s with tb := { s.tb with follow := some ((((t.1 : Int) + v) % (2 ^ 32 : Int)).toNat, t.2) } }
      | none => bridgePut (s.tb.bridge + v) s)

/-- The secondary follows, or leaves following for its own domain B (R668). -/
def followPut (valA : Bool) (s : State) : State :=
  let s1 := if valA then
      (if s.tb.follow.isSome then s else { s with tb := { s.tb with follow := some (workTime s, 0) } })
    else leaveFollow 1 s
  regSetFld s1 Reg.TRUSS_STATE 23 1 (if valA then 1 else 0)

/-- A sample of e: LOCKED after 100 samples within 100 ns; once locked, one beyond 1,000 ns raises TWIN_TIME (R666). -/
def timeSample (e : Int) (s : State) : State :=
  let s1 := regPut s Reg.TRUSS_TIME_ERR (BitVec.ofInt 32 e)
  let n := if e.natAbs ≤ 100 then s1.twin.good + 1 else 0
  let s2 := { s1 with twin := { s1.twin with good := min n 100 } }
  if s2.twin.armed && decide (1000 < e.natAbs) then
    raise 0x0F2 none (BitVec.ofInt 32 e).toNat
      (regSetFld { s2 with twin := { s2.twin with armed := false } } Reg.TRUSS_STATE 24 1 0)
  else if n = 100 then regSetFld { s2 with twin := { s2.twin with armed := true } } Reg.TRUSS_STATE 24 1 1
  else s2

/-- The flags byte of TIME flits: VALA, SEL, FOLLOW. -/
def timeFlags (s : State) : Nat := bitN s.tb.a.valid 0 + bitN s.tb.selB 1 + bitN (regBit s Reg.TRUSS_STATE 23) 2

/-- The secondary takes a TIME flit: the carried step, the step that joining brings, the sample, following, the echo. -/
def timeSecond (f : Flit) (s : State) : State :=
  let t := leAt f.body 0 4
  let d := leAt f.body 8 4
  let s1 := twinStep (sintOf 32 (leAt f.body 4 4)) s
  let e := wrap32 ((t : Int) + d - workTime s1)
  let s2 := if s1.twin.joinStep then twinStep e { s1 with twin := { s1.twin with joinStep := false } } else timeSample e s1
  let s3 := followPut ((leAt f.body 12 1).testBit 0) s2
  let s4 := regPut s3 Reg.TRUSS_DELAY (BitVec.ofNat 32 (d % 65536))
  sendFlit { typ := 7, len := 13, body := leBytes 4 t ++ leBytes 4 0 ++ leBytes 4 0 ++ leBytes 1 (timeFlags s4) } s4

/-- The primary takes an echo: D is half of the round trip without the time held. -/
def timeEcho (f : Flit) (s : State) : State :=
  let trip := (workTime s + 2 ^ 32 - leAt f.body 0 4) % 2 ^ 32 - leAt f.body 4 4
  regPut s Reg.TRUSS_DELAY (BitVec.ofNat 32 (trip / 2 % 65536))

/-! Joining (R654, R655). -/

/-- The pair becomes one machine: the lower minors, the heartbeats' and TIME flits' intervals, the secondary's step (R655, R666,
R669). -/
def joinPair (s : State) : State :=
  let now := s.tb.elapsed
  let s1 := regSetFld (regSetFld (twinGo 3 s) Reg.TRUSS_STATE 0 8 (min (regFld s Reg.FC_VERSION 16 8) (leAt s.twin.peer 3 1)))
    Reg.TRUSS_STATE 8 8 (min (regFld s Reg.FC_MSGVER 0 8) (leAt s.twin.peer 7 1))
  let s2 := { s1 with
    twin := { s1.twin with
      heardNs := now, beatNs := now, timeNs := now, failed := 0, good := 0, armed := false, joinStep := twinSecondary s1 }
    tb := { s1.tb with carry := 0 } }
  if joinedPrimary s2 && !s2.tb.a.valid then autoSwitch 0 s2 else s2

/-- The configuration hash (R653). -/
def configHash (s : State) : List Byte := (sha384 (bytesAt s.twin.config 0 60)).take 8

/-- The partition hash: the partition table in force, then region tables 0–7. -/
def partitionHash (s : State) : List Byte :=
  (sha384 ((List.range 4368).map (ptByte s) ++ (List.range 8).flatMap (fun p => (List.range 528).map (rgByte s p)))).take 8

/-- The accord record of this device. -/
def accordRecord (s : State) : List Byte :=
  withCheck
    (leBytes 1 (bitN (twinSecondary s) 0) ++ leBytes 1 (twinState s) ++
     leBytes 1 (regFld s Reg.FC_VERSION 24 8) ++ leBytes 1 (regFld s Reg.FC_VERSION 16 8) ++ leBytes 2 (regFld s Reg.FC_VERSION 0 16) ++
     leBytes 1 (regFld s Reg.FC_MSGVER 8 8) ++ leBytes 1 (regFld s Reg.FC_MSGVER 0 8) ++
     configHash s ++ partitionHash s ++ leBytes 2 s.part.ptver ++ leBytes 1 (regFld s Reg.GLOBAL_GRADE 16 8) ++ leBytes 1 0 ++
     leBytes 8 (pairGet s Reg.GLOBAL_REPAIR_DIGEST) ++ leBytes 4 (regGet s Reg.GLOBAL_DROP).toNat ++ leBytes 4 (workTime s) ++
     leBytes 1 (bitN s.tb.a.valid 0 + bitN s.tb.b.valid 1 + bitN s.tb.selB 2 + bitN (regBit s Reg.TRUSS_STATE 23) 3 +
       bitN (regBit s Reg.TRUSS_STATE 24) 4) ++ leBytes 3 0 ++
     leBytes 4 (regGet s Reg.SEAL_EPOCH).toNat ++ leBytes 4 (regGet s Reg.GLOBAL_SERIAL).toNat ++ leBytes 4 0)

/-- The accord tests, in order. -/
inductive AccordTest where
  | role | version | peer | config | partition
  deriving DecidableEq, Repr

/-- The first test that an accord fails (R654). -/
def accordTest (s : State) (l : List Byte) : Option AccordTest :=
  let want := leAt s.twin.config 4 4
  if (leAt l 0 1).testBit 0 = twinSecondary s then some .role
  else if leAt l 2 1 ≠ regFld s Reg.FC_VERSION 24 8 ∨ leAt l 6 1 ≠ regFld s Reg.FC_MSGVER 8 8 then some .version
  else if want ≠ 0 ∧ want ≠ leAt l 52 4 then some .peer
  else if bytesAt l 8 8 ≠ configHash s then some .config
  else if bytesAt l 16 8 ≠ partitionHash s ∧ leAt l 24 2 = s.part.ptver % 65536 then some .partition
  else none

/-- The DETAIL with which ACCORD_CONFIG reports a test. -/
def AccordTest.detail : AccordTest → Nat
  | .role => 4 | .version => 0 | .peer => 3 | .config => 1 | .partition => 2

/-! The split (R669, R670). -/

/-- The spanning jobs at home and the QUEUED jobs that name a peer number. -/
def splitJobs (s : State) : List Nat :=
  (s.cmd.slots.filter (fun (k, d) =>
    decide (k < 65536) && decide (d.kind = .job) && ((decide (d.st = .running) && d.spanning) ||
      (decide (d.st = .queued) && (jobBays d).any (fun n => isPeerNumber s n))))).map (·.1)

/-- The parts of jobs whose home is the peer. -/
def peerParts (s : State) : List Nat := (s.cmd.slots.filter (fun (k, _) => decide (65536 ≤ k))).map (·.1)

/-- Stop the part of a peer's job without a record. -/
def stopPart (slot : Nat) (s : State) : State :=
  endDowel raise slot .split 0 (dowelMod s slot (fun d => { d with reported := true }))

/-- Every collective that spans both devices completes SPLIT (R412). -/
def splitColls (s : State) : State :=
  let s1 := (collsWhere s (fun c => c.peerHandle.isNone && collSpans s c.req)).foldl
    (fun s e => completeDowel raise e.2.slot .split 0 s) s
  { s1 with fc := { s1.fc with colls := s1.fc.colls.filter (fun e =>
      match e.2 with | some c => c.peerHandle.isNone | none => false) } }

/-- The split plan stops the partition on this device. -/
def planStops (s : State) (p : Nat) : Bool :=
  match nfld (regFld s Reg.TRUSS_CFG 0 16) (2 * p) 2 with
  | 0 => false
  | 1 => twinSecondary s
  | 2 => !twinSecondary s
  | _ => true

/-- The pair splits, with the DETAIL of TWIN_SPLIT, which is also the CAUSE. -/
def split (cause : Nat) (s : State) : State :=
  let jobs := splitJobs s
  let parts := peerParts s
  let lost := (s.twin.rx.filter flitData).length
  let s1 := raise 0x0F3 none cause (standAlone cause s)
  let s2 := cntAdd { s1 with twin := { s1.twin with
    rx := s1.twin.rx.filter (fun f => !flitData f), reads := [], mirror := [], forwarded := [], ready := [], joinStep := false } }
    Reg.TRUSS_DISCARD lost
  let s3 := jobs.foldl (fun s k => endDowel raise k .split 0 s) s2
  let s4 := splitColls (parts.foldl (fun s k => stopPart k s) s3)
  let s5 := (List.range 8).foldl (fun s p => if planStops s p then partitionStop raise p 0x4001 s else s) s4
  let s6 := if twinSecondary s5 then leaveFollow 1 s5 else s5
  rejoinEnds 0x9104 (regSetFld (regSetFld s6 Reg.TRUSS_STATE 23 1 0) Reg.TRUSS_STATE 24 1 0)

/-! Acting on an accord. -/

/-- A test that fails in JOINING: HELD for a version, else STANDALONE; a REJOIN goes back to STANDALONE (R654, R673). -/
def accordFails (t : AccordTest) (l : List Byte) (s : State) : State :=
  let s1 := if t = .version then raise 0x0F0 none (leAt l 2 1 * 256 + leAt l 3 1) s else raise 0x0F1 none t.detail s
  let s2 := if t = .version ∧ s1.twin.rejoin = none then twinGo 4 s1 else standAlone 2 s1
  rejoinEnds 0x9104 s2

/-- A test that fails in JOINED: role and peer split at once, configuration and partition at the third accord in a row. -/
def accordBreaks (t : AccordTest) (s : State) : State :=
  match t with
  | .version => s
  | .role | .peer => split 2 (raise 0x0F1 none t.detail s)
  | .config | .partition =>
    if 2 ≤ s.twin.failed then split 2 s else { s with twin := { s.twin with failed := s.twin.failed + 1 } }

/-- Act on an accord whose check word matches. -/
def accordTake (l : List Byte) (s : State) : State :=
  let s1 := regPut { s with twin := { s.twin with peer := l } } Reg.TRUSS_PEER_SERIAL (BitVec.ofNat 32 (leAt l 52 4))
  let st := twinState s1
  let peer := leAt l 1 1
  match accordTest s1 l with
  | some t => if st = 2 then accordFails t l s1 else if st = 3 then accordBreaks t s1 else s1
  | none =>
    let s2 := if st = 2 ∧ (peer = 2 ∨ peer = 3) then joinPair s1
      else { s1 with twin := { s1.twin with failed := 0 } }
    if twinJoined s2 && decide (peer = 3) then rejoinEnds 0 s2 else s2

/-! CONTROL flits (R656–R664). -/

/-- The dowel at home of a handle, while it is the spanning job that the flit means. -/
def homeJob (s : State) (h : Nat) : Bool :=
  let d := dowelGet s (slotOf h)
  decide (h < 2 ^ 32) && decide (handleOf s (slotOf h) = h) && d.spanning && (decide (d.st = .queued) || decide (d.st = .running))

/-- The slot here of the part of a peer's job. -/
def partSlot (h : Nat) : Nat := 65536 + h % 65536

/-- The part of the job of that handle exists here. -/
def partJob (s : State) (h : Nat) : Bool :=
  decide (handleOf s (partSlot h) = h + 2 ^ 32) &&
    (decide ((dowelGet s (partSlot h)).st = .queued) || decide ((dowelGet s (partSlot h)).st = .running))

/-- The peer asks this device for its part of a job: it waits for its bays like a QUEUED job. A stopped partition answers with its
code (R664). -/
def takePart (h p : Nat) (desc : List Byte) (s : State) : State :=
  if s.safety.stopped.getLsbD p then sendCtl (.stopped h (if s.safety.safe then 0x4002 else 0x4001)) s
  else if partJob s h then s
  else dowelPut s (partSlot h) { gen := h / 65536, st := .queued, part := p, desc := desc, waitOk := 15, spanning := true,
                                 accepted := s.tb.elapsed }

/-- The peer's part has ended: its FLAGS and DIVCNT join the dowel's, and the job's end is this one when the home's bays are done. -/
def partEnded (flags div : Nat) (s : State) (d : Dowel) : Dowel :=
  let done := d.ended || (localBays s d).isEmpty
  { d with
    peerEnded := true, flags := d.flags.or (FFlags.ofNat flags), div := d.div + div, ended := done
    endTime := if done then workTime s else d.endTime
    endNs := if done then s.tb.elapsed else d.endNs }

/-- A fault of the lowest rank is the job's (R662). -/
def partFault (rank code : Nat) (d : Dowel) : Dowel :=
  match d.faultBy with
  | some (r, _) => if rank < r then { d with faultBy := some (rank, code) } else d
  | none => { d with faultBy := some (rank, code) }

/-- The bays of a spanning job are free on both devices: it starts 4 µs from now on both (R658). -/
def startBoth (slot : Nat) (s : State) : State :=
  let at_ := (workTime s + 4000) % 2 ^ 32
  sendCtl (.start (handleOf s slot) at_) (dowelMod s slot (fun d => { d with startAt := some at_ }))

/-- What a CONTROL flit does. -/
def ctlTake (c : Ctl) (s : State) : State :=
  match c with
  | .ask h p desc => takePart h p desc s
  | .granted h =>
    if homeJob s h && !(dowelGet s (slotOf h)).granted then
      let s1 := dowelMod s (slotOf h) (fun d => { d with granted := true })
      if (dowelGet s (slotOf h)).asked then startBoth (slotOf h) s1 else s1
    else s
  | .start h at_ => if partJob s h then dowelMod s (partSlot h) (fun d => { d with startAt := some at_ }) else s
  | .ended h flags div => if homeJob s h then dowelMod s (slotOf h) (partEnded flags div s) else s
  | .fault h rank code => if homeJob s h then dowelMod s (slotOf h) (partFault rank code) else s
  | .stopped h code => if homeJob s h then endDowel raise (slotOf h) .doneFault code s else s
  | .stop h => if partJob s h then stopPart (partSlot h) s else s
  | .replay home h =>
    if home then (if partJob s h then markHere raise s (partSlot h) else s)
    else if homeJob s h then markHere raise s (slotOf h) else s
  | .leave => if twinJoined s then split 3 s else s
  | .config h op p l => { s with twin := { s.twin with forwarded := s.twin.forwarded ++ [(h, op, p, l)] } }
  | .ready h => { s with twin := { s.twin with ready := if s.twin.ready.contains h then s.twin.ready else s.twin.ready ++ [h] } }
  | .apply h => applyForwarded h s
  | .drop h => { s with twin := { s.twin with forwarded := s.twin.forwarded.filter (fun x => decide (x.1 ≠ h)) } }
  | .version a b => { s with twin := { s.twin with peerVersion := some (a, b) } }
  | .coll _ _ _ | .contribution _ _ _ | .collFault _ _ | .collReplay _ | .collEnd _ _ => collCtl c s

end Sys2Proof.Machine
end

