-- ==== Sys2Proof/Machine/ExecBoot.lean ====
section
/-!
DEFINITION. Steps 4 to 9 of the boot: BIST and repair, DRAM training, images, the map and grade, the configuration section, and the
starts (R421–R427, R650, R694, R721, R732–R739).
-/

namespace Sys2Proof.Machine

/-! Repair at boot (R426, R427). -/

/-- A mask with one more bit. -/
def withBit {w : Nat} (m : BitVec w) (i : Nat) : BitVec w := m ||| BitVec.ofNat w (2 ^ i)

/-- Exclude a bay; `bist` when this boot's BIST found it. -/
def dropBay (bist : Bool) (s : State) (pb : Nat) : State :=
  { s with repair := { s.repair with
      badBays := withBit s.repair.badBays pb, bistBays := if bist then withBit s.repair.bistBays pb else s.repair.bistBays } }

/-- Exclude a jointer. -/
def dropJointer (bist : Bool) (s : State) (j : Nat) : State :=
  { s with repair := { s.repair with
      badJointers := withBit s.repair.badJointers j
      bistJointers := if bist then withBit s.repair.bistJointers j else s.repair.bistJointers } }

/-- Exclude a loft bank. -/
def dropBank (bist : Bool) (s : State) (b : Nat) : State :=
  { s with repair := { s.repair with
      badLoft := withBit s.repair.badLoft b, bistLoft := if bist then withBit s.repair.bistLoft b else s.repair.bistLoft } }

/-- Use `n` spare rows of a macro of four; a macro that has too few excludes its unit. -/
def useRows (bist : Bool) (mac n : Nat) (s : State) : State :=
  let used := tabGet 0 s.repair.rowsUsed mac
  if used + n ≤ 4 then { s with repair := { s.repair with rowsUsed := tabPut 0 s.repair.rowsUsed mac (used + n) } }
  else if mac < 2880 then dropBay bist s (mac / 80)
  else if 0x1000 ≤ mac ∧ mac < 0x1000 + 32 * 49 then dropBank bist s ((mac - 0x1000) / 32)
  else s

/-- Apply one entry of the field repair log (R427). -/
def applyEntry (s : State) (e : List Byte) : State :=
  let unit := leAt e 2 2
  if leAt e 0 1 = 0xFF then s
  else if !checkOk e then raise 0x065 none 0 s
  else
    match leAt e 0 1 with
    | 1 => dropBay false s unit
    | 2 => dropJointer false s unit
    | 3 => dropBank false s unit
    | 4 => useRows false unit 1 s
    | 5 => { s with twin := { s.twin with excluded := s.twin.excluded ||| 2 ^ unit } }
    | _ => s

/-- The entries of the log in slot order. -/
def logEntries (s : State) : List (List Byte) := (List.range (min s.repair.used 32)).map (tabGet [] s.repair.fieldLog)

/-- The factory map, the field repair log, and the rows and panel caches that memory BIST found bad, in this order (R426). -/
def memoryBist (rows : List (Nat × Nat)) (panels : Nat) (s : State) : State :=
  let x := s.repair
  let s1 := { s with repair := { x with
      badBays := x.factoryBays, badJointers := x.factoryJointers, badLoft := x.factoryLoft, rowsUsed := x.factoryRows } }
  let s2 := rows.foldl (fun s r => useRows true r.1 r.2 s) ((logEntries s).foldl applyEntry s1)
  let s3 := ((List.range bayCount).filter panels.testBit).foldl (dropBay true) s2
  { s3 with boot := { s3.boot with bistDone := true } }

/-- The density that training found meets the fitted capacity (R721). -/
def matchDram (s : State) : State :=
  match s.boot.trained, s.boot.cfg with
  | some n, some c => if n = c.dram then { s with boot := { s.boot with dramBytes := n } } else bootStop 4 4 s
  | _, _ => s

/-- Step 5 starts when 4a, 4b and 4c have ended (R735). -/
def bootStep5 (s : State) : State :=
  if bootAt 4 s && s.boot.bistDone && s.boot.imagesDone && decide (0 < s.boot.dramBytes) then bootGo 5 s else s

/-- MEMORY_BIST_DONE (R426 steps 1–3): the number of failing rows by macro, and the bays whose panel caches cannot be repaired. -/
def execMemoryBistDone (rows : List (Nat × Nat)) (panels : Nat) (s : State) : Host.Outcome State Fault Refusal :=
  .next (if bootAt 4 s && !s.boot.bistDone then bootStep5 (memoryBist rows panels s) else s)

/-- DRAM_TRAINING_DONE (R735 step 4b): with the density that MR8 gives. -/
def execDramTrainingDone (ok : Bool) (bytes : Nat) (s : State) : Host.Outcome State Fault Refusal :=
  .next
    (if bootAt 4 s && s.boot.trained.isNone then
      (if ok then bootStep5 (matchDram { s with boot := { s.boot with trained := some bytes } }) else bootStop 4 4 s)
    else s)

/-! Images (R732, R733). -/

/-- FC_VERSION from a header. -/
def versionWord (h : List Byte) : Word32 := BitVec.ofNat 32 (leAt h 8 1 * 2 ^ 24 + leAt h 9 1 * 2 ^ 16 + leAt h 10 2)

/-- The island image of bank `bi` and the fabric controller image of bank `bf` are loaded into their SRAMs. -/
def loadImages (bi bf : Nat) (cfg : BootCfg) (s : State) : State :=
  let h := imageHeader s 0 bf
  let s1 := regSetFld (regSetFld s Reg.CRP_BOOT_STAT 2 1 bi) Reg.CRP_BOOT_STAT 1 1 bf
  let s2 := regPut (regPut s1 Reg.FC_VERSION (versionWord h)) Reg.FC_MSGVER 0x0201#32
  { s2 with boot := { s2.boot with
      islandSram := putBytes s.boot.islandSram (imageLoad s 2 bi) (imagePayload s 2 bi)
      fcSram := putBytes s.boot.fcSram (imageLoad s 0 bf) (imagePayload s 0 bf)
      islandEntry := imageEntry s 2 bi, fcEntry := imageEntry s 0 bf, fcDigest := bytesAt h 32 48
      cfg := some cfg, rma := (imageKey s 2 bi).rma, imagesDone := true } }

/-- BOOT_IMAGES_VERIFIED (R733, R735 step 4c): with the configuration section at the end of the island image's payload. -/
def execBootImagesVerified (readOk : Bool) (cfg : BootCfg) (s : State) : Host.Outcome State Fault Refusal :=
  .next
    (if bootAt 4 s && !s.boot.imagesDone then
      (if !readOk then bootStop 4 2 s
       else
        match pickBank s 2, pickBank s 0 with
        | some bi, some bf => bootStep5 (matchDram (loadImages bi bf cfg s))
        | _, _ => bootStop 4 3 s)
    else s)

/-- The application image of a bank is read into the fitted DRAM. -/
def loadApp (b : Nat) (s : State) : State :=
  let l := (imagePayload s 1 b).take (s.boot.dramBytes - imageLoad s 1 b)
  let s1 := memWrite (regSetFld s Reg.CRP_BOOT_STAT 0 1 b) (imageLoad s 1 b) l
  { s1 with boot := { s1.boot with appEntry := imageEntry s 1 b, appDone := true } }

/-- APP_IMAGE_VERIFIED (R733, R735 step 4d). -/
def execAppImageVerified (readOk : Bool) (s : State) : Host.Outcome State Fault Refusal :=
  .next
    (if decide (4 ≤ bootPhase s) && decide (bootPhase s ≤ 8) && decide (bootCode s = 0) && decide (0 < s.boot.dramBytes) && !s.boot.appDone then
      (if !readOk then bootStop 4 2 s
       else match pickBank s 1 with | some b => bootRun (loadApp b s) | none => bootStop 4 3 s)
    else s)

/-! Bay and jointer BIST (R426 steps 4 and 5). -/

/-- Exclude the bays and jointers that BIST found bad; every bay not excluded before has made one plumb run. -/
def bayBist (bays jointers : Nat) (s : State) : State :=
  let tested := (List.range bayCount).filter (fun pb => !s.repair.badBays.getLsbD pb)
  let s1 := { s with safety := { s.safety with plumbRuns := tested.foldl (fun t pb => tabModify 0 t pb (· + 1)) s.safety.plumbRuns } }
  let s2 := (tested.filter bays.testBit).foldl (dropBay true) s1
  let js := (List.range 9).filter (fun j => !s.repair.badJointers.getLsbD j && jointers.testBit j)
  bootGo 6 (js.foldl (dropJointer true) s2)

/-- BAY_BIST_DONE (R426). -/
def execBayBistDone (bays jointers : Nat) (s : State) : Host.Outcome State Fault Refusal :=
  .next (if bootAt 5 s then bayBist bays jointers s else s)

/-! The map and the grade (R421–R423). -/

/-- The good bays. -/
def goodBays (s : State) : List Nat := (List.range bayCount).filter (fun pb => !s.repair.badBays.getLsbD pb)

/-- The good jointers. -/
def goodJointers (s : State) : List Nat := (List.range 9).filter (fun j => !s.repair.badJointers.getLsbD j)

/-- The good loft banks. -/
def goodBanks (s : State) : List Nat := (List.range 49).filter (fun b => !s.repair.badLoft.getLsbD b)

/-- The reported grade, when there is one (R422, R423). -/
def gradeOf (s : State) : Option Nat :=
  if (goodBanks s).length < 48 then none
  else
    [32, 24, 16, 8].find? (fun g =>
      decide (g ≤ regFld s Reg.GLOBAL_GRADE 8 8) && decide (g ≤ (goodBays s).length) && decide (g ≤ 4 * (goodJointers s).length))

/-- Steps 1 and 2 of R421: the logical bays that each bent takes from its own jointer's bent. -/
def ownAssign (bays jointers : List Nat) (g : Nat) : List (Nat × Nat) :=
  (List.zip (List.range (g / 4)) jointers).flatMap (fun e =>
    List.zip (rangeFrom (4 * e.1) 4) ((rangeFrom (4 * e.2) 4).filter bays.contains))

/-- R421: the logical bays, counted from 0, with their physical bays. -/
def mapOf (bays jointers : List Nat) (g : Nat) : List (Nat × Nat) :=
  let own := ownAssign bays jointers g
  let open_ := (List.range g).filter (fun n => own.all (fun e => decide (e.1 ≠ n)))
  let pool := bays.filter (fun pb => own.all (fun e => decide (e.2 ≠ pb)))
  own ++ List.zip open_ pool

/-- The first logical bay of this device. -/
def bayBase (s : State) : Nat := if twinSecondary s then 32 else 0

/-- BAY_FENCE of the logical number that a bay of the log would have taken, had it been good (R427). -/
def logFence (g : Nat) (s : State) (pb : Nat) : State :=
  let bays := (List.range bayCount).filter (fun x => decide (x = pb) || !s.repair.badBays.getLsbD x)
  match (mapOf bays (goodJointers s) g).find? (fun e => decide (e.2 = pb)) with
  | some (n, _) =>
    if regBit s (Reg.BAY_FENCE n) 31 then s else regPut s (Reg.BAY_FENCE n) (BitVec.ofNat 32 (2 ^ 31 + pb * 256 + 4))
  | none => s

/-- The bays that entries of the log exclude, in slot order. -/
def logBays (s : State) : List Nat := ((logEntries s).filter (fun e => checkOk e && decide (leAt e 0 1 = 1))).map (fun e => leAt e 2 2)

/-- Put the map in force, with GLOBAL_GRADE, GLOBAL_BIST and GLOBAL_REPAIR_DIGEST. Excluded bays and jointers are out of service. -/
def putMap (g : Nat) (s : State) : State :=
  let m := mapOf (goodBays s) (goodJointers s) g
  let base := bayBase s
  let bad := (List.range bayCount).filter s.repair.badBays.getLsbD
  let s1 := { s with
    bayMap := m.foldl (fun t e => tabPut 0 t (base + e.1) (e.2 + 1)) []
    jmap := (List.zip (List.range (g / 4)) (goodJointers s)).foldl (fun t e => tabPut 0 t e.1 (e.2 + 1)) []
    part := { s.part with lastPass := m.foldl (fun t e => tabPut 0 t (base + e.1) s.tb.elapsed) s.part.lastPass } }
  let s2 := bad.foldl (fun s pb => bayMod s pb (fun b => { b with st := .retired })) s1
  let s3 := regSetFld (regSetFld s2 Reg.GLOBAL_GRADE 16 8 g) Reg.GLOBAL_GRADE 3 1 (bitN (decide (g < regFld s Reg.GLOBAL_GRADE 8 8)) 0)
  let cnt := fun {w : Nat} (v : BitVec w) => ((List.range w).filter v.getLsbD).length
  let s4 := regPut s3 Reg.GLOBAL_BIST
    (BitVec.ofNat 32 (cnt s.repair.bistBays * 2 ^ 16 + cnt s.repair.bistJointers * 2 ^ 8 + cnt s.repair.bistLoft))
  putDigest ((logBays s).foldl (logFence g) s4)

/-! The configuration section (R734). -/

/-- An early write falls in INTAKE, TIMEBASE pages 0x1_0000–0x2_FFFF, DISP or CRP page 1. -/
def earlyOk (o : Nat) : Bool :=
  decide (o % 4 = 0) &&
    (decide (o / 0x100000 = 0x9) || (decide (0x710000 ≤ o) && decide (o < 0x730000)) || decide (o / 0x100000 = 0xB) ||
      decide (o / 0x1000 = 0x101))

/-- The twin configuration block (R650): its check word, and its reserved bits. -/
def twinBlockOk (l : List Byte) : Bool :=
  decide (l.length = 64) && checkOk l && decide (leAt l 0 2 < 2) && (bytesAt l 8 52).all (fun b => decide (b = 0))

/-- The partition table's check word and reserved bytes (R344). -/
def tableBlockOk (l : List Byte) : Bool :=
  decide (l.length = 4368) && checkOk l && (bytesAt l 128 128 ++ bytesAt l 4352 12).all (fun b => decide (b = 0))

/-- The device with the tables of a section in place. -/
def withTables (c : BootCfg) (s : State) : State :=
  let ps := List.zip (List.range 8) c.regions
  { s with part := { s.part with
      table := putBytes [] 0 c.table, tableHeld := true
      regions := ps.foldl (fun t e => tabPut [] t e.1 (putBytes [] 0 e.2)) []
      regionsHeld := ps.foldl (fun t e => tabPut false t e.1 true) [] } }

/-- Every test of R348 that a table must pass, for all partitions. -/
def tablesOk (s : State) : Bool :=
  let each := fun (f : State → Nat → Bool) => (List.range 8).all (f s)
  wheelsRangeOk s && each recordRangeOk && each regionsRangeOk && ownedOk s && quotaOk s && each scheduleOk && each parkTestOk &&
    each saveOk && wheelOk s && each regionOk

/-- A lifecycle request leads from state `l` to this state; none when the table of R738 does not allow it (R739). -/
def lifeNext (rma : Bool) (l t : Nat) : Option Nat :=
  if t = l then some l
  else
    match t with
    | 3 => if l = 2 then some 3 else none
    | 4 => if (l = 2 ∨ l = 3) ∧ rma = true then some 4 else none
    | 5 => if l = 0 then none else some 5
    | _ => none

/-- The state after every request of a section. -/
def lifeAfter (c : BootCfg) (s : State) : Option Nat :=
  c.requests.foldl (fun l t => l.bind (fun l => lifeNext s.boot.rma l t)) (some (lifeState s))

/-- The section passes its check word, its ranges and R734. -/
def configOk (c : BootCfg) (s : State) : Bool :=
  c.check && tableBlockOk c.table && decide (c.regions.length = 8) && c.regions.all (fun l => decide (l.length = 528) && checkOk l) &&
    twinBlockOk c.twin && decide (c.routes.length = 8) && c.routes.all (fun r => decide (r < 256)) && decide (c.bayClk < 4) &&
    decide (speedBin s ≤ c.bayClk) && decide (c.early.length ≤ 256) && c.early.all (fun e => earlyOk e.1) && (lifeAfter c s).isSome &&
    tablesOk (withTables c s)

/-- The tables of the section are in force: each partition waits for its first beat start. -/
def bootTables (c : BootCfg) (s : State) : State :=
  (List.range 8).foldl (fun s p =>
    beatPut s p { appliedNs := s.tb.elapsed, entryNs := s.tb.elapsed, tail := decide (recBeat s p ≠ 0 ∨ recNkerf s p = 0) })
    (withTables c s)

/-- FC_ROUTE of each partition (R694). -/
def bootRoutes (c : BootCfg) (s : State) : State :=
  (List.zip (List.range 8) c.routes).foldl (fun s e => regPut s (Reg.FC_ROUTE e.1) (BitVec.ofNat 32 e.2)) s

/-- The twin configuration block: EN leads from SINGLE to TRAINING (R650, R651). -/
def bootTwin (c : BootCfg) (s : State) : State :=
  let s1 := regSetFld (regSetFld s Reg.TRUSS_CFG 31 1 (leAt c.twin 0 1)) Reg.TRUSS_CFG 0 16 (leAt c.twin 2 2)
  let s2 := { s1 with twin := { s1.twin with config := c.twin } }
  if leAt c.twin 0 1 = 1 then trainPut true (twinGo 1 s2) else s2

/-- The lifecycle requests are burned, and the boot goes on in the new state (R739). -/
def bootLife (c : BootCfg) (s : State) : State :=
  match lifeAfter c s with
  | some l => if l = lifeState s then s else regSetFld (burnLife l s) Reg.GLOBAL_LIFECYCLE 0 3 l
  | none => s

/-- The early writes, by the island. -/
def bootEarly (c : BootCfg) (s : State) : State :=
  c.early.foldl (fun s e => regWrite 0x11 (Reg.spaceBase + e.1) 4 (e.2.zeroExtend 64) s) s

/-- Step 6 (R735): map and grade, then the configuration section. -/
def bootStep6 (s : State) : State :=
  match gradeOf s with
  | none => bootStop 6 6 (raise 0x064 none 0 s)
  | some g =>
    let s1 := putMap g s
    match s1.boot.cfg with
    | some c =>
      if configOk c s1 then
        bootGo 7 (bootEarly c (bootLife c (regSetFld (bootTwin c (bootRoutes c (bootTables c s1))) Reg.CRP_BAY_CLK 0 2 c.bayClk)))
      else bootStop 6 5 s1
    | none => bootStop 6 5 s1

/-- BOOT_MAP_AND_GRADE (R421). -/
def execBootMapAndGrade (s : State) : Host.Outcome State Fault Refusal := .next (if bootAt 6 s then bootStep6 s else s)

/-! Steps 7 to 9. -/

/-- FABRIC_CONTROLLER_START (R735 step 7): FC_STATUS.RUN is set, and the island software starts. -/
def execFabricControllerStart (s : State) : Host.Outcome State Fault Refusal :=
  .next (if bootAt 7 s then bootRun (bootGo 8 (regSetFld s Reg.FC_STATUS 31 1 1)) else s)

/-- APP_HART_RELEASE (R735 step 9). -/
def execAppHartRelease (s : State) : Host.Outcome State Fault Refusal :=
  .next
    (if bootAt 9 s then
      let s1 := regSetFld s Reg.CRP_BOOT_STAT 31 1 1
      { s1 with boot := { s1.boot with hartsRun := true } }
    else s)

end Sys2Proof.Machine
end

