-- ==== Sys2Proof/Machine/ExecControl.lean ====
section
/-!
DEFINITION. The control instructions of chapter 6.
-/

namespace Sys2Proof.Machine

/-- A conditional branch: `rel` decides on the register files (R178). -/
def condBranch (h : Hand) (w : Word64) (rel : HandRegs → Bool) (s : State) : State :=
  branch h w (rel (handGet s h).regs) (fun r => r) s

/-- BEQ (R178): Branches to the R178 target when the operands are equal. -/
def execBeq (h : Hand) (w : Word64) (s : State) : Host.Outcome State Fault Refusal :=
  issue .beq h w s (condBranch h w (fun r => decide (r.getS (BR.ra w) = r.getS (BR.rb w))))

/-- BNE (R178): Branches when the operands are not equal. -/
def execBne (h : Hand) (w : Word64) (s : State) : Host.Outcome State Fault Refusal :=
  issue .bne h w s (condBranch h w (fun r => decide (r.getS (BR.ra w) ≠ r.getS (BR.rb w))))

/-- BLT (R178): Branches on a signed less-than. -/
def execBlt (h : Hand) (w : Word64) (s : State) : Host.Outcome State Fault Refusal :=
  issue .blt h w s (condBranch h w (fun r => decide ((r.getS (BR.ra w)).toInt < (r.getS (BR.rb w)).toInt)))

/-- BGE (R178): Branches on a signed greater-or-equal. -/
def execBge (h : Hand) (w : Word64) (s : State) : Host.Outcome State Fault Refusal :=
  issue .bge h w s (condBranch h w (fun r => decide ((r.getS (BR.rb w)).toInt ≤ (r.getS (BR.ra w)).toInt)))

/-- BLTU (R178): Branches on an unsigned less-than. -/
def execBltu (h : Hand) (w : Word64) (s : State) : Host.Outcome State Fault Refusal :=
  issue .bltu h w s (condBranch h w (fun r => decide ((r.getS (BR.ra w)).toNat < (r.getS (BR.rb w)).toNat)))

/-- BGEU (R178): Branches on an unsigned greater-or-equal. -/
def execBgeu (h : Hand) (w : Word64) (s : State) : Host.Outcome State Fault Refusal :=
  issue .bgeu h w s (condBranch h w (fun r => decide ((r.getS (BR.rb w)).toNat ≤ (r.getS (BR.ra w)).toNat)))

/-- BRA (R178): Unconditional relative branch. -/
def execBra (h : Hand) (w : Word64) (s : State) : Host.Outcome State Fault Refusal :=
  issue .bra h w s (branch h w true (fun r => r))

/-- JAL (R224): s[RD] takes the address of the following instruction, and control goes to the R178 target. -/
def execJal (h : Hand) (w : Word64) (s : State) : Host.Outcome State Fault Refusal :=
  issue .jal h w s (fun s =>
    branch h w true (fun r => r.setS (BR.rd w) (BitVec.ofNat 64 (nextPc (handGet s h).pc))) s)

/-- JR (R179, R224): s[RA] is read before the link is written; an invalid target raises FETCH 0x03 and the jump has no
effect. -/
def execJr (h : Hand) (w : Word64) (s : State) : Host.Outcome State Fault Refusal :=
  issue .jr h w s (fun s =>
    let c := handGet s h
    let t := c.regs.getS (BR.ra w)
    if fld t 48 16 ≠ 0 ∨ fld t 0 3 ≠ 0 ∨ fld t 3 3 = 7 then preciseFault h 0x403 s
    else goTo h (t.toNat : Int) (fun r => r.setS (BR.rd w) (BitVec.ofNat 64 (nextPc c.pc))) s)

/-- LOOP (R225): a zero counter stays 0 and does not branch; else it falls by 1 and branches while it is nonzero. -/
def execLoop (h : Hand) (w : Word64) (s : State) : Host.Outcome State Fault Refusal :=
  issue .loop h w s (fun s =>
    let v := (handGet s h).regs.getS (BR.rd w)
    if v = 0 then advance h s
    else branch h w (decide (v - 1 ≠ 0)) (fun r => r.setS (BR.rd w) (v - 1)) s)

/-- WAITQ (R192, R226): stalls until the named queues are empty. -/
def execWaitq (h : Hand) (w : Word64) (s : State) : Host.Outcome State Fault Refusal :=
  issue .waitq h w s (fun s =>
    let b := bayGet s h.pb
    if (bitAt w 0 && !b.matrixQ.isEmpty) || (bitAt w 1 && !b.dmaQ.isEmpty) || (bitAt w 2 && !b.jointerQ.isEmpty) then s
    else advance h s)

/-- FENCE (R193): stalls until every earlier write beyond the own store is visible. -/
def execFence (h : Hand) (w : Word64) (s : State) : Host.Outcome State Fault Refusal :=
  issue .fence h w s (fun s => if farWritesPending s h.pb then s else advance h s)

/-- TRAP (R217): always faults, class TRAP, subcode IMM32[7:0]. -/
def execTrap (h : Hand) (w : Word64) (s : State) : Host.Outcome State Fault Refusal :=
  issue .trap h w s (preciseFault h (0xA00 + SY.imm w % 256))

/-- END (R209): ends issue; the bay's part of the job ends once its queues are empty. -/
def execEnd (h : Hand) (w : Word64) (s : State) : Host.Outcome State Fault Refusal :=
  issue .endP h w s (fun s => settle (handMod s h (fun c => { c with ended := true })) h)

/-- NOP: no effect. A reserved major opcode issues here and faults ILLEGAL 0x01 (R205). -/
def execNop (h : Hand) (w : Word64) (s : State) : Host.Outcome State Fault Refusal := issue .nop h w s (advance h)

end Sys2Proof.Machine
end

