-- ==== Sys2Proof/Machine/Gfx.lean ====
section
/-!
DEFINITION. The graphics front end (chapter 15): the render pass block and its tests, vertices, setup and binning, rasterisation
with early tests, and tiles.
-/

namespace Sys2Proof.Machine

/-- The bound job's dowel slot, while that job is RUNNING; none when the front end is unbound (R573, R574). -/
def gfxSlot (s : State) : Option Nat :=
  let slot := slotOf s.gfx.bound
  if s.gfx.bound ≠ 0 ∧ handleOf s slot = s.gfx.bound ∧ (dowelGet s slot).st = .running then some slot else none

/-- A field of the render pass block. -/
def gBlk (s : State) (o n : Nat) : Nat := leAt s.gfx.block o n
/-- Width of the target. -/
def gWidth (s : State) : Nat := gBlk s 32 2
/-- Height of the target. -/
def gHeight (s : State) : Nat := gBlk s 34 2
/-- Columns of tiles. -/
def gCols (s : State) : Nat := (gWidth s + 31) / 32
/-- Tiles of the target. -/
def gTiles (s : State) : Nat := gCols s * ((gHeight s + 31) / 32)
/-- CFMT. -/
def gFmt (s : State) : Nat := gBlk s 28 1
/-- SAMPLES. -/
def gSamples (s : State) : Nat := gBlk s 29 1
/-- DFMT. -/
def gDfmt (s : State) : Nat := gBlk s 52 1

/-- The owner of the front end. -/
def gOwner (s : State) : Nat := (ownerBy (ownsGfx s)).getD 0

/-- Read for the front end: initiator 0x71, class GFX. -/
def gfxRead (a n : Nat) (s : State) : Option (List Byte) × State := unitRead 0x71 (gOwner s) 5 a n s
/-- Write for the front end. -/
def gfxWrite (a : Addr) (l : List Byte) (s : State) : Bool × State := unitWrite 0x71 (gOwner s) 5 a l s

/-- A render fault stops the bound job on every bay (R574). -/
def gfxFail (code : Nat) (s : State) : State :=
  match gfxSlot s with
  | some slot => stopJob raise slot .doneFault code s
  | none => s

/-- The bytes `f` names are all zero. -/
def zeroBytes (l : List Byte) (f : List (Nat × Nat)) : Bool := f.all (fun x => decide (leAt l x.1 x.2 = 0))

/-- An address field of 8 bytes: 48 bits, on a boundary. -/
def addrOk (l : List Byte) (o al : Nat) : Bool := decide (leAt l o 8 < 2 ^ 48) && decide (leAt l o 8 % al = 0)

/-- The ranges of the render pass block (R574). -/
def blockOk (b : List Byte) : Bool :=
  let g := leAt b
  addrOk b 0 64 && decide (1 ≤ g 8 4) && decide (g 8 4 ≤ 65535) && addrOk b 16 64 && decide (g 24 4 % 64 = 0) &&
  decide (g 28 1 < 3) && decide (g 29 1 = 1 ∨ g 29 1 = 4) && decide (nfld (g 30 1) 0 2 < 3) && decide (nfld (g 30 1) 2 2 < 3) &&
  decide (g 30 1 < 16) && decide (1 ≤ g 32 2) && decide (g 32 2 ≤ 8192) && decide (1 ≤ g 34 2) && decide (g 34 2 ≤ 8192) &&
  addrOk b 40 64 && decide (g 48 4 % 64 = 0) && decide (g 52 1 < 3) && addrOk b 56 16 && addrOk b 64 1 &&
  decide (g 76 1 ≤ 92) && decide (1 ≤ g 101 1) && decide (g 104 4 % 0x10000 = 0) && decide (g 104 4 + 0x10000 ≤ storeSize) &&
  decide (g 108 2 < 2048) && zeroBytes b [(31, 1), (36, 4), (53, 3), (77, 3), (102, 2), (110, 18)]

/-- `n` bytes that the manual does not state. -/
def freeBytesG (n : Nat) (s : State) : List Byte × State :=
  ((List.range n).map (fun i => (Config.freeValue (s.freeCtr + i)).truncate 8), { s with freeCtr := s.freeCtr + n })

/-- Working memory of the front end: what it holds is not stated. -/
def scramble (a n : Nat) (s : State) : State :=
  let (l, s1) := freeBytesG n s
  devWrite s1 a l

/-! Bays and mailboxes (R576). -/

/-- The physical bay of rank `r` of the bound job. -/
def rankBay (s : State) (slot r : Nat) : Option Nat := lbPhys s (dsFirst (dowelGet s slot).desc + r)

/-- The mailbox slot address of packet `num`, as a store offset. -/
def mboxOff (s : State) (num : Nat) : Nat := gBlk s 104 4 + num % 8 * 0x2000

/-- Write into the mailbox of a rank. -/
def mboxWrite (slot r off : Nat) (l : List Byte) (s : State) : State :=
  match rankBay s slot r with
  | some pb => storeWrite s pb off l
  | none => s

/-- Read the mailbox of a rank. -/
def mboxRead (s : State) (slot r off n : Nat) : List Byte :=
  match rankBay s slot r with
  | some pb => (bayGet s pb).storeRead off n
  | none => []

/-- The bound job's work peg of a rank. -/
def workPeg (s : State) (r : Nat) : Nat := gBlk s 108 2 + r

/-- A rank can take a packet: a slot is free, its bay runs the host, and no kerf boundary has passed (R578, R602). -/
def rankFree (s : State) (slot r : Nat) : Bool :=
  decide (tabGet 0 s.gfx.issued r < tabGet 0 s.gfx.returned r + 8) &&
    (match rankBay s slot r with
     | some pb => decide ((bayGet s pb).st = .running) && !(bayGet s pb).drain
     | none => false)

/-- The next rank after the last one served that satisfies a test (R578). -/
def nextRank (s : State) (slot : Nat) (f : Nat → Bool) : Option Nat :=
  let n := dsBays (dowelGet s slot).desc
  ((rangeFrom (s.gfx.last + 1) n).map (fun r => r % n)).find? (fun r => rankFree s slot r && f r)

/-- Hand a packet to a rank: its parts are written, then 1 is added to the work peg (R576). -/
def handPacket (slot r kind first count : Nat) (parts : List (Nat × List Byte)) (s : State) : State :=
  let num := tabGet 0 s.gfx.issued r
  let s1 := parts.foldl (fun s p => mboxWrite slot r (mboxOff s num + p.1) p.2 s) s
  let s2 := { s1 with gfx := { s1.gfx with
    issued := tabPut 0 s1.gfx.issued r (num + 1), last := r
    out := s1.gfx.out ++ [{ rank := r, num := num, kind := kind, first := first, count := count }] } }
  pegSignal s2 (workPeg s2 r) (.add 1)

/-- The header word of a packet. -/
def packetHead (kind count draw first : Nat) : List Byte := leBytes 1 kind ++ leBytes 1 count ++ leBytes 2 draw ++ leBytes 4 first

/-! Draws and vertices (R575). -/

/-- The ranges of a draw record. -/
def drawOk (d : List Byte) : Bool :=
  let g := leAt d
  addrOk d 0 128 && addrOk d 8 1 && decide (3 ≤ g 16 4) && decide (g 16 4 ≤ 2 ^ 24) && decide (1 ≤ g 24 2) && decide (g 26 1 < 2) &&
  zeroBytes d [(27, 1)] && addrOk d 32 1 && addrOk d 40 1 && addrOk d 48 1 && addrOk d 56 1

/-- An attribute word of a pipeline state has no reserved bit set. -/
def attrOk (a : Nat) : Bool :=
  decide (nfld a 2 6 = 0) && decide (nfld a 16 3 < 5) && decide (nfld a 19 12 = 0)

/-- The ranges of a pipeline state. -/
def psoOk (p : List Byte) : Bool :=
  let g := leAt p
  let half := fun (b : Nat) => decide (nfld b 1 4 < 8) && decide (nfld b 5 4 < 8) && decide (nfld b 9 3 < 5) && decide (nfld b 12 4 = 0)
  addrOk p 0 64 && addrOk p 8 64 && (List.range 4).all (fun a => attrOk (g (16 + 4 * a) 4)) && zeroBytes p [(40, 8), (51, 1), (66, 2), (100, 28)] &&
  decide (g 48 1 < 2) && decide (nfld (g 49 1) 0 2 < 3) && decide (g 49 1 < 8) && decide (g 50 1 < 32) && decide (g 52 1 < 2) &&
  (rangeFrom 53 4).all (fun i => decide (g i 1 < 8)) && half (nfld (g 60 4) 0 16) && half (nfld (g 60 4) 16 16) &&
  decide (g 64 1 < 8) && decide (g 65 1 < 2)

/-- Read and test the next draw record and its pipeline state: 0 when they are good, else the render fault code. -/
def readDraw (s : State) : Nat × State :=
  match gfxRead (gBlk s 0 8 + 64 * s.gfx.draw) 64 s with
  | (none, s1) => (0x7002, s1)
  | (some d, s1) =>
    if !drawOk d then (0x7001, s1)
    else
      match gfxRead (leAt d 0 8) 128 s1 with
      | (none, s2) => (0x7002, s2)
      | (some p, s2) =>
        if !psoOk p then (0x7001, s2)
        else (0, { s2 with gfx := { s2.gfx with drec := d, psos := tabPut [] s2.gfx.psos s2.gfx.draw p, vnext := 0, verts := [] } })

/-- The pipeline state of a draw. -/
def psoOf (s : State) (draw : Nat) : List Byte := tabGet [] s.gfx.psos draw

/-- The vertex number of place `i` of the current draw: by index or in sequence. -/
def vertexNo (i : Nat) (s : State) : Option Nat × State :=
  let d := s.gfx.drec
  let k := leAt d 20 4 + i
  if leAt d 8 8 = 0 then (some k, s)
  else
    let w := if leAt d 26 1 = 0 then 2 else 4
    match gfxRead (leAt d 8 8 + k * w) w s with
    | (some l, s1) => (some ((((leVal l : Nat) : Int) + sintOf 32 (leAt d 28 4)) % (2 ^ 32 : Int)).toNat, s1)
    | (none, s1) => (none, s1)

/-- One attribute of a vertex as 4 × FP32: absent components are 0, 0, 0, 1. -/
def readAttr (v a : Nat) (s : State) : Option (List Byte) × State :=
  let d := s.gfx.drec
  let p := psoOf s s.gfx.draw
  let w := leAt p (16 + 4 * a) 4
  let fmt := nfld w 16 3
  let dflt := [0, 0, 0, fpOne]
  if !w.testBit 31 then (some (dflt.flatMap (leBytes 4)), s)
  else
    let b := nfld w 0 2
    let addr := leAt d (32 + 8 * b) 8 + v * leAt p (32 + 2 * b) 2 + nfld w 8 8
    match gfxRead addr (if fmt = 4 then 4 else 4 * (fmt + 1)) s with
    | (none, s1) => (none, s1)
    | (some l, s1) =>
      let c := (List.range 4).map (fun i =>
        if fmt = 4 then fpRatio (leAt l i 1) 255 else if i ≤ fmt then leAt l (4 * i) 4 else dflt.getD i 0)
      (some (c.flatMap (leBytes 4)), s1)

/-- The four attributes of a vertex. -/
def readAttrs (v : Nat) : List Nat → List Byte → State → Option (List Byte) × State
  | [], acc, s => (some acc, s)
  | a :: t, acc, s =>
    match readAttr v a s with
    | (some l, s1) => readAttrs v t (acc ++ l) s1
    | (none, s1) => (none, s1)

/-- The inputs of vertices at the given places. -/
def readVerts : List Nat → List Byte → State → Option (List Byte) × State
  | [], acc, s => (some acc, s)
  | i :: t, acc, s =>
    match vertexNo i s with
    | (none, s1) => (none, s1)
    | (some v, s1) =>
      match readAttrs v [0, 1, 2, 3] [] s1 with
      | (some l, s2) => readVerts t (acc ++ l) s2
      | (none, s2) => (none, s2)

/-! Setup (R579). -/

/-- Component `i` of a shaded vertex's clip position. -/
def clipPos (v : List Byte) (i : Nat) : Nat := leAt v (4 * i) 4

/-- The viewport transform of a vertex: x and y in FP32. -/
def viewport (pso v : List Byte) : Nat × Nat :=
  let half := 0x3F000000
  let one := fun (o e i : Nat) =>
    let h := fpMul half (leAt pso e 4)
    fpAdd (fpMul h (fpDiv (clipPos v i) (clipPos v 3))) (fpAdd (leAt pso o 4) h)
  (one 68 76 0, one 72 80 1)

/-- FP32 32,768 and its opposite: the guard band. -/
def guardHi : Nat := 0x47000000
/-- −32,768. -/
def guardLo : Nat := 0xC7000000

/-- A vertex lies inside a clip plane: 0 w > 0, 1 z ≥ 0, 2 z ≤ w, 3–6 the guard band. -/
def insidePlane (pso v : List Byte) (k : Nat) : Bool :=
  let ge := fun (a b : Nat) => decide (fpCmp a b = some 0 ∨ fpCmp a b = some 1)
  match k with
  | 0 => decide (fpCmp (clipPos v 3) 0 = some 1)
  | 1 => ge (clipPos v 2) 0
  | 2 => ge (clipPos v 3) (clipPos v 2)
  | 3 => ge (viewport pso v).1 guardLo
  | 4 => ge guardHi (viewport pso v).1
  | 5 => ge (viewport pso v).2 guardLo
  | _ => ge guardHi (viewport pso v).2

/-- The vertex made on an edge by a plane: its words are open (FP32 clipping whose formulas the manual does not give). -/
def cutVertex (k : Nat) (i o : List Byte) : List Byte := (List.range 32).flatMap (fun w => leBytes 4 (Config.gfxCut k i o w).toNat)

/-- Clip a polygon against one plane. `prev` is the vertex before the list. -/
def clipPlane (pso : List Byte) (k : Nat) : List Byte → List (List Byte) → List (List Byte)
  | _, [] => []
  | prev, v :: t =>
    let a := insidePlane pso prev k
    let b := insidePlane pso v k
    let cut := if a = b then [] else [if a then cutVertex k prev v else cutVertex k v prev]
    cut ++ (if b then [v] else []) ++ clipPlane pso k v t

/-- Clip a triangle against every plane in turn. -/
def clipAll (pso : List Byte) (l : List (List Byte)) : List (List Byte) :=
  (List.range 7).foldl (fun l k => match l.getLast? with | some p => clipPlane pso k p l | none => []) l

/-- Snap an FP32 coordinate to 1/256 pixel. -/
def snap (x : Nat) : Int :=
  match Fmt.fp32.decode x with
  | .fin neg m e => let r := (roundMag .rne neg m e (-8)).1; if neg then -(r : Int) else r
  | .inf _ | .nan _ => 0

/-- Twice the signed area of three points, positive for a clockwise triangle on the screen. -/
def area2 (x0 y0 x1 y1 x2 y2 : Int) : Int := (x1 - x0) * (y2 - y0) - (y1 - y0) * (x2 - x0)

/-- A triangle of the clipped polygon, culled and turned to positive area. -/
def setupTri (pso : List Byte) (draw no : Nat) (a b c : List Byte) : Option GTri :=
  let p := fun (v : List Byte) => (snap (viewport pso v).1, snap (viewport pso v).2)
  let ar := area2 (p a).1 (p a).2 (p b).1 (p b).2 (p c).1 (p c).2
  let front := decide (decide (0 < ar) = (leAt pso 49 1).testBit 2)
  let cull := nfld (leAt pso 49 1) 0 2
  if ar = 0 ∨ (cull = 1 ∧ front) ∨ (cull = 2 ∧ !front) then none
  else
    let (q, r) := if 0 < ar then (p b, p c) else (p c, p b)
    some { draw := draw, no := no, v := a ++ b ++ c, x0 := (p a).1, y0 := (p a).2, x1 := q.1, y1 := q.2, x2 := r.1, y2 := r.2 }

/-- The fan of a clipped polygon. -/
def fanTris (pso : List Byte) (draw no : Nat) : List (List Byte) → List GTri
  | a :: b :: t => (List.zip (b :: t) t).filterMap (fun x => setupTri pso draw no a x.1 x.2)
  | _ => []

/-- The vertex places of triangle `k` of a draw: list or strip. -/
def triPlaces (strip : Bool) (k : Nat) : Nat × Nat × Nat :=
  if strip then (if k % 2 = 0 then (k, k + 1, k + 2) else (k, k + 2, k + 1)) else (3 * k, 3 * k + 1, 3 * k + 2)

/-- The triangles of the current draw, instance by instance, after setup (R575, R579). -/
def drawTris (s : State) : List GTri :=
  let d := s.gfx.drec
  let p := psoOf s s.gfx.draw
  let strip := decide (leAt p 48 1 = 1)
  let n := if strip then leAt d 16 4 - 2 else leAt d 16 4 / 3
  (List.range (leAt d 24 2)).flatMap (fun i =>
    (List.range n).flatMap (fun k =>
      let (a, b, c) := triPlaces strip k
      let v := fun (x : Nat) => tabGet [] s.gfx.verts x
      fanTris p s.gfx.draw (i * n + k) (clipAll p [v a, v b, v c])))

/-- The scissor of a draw, cut to the target: x and y bounds, upper ends excluded. -/
def scissor (s : State) (draw : Nat) : (Nat × Nat) × (Nat × Nat) :=
  let p := psoOf s draw
  let x := leAt p 92 2
  let y := leAt p 94 2
  ((x, min (x + leAt p 96 2) (gWidth s)), (y, min (y + leAt p 98 2) (gHeight s)))

/-- The tiles along one axis that a range of positions in 1/256 pixel meets, within bounds in pixels. -/
def tileSpan (lo hi : Int) (b : Nat × Nat) : Nat :=
  let a := max (lo / 256) b.1
  let z := min (hi / 256) ((b.2 : Int) - 1)
  if z < a then 0 else (z / 32 - a / 32 + 1).toNat

/-- The tiles a triangle is binned to. -/
def triEntries (s : State) (t : GTri) : Nat :=
  let sc := scissor s t.draw
  tileSpan (min t.x0 (min t.x1 t.x2)) (max t.x0 (max t.x1 t.x2)) sc.1 *
    tileSpan (min t.y0 (min t.y1 t.y2)) (max t.y0 (max t.y1 t.y2)) sc.2

/-! Rasterisation and early tests (R579–R581). -/

/-- The sample positions of a pixel in 1/256 pixel: the standard Vulkan ones. -/
def samplePos (n k : Nat) : Nat × Nat :=
  if n = 1 then (128, 128)
  else match k with | 0 => (96, 32) | 1 => (224, 96) | 2 => (32, 160) | _ => (160, 224)

/-- A position lies inside an edge, with the top-left rule. -/
def insideEdge (ax ay bx b_y px py : Int) : Bool :=
  let e := (bx - ax) * (py - ay) - (b_y - ay) * (px - ax)
  decide (0 < e) || (decide (e = 0) && (decide (b_y < ay) || (decide (b_y = ay) && decide (ax < bx))))

/-- A triangle covers a position. -/
def covers (t : GTri) (px py : Int) : Bool :=
  insideEdge t.x0 t.y0 t.x1 t.y1 px py && insideEdge t.x1 t.y1 t.x2 t.y2 px py && insideEdge t.x2 t.y2 t.x0 t.y0 px py

/-- The key of a sample in a tile. -/
def sampleKey (x y k : Nat) : Nat := 4 * (32 * (y % 32) + x % 32) + k

/-- One sample of a fragment through the stencil and depth tests: whether it survives, the depth and stencil it writes, and whether
it may write depth. -/
def sampleTest (dfmt : Nat) (pso : List Byte) (z dOld sOld : Nat) : Bool × Nat × Nat :=
  let g := leAt pso
  let dep := g 50 1
  let sten := decide (g 52 1 = 1) && decide (dfmt = 2)
  let ref := g 57 1
  let rm := g 58 1
  let wm := g 59 1
  let put := fun (op : Nat) => if sten then (stencilOp op ref sOld &&& wm) ||| (sOld &&& (255 - wm)) else sOld
  if sten && !vkCompare (g 53 1) (natCmp (ref &&& rm) (sOld &&& rm)) then (false, dOld, put (g 54 1))
  else if dep.testBit 0 && !vkCompare (nfld dep 2 3) (depthCmp dfmt z dOld) then (false, dOld, put (g 56 1))
  else (true, if dep.testBit 0 && dep.testBit 1 then z else dOld, put (g 55 1))

/-- Test the samples of one pixel of a triangle; a DISCARD draw keeps its writes for the fragment's retirement (R581). -/
def pixelTest (s : State) (ti : Nat) (t : GTri) (x y : Nat) (g : GTile × List GFrag) : GTile × List GFrag :=
  let pso := psoOf s t.draw
  let n := gSamples s
  let discard := decide (leAt pso 65 1 = 1)
  let r := (List.range n).foldl (fun (acc : GTile × Nat × List (Nat × Nat × Nat)) k =>
    let o := samplePos n k
    let px : Int := 256 * x + o.1
    let py : Int := 256 * y + o.2
    if !covers t px py then acc
    else
      let key := sampleKey x y k
      let z := depthOut (gDfmt s) (Config.gfxDepth t.v px py).toNat
      let (ok, d, st) := sampleTest (gDfmt s) pso z (tabGet 0 acc.1.depth key) (tabGet 0 acc.1.stencil key)
      if ok && discard then (acc.1, acc.2.1 + 2 ^ k, acc.2.2 ++ [(k, d, st)])
      else
        ({ acc.1 with depth := tabPut 0 acc.1.depth key d, stencil := tabPut 0 acc.1.stencil key st },
         if ok then acc.2.1 + 2 ^ k else acc.2.1, acc.2.2)) (g.1, 0, [])
  if r.2.1 = 0 then (r.1, g.2) else (r.1, g.2 ++ [{ x := x, y := y, tri := ti, mask := r.2.1, late := r.2.2 }])

/-- The pixels of a tile inside the scissor of a draw. -/
def tilePixels (s : State) (t draw : Nat) : List (Nat × Nat) :=
  let ((x0, x1), (y0, y1)) := scissor s draw
  (List.range 1024).filterMap (fun i =>
    let x := 32 * (t % gCols s) + i % 32
    let y := 32 * (t / gCols s) + i / 32
    if x0 ≤ x ∧ x < x1 ∧ y0 ≤ y ∧ y < y1 then some (x, y) else none)

/-- Rasterise triangles of the tile in order until one has fragments. -/
def nextFrags (s : State) : List GTri → GTile → GTile
  | [], g => g
  | t :: rest, g =>
    let r := (tilePixels s g.t t.draw).foldl (fun acc p => pixelTest s g.next t p.1 p.2 acc) (g, [])
    let g1 := { r.1 with next := g.next + 1 }
    if r.2.isEmpty then nextFrags s rest g1 else { g1 with pend := r.2 }

/-! Tiles. -/

/-- The pixel range of a tile: first column and count, first row and count. -/
def tileRect (s : State) (t : Nat) : (Nat × Nat) × (Nat × Nat) :=
  let x := 32 * (t % gCols s)
  let y := 32 * (t / gCols s)
  ((x, min 32 (gWidth s - x)), (y, min 32 (gHeight s - y)))

/-- Bytes of a stored depth. -/
def depthBytes (fmt : Nat) : Nat := if fmt = 0 then 2 else 4

/-- Load the rows of a tile from a target: `w` bytes a pixel, `put` places a pixel's value. -/
def loadRows (base pitch w : Nat) (xs : Nat × Nat) (put : Nat → Nat → Nat → GTile → GTile) : List Nat → GTile → State → Option GTile × State
  | [], g, s => (some g, s)
  | y :: t, g, s =>
    match gfxRead (base + y * pitch + xs.1 * w) (xs.2 * w) s with
    | (none, s1) => (none, s1)
    | (some l, s1) =>
      loadRows base pitch w xs put t ((List.range xs.2).foldl (fun g i => put (xs.1 + i) y (leAt l (i * w) w) g) g) s1

/-- Put a value at every sample of a pixel. -/
def allSamples (n x y v : Nat) (t : Tab Nat) : Tab Nat := (List.range n).foldl (fun t k => tabPut 0 t (sampleKey x y k) v) t

/-- Every sample of a tile. -/
def tileKeys : List Nat := List.range 4096

/-- Start a tile by LOADOP (R580): none when a target may not be read. Undefined contents are free values. -/
def startTile (t : Nat) (s : State) : Option GTile × State :=
  let n := gSamples s
  let (xs, ys) := tileRect s t
  let rows := rangeFrom ys.1 ys.2
  let (seed, s0) := takeFree s
  let junk := fun (k : Nat) => (Config.freeValue (seed.toNat + k)).toNat
  let colorOp := nfld (gBlk s 30 1) 0 2
  let depthOp := nfld (gBlk s 30 1) 2 2
  let clear := colorOut (gFmt s) ((List.range 4).map (fun i => gBlk s (80 + 4 * i) 4))
  let fillAll := fun (f : Nat → Nat) => tileKeys.foldl (fun (t : Tab Nat) k => tabPut 0 t k (f k)) []
  let g0 : GTile :=
    { t := t
      color := if colorOp = 1 then fillAll (fun _ => clear) else if colorOp = 2 then fillAll (fun k => junk k % 2 ^ (8 * colorBytes (gFmt s))) else []
      depth :=
        if depthOp = 1 then fillAll (fun _ => depthOut (gDfmt s) (gBlk s 96 4))
        else if depthOp = 2 ∨ gBlk s 40 8 = 0 then fillAll (fun k => junk (4096 + k) % 2 ^ (if gDfmt s = 0 then 16 else if gDfmt s = 1 then 32 else 24))
        else []
      stencil :=
        if depthOp = 1 then fillAll (fun _ => gBlk s 100 1)
        else if depthOp = 2 ∨ gBlk s 40 8 = 0 then fillAll (fun k => junk (8192 + k) % 256)
        else [] }
  let (c, s1) := if colorOp = 0 then
      loadRows (gBlk s 16 8) (gBlk s 24 4) (colorBytes (gFmt s)) xs
        (fun x y v g => { g with color := allSamples n x y v g.color }) rows g0 s0
    else (some g0, s0)
  match c with
  | none => (none, s1)
  | some g1 =>
    if depthOp = 0 ∧ gBlk s 40 8 ≠ 0 then
      loadRows (gBlk s 40 8) (gBlk s 48 4) (depthBytes (gDfmt s)) xs
        (fun x y v g =>
          if gDfmt s = 2 then
            { g with depth := allSamples n x y (v % 2 ^ 24) g.depth, stencil := allSamples n x y (v / 2 ^ 24) g.stencil }
          else { g with depth := allSamples n x y v g.depth }) rows g1 s1
    else (some g1, s1)

/-- Begin tile `t`, or a render fault. -/
def beginTile (t : Nat) (s : State) : State :=
  match startTile t s with
  | (some g, s1) => { s1 with gfx := { s1.gfx with tile := some g } }
  | (none, s1) => gfxFail 0x7002 s1

/-- The bytes of a row of a finished tile. -/
def colorRow (s : State) (g : GTile) (xs : Nat × Nat) (y : Nat) : List Byte :=
  (List.range xs.2).flatMap (fun i =>
    let v := fun (k : Nat) => tabGet 0 g.color (sampleKey (xs.1 + i) y k)
    leBytes (colorBytes (gFmt s)) (if gSamples s = 1 then v 0 else resolveFour (gFmt s) [v 0, v 1, v 2, v 3]))

/-- The bytes of a row of depth and stencil. With four samples the manual does not say what a pixel of the depth target takes: a
free value, `junk`. -/
def depthRow (s : State) (g : GTile) (junk : Nat → Nat) (xs : Nat × Nat) (y : Nat) : List Byte :=
  (List.range xs.2).flatMap (fun i =>
    let k := sampleKey (xs.1 + i) y 0
    if gSamples s = 1 then
      leBytes (depthBytes (gDfmt s)) (tabGet 0 g.depth k + (if gDfmt s = 2 then tabGet 0 g.stencil k * 2 ^ 24 else 0))
    else leBytes (depthBytes (gDfmt s)) (junk k))

/-- Write rows to a target; the flag says whether every one was granted. -/
def writeRows (base pitch w : Nat) (xs : Nat × Nat) (row : Nat → List Byte) : List Nat → State → Bool × State
  | [], s => (true, s)
  | y :: t, s =>
    match gfxWrite (base + y * pitch + xs.1 * w) (row y) s with
    | (true, s1) => writeRows base pitch w xs row t s1
    | (false, s1) => (false, s1)

end Sys2Proof.Machine
end

