-- ==== Sys2Proof/Machine/ExecGfx.lean ====
section
/-!
DEFINITION. The commands of the graphics front end (chapter 15): binding, packets, retirement, tile write-out, and filler jobs.
-/

namespace Sys2Proof.Machine

/-! Binding (R573, R574). -/

/-- The four granules of the tile buffer belong to the owner. -/
def tbufOk (s : State) : Bool := (List.range 4).all (fun i => ownsGranule s (gOwner s) (nfld (gBlk s 76 1) 0 7 + i))

/-- The work pegs lie in the owner's range. -/
def workPegsOk (s : State) (n : Nat) : Bool := (List.range n).all (fun r => ownsPeg s (gOwner s) (workPeg s r))

/-- Bind a render job: its block is read, the work pegs set to 0 and the block tested; then the DONE words are set to 0 and the tile
buffer becomes the front end's (R574, R576). -/
def bindJob (slot : Nat) (s : State) : State :=
  let d := dowelGet s slot
  let n := dsBays d.desc
  let wait := s.gfx.waiting.filter (fun k => decide (k ≠ slot))
  let (b, s1) := gfxRead (dsArgs d.desc) 128 s
  let s2 := { s1 with gfx := { bound := handleOf s slot, waiting := wait, block := b.getD [], last := n - 1 } }
  if b.isNone then gfxFail 0x7002 s2
  else
    let s3 := (List.range n).foldl (fun s r => if ownsPeg s (gOwner s) (workPeg s r) then pegSignal s (workPeg s r) (.set 0) else s) s2
    if !blockOk s3.gfx.block then gfxFail 0x7001 s3
    else if !tbufOk s3 then gfxFail 0x7003 s3
    else if !workPegsOk s3 n then gfxFail 0x7005 s3
    else
      scramble (loftBase + nfld (gBlk s3 76 1) 0 7 * 0x40000) 0x100000
        ((List.range n).foldl (fun s r => mboxWrite slot r (gBlk s 104 4 + 0x0FF8) (leBytes 8 0) s) s3)

/-- The first render job that waits and still runs. -/
def gfxNext (s : State) : Option Nat := s.gfx.waiting.find? (fun k => decide ((dowelGet s k).st = .running) && (dowelGet s k).render)

/-- GFX_BIND (R573): the front end is enabled, serves no job, and the job is the first to wait. -/
def execGfxBind (slot : Nat) (s : State) : Host.Outcome State Fault Refusal :=
  if slot < 65536 then
    .next (if regBit s Reg.GFX_CFG 31 && (gfxSlot s).isNone && decide (gfxNext s = some slot) && !(dowelGet s slot).replayDue then
      bindJob slot s else s)
  else .fault .absentUnit

/-! Packets out (R576–R578). -/

/-- Hand out the next vertices of the current draw, at most 32. -/
def issueVertices (slot r : Nat) (s : State) : State :=
  let g := s.gfx
  let n := min 32 (leAt g.drec 16 4 - g.vnext)
  match readVerts (rangeFrom g.vnext n) [] s with
  | (none, s1) => gfxFail 0x7002 s1
  | (some l, s1) =>
    let s2 := { s1 with gfx := { s1.gfx with vnext := g.vnext + n } }
    handPacket slot r 1 g.vnext n
      [(0, packetHead 1 n g.draw g.vnext), (8, leBytes 8 (leAt (psoOf s g.draw) 0 8)), (0x40, l)] s2

/-- The 16 bytes of a fragment in its packet: position, depth and barycentrics at the pixel's centre. -/
def fragBytes (t : GTri) (f : GFrag) : List Byte :=
  let px : Int := 256 * f.x + 128
  let py : Int := 256 * f.y + 128
  leBytes 2 f.x ++ leBytes 2 f.y ++ leBytes 4 (Config.gfxDepth t.v px py).toNat ++ leBytes 4 (Config.gfxBary t.v px py 1).toNat ++
    leBytes 4 (Config.gfxBary t.v px py 2).toNat

/-- Hand out the next fragments of the current triangle, at most 64, within the room of the scoreboard (R582). -/
def issueFragments (slot r : Nat) (g : GTile) (s : State) : State :=
  let n := min 64 g.pend.length
  let fs := g.pend.take n
  match fs.head? with
  | none => s
  | some f0 =>
    if 8192 < s.gfx.board.length + n then s
    else
      match s.gfx.tris[f0.tri]? with
      | none => s
      | some t =>
        let num := tabGet 0 s.gfx.issued r
        let es := (List.zip fs (List.range n)).map (fun (x : GFrag × Nat) =>
          ({ frag := x.1, draw := t.draw, rank := r, num := num, place := x.2 } : GEntry))
        let s1 := { s with gfx := { s.gfx with tile := some { g with pend := g.pend.drop n }, board := s.gfx.board ++ es } }
        handPacket slot r 2 f0.tri n
          [(0, packetHead 2 n t.draw t.no), (8, leBytes 8 (leAt (psoOf s t.draw) 8 8)), (0x40, t.v),
           (0x840, fs.flatMap (fragBytes t))] s1

/-- The tile's next fragments; a draw whose shader may discard waits until the fragments before it have retired, for the early
tests to see what they write (R581). -/
def refillTile (g : GTile) (s : State) : GTile :=
  if !g.pend.isEmpty || s.gfx.board.any (fun e => decide (leAt (psoOf s e.draw) 65 1 = 1)) then g
  else nextFrags s (s.gfx.tris.drop g.next) g

/-- The front end's next packet, to the next bay that can take it. -/
def packetIssue (s : State) : State :=
  match gfxSlot s with
  | none => s
  | some slot =>
    if (dowelGet s slot).suspended || (dowelGet s slot).ending.isSome || (dowelGet s slot).replayDue then s
    else
      match s.gfx.stage with
      | 0 =>
        let (code, s1) := if s.gfx.drec.isEmpty then readDraw s else (0, s)
        if code ≠ 0 then gfxFail code s1
        else if leAt s1.gfx.drec 16 4 ≤ s1.gfx.vnext then s1
        else
          match nextRank s1 slot (fun _ => true) with
          | some r => issueVertices slot r s1
          | none => s1
      | 1 =>
        match s.gfx.tile with
        | none => s
        | some g =>
          let g1 := refillTile g s
          let s1 := { s with gfx := { s.gfx with tile := some g1 } }
          match nextRank s1 slot (fun _ => true) with
          | some r => issueFragments slot r g1 s1
          | none => s1
      | _ =>
        match nextRank s slot (fun r => !s.gfx.ended.contains r) with
        | some r => handPacket slot r 3 0 0 [(0, packetHead 3 0 0 0), (8, leBytes 8 0)] { s with gfx := { s.gfx with ended := s.gfx.ended ++ [r] } }
        | none => s

/-- GFX_PACKET_ISSUE (R578). -/
def execGfxPacketIssue (s : State) : Host.Outcome State Fault Refusal := .next (packetIssue s)

/-! Packets back (R577). -/

/-- All vertices of the current draw are shaded: its triangles are set up and binned (R579); BINFULL and the access to BINS are
tested; the front end goes on to the next draw, or to the first tile. -/
def finishDraw (s : State) : State :=
  let t := drawTris s
  let sh := s.gfx.shaded + leAt s.gfx.drec 16 4
  let en := s.gfx.entries + (t.map (triEntries s)).foldl (· + ·) 0
  let used := 128 * sh + 8 * en
  if gBlk s 72 4 < used then gfxFail 0x7004 s
  else
    match unitCheck 0x71 (gOwner s) 5 .write (rowPieces (gBlk s 64 8) used) s with
    | (false, s1) => gfxFail 0x7002 s1
    | (true, s1) =>
      let s2 := scramble (gBlk s 64 8) used
        { s1 with gfx := { s1.gfx with
            tris := s1.gfx.tris ++ t, shaded := sh, entries := en, draw := s1.gfx.draw + 1, drec := [], vnext := 0, verts := [] } }
      if s2.gfx.draw < gBlk s2 8 4 then s2 else beginTile 0 { s2 with gfx := { s2.gfx with stage := 1 } }

/-- Read the outputs of a returned vertex packet. -/
def takeVertices (slot : Nat) (p : GPkt) (s : State) : State :=
  let l := mboxRead s slot p.rank (mboxOff s p.num + 0x1000) (128 * p.count)
  let s1 := { s with gfx := { s.gfx with
    verts := (List.range p.count).foldl (fun t i => tabPut [] t (p.first + i) (bytesAt l (128 * i) 128)) s.gfx.verts } }
  if s1.gfx.out.isEmpty && decide (leAt s1.gfx.drec 16 4 ≤ s1.gfx.vnext) then finishDraw s1 else s1

/-- Read the outputs of a returned fragment packet: colours, and for a DISCARD draw the discard mask. -/
def takeFragments (slot : Nat) (p : GPkt) (s : State) : State :=
  let o := mboxOff s p.num
  let l := mboxRead s slot p.rank (o + 0x1000) (16 * p.count)
  let m := leVal (mboxRead s slot p.rank (o + 0x1400) 8)
  cntAdd { s with gfx := { s.gfx with
    board := s.gfx.board.map (fun e =>
      if e.rank = p.rank ∧ e.num = p.num then
        { e with out := some ((List.range 4).map (fun i => leAt l (16 * e.place + 4 * i) 4),
                              decide (leAt (psoOf s e.draw) 65 1 = 1) && m.testBit e.place) }
      else e) } } Reg.GFX_FRAG_CNT p.count

/-- The oldest packet of a rank, once DONE has reached it. -/
def packetReturn (r : Nat) (s : State) : State :=
  match gfxSlot s with
  | none => s
  | some slot =>
    match s.gfx.out.find? (fun p => decide (p.rank = r)) with
    | none => s
    | some p =>
      if leVal (mboxRead s slot r (gBlk s 104 4 + 0x0FF8) 8) ≤ p.num then s
      else
        let s1 := { s with gfx := { s.gfx with
          out := s.gfx.out.erase p, returned := tabPut 0 s.gfx.returned r (tabGet 0 s.gfx.returned r + 1) } }
        if p.kind = 1 then takeVertices slot p s1 else if p.kind = 2 then takeFragments slot p s1 else s1

/-- GFX_PACKET_RETURN (R577). -/
def execGfxPacketReturn (rank : Nat) (s : State) : Host.Outcome State Fault Refusal :=
  if rank < 64 then .next (packetReturn rank s) else .fault .absentUnit

/-! Retirement (R582, R583). -/

/-- A shaded fragment at one sample of the tile buffer. -/
def retireSample (s : State) (e : GEntry) (c : List Nat) (g : GTile) (k : Nat) : GTile :=
  if !e.frag.mask.testBit k then g
  else
    let key := sampleKey e.frag.x e.frag.y k
    { g with color := tabPut 0 g.color key (blendColor (gFmt s) (leAt (psoOf s e.draw) 60 4) (tabGet 0 g.color key) c) }

/-- The depth and stencil writes that waited for the retirement (R581). -/
def retireDepth (e : GEntry) (g : GTile) : GTile :=
  e.frag.late.foldl (fun g x =>
    let key := sampleKey e.frag.x e.frag.y x.1
    { g with depth := tabPut 0 g.depth key x.2.1, stencil := tabPut 0 g.stencil key x.2.2 }) g

/-- Retire the oldest fragment, once it is shaded. -/
def retireFragment (s : State) : State :=
  match gfxSlot s, s.gfx.board, s.gfx.tile with
  | some _, e :: t, some g =>
    match e.out with
    | some (c, dropped) =>
      let g1 := if dropped then g else (List.range (gSamples s)).foldl (retireSample s e c) (retireDepth e g)
      { s with gfx := { s.gfx with board := t, tile := some g1 } }
    | none => s
  | _, _, _ => s

/-- GFX_FRAGMENT_RETIRE (R582). -/
def execGfxFragmentRetire (s : State) : Host.Outcome State Fault Refusal := .next (retireFragment s)

/-! Write-out (R584–R588). -/

/-- Write a tile whose signature is `sig`, and its table entry. -/
def writeTile (g : GTile) (sig : Word64) (s : State) : Option State :=
  let (xs, ys) := tileRect s g.t
  match writeRows (gBlk s 16 8) (gBlk s 24 4) (colorBytes (gFmt s)) xs (colorRow s g xs) (rangeFrom ys.1 ys.2) s with
  | (false, _) => none
  | (true, s1) =>
    let s2 := cntInc s1 Reg.GFX_TILE_WRITE_CNT
    if gBlk s 56 8 = 0 then some s2
    else
      match gfxWrite (gBlk s 56 8 + 16 * g.t) (leBytes 8 sig.toNat ++ leBytes 8 1) s2 with
      | (true, s3) => some s3
      | (false, _) => none

/-- The table entry of a tile; none when the table may not be read. -/
def sigEntry (t : Nat) (s : State) : Option Nat × State :=
  if gBlk s 56 8 = 0 then (some 0, s)
  else
    match gfxRead (gBlk s 56 8 + 16 * t) 16 s with
    | (some l, s1) => (some (leVal l), s1)
    | (none, s1) => (none, s1)

/-- The depth target's part of the tile (R587). -/
def writeDepth (g : GTile) (s : State) : Bool × State :=
  if gBlk s 40 8 = 0 then (true, s)
  else
    let (xs, ys) := tileRect s g.t
    let (seed, s1) := takeFree s
    writeRows (gBlk s 40 8) (gBlk s 48 4) (depthBytes (gDfmt s)) xs
      (depthRow s g (fun k => (Config.freeValue (seed.toNat + k)).toNat) xs) (rangeFrom ys.1 ys.2) s1

/-- Write out a finished tile, or skip it (R585), and go on to the next tile or to the END packets. -/
def finishTile (g : GTile) (s : State) : State :=
  let (xs, ys) := tileRect s g.t
  let sig := (rangeFrom ys.1 ys.2).foldl (fun a y => foldWords a (colorRow s g xs y)) 0
  let forced := decide ((gBlk s 12 4 + g.t) % gBlk s 101 1 = 0)
  match sigEntry g.t s with
  | (none, s1) => gfxFail 0x7002 s1
  | (some e, s1) =>
    let s2 := if forced then cntInc s1 Reg.GFX_TILE_FORCE_CNT else s1
    let must := decide (gBlk s 56 8 = 0) || forced || !e.testBit 64 || decide (e % 2 ^ 64 ≠ sig.toNat)
    match (if must then writeTile g sig s2 else some (cntInc s2 Reg.GFX_TILE_SKIP_CNT)) with
    | none => gfxFail 0x7002 s2
    | some s3 =>
      match writeDepth g s3 with
      | (false, s4) => gfxFail 0x7002 s4
      | (true, s4) =>
        if g.t + 1 < gTiles s4 then beginTile (g.t + 1) s4 else { s4 with gfx := { s4.gfx with tile := none, stage := 2 } }

/-- A tile is finished once every triangle is rasterised and every fragment has retired. -/
def tileWriteout (s : State) : State :=
  match gfxSlot s, s.gfx.tile with
  | some _, some g =>
    let g1 := refillTile g s
    if g1.pend.isEmpty && s.gfx.board.isEmpty && decide (s.gfx.tris.length ≤ g1.next) then finishTile g1 s
    else { s with gfx := { s.gfx with tile := some g1 } }
  | _, _ => s

/-- GFX_TILE_WRITEOUT (R585). -/
def execGfxTileWriteout (s : State) : Host.Outcome State Fault Refusal := .next (tileWriteout s)

/-! Filler jobs (R589). -/

/-- A bay runs the bound render job and no filler. -/
def fillerBay (s : State) (n : Nat) : Bool :=
  match lbPhys s n with
  | some pb =>
    let b := bayGet s pb
    decide (b.st = .running) && !b.drain && b.main.active && !b.filler.active && decide (s.gfx.bound ≠ 0) &&
      decide (b.main.handle = s.gfx.bound)
  | none => false

/-- Start a filler job's part on its bay of rank `r`: R103 for W2–W3, A2–A3 and FLAGS only (R590). -/
def startFillerBay (slot r : Nat) (s : State) : State :=
  let d := dowelGet s slot
  match lbPhys s (dsFirst d.desc + r) with
  | some pb => bayMod s pb (fun b =>
      { b with
        slots := b.slots.filter (fun (i, _) => decide (i < 2)), sills := b.sills.filter (fun (k, _) => decide (k < 256))
        filler := startHand d (handleOf s slot) r b.filler })
  | none => s

/-- Start a filler job on the second hand context of each of its bays. -/
def startFiller (slot : Nat) (s : State) : State :=
  (List.range (dsBays (dowelGet s slot).desc)).foldl (fun s r => startFillerBay slot r s)
    (dowelMod s slot (fun d => { d with st := .running }))

/-- A filler job may start: QUEUED, its waits satisfied, and every one of its bays runs the bound render job. -/
def fillerReady (s : State) (slot : Nat) : Bool :=
  let d := dowelGet s slot
  decide (d.st = .queued) && decide (d.kind = .job) && isFiller s d && d.waitsMet && !d.waitPoison &&
    (jobBays d).all (fun n => ownsBay s d.part n && fillerBay s n)

/-- FILLER_JOB_START (R589). -/
def execFillerJobStart (slot : Nat) (s : State) : Host.Outcome State Fault Refusal :=
  if slot < 65536 then .next (if fillerReady s slot then startFiller slot s else s) else .fault .absentUnit

end Sys2Proof.Machine
end

