-- ==== Sys2Proof/Machine/ExecReplay.lean ====
section
/-!
DEFINITION. JOB_REPLAY (R431–R433, R601, R663, R703) and PEG_WAIT_RELEASE (R330, R331, R334, R605, R705).
-/

namespace Sys2Proof.Machine

/-- Set a journalled peg back to its count and saturation bit: it is no signal, and a peg poisoned since is left alone (R432). -/
def restorePeg (s : State) (e : Nat × Word32 × Bool) : State :=
  let p := pegGet s e.1
  if p.poison then s else pegPut s e.1 { p with count := e.2.1, sat := e.2.2 }

/-- The front end discards the progress of the job, and its place in the queue for binding (R601). -/
def gfxForget (slot : Nat) (s : State) : State :=
  let wait := s.gfx.waiting.filter (fun k => decide (k ≠ slot))
  if s.gfx.bound = handleOf s slot ∧ s.gfx.bound ≠ 0 then { s with gfx := { waiting := wait } }
  else { s with gfx := { s.gfx with waiting := wait } }

/-- A job that a fence has stopped may start again: no bay runs it, and its bays on this device are free, after the retirement
point (R431); a filler job needs its bays to run the bound render job (R589). -/
def replayReady (s : State) (slot : Nat) : Bool :=
  let d := dowelGet s slot
  decide (d.st = .running) && d.replayDue && (jobHands s (handleOf s slot)).isEmpty &&
    (if isFiller s d then (jobBays d).all (fillerBay s) else (localBays s d).all (fun n => bayIdle s n && !bayOwes s n))

/-- The dowel of a job that starts again: its record counts one replay, and nothing of the failed run (R415, R431, R432). -/
def replayed (d : Dowel) : Dowel :=
  { d with
    replays := d.replays + 1, div := 0, flags := {}, fault := 0, faultBy := none, ended := false, endTime := 0, endNs := 0
    journal := [], replayDue := false, peerEnded := false, reported := false }

/-- A spanning job starts again at a shared time: the home device waits for the peer's bays, which the peer reports (R663). -/
def askAgain (slot : Nat) (s : State) : State :=
  let s1 := dowelMod s slot (fun d => { d with asked := true })
  if 65536 ≤ slot then sendCtl (.granted (handleOf s slot % 2 ^ 32)) s1
  else if (dowelGet s slot).granted then startBoth slot s1
  else s1

/-- Start a job again. -/
def replayJob (slot : Nat) (s : State) : State :=
  let d := dowelGet s slot
  let s1 := judgeAll (d.journal.foldl restorePeg s)
  let s2 := gfxForget slot (collReruns (handleOf s1 slot) (dowelPut s1 slot (replayed d)))
  if d.spanning && twinJoined s2 then askAgain slot s2
  else if isFiller s2 d then startFiller slot s2
  else startJob slot s2

/-- JOB_REPLAY (R431). -/
def execJobReplay (slot : Nat) (s : State) : Host.Outcome State Fault Refusal :=
  if slot < 131072 then .next (if replayReady s slot then replayJob slot s else s) else .fault .absentUnit

/-- A QUEUED dowel whose wait peg has become poisoned completes DONE_FAULT (R334, R605). -/
def poisonedDowel (slot : Nat) (s : State) : State :=
  if (dowelGet s slot).st = .queued ∧ (dowelGet s slot).waitPoison = true then completeDowel raise slot .doneFault 0x0902 s else s

/-- PEG_WAIT_RELEASE (R331): a hand context's wait completes, or what a poisoned peg releases ends in a fault. -/
def execPegWaitRelease (w : Waiter) (s : State) : Host.Outcome State Fault Refusal :=
  match w with
  | .hand h => if h.pb < bayCount then .next (releaseWait h s) else .fault .absentUnit
  | .slot n => .next (poisonedDowel n s)
  | .coll n => .next (collPoisoned n s)

end Sys2Proof.Machine
end

