-- ==== Sys2Proof/Machine/ExecScalar.lean ====
section
/-!
DEFINITION. The scalar instructions of chapter 6: each issues (R205), changes the register files as its row says, and moves to the next
instruction (R177). A later instruction sees the result, so no latency is modelled (R189).
-/

namespace Sys2Proof.Machine

/-- ADD (R156): Scalar add, wrapping modulo 2^64. -/
def execAdd (h : Hand) (w : Word64) (s : State) : Host.Outcome State Fault Refusal :=
  issue .add h w s (regStep h (aluR3 (fun a b => a + b) w))

/-- SUB (R156): Scalar subtract, wrapping modulo 2^64. -/
def execSub (h : Hand) (w : Word64) (s : State) : Host.Outcome State Fault Refusal :=
  issue .sub h w s (regStep h (aluR3 (fun a b => a - b) w))

/-- AND (R156): Scalar bitwise AND. -/
def execAnd (h : Hand) (w : Word64) (s : State) : Host.Outcome State Fault Refusal :=
  issue .and h w s (regStep h (aluR3 (fun a b => a &&& b) w))

/-- OR (R156): Scalar bitwise OR. -/
def execOr (h : Hand) (w : Word64) (s : State) : Host.Outcome State Fault Refusal :=
  issue .or h w s (regStep h (aluR3 (fun a b => a ||| b) w))

/-- XOR (R156): Scalar bitwise XOR. -/
def execXor (h : Hand) (w : Word64) (s : State) : Host.Outcome State Fault Refusal :=
  issue .xor h w s (regStep h (aluR3 (fun a b => a ^^^ b) w))

/-- ANDN (R156): Scalar s[RA] AND NOT s[RB]. -/
def execAndn (h : Hand) (w : Word64) (s : State) : Host.Outcome State Fault Refusal :=
  issue .andn h w s (regStep h (aluR3 (fun a b => a &&& ~~~b) w))

/-- MIN (R156): Scalar signed minimum. -/
def execMin (h : Hand) (w : Word64) (s : State) : Host.Outcome State Fault Refusal :=
  issue .min h w s (regStep h (aluR3 minS w))

/-- MAX (R156): Scalar signed maximum. -/
def execMax (h : Hand) (w : Word64) (s : State) : Host.Outcome State Fault Refusal :=
  issue .max h w s (regStep h (aluR3 maxS w))

/-- MINU (R156): Scalar unsigned minimum. -/
def execMinu (h : Hand) (w : Word64) (s : State) : Host.Outcome State Fault Refusal :=
  issue .minu h w s (regStep h (aluR3 minU w))

/-- MAXU (R156): Scalar unsigned maximum. -/
def execMaxu (h : Hand) (w : Word64) (s : State) : Host.Outcome State Fault Refusal :=
  issue .maxu h w s (regStep h (aluR3 maxU w))

/-- ADDI (R156): Scalar add of a sign-extended IMM32. -/
def execAddi (h : Hand) (w : Word64) (s : State) : Host.Outcome State Fault Refusal :=
  issue .addi h w s (regStep h (aluRI (fun a b => a + b) w))

/-- ANDI (R156): Scalar AND with a sign-extended IMM32. -/
def execAndi (h : Hand) (w : Word64) (s : State) : Host.Outcome State Fault Refusal :=
  issue .andi h w s (regStep h (aluRI (fun a b => a &&& b) w))

/-- ORI (R156): Scalar OR with a sign-extended IMM32. -/
def execOri (h : Hand) (w : Word64) (s : State) : Host.Outcome State Fault Refusal :=
  issue .ori h w s (regStep h (aluRI (fun a b => a ||| b) w))

/-- XORI (R156): Scalar XOR with a sign-extended IMM32. -/
def execXori (h : Hand) (w : Word64) (s : State) : Host.Outcome State Fault Refusal :=
  issue .xori h w s (regStep h (aluRI (fun a b => a ^^^ b) w))

/-- LI (R156): Loads a zero-extended 48-bit immediate into a scalar register. -/
def execLi (h : Hand) (w : Word64) (s : State) : Host.Outcome State Fault Refusal :=
  issue .li h w s (regStep h ((fun r => r.setS (LI.rd w) (LI.imm w))))

/-- SLL (R221): Scalar shift left by s[RB][5:0]. -/
def execSll (h : Hand) (w : Word64) (s : State) : Host.Outcome State Fault Refusal :=
  issue .sll h w s (regStep h (aluR3 (fun a b => sllW a b.toNat) w))

/-- SRL (R221): Scalar logical shift right by s[RB][5:0]. -/
def execSrl (h : Hand) (w : Word64) (s : State) : Host.Outcome State Fault Refusal :=
  issue .srl h w s (regStep h (aluR3 (fun a b => srlW a b.toNat) w))

/-- SRA (R221): Scalar arithmetic shift right by s[RB][5:0]. -/
def execSra (h : Hand) (w : Word64) (s : State) : Host.Outcome State Fault Refusal :=
  issue .sra h w s (regStep h (aluR3 (fun a b => sraW a b.toNat) w))

/-- ROR (R221): Scalar rotate right by s[RB][5:0]. -/
def execRor (h : Hand) (w : Word64) (s : State) : Host.Outcome State Fault Refusal :=
  issue .ror h w s (regStep h (aluR3 (fun a b => rorW a b.toNat) w))

/-- SLLI (R221): Scalar shift left by IMM32[5:0]. -/
def execSlli (h : Hand) (w : Word64) (s : State) : Host.Outcome State Fault Refusal :=
  issue .slli h w s (regStep h (aluShiftI sllW w))

/-- SRLI (R221): Scalar logical shift right by IMM32[5:0]. -/
def execSrli (h : Hand) (w : Word64) (s : State) : Host.Outcome State Fault Refusal :=
  issue .srli h w s (regStep h (aluShiftI srlW w))

/-- SRAI (R221): Scalar arithmetic shift right by IMM32[5:0]. -/
def execSrai (h : Hand) (w : Word64) (s : State) : Host.Outcome State Fault Refusal :=
  issue .srai h w s (regStep h (aluShiftI sraW w))

/-- RORI (R221): Scalar rotate right by IMM32[5:0]. -/
def execRori (h : Hand) (w : Word64) (s : State) : Host.Outcome State Fault Refusal :=
  issue .rori h w s (regStep h (aluShiftI rorW w))

/-- EXTU (R221): Extracts a bit field of s[RA], zero-extended. -/
def execExtu (h : Hand) (w : Word64) (s : State) : Host.Outcome State Fault Refusal :=
  issue .extu h w s (regStep h ((fun r => r.setS (RI.rd w) (extuW (r.getS (RI.ra w)) (RI.pos w) (RI.len w)))))

/-- EXTS (R221): Extracts a bit field of s[RA], sign-extended. -/
def execExts (h : Hand) (w : Word64) (s : State) : Host.Outcome State Fault Refusal :=
  issue .exts h w s (regStep h ((fun r => r.setS (RI.rd w) (extsW (r.getS (RI.ra w)) (RI.pos w) (RI.len w)))))

/-- INS (R221): Inserts the low bits of s[RA] into a bit field of s[RD]. -/
def execIns (h : Hand) (w : Word64) (s : State) : Host.Outcome State Fault Refusal :=
  issue .ins h w s (regStep h ((fun r => r.setS (RI.rd w) (insW (r.getS (RI.rd w)) (r.getS (RI.ra w)) (RI.pos w) (RI.len w)))))

/-- MUL (R156): Low 64 bits of the scalar product. -/
def execMul (h : Hand) (w : Word64) (s : State) : Host.Outcome State Fault Refusal :=
  issue .mul h w s (regStep h (aluR3 (fun a b => a * b) w))

/-- MULH (R156): High 64 bits of the signed 128-bit product. -/
def execMulh (h : Hand) (w : Word64) (s : State) : Host.Outcome State Fault Refusal :=
  issue .mulh h w s (regStep h (aluR3 mulhW w))

/-- MULHU (R156): High 64 bits of the unsigned 128-bit product. -/
def execMulhu (h : Hand) (w : Word64) (s : State) : Host.Outcome State Fault Refusal :=
  issue .mulhu h w s (regStep h (aluR3 mulhuW w))

/-- DIV (R222): Signed quotient rounded toward zero, with defined results for division by zero and overflow. -/
def execDiv (h : Hand) (w : Word64) (s : State) : Host.Outcome State Fault Refusal :=
  issue .div h w s (regStep h (aluR3 divW w))

/-- DIVU (R222): Unsigned quotient, with a defined result for division by zero. -/
def execDivu (h : Hand) (w : Word64) (s : State) : Host.Outcome State Fault Refusal :=
  issue .divu h w s (regStep h (aluR3 divuW w))

/-- REM (R222): Signed remainder; division by zero gives the dividend. -/
def execRem (h : Hand) (w : Word64) (s : State) : Host.Outcome State Fault Refusal :=
  issue .rem h w s (regStep h (aluR3 remW w))

/-- REMU (R222): Unsigned remainder; division by zero gives the dividend. -/
def execRemu (h : Hand) (w : Word64) (s : State) : Host.Outcome State Fault Refusal :=
  issue .remu h w s (regStep h (aluR3 remuW w))

/-- SEQ (R156): Sets s[RD] to 1 when the operands are equal, else 0. -/
def execSeq (h : Hand) (w : Word64) (s : State) : Host.Outcome State Fault Refusal :=
  issue .seq h w s (regStep h (aluR3 (fun a b => boolWord (decide (a = b))) w))

/-- SNE (R156): Sets s[RD] to 1 when the operands differ, else 0. -/
def execSne (h : Hand) (w : Word64) (s : State) : Host.Outcome State Fault Refusal :=
  issue .sne h w s (regStep h (aluR3 (fun a b => boolWord (decide (a ≠ b))) w))

/-- SLT (R156): Sets s[RD] to 1 on a signed less-than, else 0. -/
def execSlt (h : Hand) (w : Word64) (s : State) : Host.Outcome State Fault Refusal :=
  issue .slt h w s (regStep h (aluR3 (fun a b => boolWord (decide (a.toInt < b.toInt))) w))

/-- SLTU (R156): Sets s[RD] to 1 on an unsigned less-than, else 0. -/
def execSltu (h : Hand) (w : Word64) (s : State) : Host.Outcome State Fault Refusal :=
  issue .sltu h w s (regStep h (aluR3 (fun a b => boolWord (decide (a.toNat < b.toNat))) w))

/-- SEL (R156): Selects s[RA] or s[RB] according to s[RC]. -/
def execSel (h : Hand) (w : Word64) (s : State) : Host.Outcome State Fault Refusal :=
  issue .sel h w s (regStep h (selEff w))

/-- VEXT (R223): Moves one vector lane, indexed modulo the lane count, into a scalar register. -/
def execVext (h : Hand) (w : Word64) (s : State) : Host.Outcome State Fault Refusal :=
  issue .vext h w s (regStep h (vextEff w))

/-- VINS (R223): Inserts the low bits of a scalar into one vector lane. -/
def execVins (h : Hand) (w : Word64) (s : State) : Host.Outcome State Fault Refusal :=
  issue .vins h w s (regStep h (vinsEff w))

/-- KTOS (R223): Moves mask bits [63:0] into a scalar register. -/
def execKtos (h : Hand) (w : Word64) (s : State) : Host.Outcome State Fault Refusal :=
  issue .ktos h w s (regStep h ((fun r => r.setS (R3.rd w) (BitVec.ofNat 64 (r.getK (R3.ra w)).toNat))))

/-- KTOSH (R223): Moves mask bits [127:64] into a scalar register. -/
def execKtosh (h : Hand) (w : Word64) (s : State) : Host.Outcome State Fault Refusal :=
  issue .ktosh h w s (regStep h ((fun r => r.setS (R3.rd w) (BitVec.ofNat 64 ((r.getK (R3.ra w)).toNat / 2 ^ 64)))))

/-- STOK (R223): Builds a 128-bit mask from two scalar registers. -/
def execStok (h : Hand) (w : Word64) (s : State) : Host.Outcome State Fault Refusal :=
  issue .stok h w s (regStep h ((fun r => r.setK (R3.rd w) (BitVec.ofNat 128 ((r.getS (R3.ra w)).toNat + 2 ^ 64 * (r.getS (R3.rb w)).toNat)))))

/-- POPC (R156): Scalar population count. -/
def execPopc (h : Hand) (w : Word64) (s : State) : Host.Outcome State Fault Refusal :=
  issue .popc h w s (regStep h (aluUnary popcW w))

/-- CLZ (R156): Counts leading zeros; 0 gives 64. -/
def execClz (h : Hand) (w : Word64) (s : State) : Host.Outcome State Fault Refusal :=
  issue .clz h w s (regStep h (aluUnary clzW w))

/-- CTZ (R156): Counts trailing zeros; 0 gives 64. -/
def execCtz (h : Hand) (w : Word64) (s : State) : Host.Outcome State Fault Refusal :=
  issue .ctz h w s (regStep h (aluUnary ctzW w))

end Sys2Proof.Machine
end

