-- ==== Sys2Proof/Machine/ExecTwin.lean ====
section
/-!
DEFINITION. The commands of twin operation (chapter 17).
-/

namespace Sys2Proof.Machine

/-! The link. -/

/-- TRUSS_TRAINING (R644): the lanes of each direction that showed no bit error. -/
def execTrussTraining (rx tx : Nat) (s : State) : Host.Outcome State Fault Refusal :=
  .next (if training s && s.twin.tested.isNone then trainTest rx tx s else s)

/-- TRUSS_TRAINING_COMPLETE (R644, R648, R651). -/
def execTrussTrainingComplete (s : State) : Host.Outcome State Fault Refusal := .next (if training s then trainDone s else s)

/-- TRUSS_LANE_RETIRE (R645). -/
def execTrussLaneRetire (lane : Nat) (s : State) : Host.Outcome State Fault Refusal :=
  if lane < 18 then .next (if s.twin.up && regBit s Reg.TRUSS_LANES lane then laneRetire lane s else s) else .fault .absentUnit

/-- FLIT_RECEIVE (R647). -/
def execFlitReceive (f : Flit) (s : State) : Host.Outcome State Fault Refusal := .next (flitArrive f s)

/-- A NAK: everything up to ACKSEQ is acknowledged and the rest is sent again (R647). -/
def nakTake (f : Flit) (s : State) : State :=
  if f.typ ≠ 8 ∨ s.twin.up = false then s
  else if f.check ≠ flitCheck f then headerBad s
  else
    let s1 := acked f.ack s
    cntAdd { s1 with twin := { s1.twin with sent := s1.twin.sent.map (fun e => (e.1, e.2 + 1)) } } Reg.TRUSS_RETRY_CNT s1.twin.sent.length

/-- FLIT_NAK (R647). -/
def execFlitNak (f : Flit) (s : State) : Host.Outcome State Fault Refusal := .next (nakTake f s)

/-- The oldest flit not acknowledged has been sent eight times: the resends that no NAK asked for are counted, and the link
retrains (R648). -/
def retryLimit (s : State) : State :=
  match s.twin.sent with
  | [] => s
  | (_, k) :: _ =>
    if s.twin.up && !training s then
      retrain (cntAdd { s with twin := { s.twin with sent := s.twin.sent.map (fun e => (e.1, max e.2 8)) } } Reg.TRUSS_RETRY_CNT
        ((8 - k) * s.twin.sent.length))
    else s

/-- FLIT_RETRY_LIMIT (R648). -/
def execFlitRetryLimit (s : State) : Host.Outcome State Fault Refusal := .next (retryLimit s)

/-! Data flits (R646, R660). -/

/-- A WRITE into a window of this device, and its peg signal. -/
def writeTake (f : Flit) (s : State) : State :=
  let s1 := match homeOf s f.addr f.body.length with
    | .store _ _ => devWrite s f.addr f.body
    | _ => s
  if f.signal.testBit 15 then pegSignal s1 (f.signal % 2048) (.add 1) else s1

/-- FLIT_WRITE (R660). -/
def execFlitWrite (s : State) : Host.Outcome State Fault Refusal := .next (flitPop 1 writeTake s)

/-- A READ of a window of this device, answered by RDATA. -/
def readTake (f : Flit) (s : State) : State :=
  let l := match homeOf s f.addr f.len with
    | .store _ _ => devRead s f.addr f.len
    | _ => List.replicate f.len 0
  sendFlit { typ := 3, part := f.part, len := f.len, tag := f.tag, body := l } s

/-- The first flit that waits reads a window that waits (R96). -/
def readWaits (s : State) : Bool := match s.twin.rx with | f :: _ => decide (f.typ = 2) && windowWaits s f.addr f.len | [] => false

/-- FLIT_READ (R646). -/
def execFlitRead (s : State) : Host.Outcome State Fault Refusal := .next (if readWaits s then s else flitPop 2 readTake s)

/-- Keep returned bytes. -/
def keepBytes (t : Tab (Option Byte)) : Addr → List Byte → Tab (Option Byte)
  | _, [] => t
  | a, b :: r => keepBytes (tabPut none t a (some b)) (a + 1) r

/-- RDATA completes the outstanding read of its TAG. -/
def rdataTake (f : Flit) (s : State) : State :=
  match s.twin.reads.find? (fun r => decide (r.1 = f.tag)) with
  | some (t, a, n) =>
    { s with twin := { s.twin with
      reads := s.twin.reads.filter (fun r => decide (r ≠ (t, a, n))), mirror := keepBytes s.twin.mirror a (bytesAt f.body 0 n) } }
  | none => s

/-- FLIT_RDATA (R646). -/
def execFlitRdata (s : State) : Host.Outcome State Fault Refusal := .next (flitPop 3 rdataTake s)

/-- FLIT_CONTROL (R656–R664, R672, R673). -/
def execFlitControl (s : State) : Host.Outcome State Fault Refusal :=
  .next (flitPop 4 (fun f s => match f.ctl with | some c => ctlTake c s | none => s) s)

/-! Accords and heartbeats. -/

/-- An accord is due: at once in JOINING, then every 1 ms (R653). -/
def accordDue (s : State) : Bool :=
  s.twin.up && decide (2 ≤ twinState s) && (match s.twin.accordNs with | none => true | some t => decide (t + 1000000 ≤ s.tb.elapsed))

/-- Send the accord record. -/
def accordSend (s : State) : State :=
  let s1 := sendFlit { typ := 5, len := 64, body := accordRecord s } s
  { s1 with twin := { s1.twin with accordNs := some s1.tb.elapsed } }

/-- ACCORD_SEND (R653). -/
def execAccordSend (s : State) : Host.Outcome State Fault Refusal := .next (if accordDue s then accordSend s else s)

/-- ACCORD_RECEIVE (R654): an accord that fails its check word is not used. -/
def execAccordReceive (s : State) : Host.Outcome State Fault Refusal :=
  .next (flitPop 5 (fun f s =>
    let l := bytesAt f.body 0 64
    if checkOk l then accordTake l s else raise 0x0F1 none 5 (cntInc s Reg.TRUSS_ACCORD_BAD)) s)

/-- Send a heartbeat (R664, R669). -/
def beatSend (s : State) : State :=
  let l := leBytes 1 (twinState s) ++ leBytes 1 (bitN s.safety.safe 0 + bitN (pinsHeld s) 1 + bitN (critPending s) 2) ++ leBytes 2 0 ++
    leBytes 4 (workTime s)
  let s1 := sendFlit { typ := 6, len := 8, body := l } s
  { s1 with twin := { s1.twin with beatNs := s1.tb.elapsed } }

/-- HEARTBEAT_SEND (R669): every 100 µs in JOINED. -/
def execHeartbeatSend (s : State) : Host.Outcome State Fault Refusal :=
  .next (if twinJoined s && decide (s.twin.beatNs + 100000 ≤ s.tb.elapsed) then beatSend s else s)

/-- A heartbeat records the peer's state and time (R664, R669). -/
def beatTake (f : Flit) (s : State) : State :=
  let s1 := regPut (regPut s Reg.TRUSS_PEER (BitVec.ofNat 32 (leAt f.body 0 1 % 8 * 2 ^ 29 + leAt f.body 1 1 % 8)))
    Reg.TRUSS_PEER_LAST (BitVec.ofNat 32 (workTime s))
  { s1 with twin := { s1.twin with heardNs := s1.tb.elapsed } }

/-- HEARTBEAT_RECEIVE (R669). -/
def execHeartbeatReceive (s : State) : Host.Outcome State Fault Refusal := .next (flitPop 6 beatTake s)

/-- HEARTBEAT_LOSS (R669): a heartbeat that has arrived in the same cycle wins (R676). -/
def execHeartbeatLoss (s : State) : Host.Outcome State Fault Refusal :=
  .next
    (if twinJoined s && decide (s.twin.heardNs + 300000 ≤ s.tb.elapsed) && s.twin.rx.all (fun f => decide (f.typ ≠ 6)) then split 1 s
     else s)

/-! Time. -/

/-- The primary sends its working time, the step since its last TIME flit, and D (R665, R667). -/
def timeSend (s : State) : State :=
  let l := leBytes 4 (workTime s) ++ leBytes 4 (BitVec.ofInt 32 s.tb.carry).toNat ++ leBytes 4 (regGet s Reg.TRUSS_DELAY).toNat ++
    leBytes 1 (timeFlags s)
  let s1 := sendFlit { typ := 7, len := 13, body := l } s
  { s1 with twin := { s1.twin with timeNs := s1.tb.elapsed }, tb := { s1.tb with carry := 0 } }

/-- TIME_FLIT_SEND (R665): every 10 µs. -/
def execTimeFlitSend (s : State) : Host.Outcome State Fault Refusal :=
  .next (if joinedPrimary s && decide (s.twin.timeNs + 10000 ≤ s.tb.elapsed) then timeSend s else s)

/-- TIME_FLIT_RECEIVE (R666). -/
def execTimeFlitReceive (s : State) : Host.Outcome State Fault Refusal :=
  .next (flitPop 7 (fun f s => if twinSecondary s then timeSecond f s else timeEcho f s) s)

/-! Spanning jobs. -/

/-- The start S of a spanning job has come: its bays on this device start (R658). -/
def spanStart (slot : Nat) (s : State) : State :=
  let d := dowelGet s slot
  match d.startAt with
  | some t =>
    if d.asked && decide (d.st = .queued ∨ d.st = .running) && d.ending.isNone && !d.replayDue && reached (workTime s) t then
      startJob slot (dowelPut s slot { d with asked := false, granted := false, startAt := none })
    else s
  | none => s

/-- SPANNING_JOB_START (R658). -/
def execSpanningJobStart (slot : Nat) (s : State) : Host.Outcome State Fault Refusal :=
  if slot < 131072 then .next (spanStart slot s) else .fault .absentUnit

/-! ACCORD_OVERRIDE (R673). -/

/-- The tests of ACCORD_OVERRIDE, then `eff`; `st` is the twin state that the operation needs. -/
def override (st : Nat) (eff : SealCmd → State → State) (x : SealCmd) (s : State) : State :=
  let op := leAt x.payload 0 1
  if (op ≠ 1 ∧ op ≠ 2) ∨ leAt x.payload 1 3 ≠ 0 then sealDone x.slot 0x9101 s
  else if s.twin.peer = [] ∨ leAt x.payload 4 4 ≠ leAt s.twin.peer 52 4 then sealDone x.slot 0x9102 s
  else if twinState s ≠ st then sealDone x.slot 0x9103 s
  else eff x s

/-- The OP byte of the accepted command. -/
def overrideOp (s : State) : Nat := match s.sealU.accepted with | some x => leAt x.payload 0 1 | none => 0

/-- A STANDALONE device goes back into JOINING. -/
def rejoin (x : SealCmd) (s : State) : State :=
  let s1 := enterJoining (regSetFld s Reg.TRUSS_STATE 27 2 0)
  { s1 with twin := { s1.twin with rejoin := some (x.slot, s1.tb.elapsed) } }

/-- ACCORD_OVERRIDE_REJOIN (R673): also the row of a reserved OP. -/
def execAccordOverrideRejoin (s : State) : Host.Outcome State Fault Refusal :=
  .next (if overrideOp s = 2 then s else sealRun 8 (override 5 rejoin) s)

/-- The peer is told and both devices split. -/
def leavePair (x : SealCmd) (s : State) : State := sealDone x.slot 0 (split 3 (sendCtl .leave s))

/-- ACCORD_OVERRIDE_LEAVE (R673). -/
def execAccordOverrideLeave (s : State) : Host.Outcome State Fault Refusal :=
  .next (if overrideOp s = 2 then sealRun 8 (override 3 leavePair) s else s)

/-- The peer has not been in JOINING for 100 ms: back to STANDALONE (R673). -/
def rejoinTimeout (s : State) : State :=
  match s.twin.rejoin with
  | some (_, t) =>
    if decide (t + 100000000 ≤ s.tb.elapsed) && !twinJoined s then
      rejoinEnds 0x9105 (if twinState s = 1 then { s with twin := { s.twin with alone := true } } else standAlone 0 s)
    else s
  | none => s

/-- REJOIN_TIMEOUT (R673). -/
def execRejoinTimeout (s : State) : Host.Outcome State Fault Refusal := .next (rejoinTimeout s)

end Sys2Proof.Machine
end

