-- ==== Sys2Proof/Machine/ExecVector.lean ====
section
/-!
DEFINITION. The vector, mask and reduction instructions of chapter 6.
-/

namespace Sys2Proof.Machine

/-- VADD (R151): Vector floating-point add per lane, rounded once. -/
def execVadd (h : Hand) (w : Word64) (s : State) : Host.Outcome State Fault Refusal :=
  issue .vadd h w s (regStep h (vfp2 addExact w))

/-- VSUB (R151): Vector floating-point subtract per lane. -/
def execVsub (h : Hand) (w : Word64) (s : State) : Host.Outcome State Fault Refusal :=
  issue .vsub h w s (regStep h (vfp2 subExact w))

/-- VMUL (R151): Vector floating-point multiply per lane. -/
def execVmul (h : Hand) (w : Word64) (s : State) : Host.Outcome State Fault Refusal :=
  issue .vmul h w s (regStep h (vfp2 (fun _ => mulExact) w))

/-- VMIN (R153): Vector minimumNumber per lane. -/
def execVmin (h : Hand) (w : Word64) (s : State) : Host.Outcome State Fault Refusal :=
  issue .vmin h w s (regStep h (vfp2 (fun _ => minMaxExact false) w))

/-- VMAX (R153): Vector maximumNumber per lane. -/
def execVmax (h : Hand) (w : Word64) (s : State) : Host.Outcome State Fault Refusal :=
  issue .vmax h w s (regStep h (vfp2 (fun _ => minMaxExact true) w))

/-- VDIV (R151): FP32 vector divide. -/
def execVdiv (h : Hand) (w : Word64) (s : State) : Host.Outcome State Fault Refusal :=
  issue .vdiv h w s (regStep h (vfp2 (fun _ => divExact) w))

/-- VSQRT (R151): FP32 vector square root. -/
def execVsqrt (h : Hand) (w : Word64) (s : State) : Host.Outcome State Fault Refusal :=
  issue .vsqrt h w s (regStep h (vfp1 sqrtExact w))

/-- VABS (R152): Clears the sign of each lane. -/
def execVabs (h : Hand) (w : Word64) (s : State) : Host.Outcome State Fault Refusal :=
  issue .vabs h w s (regStep h (vfp1 absExact w))

/-- VNEG (R152): Inverts the sign of each lane. -/
def execVneg (h : Hand) (w : Word64) (s : State) : Host.Outcome State Fault Refusal :=
  issue .vneg h w s (regStep h (vfp1 negExact w))

/-- VFMA (R151): Fused multiply-add, rounded once. -/
def execVfma (h : Hand) (w : Word64) (s : State) : Host.Outcome State Fault Refusal :=
  issue .vfma h w s (regStep h (vfma false false w))

/-- VFMS (R151): Fused multiply-subtract, rounded once. -/
def execVfms (h : Hand) (w : Word64) (s : State) : Host.Outcome State Fault Refusal :=
  issue .vfms h w s (regStep h (vfma false true w))

/-- VFNMA (R151): Negated fused multiply-add, rounded once. -/
def execVfnma (h : Hand) (w : Word64) (s : State) : Host.Outcome State Fault Refusal :=
  issue .vfnma h w s (regStep h (vfma true false w))

/-- VFNMS (R151): Negated fused multiply-subtract, rounded once. -/
def execVfnms (h : Hand) (w : Word64) (s : State) : Host.Outcome State Fault Refusal :=
  issue .vfnms h w s (regStep h (vfma true true w))

/-- VCEQ (R154): Compares lanes for equality into a mask. -/
def execVceq (h : Hand) (w : Word64) (s : State) : Host.Outcome State Fault Refusal :=
  issue .vceq h w s (regStep h (vcmp .eq w))

/-- VCNE (R154): Compares lanes for inequality into a mask. -/
def execVcne (h : Hand) (w : Word64) (s : State) : Host.Outcome State Fault Refusal :=
  issue .vcne h w s (regStep h (vcmp .ne w))

/-- VCLT (R154): Ordered less-than compare into a mask. -/
def execVclt (h : Hand) (w : Word64) (s : State) : Host.Outcome State Fault Refusal :=
  issue .vclt h w s (regStep h (vcmp .lt w))

/-- VCLE (R154): Ordered less-or-equal compare into a mask. -/
def execVcle (h : Hand) (w : Word64) (s : State) : Host.Outcome State Fault Refusal :=
  issue .vcle h w s (regStep h (vcmp .le w))

/-- VCGT (R154): Ordered greater-than compare into a mask. -/
def execVcgt (h : Hand) (w : Word64) (s : State) : Host.Outcome State Fault Refusal :=
  issue .vcgt h w s (regStep h (vcmp .gt w))

/-- VCGE (R154): Ordered greater-or-equal compare into a mask. -/
def execVcge (h : Hand) (w : Word64) (s : State) : Host.Outcome State Fault Refusal :=
  issue .vcge h w s (regStep h (vcmp .ge w))

/-- VCVT (R227): Converts one segment of lanes from format LF2 to format LF. -/
def execVcvt (h : Hand) (w : Word64) (s : State) : Host.Outcome State Fault Refusal :=
  issue .vcvt h w s (regStep h (vcvtEff w))

/-- VIADD (R156): Vector integer add, wrapping or saturating. -/
def execViadd (h : Hand) (w : Word64) (s : State) : Host.Outcome State Fault Refusal :=
  issue .viadd h w s (regStep h (vint (fun a b => a + b) (R3.sat w) w))

/-- VISUB (R156): Vector integer subtract, wrapping or saturating. -/
def execVisub (h : Hand) (w : Word64) (s : State) : Host.Outcome State Fault Refusal :=
  issue .visub h w s (regStep h (vint (fun a b => a - b) (R3.sat w) w))

/-- VIMUL (R156): Vector integer multiply, low half, wrapping or saturating. -/
def execVimul (h : Hand) (w : Word64) (s : State) : Host.Outcome State Fault Refusal :=
  issue .vimul h w s (regStep h (vint (fun a b => a * b) (R3.sat w) w))

/-- VIMIN (R156): Vector integer minimum. -/
def execVimin (h : Hand) (w : Word64) (s : State) : Host.Outcome State Fault Refusal :=
  issue .vimin h w s (regStep h (vint min false w))

/-- VIMAX (R156): Vector integer maximum. -/
def execVimax (h : Hand) (w : Word64) (s : State) : Host.Outcome State Fault Refusal :=
  issue .vimax h w s (regStep h (vint max false w))

/-- VAND (R156): Vector bitwise AND. -/
def execVand (h : Hand) (w : Word64) (s : State) : Host.Outcome State Fault Refusal :=
  issue .vand h w s (regStep h (vbits (fun _ a b => a &&& b) w))

/-- VOR (R156): Vector bitwise OR. -/
def execVor (h : Hand) (w : Word64) (s : State) : Host.Outcome State Fault Refusal :=
  issue .vor h w s (regStep h (vbits (fun _ a b => a ||| b) w))

/-- VXOR (R156): Vector bitwise XOR. -/
def execVxor (h : Hand) (w : Word64) (s : State) : Host.Outcome State Fault Refusal :=
  issue .vxor h w s (regStep h (vbits (fun _ a b => a ^^^ b) w))

/-- VSLL (R156): Vector per-lane shift left. -/
def execVsll (h : Hand) (w : Word64) (s : State) : Host.Outcome State Fault Refusal :=
  issue .vsll h w s (regStep h (vbits (fun n a b => a <<< (b % n)) w))

/-- VSRL (R156): Vector per-lane logical shift right. -/
def execVsrl (h : Hand) (w : Word64) (s : State) : Host.Outcome State Fault Refusal :=
  issue .vsrl h w s (regStep h (vbits (fun n a b => a >>> (b % n)) w))

/-- VSRA (R156): Vector per-lane arithmetic shift right. -/
def execVsra (h : Hand) (w : Word64) (s : State) : Host.Outcome State Fault Refusal :=
  issue .vsra h w s (regStep h (vbits (fun n a b => sintTo n (sintOf n a >>> (b % n))) w))

/-- VBCAST (R223): Broadcasts a scalar into every lane. -/
def execVbcast (h : Hand) (w : Word64) (s : State) : Host.Outcome State Fault Refusal :=
  issue .vbcast h w s (regStep h (vbcastEff w))

/-- VPERM (R223): Permutes lanes by an index vector. -/
def execVperm (h : Hand) (w : Word64) (s : State) : Host.Outcome State Fault Refusal :=
  issue .vperm h w s (regStep h (vpermEff w))

/-- VSEL (R248): Selects lanes of two vectors by a mask; KE must be 1. -/
def execVsel (h : Hand) (w : Word64) (s : State) : Host.Outcome State Fault Refusal :=
  issue .vsel h w s (regStep h (vselEff w))

/-- VMOV (R223): Copies a vector register. -/
def execVmov (h : Hand) (w : Word64) (s : State) : Host.Outcome State Fault Refusal :=
  issue .vmov h w s (regStep h (vmovEff w))

/-- KAND (R223): Mask AND over all 128 bits. -/
def execKand (h : Hand) (w : Word64) (s : State) : Host.Outcome State Fault Refusal :=
  issue .kand h w s (regStep h (kop (fun a b => a &&& b) w))

/-- KOR (R223): Mask OR over all 128 bits. -/
def execKor (h : Hand) (w : Word64) (s : State) : Host.Outcome State Fault Refusal :=
  issue .kor h w s (regStep h (kop (fun a b => a ||| b) w))

/-- KXOR (R223): Mask XOR over all 128 bits. -/
def execKxor (h : Hand) (w : Word64) (s : State) : Host.Outcome State Fault Refusal :=
  issue .kxor h w s (regStep h (kop (fun a b => a ^^^ b) w))

/-- KNOT (R223): Mask NOT over all 128 bits. -/
def execKnot (h : Hand) (w : Word64) (s : State) : Host.Outcome State Fault Refusal :=
  issue .knot h w s (regStep h ((fun r => r.setK (R3.rd w) (~~~(r.getK (R3.ra w))))))

/-- KPOP (R223): Counts the set mask bits among the lanes of LF. -/
def execKpop (h : Hand) (w : Word64) (s : State) : Host.Outcome State Fault Refusal :=
  issue .kpop h w s (regStep h (kpopEff w))

/-- VRSUM (R228): Floating-point sum of the lanes by a fixed pairwise tree into lane 0. -/
def execVrsum (h : Hand) (w : Word64) (s : State) : Host.Outcome State Fault Refusal :=
  issue .vrsum h w s (regStep h (vreduce addExact (fun _ => 0) w))

/-- VRMAX (R228): Floating-point maximum of the lanes by the fixed tree. -/
def execVrmax (h : Hand) (w : Word64) (s : State) : Host.Outcome State Fault Refusal :=
  issue .vrmax h w s (regStep h (vreduce (fun _ => minMaxExact true) Fmt.defaultNaN w))

/-- VRMIN (R228): Floating-point minimum of the lanes by the fixed tree. -/
def execVrmin (h : Hand) (w : Word64) (s : State) : Host.Outcome State Fault Refusal :=
  issue .vrmin h w s (regStep h (vreduce (fun _ => minMaxExact false) Fmt.defaultNaN w))

/-- VRISUM (R228): Wrapping integer sum of the lanes by the fixed tree. -/
def execVrisum (h : Hand) (w : Word64) (s : State) : Host.Outcome State Fault Refusal :=
  issue .vrisum h w s (regStep h (vrisumEff w))

end Sys2Proof.Machine
end

