-- ==== Sys2Proof/Machine/Dispatch.lean ====
section
/-!
DEFINITION. One arm per command: each a direct call of its meaning.
-/

namespace Sys2Proof.Machine

/-- The effect of a command on everything but the queue. -/
def exec (i : Instr) (s : State) : Host.Outcome State Fault Refusal :=
  match i with
  | .registerWrite init addr size v => Sys2Proof.Machine.execRegisterWrite init addr size v s
  | .hartAccess hart kind addr size data => Sys2Proof.Machine.execHartAccess hart kind addr size data s
  | .panelFetch h ahead => Sys2Proof.Machine.execPanelFetch h ahead s
  | .jobFaultStop slot => Sys2Proof.Machine.execJobFaultStop slot s
  | .add h w => Sys2Proof.Machine.execAdd h w s
  | .sub h w => Sys2Proof.Machine.execSub h w s
  | .and h w => Sys2Proof.Machine.execAnd h w s
  | .or h w => Sys2Proof.Machine.execOr h w s
  | .xor h w => Sys2Proof.Machine.execXor h w s
  | .andn h w => Sys2Proof.Machine.execAndn h w s
  | .min h w => Sys2Proof.Machine.execMin h w s
  | .max h w => Sys2Proof.Machine.execMax h w s
  | .minu h w => Sys2Proof.Machine.execMinu h w s
  | .maxu h w => Sys2Proof.Machine.execMaxu h w s
  | .addi h w => Sys2Proof.Machine.execAddi h w s
  | .andi h w => Sys2Proof.Machine.execAndi h w s
  | .ori h w => Sys2Proof.Machine.execOri h w s
  | .xori h w => Sys2Proof.Machine.execXori h w s
  | .li h w => Sys2Proof.Machine.execLi h w s
  | .sll h w => Sys2Proof.Machine.execSll h w s
  | .srl h w => Sys2Proof.Machine.execSrl h w s
  | .sra h w => Sys2Proof.Machine.execSra h w s
  | .ror h w => Sys2Proof.Machine.execRor h w s
  | .slli h w => Sys2Proof.Machine.execSlli h w s
  | .srli h w => Sys2Proof.Machine.execSrli h w s
  | .srai h w => Sys2Proof.Machine.execSrai h w s
  | .rori h w => Sys2Proof.Machine.execRori h w s
  | .extu h w => Sys2Proof.Machine.execExtu h w s
  | .exts h w => Sys2Proof.Machine.execExts h w s
  | .ins h w => Sys2Proof.Machine.execIns h w s
  | .mul h w => Sys2Proof.Machine.execMul h w s
  | .mulh h w => Sys2Proof.Machine.execMulh h w s
  | .mulhu h w => Sys2Proof.Machine.execMulhu h w s
  | .div h w => Sys2Proof.Machine.execDiv h w s
  | .divu h w => Sys2Proof.Machine.execDivu h w s
  | .rem h w => Sys2Proof.Machine.execRem h w s
  | .remu h w => Sys2Proof.Machine.execRemu h w s
  | .seq h w => Sys2Proof.Machine.execSeq h w s
  | .sne h w => Sys2Proof.Machine.execSne h w s
  | .slt h w => Sys2Proof.Machine.execSlt h w s
  | .sltu h w => Sys2Proof.Machine.execSltu h w s
  | .sel h w => Sys2Proof.Machine.execSel h w s
  | .vext h w => Sys2Proof.Machine.execVext h w s
  | .vins h w => Sys2Proof.Machine.execVins h w s
  | .ktos h w => Sys2Proof.Machine.execKtos h w s
  | .ktosh h w => Sys2Proof.Machine.execKtosh h w s
  | .stok h w => Sys2Proof.Machine.execStok h w s
  | .popc h w => Sys2Proof.Machine.execPopc h w s
  | .clz h w => Sys2Proof.Machine.execClz h w s
  | .ctz h w => Sys2Proof.Machine.execCtz h w s
  | .beq h w => Sys2Proof.Machine.execBeq h w s
  | .bne h w => Sys2Proof.Machine.execBne h w s
  | .blt h w => Sys2Proof.Machine.execBlt h w s
  | .bge h w => Sys2Proof.Machine.execBge h w s
  | .bltu h w => Sys2Proof.Machine.execBltu h w s
  | .bgeu h w => Sys2Proof.Machine.execBgeu h w s
  | .bra h w => Sys2Proof.Machine.execBra h w s
  | .jal h w => Sys2Proof.Machine.execJal h w s
  | .jr h w => Sys2Proof.Machine.execJr h w s
  | .loop h w => Sys2Proof.Machine.execLoop h w s
  | .waitq h w => Sys2Proof.Machine.execWaitq h w s
  | .fence h w => Sys2Proof.Machine.execFence h w s
  | .trap h w => Sys2Proof.Machine.execTrap h w s
  | .endP h w => Sys2Proof.Machine.execEnd h w s
  | .nop h w => Sys2Proof.Machine.execNop h w s
  | .vadd h w => Sys2Proof.Machine.execVadd h w s
  | .vsub h w => Sys2Proof.Machine.execVsub h w s
  | .vmul h w => Sys2Proof.Machine.execVmul h w s
  | .vmin h w => Sys2Proof.Machine.execVmin h w s
  | .vmax h w => Sys2Proof.Machine.execVmax h w s
  | .vdiv h w => Sys2Proof.Machine.execVdiv h w s
  | .vsqrt h w => Sys2Proof.Machine.execVsqrt h w s
  | .vabs h w => Sys2Proof.Machine.execVabs h w s
  | .vneg h w => Sys2Proof.Machine.execVneg h w s
  | .vfma h w => Sys2Proof.Machine.execVfma h w s
  | .vfms h w => Sys2Proof.Machine.execVfms h w s
  | .vfnma h w => Sys2Proof.Machine.execVfnma h w s
  | .vfnms h w => Sys2Proof.Machine.execVfnms h w s
  | .vceq h w => Sys2Proof.Machine.execVceq h w s
  | .vcne h w => Sys2Proof.Machine.execVcne h w s
  | .vclt h w => Sys2Proof.Machine.execVclt h w s
  | .vcle h w => Sys2Proof.Machine.execVcle h w s
  | .vcgt h w => Sys2Proof.Machine.execVcgt h w s
  | .vcge h w => Sys2Proof.Machine.execVcge h w s
  | .vcvt h w => Sys2Proof.Machine.execVcvt h w s
  | .viadd h w => Sys2Proof.Machine.execViadd h w s
  | .visub h w => Sys2Proof.Machine.execVisub h w s
  | .vimul h w => Sys2Proof.Machine.execVimul h w s
  | .vimin h w => Sys2Proof.Machine.execVimin h w s
  | .vimax h w => Sys2Proof.Machine.execVimax h w s
  | .vand h w => Sys2Proof.Machine.execVand h w s
  | .vor h w => Sys2Proof.Machine.execVor h w s
  | .vxor h w => Sys2Proof.Machine.execVxor h w s
  | .vsll h w => Sys2Proof.Machine.execVsll h w s
  | .vsrl h w => Sys2Proof.Machine.execVsrl h w s
  | .vsra h w => Sys2Proof.Machine.execVsra h w s
  | .vbcast h w => Sys2Proof.Machine.execVbcast h w s
  | .vperm h w => Sys2Proof.Machine.execVperm h w s
  | .vsel h w => Sys2Proof.Machine.execVsel h w s
  | .vmov h w => Sys2Proof.Machine.execVmov h w s
  | .kand h w => Sys2Proof.Machine.execKand h w s
  | .kor h w => Sys2Proof.Machine.execKor h w s
  | .kxor h w => Sys2Proof.Machine.execKxor h w s
  | .knot h w => Sys2Proof.Machine.execKnot h w s
  | .kpop h w => Sys2Proof.Machine.execKpop h w s
  | .vrsum h w => Sys2Proof.Machine.execVrsum h w s
  | .vrmax h w => Sys2Proof.Machine.execVrmax h w s
  | .vrmin h w => Sys2Proof.Machine.execVrmin h w s
  | .vrisum h w => Sys2Proof.Machine.execVrisum h w s
  | .mloadw h w => Sys2Proof.Machine.execMloadw h w s
  | .mloadwComplete pb seq => Sys2Proof.Machine.execMloadwComplete pb seq s
  | .mstream h w => Sys2Proof.Machine.execMstream h w s
  | .mstreamComplete pb seq => Sys2Proof.Machine.execMstreamComplete pb seq s
  | .mdrain h w => Sys2Proof.Machine.execMdrain h w s
  | .mclear h w => Sys2Proof.Machine.execMclear h w s
  | .mxferStore h w => Sys2Proof.Machine.execMxferStore h w s
  | .mxferAdd h w => Sys2Proof.Machine.execMxferAdd h w s
  | .mxferLoad h w => Sys2Proof.Machine.execMxferLoad h w s
  | .mstat h w => Sys2Proof.Machine.execMstat h w s
  | .ld h w => Sys2Proof.Machine.execLd h w s
  | .lds h w => Sys2Proof.Machine.execLds h w s
  | .st h w => Sys2Proof.Machine.execSt h w s
  | .vld h w => Sys2Proof.Machine.execVld h w s
  | .vst h w => Sys2Proof.Machine.execVst h w s
  | .copy h w => Sys2Proof.Machine.execCopy h w s
  | .scopy h w => Sys2Proof.Machine.execScopy h w s
  | .dld h w => Sys2Proof.Machine.execDld h w s
  | .dst h w => Sys2Proof.Machine.execDst h w s
  | .pref h w => Sys2Proof.Machine.execPref h w s
  | .dmaTransferComplete pb seq => Sys2Proof.Machine.execDmaTransferComplete pb seq s
  | .jgather h w => Sys2Proof.Machine.execJgather h w s
  | .jscato h w => Sys2Proof.Machine.execJscato h w s
  | .jscatu h w => Sys2Proof.Machine.execJscatu h w s
  | .jsegpack h w => Sys2Proof.Machine.execJsegpack h w s
  | .jcompact h w => Sys2Proof.Machine.execJcompact h w s
  | .jsort h w => Sys2Proof.Machine.execJsort h w s
  | .jhparto h w => Sys2Proof.Machine.execJhparto h w s
  | .jhpartu h w => Sys2Proof.Machine.execJhpartu h w s
  | .jisect h w => Sys2Proof.Machine.execJisect h w s
  | .jtopk h w => Sys2Proof.Machine.execJtopk h w s
  | .jstat h w => Sys2Proof.Machine.execJstat h w s
  | .jwait h w => Sys2Proof.Machine.execJwait h w s
  | .jointerCommandComplete pb seq => Sys2Proof.Machine.execJointerCommandComplete pb seq s
  | .padd h w => Sys2Proof.Machine.execPadd h w s
  | .pset h w => Sys2Proof.Machine.execPset h w s
  | .parrive h w => Sys2Proof.Machine.execParrive h w s
  | .pwait h w => Sys2Proof.Machine.execPwait h w s
  | .pwany h w => Sys2Proof.Machine.execPwany h w s
  | .pegWaitRelease w => Sys2Proof.Machine.execPegWaitRelease w s
  | .tread h w => Sys2Proof.Machine.execTread h w s
  | .twait h w => Sys2Proof.Machine.execTwait h w s
  | .twaitReached h => Sys2Proof.Machine.execTwaitReached h s
  | .pcount h w => Sys2Proof.Machine.execPcount h w s
  | .ptarget h w => Sys2Proof.Machine.execPtarget h w s
  | .pstamp h w => Sys2Proof.Machine.execPstamp h w s
  | .mfsr h w => Sys2Proof.Machine.execMfsr h w s
  | .mtsr h w => Sys2Proof.Machine.execMtsr h w s
  | .plbfold h w => Sys2Proof.Machine.execPlbfold h w s
  | .plbgold h w => Sys2Proof.Machine.execPlbgold h w s
  | .plbdone h w => Sys2Proof.Machine.execPlbdone h w s
  | .submitJob init window addr => Sys2Proof.Machine.execSubmitJob init window addr s
  | .submitBatch init window addr => Sys2Proof.Machine.execSubmitBatch init window addr s
  | .submitRegionSwap init window addr => Sys2Proof.Machine.execSubmitRegionSwap init window addr s
  | .submitPlaneFlip init window addr => Sys2Proof.Machine.execSubmitPlaneFlip init window addr s
  | .ticketRead init window => Sys2Proof.Machine.execTicketRead init window s
  | .batchChildFetch slot => Sys2Proof.Machine.execBatchChildFetch slot s
  | .jobStart slot => Sys2Proof.Machine.execJobStart slot s
  | .jobEnd slot => Sys2Proof.Machine.execJobEnd slot s
  | .jobComplete slot => Sys2Proof.Machine.execJobComplete slot s
  | .dowelQuery init part handle => Sys2Proof.Machine.execDowelQuery init part handle s
  | .dowelCancel init part handle => Sys2Proof.Machine.execDowelCancel init part handle s
  | .dowelRelease init part handle => Sys2Proof.Machine.execDowelRelease init part handle s
  | .pegCountWrite init peg v => Sys2Proof.Machine.execPegCountWrite init peg v s
  | .pegAddWrite init peg v => Sys2Proof.Machine.execPegAddWrite init peg v s
  | .pegStatusClear init peg => Sys2Proof.Machine.execPegStatusClear init peg s
  | .regionUpdateTakeEffect region => Sys2Proof.Machine.execRegionUpdateTakeEffect region s
  | .regionSwapApply part group => Sys2Proof.Machine.execRegionSwapApply part group s
  | .partitionConfigRecord => Sys2Proof.Machine.execPartitionConfigRecord s
  | .partitionConfigRegions => Sys2Proof.Machine.execPartitionConfigRegions s
  | .partitionConfigWheels => Sys2Proof.Machine.execPartitionConfigWheels s
  | .partitionConfigApply region => Sys2Proof.Machine.execPartitionConfigApply region s
  | .partCheck => Sys2Proof.Machine.execPartCheck s
  | .tableScan => Sys2Proof.Machine.execTableScan s
  | .resourceZeroingDone granule n => Sys2Proof.Machine.execResourceZeroingDone granule n s
  | .partCtrlLock init part => Sys2Proof.Machine.execPartCtrlLock init part s
  | .beatStart part => Sys2Proof.Machine.execBeatStart part s
  | .kerfEntryStart part => Sys2Proof.Machine.execKerfEntryStart part s
  | .kerfDrainComplete pb => Sys2Proof.Machine.execKerfDrainComplete pb s
  | .kerfOverrun pb => Sys2Proof.Machine.execKerfOverrun pb s
  | .saveComplete pb => Sys2Proof.Machine.execSaveComplete pb s
  | .restoreComplete pb => Sys2Proof.Machine.execRestoreComplete pb s
  | .girtWindowStart => Sys2Proof.Machine.execGirtWindowStart s
  | .wheelSlotStart dram loft => Sys2Proof.Machine.execWheelSlotStart dram loft s
  | .girtGrant target reqs => Sys2Proof.Machine.execGirtGrant target reqs s
  | .bayFence pb cause => Sys2Proof.Machine.execBayFence pb cause s
  | .bayHang pb => Sys2Proof.Machine.execBayHang pb s
  | .bayDomainFault pb => Sys2Proof.Machine.execBayDomainFault pb s
  | .retirementPoint lb => Sys2Proof.Machine.execRetirementPoint lb s
  | .jobReplay slot => Sys2Proof.Machine.execJobReplay slot s
  | .sparePeriodicPlumb pb => Sys2Proof.Machine.execSparePeriodicPlumb pb s
  | .jointerHang pj => Sys2Proof.Machine.execJointerHang pj s
  | .patrolRowTest loft unit bad => Sys2Proof.Machine.execPatrolRowTest loft unit bad s
  | .plumbScheduledStart pb => Sys2Proof.Machine.execPlumbScheduledStart pb s
  | .plumbGatedStart slot => Sys2Proof.Machine.execPlumbGatedStart slot s
  | .gatedRelease slot => Sys2Proof.Machine.execGatedRelease slot s
  | .plumbOverdue part => Sys2Proof.Machine.execPlumbOverdue part s
  | .plumbPeriodOverdue lb => Sys2Proof.Machine.execPlumbPeriodOverdue lb s
  | .ageEvent a => Sys2Proof.Machine.execAgeEvent a s
  | .ageGap a => Sys2Proof.Machine.execAgeGap a s
  | .dinSample n a b => Sys2Proof.Machine.execDinSample n a b s
  | .clockMonitorWindow src count => Sys2Proof.Machine.execClockMonitorWindow src count s
  | .voltageExcursion src mv => Sys2Proof.Machine.execVoltageExcursion src mv s
  | .temperatureSample t => Sys2Proof.Machine.execTemperatureSample t s
  | .lockstepMismatch pair => Sys2Proof.Machine.execLockstepMismatch pair s
  | .islandBistStep bad => Sys2Proof.Machine.execIslandBistStep bad s
  | .safetyKick init v => Sys2Proof.Machine.execSafetyKick init v s
  | .safeWdog => Sys2Proof.Machine.execSafeWdog s
  | .faultPhaseBoundary => Sys2Proof.Machine.execFaultPhaseBoundary s
  | .safetyCtrlRun init => Sys2Proof.Machine.execSafetyCtrlRun init s
  | .safetyPstopRelease init part => Sys2Proof.Machine.execSafetyPstopRelease init part s
  | .safetySwraise init v => Sys2Proof.Machine.execSafetySwraise init v s
  | .safetySrcPendClear init src => Sys2Proof.Machine.execSafetySrcPendClear init src s
  | .faultClearCritical => Sys2Proof.Machine.execFaultClearCritical s
  | .safeStateExit => Sys2Proof.Machine.execSafeStateExit s
  | .tbDomainLoss d => Sys2Proof.Machine.execTbDomainLoss d s
  | .tbDomSync init d => Sys2Proof.Machine.execTbDomSync init d s
  | .tbDomDrop init d => Sys2Proof.Machine.execTbDomDrop init d s
  | .tbCtrlSel init d => Sys2Proof.Machine.execTbCtrlSel init d s
  | .tbDomStep init d v => Sys2Proof.Machine.execTbDomStep init d v s
  | .unsealedStepApply d => Sys2Proof.Machine.execUnsealedStepApply d s
  | .timeForceStep => Sys2Proof.Machine.execTimeForceStep s
  | .forceStepApply => Sys2Proof.Machine.execForceStepApply s
  | .bridgeDecayStep => Sys2Proof.Machine.execBridgeDecayStep s
  | .wrap => Sys2Proof.Machine.execWrap s
  | .half => Sys2Proof.Machine.execHalf s
  | .tbTsRecordPop init port tx => Sys2Proof.Machine.execTbTsRecordPop init port tx s
  | .tcapEdge n rise => Sys2Proof.Machine.execTcapEdge n rise s
  | .tcapHeadRead init n => Sys2Proof.Machine.execTcapHeadRead init n s
  | .tcapAged n => Sys2Proof.Machine.execTcapAged n s
  | .tpulseArm init n => Sys2Proof.Machine.execTpulseArm init n s
  | .tpulseFire n => Sys2Proof.Machine.execTpulseFire n s
  | .tpulseWidthEnd n => Sys2Proof.Machine.execTpulseWidthEnd n s
  | .csiFrameStart port vc cnt ecc => Sys2Proof.Machine.execCsiFrameStart port vc cnt ecc s
  | .csiFrameEnd port vc ecc => Sys2Proof.Machine.execCsiFrameEnd port vc ecc s
  | .csiLongPacket port vc dt data ecc full => Sys2Proof.Machine.execCsiLongPacket port vc dt data ecc full s
  | .csiEmbeddedPacket port vc data ecc => Sys2Proof.Machine.execCsiEmbeddedPacket port vc data ecc s
  | .csiFrameTimeout n => Sys2Proof.Machine.execCsiFrameTimeout n s
  | .intakeCtxDisable init n => Sys2Proof.Machine.execIntakeCtxDisable init n s
  | .frameCloseComplete n => Sys2Proof.Machine.execFrameCloseComplete n s
  | .gfxBind slot => Sys2Proof.Machine.execGfxBind slot s
  | .gfxPacketIssue => Sys2Proof.Machine.execGfxPacketIssue s
  | .gfxPacketReturn rank => Sys2Proof.Machine.execGfxPacketReturn rank s
  | .gfxFragmentRetire => Sys2Proof.Machine.execGfxFragmentRetire s
  | .gfxTileWriteout => Sys2Proof.Machine.execGfxTileWriteout s
  | .fillerJobStart slot => Sys2Proof.Machine.execFillerJobStart slot s
  | .verticalBlanking pipe => Sys2Proof.Machine.execVerticalBlanking pipe s
  | .displayLineUnderrun pipe x line => Sys2Proof.Machine.execDisplayLineUnderrun pipe x line s
  | .outputWatchSignature pipe => Sys2Proof.Machine.execOutputWatchSignature pipe s
  | .outputWatchMissing pipe => Sys2Proof.Machine.execOutputWatchMissing pipe s
  | .dispAuxGo init pipe v => Sys2Proof.Machine.execDispAuxGo init pipe v s
  | .auxTransactionDone pipe reply data => Sys2Proof.Machine.execAuxTransactionDone pipe reply data s
  | .hpdEvent pipe level irq => Sys2Proof.Machine.execHpdEvent pipe level irq s
  | .ethernetFrameReceive port l => Sys2Proof.Machine.execEthernetFrameReceive port l s
  | .canFrameReceive k f => Sys2Proof.Machine.execCanFrameReceive k f s
  | .gwTxCmd init p v => Sys2Proof.Machine.execGwTxCmd init p v s
  | .hostFrameProcess p => Sys2Proof.Machine.execHostFrameProcess p s
  | .gwRxHeadRead init p => Sys2Proof.Machine.execGwRxHeadRead init p s
  | .gwRuleLoadGo init v => Sys2Proof.Machine.execGwRuleLoadGo init v s
  | .gwRuleLoadCommit => Sys2Proof.Machine.execGwRuleLoadCommit s
  | .egressFrameSend port => Sys2Proof.Machine.execEgressFrameSend port s
  | .gateEntryStart port => Sys2Proof.Machine.execGateEntryStart port s
  | .tasCommit init port v => Sys2Proof.Machine.execTasCommit init port v s
  | .gateListTakeover port => Sys2Proof.Machine.execGateListTakeover port s
  | .canFrameTransmit k => Sys2Proof.Machine.execCanFrameTransmit k s
  | .canBusoffRecovery k => Sys2Proof.Machine.execCanBusoffRecovery k s
  | .supWrite bytes => Sys2Proof.Machine.execSupWrite bytes s
  | .supRead n => Sys2Proof.Machine.execSupRead n s
  | .sealSwCtrl init v => Sys2Proof.Machine.execSealSwCtrl init v s
  | .sealFrameTake => Sys2Proof.Machine.execSealFrameTake s
  | .repairCommit => Sys2Proof.Machine.execRepairCommit s
  | .repairBurnComplete ok => Sys2Proof.Machine.execRepairBurnComplete ok s
  | .scribeEnable => Sys2Proof.Machine.execScribeEnable s
  | .scribePatternStart => Sys2Proof.Machine.execScribePatternStart s
  | .scribeDriverEnable => Sys2Proof.Machine.execScribeDriverEnable s
  | .firmwareAccept readOk => Sys2Proof.Machine.execFirmwareAccept readOk s
  | .keyRevoke => Sys2Proof.Machine.execKeyRevoke s
  | .accordOverrideRejoin => Sys2Proof.Machine.execAccordOverrideRejoin s
  | .accordOverrideLeave => Sys2Proof.Machine.execAccordOverrideLeave s
  | .gradeLock => Sys2Proof.Machine.execGradeLock s
  | .identityReport => Sys2Proof.Machine.execIdentityReport s
  | .statusQuery => Sys2Proof.Machine.execStatusQuery s
  | .resultQuery => Sys2Proof.Machine.execResultQuery s
  | .trussTraining rx tx => Sys2Proof.Machine.execTrussTraining rx tx s
  | .trussTrainingComplete => Sys2Proof.Machine.execTrussTrainingComplete s
  | .trussLaneRetire lane => Sys2Proof.Machine.execTrussLaneRetire lane s
  | .flitReceive f => Sys2Proof.Machine.execFlitReceive f s
  | .flitNak f => Sys2Proof.Machine.execFlitNak f s
  | .flitWrite => Sys2Proof.Machine.execFlitWrite s
  | .flitRead => Sys2Proof.Machine.execFlitRead s
  | .flitRdata => Sys2Proof.Machine.execFlitRdata s
  | .flitControl => Sys2Proof.Machine.execFlitControl s
  | .flitRetryLimit => Sys2Proof.Machine.execFlitRetryLimit s
  | .accordSend => Sys2Proof.Machine.execAccordSend s
  | .accordReceive => Sys2Proof.Machine.execAccordReceive s
  | .heartbeatSend => Sys2Proof.Machine.execHeartbeatSend s
  | .heartbeatReceive => Sys2Proof.Machine.execHeartbeatReceive s
  | .heartbeatLoss => Sys2Proof.Machine.execHeartbeatLoss s
  | .timeFlitSend => Sys2Proof.Machine.execTimeFlitSend s
  | .timeFlitReceive => Sys2Proof.Machine.execTimeFlitReceive s
  | .spanningJobStart slot => Sys2Proof.Machine.execSpanningJobStart slot s
  | .mailboxDoorbell init m v => Sys2Proof.Machine.execMailboxDoorbell init m v s
  | .mailboxRequestTake m => Sys2Proof.Machine.execMailboxRequestTake m s
  | .fwVersion m => Sys2Proof.Machine.execFwVersion m s
  | .collCreate m => Sys2Proof.Machine.execCollCreate m s
  | .pegSignal m => Sys2Proof.Machine.execPegSignal m s
  | .messagePost m => Sys2Proof.Machine.execMessagePost m s
  | .plumbStatus m => Sys2Proof.Machine.execPlumbStatus m s
  | .repairList m => Sys2Proof.Machine.execRepairList m s
  | .collContributionTake n r => Sys2Proof.Machine.execCollContributionTake n r s
  | .collResultWrite n => Sys2Proof.Machine.execCollResultWrite n s
  | .collComplete n => Sys2Proof.Machine.execCollComplete n s
  | .crpBayClkReq init v => Sys2Proof.Machine.execCrpBayClkReq init v s
  | .bayClockStep => Sys2Proof.Machine.execBayClockStep s
  | .throttleStepSlower => Sys2Proof.Machine.execThrottleStepSlower s
  | .throttleStepFaster => Sys2Proof.Machine.execThrottleStepFaster s
  | .crpPixFrac init n v => Sys2Proof.Machine.execCrpPixFrac init n v s
  | .pixelPllLock n => Sys2Proof.Machine.execPixelPllLock n s
  | .powerOnReset porst role flip flash => Sys2Proof.Machine.execPowerOnReset porst role flip flash s
  | .wrstNReset => Sys2Proof.Machine.execWrstNReset s
  | .crpRstCtrlWarm init v => Sys2Proof.Machine.execCrpRstCtrlWarm init v s
  | .crpRstCtrlApp init v => Sys2Proof.Machine.execCrpRstCtrlApp init v s
  | .rootPllLock => Sys2Proof.Machine.execRootPllLock s
  | .memoryBistDone rows panels => Sys2Proof.Machine.execMemoryBistDone rows panels s
  | .dramTrainingDone ok bytes => Sys2Proof.Machine.execDramTrainingDone ok bytes s
  | .bootImagesVerified readOk cfg => Sys2Proof.Machine.execBootImagesVerified readOk cfg s
  | .appImageVerified readOk => Sys2Proof.Machine.execAppImageVerified readOk s
  | .bayBistDone bays jointers => Sys2Proof.Machine.execBayBistDone bays jointers s
  | .bootMapAndGrade => Sys2Proof.Machine.execBootMapAndGrade s
  | .fabricControllerStart => Sys2Proof.Machine.execFabricControllerStart s
  | .appHartRelease => Sys2Proof.Machine.execAppHartRelease s
  | .bayClockGate pb => Sys2Proof.Machine.execBayClockGate pb s
  | .extest wrst => Sys2Proof.Machine.execExtest wrst s
  | .idcode => Sys2Proof.Machine.execIdcode s
  | .samplePreload pins load => Sys2Proof.Machine.execSamplePreload pins load s
  | .clamp wrst => Sys2Proof.Machine.execClamp wrst s
  | .highz wrst => Sys2Proof.Machine.execHighz wrst s
  | .fuseProg item => Sys2Proof.Machine.execFuseProg item s
  | .keyProg image k key attr => Sys2Proof.Machine.execKeyProg image k key attr s
  | .islandLoad o l => Sys2Proof.Machine.execIslandLoad o l s
  | .debug => Sys2Proof.Machine.execDebug s
  | .lifecycle target => Sys2Proof.Machine.execLifecycle target s
  | .bypass => Sys2Proof.Machine.execBypass s
  | .tapReset => Sys2Proof.Machine.execTapReset s
  | .registerRead init addr size => Sys2Proof.Machine.execRegisterRead init addr size s
  | .mdrainComplete pb seq => Sys2Proof.Machine.execMdrainComplete pb seq s
  | .mxferComplete pb seq => Sys2Proof.Machine.execMxferComplete pb seq s
  | .mclearComplete pb seq => Sys2Proof.Machine.execMclearComplete pb seq s
  | .keyRevokeComplete k => Sys2Proof.Machine.execKeyRevokeComplete k s
  | .firmwareAcceptDone ok => Sys2Proof.Machine.execFirmwareAcceptDone ok s
  | .rejoinTimeout => Sys2Proof.Machine.execRejoinTimeout s
  | .rootPllLockTimeout => Sys2Proof.Machine.execRootPllLockTimeout s
  | .rootPllLockLoss => Sys2Proof.Machine.execRootPllLockLoss s
  | .pixelPllLockLoss n => Sys2Proof.Machine.execPixelPllLockLoss n s
  | .voltageReturn src => Sys2Proof.Machine.execVoltageReturn src s
  | .canBusError k tx eight => Sys2Proof.Machine.execCanBusError k tx eight s
  | .portLinkChange port speed => Sys2Proof.Machine.execPortLinkChange port speed s
  | .ulpsEntry port => Sys2Proof.Machine.execUlpsEntry port s
  | .ulpsExit port => Sys2Proof.Machine.execUlpsExit port s
  | .deskewSequence port => Sys2Proof.Machine.execDeskewSequence port s
  | .hsBurstStart port => Sys2Proof.Machine.execHsBurstStart port s
  | .hsBurstEnd port => Sys2Proof.Machine.execHsBurstEnd port s

end Sys2Proof.Machine
end

