-- ==== Sys2Proof/Safety.lean ====
section
/-!
DEFINITION. What a safe run of the device is, in the terms the statements use: memory in its canonical form, a step that
changes only the parts of the state that its command may change, and an instruction of a hand processor that issues.
-/

namespace Sys2Proof.Machine

/-- Memory is in its canonical form: addresses strictly rising, and no entry for a byte that reads 0. -/
def Memory.wf (m : List Host.Cell) : Bool := tabWf 0 m

/-- A choice of parts of the state, one switch per field of State that a command may change. -/
structure Parts where
  regs : Bool := false
  staging : Bool := false
  latches : Bool := false
  mem : Bool := false
  bays : Bool := false
  waitWrites : Bool := false
  bayMap : Bool := false
  jointers : Bool := false
  jmap : Bool := false
  cmd : Bool := false
  pegs : Bool := false
  part : Bool := false
  tb : Bool := false
  safety : Bool := false
  boot : Bool := false
  repair : Bool := false
  fc : Bool := false
  intake : Bool := false
  gfx : Bool := false
  disp : Bool := false
  gw : Bool := false
  sealU : Bool := false
  twin : Bool := false
  imsic : Bool := false
  aplic : Bool := false
  reply : Bool := false
  freeCtr : Bool := false
  deriving DecidableEq, Repr

/-- The parts of either choice. -/
def Parts.union (a b : Parts) : Parts :=
  { regs := a.regs || b.regs
    staging := a.staging || b.staging
    latches := a.latches || b.latches
    mem := a.mem || b.mem
    bays := a.bays || b.bays
    waitWrites := a.waitWrites || b.waitWrites
    bayMap := a.bayMap || b.bayMap
    jointers := a.jointers || b.jointers
    jmap := a.jmap || b.jmap
    cmd := a.cmd || b.cmd
    pegs := a.pegs || b.pegs
    part := a.part || b.part
    tb := a.tb || b.tb
    safety := a.safety || b.safety
    boot := a.boot || b.boot
    repair := a.repair || b.repair
    fc := a.fc || b.fc
    intake := a.intake || b.intake
    gfx := a.gfx || b.gfx
    disp := a.disp || b.disp
    gw := a.gw || b.gw
    sealU := a.sealU || b.sealU
    twin := a.twin || b.twin
    imsic := a.imsic || b.imsic
    aplic := a.aplic || b.aplic
    reply := a.reply || b.reply
    freeCtr := a.freeCtr || b.freeCtr }

/-- The state with the chosen parts blanked out: two states agree outside the parts when they agree so. -/
def Parts.hide (w : Parts) (s : State) : State :=
  { regs := bif w.regs then [] else s.regs
    staging := bif w.staging then [] else s.staging
    latches := bif w.latches then [] else s.latches
    mem := bif w.mem then [] else s.mem
    bays := bif w.bays then [] else s.bays
    waitWrites := bif w.waitWrites then [] else s.waitWrites
    bayMap := bif w.bayMap then [] else s.bayMap
    jointers := bif w.jointers then [] else s.jointers
    jmap := bif w.jmap then [] else s.jmap
    cmd := bif w.cmd then {} else s.cmd
    pegs := bif w.pegs then [] else s.pegs
    part := bif w.part then {} else s.part
    tb := bif w.tb then {} else s.tb
    safety := bif w.safety then {} else s.safety
    boot := bif w.boot then {} else s.boot
    repair := bif w.repair then {} else s.repair
    fc := bif w.fc then {} else s.fc
    intake := bif w.intake then [] else s.intake
    gfx := bif w.gfx then {} else s.gfx
    disp := bif w.disp then {} else s.disp
    gw := bif w.gw then {} else s.gw
    sealU := bif w.sealU then {} else s.sealU
    twin := bif w.twin then {} else s.twin
    imsic := bif w.imsic then [] else s.imsic
    aplic := bif w.aplic then [] else s.aplic
    reply := bif w.reply then none else s.reply
    freeCtr := bif w.freeCtr then 0 else s.freeCtr
    plumbRom := s.plumbRom, golden := s.golden, pending := s.pending }

/-- `t` differs from `s` in the chosen parts alone, and its memory is canonical when that of `s` is. -/
structure Within (w : Parts) (s t : State) : Prop where
  same : w.hide t = w.hide s
  mem : Memory.wf s.mem = true → Memory.wf t.mem = true

/-- What a fault report can reach (R482–R493): the registers and records of the fault, the jobs, bays, pegs, collectives, sealed
commands and link messages of a partition it stops, the completion records, and the MSI it sends. -/
def Parts.faultReach : Parts :=
  { regs := true, mem := true, bays := true, waitWrites := true, cmd := true, pegs := true, safety := true, fc := true, sealU := true, twin := true, imsic := true }

/-- What a fault of a hand processor can reach: beside that of a report, the substitution of a bay whose plumb run it ends. -/
def Parts.handReach : Parts := { Parts.faultReach with repair := true }

/-- The parts of the device that each command may change; no command changes another part, the plumb ROM, the golden words or
the queue. -/
def footprint : Instr → Parts
  | .registerWrite _ _ _ _ | .hartAccess _ _ _ _ _ | .wrstNReset | .crpRstCtrlWarm _ _ | .crpRstCtrlApp _ _
  | .bootMapAndGrade =>
    { Parts.handReach with staging := true, latches := true, bayMap := true, jointers := true, jmap := true, part := true, tb := true, boot := true, intake := true, gfx := true, disp := true, gw := true, aplic := true, reply := true, freeCtr := true }
  | .panelFetch _ _ | .add _ _ | .sub _ _ | .and _ _ | .or _ _ | .xor _ _ | .andn _ _ | .min _ _ | .max _ _ | .minu _ _
  | .maxu _ _ | .addi _ _ | .andi _ _ | .ori _ _ | .xori _ _ | .li _ _ | .sll _ _ | .srl _ _ | .sra _ _ | .ror _ _
  | .slli _ _ | .srli _ _ | .srai _ _ | .rori _ _ | .extu _ _ | .exts _ _ | .ins _ _ | .mul _ _ | .mulh _ _ | .mulhu _ _
  | .div _ _ | .divu _ _ | .rem _ _ | .remu _ _ | .seq _ _ | .sne _ _ | .slt _ _ | .sltu _ _ | .sel _ _ | .vext _ _
  | .vins _ _ | .ktos _ _ | .ktosh _ _ | .stok _ _ | .popc _ _ | .clz _ _ | .ctz _ _ | .beq _ _ | .bne _ _ | .blt _ _
  | .bge _ _ | .bltu _ _ | .bgeu _ _ | .bra _ _ | .jal _ _ | .jr _ _ | .loop _ _ | .waitq _ _ | .fence _ _ | .trap _ _
  | .endP _ _ | .nop _ _ | .vadd _ _ | .vsub _ _ | .vmul _ _ | .vmin _ _ | .vmax _ _ | .vdiv _ _ | .vsqrt _ _
  | .vabs _ _ | .vneg _ _ | .vfma _ _ | .vfms _ _ | .vfnma _ _ | .vfnms _ _ | .vceq _ _ | .vcne _ _ | .vclt _ _
  | .vcle _ _ | .vcgt _ _ | .vcge _ _ | .vcvt _ _ | .viadd _ _ | .visub _ _ | .vimul _ _ | .vimin _ _ | .vimax _ _
  | .vand _ _ | .vor _ _ | .vxor _ _ | .vsll _ _ | .vsrl _ _ | .vsra _ _ | .vbcast _ _ | .vperm _ _ | .vsel _ _
  | .vmov _ _ | .kand _ _ | .kor _ _ | .kxor _ _ | .knot _ _ | .kpop _ _ | .vrsum _ _ | .vrmax _ _ | .vrmin _ _
  | .vrisum _ _ | .mloadw _ _ | .mloadwComplete _ _ | .mstream _ _ | .mstreamComplete _ _ | .mdrain _ _ | .mclear _ _
  | .mxferStore _ _ | .mxferAdd _ _ | .mxferLoad _ _ | .mstat _ _ | .ld _ _ | .lds _ _ | .vld _ _ | .copy _ _
  | .scopy _ _ | .dld _ _ | .pref _ _ | .jgather _ _ | .jscato _ _ | .jscatu _ _ | .jsegpack _ _ | .jcompact _ _
  | .jsort _ _ | .jhparto _ _ | .jhpartu _ _ | .jisect _ _ | .jtopk _ _ | .jstat _ _ | .jwait _ _ | .padd _ _
  | .pset _ _ | .parrive _ _ | .pwait _ _ | .pwany _ _ | .pegWaitRelease _ | .tread _ _ | .twait _ _ | .pcount _ _
  | .ptarget _ _ | .pstamp _ _ | .mfsr _ _ | .mtsr _ _ | .plbfold _ _ | .plbgold _ _ | .jobEnd _ | .bayFence _ _
  | .bayHang _ | .bayDomainFault _ | .patrolRowTest _ _ _ | .gatedRelease _ | .clockMonitorWindow _ _ | .repairCommit
  | .repairBurnComplete _ | .trussLaneRetire _ | .mdrainComplete _ _ | .mxferComplete _ _ | .mclearComplete _ _ =>
    Parts.handReach
  | .jobFaultStop _ | .batchChildFetch _ | .jobComplete _ | .partitionConfigRecord | .partitionConfigRegions
  | .partitionConfigWheels | .kerfOverrun _ | .ageEvent _ | .ageGap _ | .dinSample _ _ _ | .voltageExcursion _ _
  | .temperatureSample _ | .lockstepMismatch _ | .islandBistStep _ | .safeWdog | .faultClearCritical | .safeStateExit
  | .keyRevoke | .accordOverrideRejoin | .gradeLock | .trussTraining _ _ | .trussTrainingComplete | .flitReceive _
  | .flitNak _ | .mailboxRequestTake _ | .fwVersion _ | .collCreate _ | .pegSignal _ | .messagePost _ | .plumbStatus _
  | .repairList _ | .collContributionTake _ _ | .collResultWrite _ | .collComplete _ | .keyRevokeComplete _
  | .rejoinTimeout =>
    Parts.faultReach
  | .st _ _ | .vst _ _ | .dst _ _ | .dmaTransferComplete _ _ | .plbdone _ _ | .beatStart _ | .kerfEntryStart _
  | .restoreComplete _ =>
    { Parts.handReach with part := true }
  | .jointerCommandComplete _ _ | .saveComplete _ =>
    { Parts.handReach with part := true, freeCtr := true }
  | .twaitReached _ | .bayClockGate _ =>
    { bays := true }
  | .submitJob _ _ _ | .submitBatch _ _ _ | .submitRegionSwap _ _ _ | .submitPlaneFlip _ _ _ =>
    { Parts.faultReach with staging := true, reply := true }
  | .ticketRead _ _ | .dowelQuery _ _ _ | .dowelCancel _ _ _ | .dowelRelease _ _ _ | .pegCountWrite _ _ _
  | .pegAddWrite _ _ _ | .pegStatusClear _ _ | .partCtrlLock _ _ | .safetyKick _ _ | .safetyCtrlRun _
  | .safetyPstopRelease _ _ | .safetySwraise _ _ | .safetySrcPendClear _ _ | .dispAuxGo _ _ _ | .mailboxDoorbell _ _ _
  | .crpBayClkReq _ _ =>
    { Parts.faultReach with reply := true }
  | .jobStart _ =>
    { Parts.handReach with gfx := true }
  | .regionUpdateTakeEffect _ | .regionSwapApply _ _ | .partitionConfigApply _ | .partCheck | .tableScan
  | .wheelSlotStart _ _ | .plumbOverdue _ | .plumbPeriodOverdue _ =>
    { Parts.faultReach with part := true }
  | .resourceZeroingDone _ _ =>
    { mem := true, bays := true, part := true }
  | .kerfDrainComplete _ =>
    { bays := true, cmd := true, safety := true }
  | .girtWindowStart =>
    { regs := true, part := true, imsic := true }
  | .girtGrant _ _ =>
    { regs := true, part := true }
  | .retirementPoint _ =>
    { Parts.handReach with bayMap := true }
  | .jobReplay _ =>
    { regs := true, bays := true, cmd := true, pegs := true, fc := true, gfx := true, twin := true }
  | .sparePeriodicPlumb _ | .plumbScheduledStart _ | .plumbGatedStart _ =>
    { bays := true, safety := true }
  | .jointerHang _ =>
    { Parts.handReach with bayMap := true, jointers := true, jmap := true }
  | .faultPhaseBoundary | .voltageReturn _ =>
    { safety := true }
  | .tbDomainLoss _ | .unsealedStepApply _ | .timeForceStep | .forceStepApply | .accordOverrideLeave | .accordReceive
  | .heartbeatLoss | .timeFlitReceive =>
    { Parts.faultReach with tb := true }
  | .tbDomSync _ _ | .tbDomDrop _ _ | .tbCtrlSel _ _ | .tbDomStep _ _ _ | .tbTsRecordPop _ _ _ | .tcapHeadRead _ _
  | .tpulseArm _ _ =>
    { Parts.faultReach with tb := true, reply := true }
  | .bridgeDecayStep | .tcapAged _ | .tpulseWidthEnd _ =>
    { tb := true }
  | .wrap | .half | .tcapEdge _ _ =>
    { regs := true, tb := true, imsic := true }
  | .tpulseFire _ =>
    { regs := true, tb := true }
  | .csiFrameStart _ _ _ _ =>
    { Parts.faultReach with intake := true }
  | .csiFrameEnd _ _ _ =>
    { regs := true, intake := true }
  | .csiLongPacket _ _ _ _ _ _ | .frameCloseComplete _ =>
    { Parts.faultReach with intake := true, freeCtr := true }
  | .csiEmbeddedPacket _ _ _ _ =>
    { regs := true, intake := true, freeCtr := true }
  | .csiFrameTimeout _ =>
    { intake := true }
  | .intakeCtxDisable _ _ =>
    { Parts.faultReach with intake := true, reply := true }
  | .gfxBind _ | .gfxPacketReturn _ | .gfxTileWriteout =>
    { Parts.faultReach with gfx := true, freeCtr := true }
  | .gfxPacketIssue =>
    { Parts.faultReach with gfx := true }
  | .gfxFragmentRetire =>
    { gfx := true }
  | .fillerJobStart _ =>
    { bays := true, cmd := true }
  | .verticalBlanking _ | .outputWatchMissing _ =>
    { Parts.faultReach with disp := true }
  | .displayLineUnderrun _ _ _ =>
    { regs := true, disp := true }
  | .outputWatchSignature _ =>
    { Parts.faultReach with disp := true, freeCtr := true }
  | .auxTransactionDone _ _ _ | .hpdEvent _ _ _ | .canBusoffRecovery _ | .pixelPllLock _ | .fabricControllerStart
  | .rootPllLockTimeout | .rootPllLockLoss | .pixelPllLockLoss _ | .canBusError _ _ _ | .portLinkChange _ _
  | .ulpsEntry _ | .ulpsExit _ | .deskewSequence _ | .hsBurstStart _ | .hsBurstEnd _ =>
    { regs := true }
  | .ethernetFrameReceive _ _ =>
    { Parts.faultReach with tb := true, gw := true, freeCtr := true }
  | .canFrameReceive _ _ | .hostFrameProcess _ | .gwRuleLoadCommit =>
    { Parts.faultReach with gw := true }
  | .gwTxCmd _ _ _ =>
    { Parts.faultReach with staging := true, gw := true, reply := true }
  | .gwRxHeadRead _ _ | .gwRuleLoadGo _ _ | .tasCommit _ _ _ =>
    { Parts.faultReach with gw := true, reply := true }
  | .egressFrameSend _ =>
    { regs := true, tb := true, gw := true }
  | .gateEntryStart _ =>
    { gw := true }
  | .gateListTakeover _ | .canFrameTransmit _ =>
    { regs := true, gw := true }
  | .supWrite _ | .sealFrameTake =>
    { Parts.faultReach with gw := true, freeCtr := true }
  | .supRead _ =>
    { sealU := true }
  | .sealSwCtrl _ _ =>
    { Parts.faultReach with gw := true, reply := true, freeCtr := true }
  | .scribeEnable | .scribeDriverEnable | .firmwareAccept _ =>
    { Parts.faultReach with boot := true }
  | .scribePatternStart =>
    { safety := true, boot := true }
  | .identityReport | .statusQuery | .resultQuery =>
    { regs := true, gw := true, sealU := true, freeCtr := true }
  | .flitWrite =>
    { regs := true, mem := true, bays := true, waitWrites := true, cmd := true, pegs := true, safety := true, twin := true }
  | .flitRead | .flitRdata | .accordSend | .heartbeatSend =>
    { twin := true }
  | .flitControl =>
    { Parts.faultReach with part := true, tb := true }
  | .flitRetryLimit | .heartbeatReceive =>
    { regs := true, twin := true }
  | .timeFlitSend =>
    { tb := true, twin := true }
  | .spanningJobStart _ =>
    { regs := true, bays := true, cmd := true, gfx := true }
  | .bayClockStep | .throttleStepFaster =>
    { regs := true, safety := true }
  | .throttleStepSlower | .dramTrainingDone _ _ | .bootImagesVerified _ _ | .appHartRelease =>
    { regs := true, boot := true }
  | .crpPixFrac _ _ _ =>
    { Parts.faultReach with boot := true, reply := true }
  | .powerOnReset _ _ _ _ =>
    { Parts.handReach with staging := true, latches := true, bayMap := true, jointers := true, jmap := true, part := true, tb := true, boot := true, intake := true, gfx := true, disp := true, gw := true, aplic := true, reply := true }
  | .rootPllLock =>
    { regs := true, boot := true, freeCtr := true }
  | .memoryBistDone _ _ =>
    { Parts.handReach with boot := true }
  | .appImageVerified _ =>
    { regs := true, mem := true, boot := true }
  | .bayBistDone _ _ =>
    { regs := true, safety := true, repair := true }
  | .extest _ | .samplePreload _ _ | .clamp _ | .highz _ | .islandLoad _ _ | .debug | .lifecycle _ | .bypass | .tapReset =>
    { boot := true }
  | .idcode =>
    { boot := true, reply := true }
  | .fuseProg _ =>
    { boot := true, repair := true }
  | .keyProg _ _ _ _ =>
    { regs := true, boot := true, sealU := true }
  | .registerRead _ _ _ =>
    { Parts.faultReach with latches := true, tb := true, gw := true, reply := true, freeCtr := true }
  | .firmwareAcceptDone _ =>
    { Parts.faultReach with boot := true, freeCtr := true }

/-- The instruction `w` of operation `o` is the next to issue in context `h`, and has no ILLEGAL cause (R205). -/
structure CanIssue (s : State) (h : Hand) (o : Op) (w : Word64) : Prop where
  bay : h.pb < bayCount
  next : issuable s h o w = true
  legal : illegalOf h o (handGet s h) w = none

end Sys2Proof.Machine
end

