-- ==== Sys2Proof/Safety/Terms.lean ====
section
/-!
DEFINITION. The terms in which the statements say what a command leaves: the register files of a hand context after a write, and
the next state of a command.
-/

namespace Sys2Proof.Machine

/-! What an instruction leaves in the registers of its context. -/

/-- Context `h` holds the registers `r` and stands at the next instruction (R177); all else is as in `s`. -/
def afterRegs (s : State) (h : Hand) (r : HandRegs) : State :=
  handMod s h (fun c => { c with regs := r, pc := nextPc c.pc })

/-- Context `h` holds the registers `r` and stands at address `a`; all else is as in `s`. -/
def jumpedTo (s : State) (h : Hand) (a : Addr) (r : HandRegs) : State :=
  handMod s h (fun c => { c with regs := r, pc := a })

/-- `r'` is `r` with `x` written to s[i]; s[0] reads 0 whatever is written to it (R181). -/
structure WroteS (r r' : HandRegs) (i : Nat) (x : Word64) : Prop where
  value : r'.getS i = if i = 0 then 0 else x
  others : ∀ j, j ≠ i → r'.getS j = r.getS j
  rest : { r' with s := r.s } = r

/-- `r'` is `r` with lane `k` of v[i] written with `g k`, for lanes of `w` bits, and the flags `f` raised (R160). -/
structure WroteV (r r' : HandRegs) (i w : Nat) (g : Nat → Nat) (f : FFlags) : Prop where
  lanes : ∀ k, k < laneCount w → lane (r'.getV i) w k = g k
  others : ∀ j, j ≠ i → r'.getV j = r.getV j
  flags : r'.flags = { r.flags with sticky := r.flags.sticky.or f }
  rest : { r' with v := r.v, flags := r.flags } = r

/-- `r'` is `r` with bit `k` of k[i] written with `g k`, and the flags `f` raised. -/
structure WroteK (r r' : HandRegs) (i : Nat) (g : Nat → Bool) (f : FFlags) : Prop where
  bits : ∀ k, k < 128 → (r'.getK i).getLsbD k = g k
  others : ∀ j, j ≠ i → r'.getK j = r.getK j
  flags : r'.flags = { r.flags with sticky := r.flags.sticky.or f }
  rest : { r' with k := r.k, flags := r.flags } = r

/-- `r'` is `r` with D[i] written. -/
structure WroteD (r r' : HandRegs) (i : Nat) (x : Desc) : Prop where
  value : r'.getD i = x
  others : ∀ j, j ≠ i → r'.getD j = r.getD j
  rest : { r' with d := r.d } = r

/-- The flags that the lanes that take part raise: each sticky flag that one of them raises. -/
def laneFlags (n : Nat) (takesPart : Nat → Bool) (f : Nat → FFlags) : FFlags :=
  ((List.range n).filter takesPart).foldl (fun acc i => acc.or (f i)) {}

/-- The lane that a vector instruction leaves: the result where lane `i` takes part, else what v[RD] held (R219). -/
def laneOr (w : Word64) (r : HandRegs) (n : Nat) (g : Nat → Nat) (i : Nat) : Nat :=
  if active w r i then g i % 2 ^ n else lane (r.getV (R3.rd w)) n i

/-- R228: the reduction of `2 ^ d` lanes from lane `i` on, by the fixed tree: level by level, the left half first. -/
def treeOf {α : Type} (op : α → α → α) (t : Nat → α) : Nat → Nat → α
  | 0, i => t i
  | d + 1, i => op (treeOf op t d (2 * i)) (treeOf op t d (2 * i + 1))

/-- The own-store offset and size of an access that the hand processor may make at once: it lies whole in the window of its own bay,
it is aligned, it lies in the context's range, and no earlier queued access of those bytes is outstanding (R73, R74, R186). -/
def ownAccess (s : State) (h : Hand) (a n al : Nat) (write : Bool) (off : Nat) : Prop :=
  ownOff (ownNum s h.pb) a n = some off ∧ a % al = 0 ∧ storeFloor s h ≤ off ∧ storeBusy s h.pb off n write = false


/-! What commands leave. -/

/-- The state with the latest ticket of submit window `w` replaced: the value `v` for `n` slots, not yet read (R298, R299). -/
def ticketed (w v n : Nat) (s : State) : State :=
  { s with cmd := { s.cmd with tickets := tabPut {} s.cmd.tickets w { ticket := BitVec.ofNat 32 v, count := n, seen := false } } }

/-- The state in which the next child of a batch has been passed to the fetch (R310). -/
def batchNext (b : Batch) (s : State) : State :=
  { s with cmd := { s.cmd with
      batches := (s.cmd.batches.map (fun x => if x.base = b.base then { x with next := x.next + 1 } else x)).filter
        (fun x => decide (x.next < x.count)) } }

/-- An accepted sealed command of code `c` waits for its effect. -/
def sealedWaits (s : State) (c : Nat) (x : SealCmd) : Prop := s.sealU.accepted = some x ∧ leAt x.frame.bytes 1 1 = c

/-- The state in which the accepted sealed command has been taken. -/
def sealedTaken (s : State) : State := { s with sealU := { s.sealU with accepted := none } }

/-- The oldest flit that waits for its effect is `f`, of type `typ`, and `t` follow it. -/
def flitWaits (s : State) (typ : Nat) (f : Flit) (t : List Flit) : Prop := s.twin.rx = f :: t ∧ f.typ = typ

/-- The state in which the oldest flit has been taken and `t` wait. -/
def flitTaken (s : State) (t : List Flit) : State := { s with twin := { s.twin with rx := t } }

/-- The request of type `typ` that firmware has taken from mailbox `m`. -/
def requestTaken (s : State) (m typ : Nat) (l : List Byte) : Prop := reqOf s m = l ∧ l ≠ [] ∧ leAt l 2 2 = typ

end Sys2Proof.Machine
end

