-- ==== Sys2Proof/Certificates/Slice0/Obligations.lean ====
section
/-!
DEFINITION. The statements of this row for the provers.
-/

open Sys2Proof Sys2Proof.Machine

/-! ## The machine -/

/-- A step with a command at the front of the queue is the effect of that command on the state whose queue is the rest. -/
def Obligations.StepRunsTheFrontCommand : Prop :=
  ∀ (c : Instr) (rest : List Instr) (s : State), step { s with pending := c :: rest } = exec c { s with pending := rest }

/-- R503–R509 (that a step with no command waiting is one tick of CLK_TB is the model's choice, log entry 1): each domain advances by
4 ns and RATE × 2^−32 ns, the tick counter by one, and elapsed time by what working time advances; nothing outside the timebase
changes. -/
def Obligations.EmptyQueueTicks : Prop :=
  ∀ s : State, s.pending = [] → s.tb.follow = none →
    let units : Dom → Int := fun d => (d.time : Int) * 2 ^ 32 + d.frac
    ∃ t, step s = .next t ∧ t.tb.ticks = s.tb.ticks + 1 ∧
      units t.tb.a = (units s.tb.a + 4 * 2 ^ 32 + (regGet s (Reg.TB_DOM_RATE 0)).toInt) % 2 ^ 64 ∧
      units t.tb.b = (units s.tb.b + 4 * 2 ^ 32 + (regGet s (Reg.TB_DOM_RATE 1)).toInt) % 2 ^ 64 ∧
      t.tb.elapsed = s.tb.elapsed + (workTime t + 2 ^ 32 - workTime s) % 2 ^ 32 ∧ { t with tb := s.tb } = s

/-- R33, R64, R105, R305, R328, R421, R488 and the reset values of chapter 2: right after cold reset release the registers hold
their reset values, every bay is IDLE, every dowel slot FREE, every peg 0, no logical number is mapped, time is 0, both FAULT pins
are low, no command waits, and memory is in its canonical form. That DRAM and the stores read 0 is the model's choice, log
entry 2. -/
def Obligations.ResetState : Prop :=
  (∀ a, regGet State.reset a = regReset a) ∧ (∀ pb, (bayGet State.reset pb).st = .idle) ∧ (∀ k, (dowelGet State.reset k).st = .free) ∧
    (∀ n, pegGet State.reset n = {}) ∧ (∀ n, lbPhys State.reset n = none) ∧ workTime State.reset = 0 ∧ State.reset.tb.elapsed = 0 ∧
    State.reset.tb.ticks = 0 ∧ State.reset.safety.fault0 = false ∧ State.reset.safety.fault1 = false ∧ State.reset.safety.run = false ∧
    State.reset.safety.stopped = 0 ∧ (∀ a, memByte State.reset a = 0) ∧ (∀ pb k, tabGet 0 (bayGet State.reset pb).store k = 0) ∧
    State.reset.pending = [] ∧ Memory.wf State.reset.mem = true

/-- Every step keeps the memory in its canonical form: addresses strictly rising, no entry for a byte that reads 0. -/
def Obligations.StepKeepsMemoryCanonical : Prop :=
  ∀ s t : State, Memory.wf s.mem = true → step s = .next t → Memory.wf t.mem = true

/-- No command changes a part of the device outside its footprint: every register, memory byte, bay, dowel, peg and unit that the
footprint of the command does not name is as before, and so are the plumb ROM, the golden words and the rest of the queue. -/
def Obligations.CommandStaysInFootprint : Prop :=
  ∀ (c : Instr) (s t : State), exec c s = .next t → Within (footprint c) s t

/-- R26, R96: bytes written to DRAM, to the loft or to the store of a bay that does not wait read back, and every other byte of
memory reads as before. -/
def Obligations.MemoryReadAfterWrite : Prop :=
  ∀ (s : State) (a : Addr) (l : List Byte), l ≠ [] →
    (homeOf s a l.length = .dram ∨ homeOf s a l.length = .loft →
      ∀ x, memByte (devWrite s a l) x = if a ≤ x ∧ x < a + l.length then l.getD (x - a) 0 else memByte s x) ∧
    (∀ b off pb, homeOf s a l.length = .store b off → lbPhys s b = some pb → (bayGet s pb).st.windowWaits = false →
      (∀ x, tabGet 0 (bayGet (devWrite s a l) pb).store x =
        if off ≤ x ∧ x < off + l.length then l.getD (x - off) 0 else tabGet 0 (bayGet s pb).store x) ∧
      (∀ q, q ≠ pb → bayGet (devWrite s a l) q = bayGet s q) ∧ (devWrite s a l).mem = s.mem)

/-- A command that names a unit that the device does not have stops, under its name (the model's choice, log entry 3: nothing could
send such a command). -/
def Obligations.AbsentUnitStops : Prop :=
  ∀ (s : State) (n a b : Nat) (x y : Bool) (v : Word32),
    (36 ≤ n → ∀ i ∈ ([.bayFence n a, .bayHang n, .bayDomainFault n, .kerfDrainComplete n, .kerfOverrun n, .saveComplete n,
      .restoreComplete n, .sparePeriodicPlumb n, .plumbScheduledStart n, .bayClockGate n, .patrolRowTest false n x] : List Instr),
      exec i s = .fault .absentUnit) ∧
    (8 ≤ n → ∀ i ∈ ([.dowelQuery a n v, .dowelCancel a n v, .dowelRelease a n v, .partCtrlLock a n, .beatStart n, .kerfEntryStart n,
      .plumbOverdue n, .safetyPstopRelease a n, .gwTxCmd a n v, .hostFrameProcess n, .gwRxHeadRead a n, .canFrameTransmit n,
      .canBusoffRecovery n, .canBusError n x y, .tpulseArm a n, .tpulseFire n, .tpulseWidthEnd n] : List Instr),
      exec i s = .fault .absentUnit) ∧
    (64 ≤ n → ∀ i ∈ ([.ticketRead a n, .submitJob a n b, .submitBatch a n b, .submitRegionSwap a n b, .submitPlaneFlip a n b,
      .retirementPoint n, .ageEvent n, .ageGap n, .plumbPeriodOverdue n, .gfxPacketReturn n] : List Instr), exec i s = .fault .absentUnit) ∧
    (2048 ≤ n → ∀ i ∈ ([.pegCountWrite a n v, .pegAddWrite a n v, .pegStatusClear a n] : List Instr), exec i s = .fault .absentUnit)

/-! ## Penyca: the scalar instructions -/

/-- R156, R181, R221: an R3 scalar instruction that issues writes its result to s[RD], raises no flag, and moves to the next
instruction; nothing else changes. -/
def Obligations.ScalarThreeRegisterResult : Prop :=
  ∀ (s : State) (h : Hand) (w : Word64),
    ∀ x ∈ ([(.add, .add, fun a b => a + b), (.sub, .sub, fun a b => a - b), (.and, .and, fun a b => a &&& b),
        (.or, .or, fun a b => a ||| b), (.xor, .xor, fun a b => a ^^^ b), (.andn, .andn, fun a b => a &&& ~~~b),
        (.min, .min, fun a b => if a.slt b then a else b), (.max, .max, fun a b => if a.slt b then b else a),
        (.minu, .minu, fun a b => if a < b then a else b), (.maxu, .maxu, fun a b => if a < b then b else a),
        (.sll, .sll, fun a b => a <<< (b.toNat % 64)), (.srl, .srl, fun a b => a >>> (b.toNat % 64)),
        (.sra, .sra, fun a b => a.sshiftRight (b.toNat % 64)), (.ror, .ror, fun a b => a.rotateRight (b.toNat % 64)),
        (.mul, .mul, fun a b => a * b),
        (.mulh, .mulh, fun a b => ((a.signExtend 128 * b.signExtend 128) >>> 64).truncate 64),
        (.mulhu, .mulhu, fun a b => ((a.zeroExtend 128 * b.zeroExtend 128) >>> 64).truncate 64),
        (.seq, .seq, fun a b => if a = b then 1 else 0), (.sne, .sne, fun a b => if a = b then 0 else 1),
        (.slt, .slt, fun a b => if a.slt b then 1 else 0), (.sltu, .sltu, fun a b => if a < b then 1 else 0)] :
        List (Op × (Hand → Word64 → Instr) × (Word64 → Word64 → Word64))),
      CanIssue s h x.1 w →
      ∃ r', exec (x.2.1 h w) s = .next (afterRegs s h r') ∧
        WroteS (handGet s h).regs r' (R3.rd w)
          (x.2.2 ((handGet s h).regs.getS (R3.ra w)) ((handGet s h).regs.getS (R3.rb w)))

/-- R222: division and remainder, with the results that the manual states for a zero divisor and for −2^63 by −1. -/
def Obligations.DivisionResult : Prop :=
  ∀ (s : State) (h : Hand) (w : Word64),
    ∀ x ∈ ([(.div, .div, fun a b => if b = 0 then 0xFFFFFFFFFFFFFFFF else if a = 2 ^ 63 ∧ b = -1 then 2 ^ 63 else a.sdiv b),
        (.divu, .divu, fun a b => if b = 0 then 0xFFFFFFFFFFFFFFFF else a.udiv b),
        (.rem, .rem, fun a b => if b = 0 then a else if a = 2 ^ 63 ∧ b = -1 then 0 else a.srem b),
        (.remu, .remu, fun a b => if b = 0 then a else a.umod b)] :
        List (Op × (Hand → Word64 → Instr) × (Word64 → Word64 → Word64))),
      CanIssue s h x.1 w →
      ∃ r', exec (x.2.1 h w) s = .next (afterRegs s h r') ∧
        WroteS (handGet s h).regs r' (R3.rd w)
          (x.2.2 ((handGet s h).regs.getS (R3.ra w)) ((handGet s h).regs.getS (R3.rb w)))

/-- R156, R221: an immediate scalar instruction writes its result to s[RD] and moves to the next instruction; a field
instruction takes its position from IMM32[5:0] and its length from IMM32[13:8] + 1. -/
def Obligations.ScalarImmediateResult : Prop :=
  ∀ (s : State) (h : Hand) (w : Word64),
    (∀ x ∈ ([(.addi, .addi, fun a i => a + i.signExtend 64), (.andi, .andi, fun a i => a &&& i.signExtend 64),
        (.ori, .ori, fun a i => a ||| i.signExtend 64), (.xori, .xori, fun a i => a ^^^ i.signExtend 64),
        (.slli, .slli, fun a i => a <<< (i.toNat % 64)), (.srli, .srli, fun a i => a >>> (i.toNat % 64)),
        (.srai, .srai, fun a i => a.sshiftRight (i.toNat % 64)), (.rori, .rori, fun a i => a.rotateRight (i.toNat % 64)),
        (.extu, .extu, fun a i => (a >>> (i.toNat % 64)) &&& (BitVec.allOnes 64 >>> (63 - i.toNat / 256 % 64))),
        (.exts, .exts, fun a i =>
          (a <<< (63 - (i.toNat % 64 + i.toNat / 256 % 64))).sshiftRight (63 - i.toNat / 256 % 64))] :
        List (Op × (Hand → Word64 → Instr) × (Word64 → BitVec 32 → Word64))),
      CanIssue s h x.1 w →
      ∃ r', exec (x.2.1 h w) s = .next (afterRegs s h r') ∧
        WroteS (handGet s h).regs r' (RI.rd w) (x.2.2 ((handGet s h).regs.getS (RI.ra w)) (w.extractLsb' 0 32))) ∧
    (CanIssue s h .li w →
      ∃ r', exec (.li h w) s = .next (afterRegs s h r') ∧
        WroteS (handGet s h).regs r' (LI.rd w) ((w.extractLsb' 0 48).zeroExtend 64)) ∧
    (CanIssue s h .ins w →
      ∃ r' x, exec (.ins h w) s = .next (afterRegs s h r') ∧ WroteS (handGet s h).regs r' (RI.rd w) x ∧
        ∀ k, k < 64 → x.getLsbD k =
          if RI.pos w ≤ k ∧ k < RI.pos w + RI.len w then ((handGet s h).regs.getS (RI.ra w)).getLsbD (k - RI.pos w)
          else ((handGet s h).regs.getS (RI.rd w)).getLsbD k)

/-- R156, R223: the scalar select, the moves between scalars, vector lanes and masks, and the bit counts. -/
def Obligations.ScalarMoveResult : Prop :=
  ∀ (s : State) (h : Hand) (w : Word64),
    (∀ x ∈ ([(.sel, .sel, fun r => if r.getS (R3.rc w) = 0 then r.getS (R3.rb w) else r.getS (R3.ra w)),
        (.vext, .vext, fun r =>
          let n := (R3.fmt w).width
          let v := lane (r.getV (R3.ra w)) n ((r.getS (R3.rb w)).toNat % (512 / n))
          BitVec.ofInt 64 (if (R3.fmt w).isInt ∧ 2 ^ (n - 1) ≤ v then (v : Int) - 2 ^ n else v)),
        (.ktos, .ktos, fun r => (r.getK (R3.ra w)).extractLsb' 0 64),
        (.ktosh, .ktosh, fun r => (r.getK (R3.ra w)).extractLsb' 64 64),
        (.popc, .popc, fun r => ((List.range 64).filter (r.getS (R3.ra w)).getLsbD).length),
        (.clz, .clz, fun r => ((List.range 64).filter (fun k => decide ((r.getS (R3.ra w)).toNat < 2 ^ (63 - k)))).length),
        (.ctz, .ctz, fun r => ((List.range 64).filter (fun k => decide ((r.getS (R3.ra w)).toNat % 2 ^ (k + 1) = 0))).length),
        (.kpop, .kpop, fun r =>
          ((List.range (laneCount (R3.fmt w).width)).filter (r.getK (R3.ra w)).getLsbD).length)] :
        List (Op × (Hand → Word64 → Instr) × (HandRegs → Word64))),
      CanIssue s h x.1 w →
      ∃ r', exec (x.2.1 h w) s = .next (afterRegs s h r') ∧
        WroteS (handGet s h).regs r' (R3.rd w) (x.2.2 (handGet s h).regs)) ∧
    (CanIssue s h .stok w →
      ∃ r', exec (.stok h w) s = .next (afterRegs s h r') ∧
        WroteK (handGet s h).regs r' (R3.rd w) (fun k =>
          if k < 64 then ((handGet s h).regs.getS (R3.ra w)).getLsbD k
          else ((handGet s h).regs.getS (R3.rb w)).getLsbD (k - 64)) {}) ∧
    (CanIssue s h .vins w →
      ∃ r', exec (.vins h w) s = .next (afterRegs s h r') ∧
        WroteV (handGet s h).regs r' (R3.rd w) (R3.fmt w).width (fun k =>
          if k = ((handGet s h).regs.getS (R3.rb w)).toNat % laneCount (R3.fmt w).width
          then ((handGet s h).regs.getS (R3.ra w)).toNat % 2 ^ (R3.fmt w).width
          else lane ((handGet s h).regs.getV (R3.rd w)) (R3.fmt w).width k) {})

/-! ## Penyca: control -/

/-- R178, R180, R205: a conditional branch that issues goes to its target when its condition holds, and to the next instruction
when it does not; BRA always goes. The target is counted in instructions, seven to a panel; one out of range raises FETCH 0x04. -/
def Obligations.BranchTarget : Prop :=
  ∀ (s : State) (h : Hand) (w : Word64),
    ∀ x ∈ ([(.beq, .beq, fun a b => decide (a = b)), (.bne, .bne, fun a b => decide (a ≠ b)),
        (.blt, .blt, fun a b => a.slt b), (.bge, .bge, fun a b => !a.slt b), (.bltu, .bltu, fun a b => decide (a < b)),
        (.bgeu, .bgeu, fun a b => decide (b ≤ a)), (.bra, .bra, fun _ _ => true)] :
        List (Op × (Hand → Word64 → Instr) × (Word64 → Word64 → Bool))),
      CanIssue s h x.1 w →
      let c := handGet s h
      let pc : Int := c.pc
      let t := pc % 64 / 8 + (w.extractLsb' 0 32).toInt
      let target := pc - pc % 64 + 64 * (t / 7) + 8 * (t % 7)
      (x.2.2 (c.regs.getS (BR.ra w)) (c.regs.getS (BR.rb w)) = false →
        exec (x.2.1 h w) s = .next (afterRegs s h c.regs)) ∧
      (x.2.2 (c.regs.getS (BR.ra w)) (c.regs.getS (BR.rb w)) = true →
        (0 ≤ target ∧ target ≤ 0xFFFFFFFFFFC0 ∧ ((bayGet s h.pb).st = .plumb → target ≤ 0x7FF) →
          exec (x.2.1 h w) s = .next (jumpedTo s h target.toNat c.regs)) ∧
        (target < 0 ∨ 0xFFFFFFFFFFC0 < target ∨ ((bayGet s h.pb).st = .plumb ∧ 0x7FF < target) →
          exec (x.2.1 h w) s = .next (preciseFault h 0x404 s)))

/-- R179, R224: JAL and JR write the address of the following instruction to s[RD], after JR has read its target; JR with an
invalid target raises FETCH 0x03, and a target out of range FETCH 0x04 (R180), with no other effect. -/
def Obligations.JumpAndLink : Prop :=
  ∀ (s : State) (h : Hand) (w : Word64),
    let c := handGet s h
    let pc : Int := c.pc
    let t := pc % 64 / 8 + (w.extractLsb' 0 32).toInt
    let target := pc - pc % 64 + 64 * (t / 7) + 8 * (t % 7)
    let x := c.regs.getS (BR.ra w)
    (CanIssue s h .jal w → 0 ≤ target → target ≤ 0xFFFFFFFFFFC0 → ((bayGet s h.pb).st = .plumb → target ≤ 0x7FF) →
      ∃ r', exec (.jal h w) s = .next (jumpedTo s h target.toNat r') ∧
        WroteS c.regs r' (BR.rd w) (BitVec.ofNat 64 (nextPc c.pc))) ∧
    (CanIssue s h .jal w → target < 0 ∨ 0xFFFFFFFFFFC0 < target ∨ ((bayGet s h.pb).st = .plumb ∧ 0x7FF < target) →
      exec (.jal h w) s = .next (preciseFault h 0x404 s)) ∧
    (CanIssue s h .jr w → x.toNat < 2 ^ 48 → x.toNat % 8 = 0 → x.toNat / 8 % 8 ≠ 7 → x.toNat ≤ 0xFFFFFFFFFFC0 →
      ((bayGet s h.pb).st = .plumb → x.toNat ≤ 0x7FF) →
      ∃ r', exec (.jr h w) s = .next (jumpedTo s h x.toNat r') ∧
        WroteS c.regs r' (BR.rd w) (BitVec.ofNat 64 (nextPc c.pc))) ∧
    (CanIssue s h .jr w → 2 ^ 48 ≤ x.toNat ∨ x.toNat % 8 ≠ 0 ∨ x.toNat / 8 % 8 = 7 →
      exec (.jr h w) s = .next (preciseFault h 0x403 s)) ∧
    (CanIssue s h .jr w → x.toNat < 2 ^ 48 → x.toNat % 8 = 0 → x.toNat / 8 % 8 ≠ 7 →
      0xFFFFFFFFFFC0 < x.toNat ∨ ((bayGet s h.pb).st = .plumb ∧ 0x7FF < x.toNat) → exec (.jr h w) s = .next (preciseFault h 0x404 s))

/-- R225: LOOP leaves a zero counter at 0 and does not branch; otherwise the counter falls by 1 and LOOP branches if the result
is nonzero. That the counter keeps its value where the target is out of range (R180) is the model's reading. -/
def Obligations.LoopCounts : Prop :=
  ∀ (s : State) (h : Hand) (w : Word64), CanIssue s h .loop w →
    let c := handGet s h
    let pc : Int := c.pc
    let t := pc % 64 / 8 + (w.extractLsb' 0 32).toInt
    let target := pc - pc % 64 + 64 * (t / 7) + 8 * (t % 7)
    let v := c.regs.getS (BR.rd w)
    (v = 0 → exec (.loop h w) s = .next (afterRegs s h c.regs)) ∧
    (v = 1 → ∃ r', exec (.loop h w) s = .next (afterRegs s h r') ∧ WroteS c.regs r' (BR.rd w) 0) ∧
    (v ≠ 0 → v ≠ 1 → 0 ≤ target → target ≤ 0xFFFFFFFFFFC0 → ((bayGet s h.pb).st = .plumb → target ≤ 0x7FF) →
      ∃ r', exec (.loop h w) s = .next (jumpedTo s h target.toNat r') ∧ WroteS c.regs r' (BR.rd w) (v - 1)) ∧
    (v ≠ 0 → v ≠ 1 → target < 0 ∨ 0xFFFFFFFFFFC0 < target ∨ ((bayGet s h.pb).st = .plumb ∧ 0x7FF < target) →
      exec (.loop h w) s = .next (preciseFault h 0x404 s))

/-- R192, R193, R217 and the control instructions: WAITQ moves on when the queues that its mask names are empty and otherwise
stalls; FENCE moves on when no earlier write beyond the own store is pending and otherwise stalls; NOP moves on; TRAP raises TRAP
with its code. -/
def Obligations.WaitFenceTrapNop : Prop :=
  ∀ (s : State) (h : Hand) (w : Word64),
    let b := bayGet s h.pb
    let clear := (w.getLsbD 0 = true → b.matrixQ = []) ∧ (w.getLsbD 1 = true → b.dmaQ = []) ∧ (w.getLsbD 2 = true → b.jointerQ = [])
    (CanIssue s h .waitq w → clear → exec (.waitq h w) s = .next (afterRegs s h (handGet s h).regs)) ∧
    (CanIssue s h .waitq w → ¬clear → exec (.waitq h w) s = .next s) ∧
    (CanIssue s h .fence w → (∀ e ∈ b.matrixQ ++ b.dmaQ ++ b.jointerQ, e.writesBeyond (ownNum s h.pb) = false) →
      exec (.fence h w) s = .next (afterRegs s h (handGet s h).regs)) ∧
    (CanIssue s h .fence w → (∃ e ∈ b.matrixQ ++ b.dmaQ ++ b.jointerQ, e.writesBeyond (ownNum s h.pb) = true) →
      exec (.fence h w) s = .next s) ∧
    (CanIssue s h .nop w → exec (.nop h w) s = .next (afterRegs s h (handGet s h).regs)) ∧
    (CanIssue s h .trap w → exec (.trap h w) s = .next (preciseFault h (0xA00 + (w.extractLsb' 0 8).toNat) s))

/-! ## Penyca: the vector, mask and reduction instructions -/

/-- R151, R152, R153, R157, R160, R219: each lane that takes part receives the operation's exact result rounded once under RM into
the lane format, and raises its flags; a lane that takes no part keeps its bits and raises none. -/
def Obligations.VectorFloatResult : Prop :=
  ∀ (s : State) (h : Hand) (w : Word64),
    ∀ x ∈ ([(.vadd, .vadd, fun m a b _ => addExact m a b), (.vsub, .vsub, fun m a b _ => addExact m a b.neg),
        (.vmul, .vmul, fun _ a b _ => mulExact a b), (.vmin, .vmin, fun _ a b _ => minMaxExact false a b),
        (.vmax, .vmax, fun _ a b _ => minMaxExact true a b), (.vdiv, .vdiv, fun _ a b _ => divExact a b),
        (.vsqrt, .vsqrt, fun _ a _ _ => sqrtExact a),
        (.vabs, .vabs, fun _ a _ _ =>
          match a with | .nan g => ⟨.nan false, { nv := g }⟩ | .inf _ => ⟨.inf false, {}⟩ | .fin _ m e => ⟨.fin false m e, {}⟩),
        (.vneg, .vneg, fun _ a _ _ =>
          match a with | .nan g => ⟨.nan false, { nv := g }⟩ | .inf n => ⟨.inf !n, {}⟩ | .fin n m e => ⟨.fin (!n) m e, {}⟩),
        (.vfma, .vfma, fun m a b c => fmaExact m a b c), (.vfms, .vfms, fun m a b c => fmaExact m a b c.neg),
        (.vfnma, .vfnma, fun m a b c => fmaExact m a.neg b c), (.vfnms, .vfnms, fun m a b c => fmaExact m a.neg b c.neg)] :
        List (Op × (Hand → Word64 → Instr) × (RMode → FVal → FVal → FVal → FExact))),
      CanIssue s h x.1 w →
      let r := (handGet s h).regs
      let f := R3.fmt w
      let res := fun i => f.finish (R3.rm w) false r.flags.ftz
        (x.2.2 (R3.rm w) (fpLane w r (R3.ra w) i) (fpLane w r (R3.rb w) i) (fpLane w r (R3.rc w) i))
      ∃ r', exec (x.2.1 h w) s = .next (afterRegs s h r') ∧
        WroteV r r' (R3.rd w) f.width (laneOr w r f.width (fun i => (res i).bits))
          (laneFlags (laneCount f.width) (active w r) (fun i => (res i).flags))

/-- R151, R146: a number that the lane format represents is delivered as itself, in every rounding mode, and raises no flag. -/
def Obligations.RepresentableIsDelivered : Prop :=
  ∀ (f : Fmt) (m : RMode) (sat : Bool) (x : Nat), f.isInt = false → f ≠ .bf16x → x < 2 ^ f.width →
    (f.decode x).isNaN = false → f.finish m sat false { val := f.decode x } = { bits := x }

/-- R152, R154, R157, R181, R219: a comparison writes one mask bit for each lane that takes part, keeps the bit of a lane that
takes none, and clears the bits above the lane count. An ordered comparison raises invalid for any NaN, equality and inequality
for a signalling one alone. -/
def Obligations.VectorCompareResult : Prop :=
  ∀ (s : State) (h : Hand) (w : Word64),
    ∀ x ∈ ([(.vceq, .vceq, false, fun c => c == some 0), (.vcne, .vcne, false, fun c => c != some 0),
        (.vclt, .vclt, true, fun c => c == some (-1)), (.vcle, .vcle, true, fun c => c == some (-1) || c == some 0),
        (.vcgt, .vcgt, true, fun c => c == some 1), (.vcge, .vcge, true, fun c => c == some 1 || c == some 0)] :
        List (Op × (Hand → Word64 → Instr) × Bool × (Option Int → Bool))),
      CanIssue s h x.1 w →
      let r := (handGet s h).regs
      let n := laneCount (R3.fmt w).width
      let a := fpLane w r (R3.ra w)
      let b := fpLane w r (R3.rb w)
      ∃ r', exec (x.2.1 h w) s = .next (afterRegs s h r') ∧
        WroteK r r' (R3.rd w)
          (fun k => decide (k < n) &&
            (if active w r k then x.2.2.2 ((a k).compare (b k)) else (r.getK (R3.rd w)).getLsbD k))
          (laneFlags n (active w r)
            (fun i => { nv := if x.2.2.1 then (a i).isNaN || (b i).isNaN else (a i).isSig || (b i).isSig }))

/-- R155, R157, R227: VCVT converts one segment. Narrowing, source element i goes to lane s × n + i, and the other lanes are kept;
widening, source lane s × n + i goes to lane i. The mask bit is that of the destination lane. -/
def Obligations.VectorConvertResult : Prop :=
  ∀ (s : State) (h : Hand) (w : Word64), CanIssue s h .vcvt w →
    let r := (handGet s h).regs
    let a := R3.srcFmt w
    let b := R3.fmt w
    let n := 512 / max a.width b.width
    let seg := fnOf w
    let v := r.getV (R3.ra w)
    let conv := fun k =>
      let x := a.decodeFtz r.flags.ftz (lane v a.width k)
      b.finish (R3.rm w) (R3.sat w) r.flags.ftz { val := x, flags := { nv := x.isSig } }
    (b.width < a.width →
      let part := fun k => decide (seg * n ≤ k ∧ k < seg * n + n) && active w r k
      ∃ r', exec (.vcvt h w) s = .next (afterRegs s h r') ∧
        WroteV r r' (R3.rd w) b.width
          (fun k => if part k then (conv (k - seg * n)).bits % 2 ^ b.width else lane (r.getV (R3.rd w)) b.width k)
          (laneFlags (laneCount b.width) part (fun k => (conv (k - seg * n)).flags))) ∧
    (a.width ≤ b.width →
      ∃ r', exec (.vcvt h w) s = .next (afterRegs s h r') ∧
        WroteV r r' (R3.rd w) b.width
          (fun k => if active w r k then (conv (seg * n + k)).bits % 2 ^ b.width else lane (r.getV (R3.rd w)) b.width k)
          (laneFlags n (active w r) (fun k => (conv (seg * n + k)).flags)))

/-- R156, R219: vector integer arithmetic is on signed lanes and wraps modulo 2^n, or saturates where the instruction says so; the
bitwise operations and shifts act on the lane patterns. No flag is raised. -/
def Obligations.VectorIntegerResult : Prop :=
  ∀ (s : State) (h : Hand) (w : Word64),
    let r := (handGet s h).regs
    let n := (R3.fmt w).width
    let a := lane (r.getV (R3.ra w)) n
    let b := lane (r.getV (R3.rb w)) n
    let sg : Nat → Int := fun x => if 2 ^ (n - 1) ≤ x then (x : Int) - 2 ^ n else x
    (∀ x ∈ ([(.viadd, .viadd, fun a b => a + b), (.visub, .visub, fun a b => a - b), (.vimul, .vimul, fun a b => a * b),
        (.vimin, .vimin, fun a b => min a b), (.vimax, .vimax, fun a b => max a b)] :
        List (Op × (Hand → Word64 → Instr) × (Int → Int → Int))),
      CanIssue s h x.1 w →
      let y := fun k =>
        let v := x.2.2 (sg (a k)) (sg (b k))
        if R3.sat w then max (-2 ^ (n - 1)) (min (2 ^ (n - 1) - 1) v) else v
      ∃ r', exec (x.2.1 h w) s = .next (afterRegs s h r') ∧
        WroteV r r' (R3.rd w) n (laneOr w r n (fun k => (y k % 2 ^ n).toNat)) {}) ∧
    (∀ x ∈ ([(.vand, .vand, fun a b => a &&& b), (.vor, .vor, fun a b => a ||| b), (.vxor, .vxor, fun a b => a ^^^ b),
        (.vsll, .vsll, fun a b => a * 2 ^ (b % n)), (.vsrl, .vsrl, fun a b => a / 2 ^ (b % n)),
        (.vsra, .vsra, fun a b => (sg a / 2 ^ (b % n) % 2 ^ n).toNat)] :
        List (Op × (Hand → Word64 → Instr) × (Nat → Nat → Nat))),
      CanIssue s h x.1 w →
      ∃ r', exec (x.2.1 h w) s = .next (afterRegs s h r') ∧
        WroteV r r' (R3.rd w) n (laneOr w r n (fun k => x.2.2 (a k) (b k))) {})

/-- R219, R223, R248: broadcast, permutation, selection and copy of vector lanes, and the mask operations over all 128 bits. -/
def Obligations.VectorMoveResult : Prop :=
  ∀ (s : State) (h : Hand) (w : Word64),
    let r := (handGet s h).regs
    let n := (R3.fmt w).width
    let a := lane (r.getV (R3.ra w)) n
    let b := lane (r.getV (R3.rb w)) n
    (∀ x ∈ ([(.vbcast, .vbcast, laneOr w r n (fun _ => (r.getS (R3.ra w)).toNat)),
        (.vperm, .vperm, laneOr w r n (fun k => a (b k % (512 / n)))),
        (.vsel, .vsel, fun k => if (r.getK (R3.km w)).getLsbD k then a k else b k), (.vmov, .vmov, laneOr w r n a)] :
        List (Op × (Hand → Word64 → Instr) × (Nat → Nat))),
      CanIssue s h x.1 w →
      ∃ r', exec (x.2.1 h w) s = .next (afterRegs s h r') ∧ WroteV r r' (R3.rd w) n x.2.2 {}) ∧
    (∀ x ∈ ([(.kand, .kand, fun a b => a && b), (.kor, .kor, fun a b => a || b), (.kxor, .kxor, fun a b => a ^^ b),
        (.knot, .knot, fun a _ => !a)] : List (Op × (Hand → Word64 → Instr) × (Bool → Bool → Bool))),
      CanIssue s h x.1 w →
      ∃ r', exec (x.2.1 h w) s = .next (afterRegs s h r') ∧
        WroteK r r' (R3.rd w)
          (fun k => x.2.2 ((r.getK (R3.ra w)).getLsbD k) ((r.getK (R3.rb w)).getLsbD k)) {})

/-- R228: a reduction leaves its result in lane 0 of v[RD] and clears every other lane. The lanes are combined by the fixed tree,
each combination rounded once; a masked-off lane enters as +0 in a sum and as the default NaN in a minimum or maximum. -/
def Obligations.ReductionResult : Prop :=
  ∀ (s : State) (h : Hand) (w : Word64),
    let r := (handGet s h).regs
    let f := R3.fmt w
    let n := f.width
    let depth := Nat.log2 (laneCount n)
    let a := fun i => lane (r.getV (R3.ra w)) n i
    (∀ x ∈ ([(.vrsum, .vrsum, addExact, 0), (.vrmax, .vrmax, fun _ => minMaxExact true, f.defaultNaN),
        (.vrmin, .vrmin, fun _ => minMaxExact false, f.defaultNaN)] :
        List (Op × (Hand → Word64 → Instr) × (RMode → FVal → FVal → FExact) × Nat)),
      CanIssue s h x.1 w →
      let join : FRes → FRes → FRes := fun u v =>
        let y := f.finish (R3.rm w) false r.flags.ftz
          (x.2.2.1 (R3.rm w) (f.decodeFtz r.flags.ftz u.bits) (f.decodeFtz r.flags.ftz v.bits))
        { bits := y.bits, flags := (u.flags.or v.flags).or y.flags }
      let z := treeOf join (fun i => { bits := if active w r i then a i else x.2.2.2 }) depth 0
      ∃ r', exec (x.2.1 h w) s = .next (afterRegs s h r') ∧
        r'.getV (R3.rd w) = BitVec.ofNat 512 z.bits ∧ (∀ j, j ≠ R3.rd w → r'.getV j = r.getV j) ∧
        r'.flags = { r.flags with sticky := r.flags.sticky.or z.flags } ∧ { r' with v := r.v, flags := r.flags } = r) ∧
    (CanIssue s h .vrisum w →
      ∃ r', exec (.vrisum h w) s = .next (afterRegs s h r') ∧
        r'.getV (R3.rd w) =
          BitVec.ofNat 512 ((((List.range (laneCount n)).filter (active w r)).map a).sum % 2 ^ n) ∧
        (∀ j, j ≠ R3.rd w → r'.getV j = r.getV j) ∧ { r' with v := r.v } = r)

/-! ## Penyca: queued instructions -/

/-- R184, R185, R218: a queued instruction that issues stalls while its queue is full; when a check fails it raises the lowest
code among the failures and enters no queue; otherwise it enters its queue last, with copies of its descriptor registers, and the
context moves on with its registers unchanged. -/
def Obligations.QueuedInstructionIssue : Prop :=
  ∀ (s : State) (h : Hand) (w : Word64),
    let r := (handGet s h).regs
    let rs := r.getS (MX.rs w)
    let ra := r.getS (Q.ra w)
    let rb := r.getS (Q.rb w)
    ∀ x ∈ ([(.matrix, .mloadw, .mloadw, (mloadwCodes s h w, s)), (.matrix, .mstream, .mstream, (mstreamCodes s h w rs, s)),
        (.matrix, .mdrain, .mdrain, (mdrainCodes s h w rs, s)), (.matrix, .mclear, .mclear, (mclearCodes s h w, s)),
        (.matrix, .mxferStore, .mxferStore, (mxferCodes .mxferStore s h w, s)),
        (.matrix, .mxferAdd, .mxferAdd, (mxferCodes .mxferAdd s h w, s)),
        (.matrix, .mxferLoad, .mxferLoad, (mxferCodes .mxferLoad s h w, s)),
        (.dma, .copy, .copy, copyCheck h w ra.toNat rb.toNat s), (.dma, .scopy, .scopy, scopyCheck false h w s),
        (.dma, .pref, .pref, scopyCheck true h w s),
        (.jointer, .jgather, .jgather, jointerCodes .jgather h w rb.toNat s), (.jointer, .jscato, .jscato, jointerCodes .jscato h w rb.toNat s),
        (.jointer, .jscatu, .jscatu, jointerCodes .jscatu h w rb.toNat s), (.jointer, .jsegpack, .jsegpack, jointerCodes .jsegpack h w rb.toNat s),
        (.jointer, .jcompact, .jcompact, jointerCodes .jcompact h w rb.toNat s), (.jointer, .jsort, .jsort, jointerCodes .jsort h w rb.toNat s),
        (.jointer, .jhparto, .jhparto, jointerCodes .jhparto h w rb.toNat s), (.jointer, .jhpartu, .jhpartu, jointerCodes .jhpartu h w rb.toNat s),
        (.jointer, .jisect, .jisect, jointerCodes .jisect h w rb.toNat s), (.jointer, .jtopk, .jtopk, jointerCodes .jtopk h w rb.toNat s)] :
        List (QKind × Op × (Hand → Word64 → Instr) × List Nat × State)),
      CanIssue s h x.2.1 w →
      (x.1.depth ≤ ((bayGet s h.pb).queue x.1).length → exec (x.2.2.1 h w) s = .next s) ∧
      (((bayGet s h.pb).queue x.1).length < x.1.depth →
        (∀ c ∈ x.2.2.2.1, (∀ c' ∈ x.2.2.2.1, c ≤ c') → exec (x.2.2.1 h w) s = .next (preciseFault h c x.2.2.2.2)) ∧
        (x.2.2.2.1 = [] → bayGet x.2.2.2.2 h.pb = bayGet s h.pb →
          ∃ t, exec (x.2.2.1 h w) s = .next t ∧
            ((bayGet t h.pb).queue x.1).map (fun e => (e.seq, e.word, e.filler, e.descs)) =
              ((bayGet s h.pb).queue x.1).map (fun e => (e.seq, e.word, e.filler, e.descs)) ++
                [((bayGet s h.pb).nextSeq, w, h.filler, r.d)] ∧
            (bayGet t h.pb).nextSeq = (bayGet s h.pb).nextSeq + 1 ∧
            (handGet t h).regs = r ∧ (handGet t h).pc = nextPc (handGet s h).pc))

/-- R77, R81, R100, R234: what the completion of a matrix instruction leaves in the array before its entry leaves the queue: a
weight load fills its slot from the own store and clears STALE; a stream adds its rows to the columns of its set; a clear zeroes its
set; a transfer replaces the set from its images, or writes the images and leaves the set. Nothing outside the bay changes. -/
def Obligations.MatrixCompletion : Prop :=
  ∀ (s : State) (pb seq : Nat) (e : QEntry), pb < bayCount → runningEntry s pb .matrix seq = some e →
    let w := e.word
    let n := ownNum s pb
    let d := tabGet 0 e.descs (MX.da w)
    (issuesAs w = .mloadw → ∀ off, ownOff n (Desc.base d) (Desc.extent d) = some off →
      ∃ t, exec (.mloadwComplete pb seq) s = .next (retireEntry .matrix pb seq t) ∧
        (let sl := tabGet {} (bayGet t pb).slots (MX.w w)
         sl.loaded = true ∧ sl.stale = false ∧ sl.src = off ∧ sl.tile = (bayGet s pb).storeRead off (Desc.extent d)) ∧
        (∀ k, k ≠ MX.w w → tabGet {} (bayGet t pb).slots k = tabGet {} (bayGet s pb).slots k) ∧
        (bayGet t pb).store = (bayGet s pb).store ∧ (bayGet t pb).sills = (bayGet s pb).sills ∧
        (∀ q, q ≠ pb → bayGet t q = bayGet s q)) ∧
    (issuesAs w = .mstream → e.stale = true →
      exec (.mstreamComplete pb seq) s =
        .next (retireEntry .matrix pb seq (takeFault raise { pb := pb, filler := e.filler } 0x601 1 e.pc s))) ∧
    (issuesAs w = .mstream → e.stale = false → MX.line w = false →
      let rows := (List.range (Desc.rows d)).map (descRow s pb d)
      let col := fun (k : Nat) => rows.foldl (fun c row => addRow sillInRange (MX.format w) row (slotTiles (bayGet s pb) w) k c)
        { sill := sillGet s pb (MX.a w) k }
      (∀ k, k < 128 → (col k).failed = false) →
      ∃ t, exec (.mstreamComplete pb seq) s = .next (retireEntry .matrix pb seq t) ∧
        (∀ k, k < 128 → sillGet t pb (MX.a w) k = (col k).sill) ∧
        (∀ a k, a ≠ MX.a w → k < 128 → sillGet t pb a k = sillGet s pb a k) ∧
        (bayGet t pb).store = (bayGet s pb).store ∧ (∀ q, q ≠ pb → bayGet t q = bayGet s q)) ∧
    (issuesAs w = .mclear → MX.line w = false →
      ∃ t, exec (.mclearComplete pb seq) s = .next (retireEntry .matrix pb seq t) ∧
        (∀ k, k < 128 → sillGet t pb (MX.a w) k = {}) ∧
        (∀ a k, a ≠ MX.a w → k < 128 → sillGet t pb a k = sillGet s pb a k) ∧
        (bayGet t pb).store = (bayGet s pb).store ∧ (∀ q, q ≠ pb → bayGet t q = bayGet s q)) ∧
    (issuesAs w = .mxferLoad →
      ∃ t, exec (.mxferComplete pb seq) s = .next (retireEntry .matrix pb seq t) ∧
        (∀ k, k < 128 → sillGet t pb (MX.a w) k = sillOfImage (descRow s pb d k)) ∧
        (∀ a k, a ≠ MX.a w → k < 128 → sillGet t pb a k = sillGet s pb a k) ∧
        (bayGet t pb).store = (bayGet s pb).store ∧ (∀ q, q ≠ pb → bayGet t q = bayGet s q)) ∧
    (issuesAs w = .mdrain → MX.line w = false → MX.clear w = true → ∀ off, ownOff n (Desc.base d) (drainRowBytes (MX.format w)) = some off →
      ∃ t, exec (.mdrainComplete pb seq) s = .next (retireEntry .matrix pb seq t) ∧
        (bayGet t pb).storeRead off (drainRowBytes (MX.format w)) =
          (drainRow (MX.format w) w (scaleOf s pb w e.ra) ((List.range 128).map (sillGet s pb (MX.a w)))).1 ∧
        (∀ k, k < 128 → sillGet t pb (MX.a w) k = {}) ∧ (∀ q, q ≠ pb → bayGet t q = bayGet s q))

/-- R124, R128, R132, R232: in every format but windowed BF16 a stream adds to a sill the exact sum of the products of its rows, so
the order of the rows does not change what the sill holds, as long as no promotion leaves the range. -/
def Obligations.ExactStreamSum : Prop :=
  ∀ (f : Fmt) (n : Nat) (tiles : List (List Byte)) (rows : List (List Byte)) (c : ColState), f ≠ .bf16 → c.failed = false →
    let amount := fun (row : List Byte) => ((rowProds f row tiles n).map (fun p => sillUnits p.neg p.m p.e)).sum
    let z := rows.foldl (fun c row => addRow sillInRange f row tiles n c) c
    (z.failed = false → z.sill.val = c.sill.val + (rows.map amount).sum) ∧
    (∀ rows' : List (List Byte), rows'.Perm rows →
      let z' := rows'.foldl (fun c row => addRow sillInRange f row tiles n c) c
      z.failed = false → z'.failed = false → z'.sill = z.sill)

/-- R195, R237: a COPY within the own store that completes leaves in its destination the bytes that its source held, changes no
other byte of the store and no other bay, and its entry leaves the queue. R259: when a jointer command ends without a fault, its
writes stand and its entry leaves the queue. -/
def Obligations.CopyAndJointerCommandsComplete : Prop :=
  (∀ (s : State) (pb seq : Nat) (e : QEntry) (n o1 o2 : Nat), pb < bayCount → runningEntry s pb .dma seq = some e →
    issuesAs e.word = .copy → pbLogical s pb = some n → Q.pe e.word = false →
    ownOff n e.ra.toNat (64 * Q.opt e.word) = some o1 → ownOff n e.rb.toNat (64 * Q.opt e.word) = some o2 →
    ∃ t, exec (.dmaTransferComplete pb seq) s = .next (retireEntry .dma pb seq t) ∧
      (∀ k, tabGet 0 (bayGet t pb).store k =
        if o2 ≤ k ∧ k < o2 + 64 * Q.opt e.word then tabGet 0 (bayGet s pb).store (k - o2 + o1) else tabGet 0 (bayGet s pb).store k) ∧
      (∀ q, q ≠ pb → bayGet t q = bayGet s q) ∧ t.mem = s.mem ∧ t.pegs = s.pegs) ∧
  (∀ (s : State) (pb seq : Nat) (e : QEntry) (t : State), pb < bayCount → runningEntry s pb .jointer seq = some e →
    rowsWait s pb (jointerRanges s pb seq) = false → runJointer { pb := pb, filler := e.filler } e s = (t, none) →
    exec (.jointerCommandComplete pb seq) s = .next (retireEntry .jointer pb seq t) ∧
    (∀ x ∈ (bayGet (retireEntry .jointer pb seq t) pb).jointerQ, x.seq ≠ seq))

/-- R235, R252: MSTAT and JSTAT sample the queues of the bay at issue; JWAIT moves on when at most OPT[4:0] jointer commands are
queued or outstanding, and otherwise stalls. -/
def Obligations.QueueStatus : Prop :=
  ∀ (s : State) (h : Hand) (w : Word64),
    let b := bayGet s h.pb
    (CanIssue s h .mstat w →
      ∃ r', exec (.mstat h w) s = .next (afterRegs s h r') ∧
        WroteS (handGet s h).regs r' (MX.rs w)
          (BitVec.ofNat 64 (b.matrixQ.length * 2 ^ 24 + (if b.matrixQ.any (·.started) then 2 ^ 20 else 0) + baySlots b))) ∧
    (CanIssue s h .jstat w →
      ∃ r', exec (.jstat h w) s = .next (afterRegs s h r') ∧
        WroteS (handGet s h).regs r' (Q.ra w) (BitVec.ofNat 64 b.jointerQ.length)) ∧
    (CanIssue s h .jwait w →
      exec (.jwait h w) s = .next (if b.jointerQ.length ≤ w.toNat % 32 then afterRegs s h (handGet s h).regs else s))

/-! ## Penyca: loads and stores -/

/-- R74, R191: a load from the own store writes its destination with the bytes at its address, zero-extended or sign-extended, and
changes no memory; a misaligned access is a MEMORY fault. -/
def Obligations.LoadResult : Prop :=
  ∀ (s : State) (h : Hand) (w : Word64) (off : Nat),
    let a := ((handGet s h).regs.getS (MEM.ra w) + (w.extractLsb' 0 32).signExtend 64).toNat
    let n := 2 ^ MEM.sz w
    let at_ := fun k => tabGet 0 (bayGet s h.pb).store (off + k)
    (∀ x ∈ ([(.ld, .ld, fun v => BitVec.ofNat 64 v), (.lds, .lds, fun v => BitVec.ofInt 64 (if 2 ^ (8 * n - 1) ≤ v then (v : Int) - 2 ^ (8 * n) else v))] :
        List (Op × (Hand → Word64 → Instr) × (Nat → Word64))),
      CanIssue s h x.1 w → ownAccess s h a n n false off →
      ∃ r', exec (x.2.1 h w) s = .next (afterRegs s h r') ∧
        WroteS (handGet s h).regs r' (MEM.rd w) (x.2.2 (leVal ((List.range n).map at_)))) ∧
    (CanIssue s h .vld w → ownAccess s h a n n false off →
      ∃ r', exec (.vld h w) s = .next (afterRegs s h r') ∧
        WroteV (handGet s h).regs r' (MEM.rd w) 8 (fun k =>
          if byteActive w (handGet s h).regs k then (if k < n then (at_ k).toNat else 0)
          else lane ((handGet s h).regs.getV (MEM.rd w)) 8 k) {}) ∧
    (CanIssue s h .dld w → ownAccess s h a 24 8 false off →
      ∃ r', exec (.dld h w) s = .next (afterRegs s h r') ∧
        WroteD (handGet s h).regs r' (MEM.rd w) (BitVec.ofNat 192 (leVal ((List.range 24).map at_)))) ∧
    (∀ x ∈ ([(.ld, .ld), (.lds, .lds), (.st, .st), (.vld, .vld), (.vst, .vst)] : List (Op × (Hand → Word64 → Instr))),
      CanIssue s h x.1 w → ownOff (ownNum s h.pb) a n = some off → a % n ≠ 0 →
      exec (x.2 h w) s = .next (preciseFault h 0x503 s))

/-- R79, R182, R191, R219, R236: a store to the own store changes the bytes that it names, but for those that a mask takes out, and
no other byte of the bay's store, no other bay, no other memory and no register of the context; the context moves on. -/
def Obligations.StoreResult : Prop :=
  ∀ (s : State) (h : Hand) (w : Word64) (off : Nat),
    let r := (handGet s h).regs
    let a := (r.getS (MEM.ra w) + (w.extractLsb' 0 32).signExtend 64).toNat
    ∀ x ∈ ([(.st, .st, 2 ^ MEM.sz w, 2 ^ MEM.sz w, fun k => (r.getS (MEM.rd w)).toNat / 256 ^ k, fun _ => true),
        (.vst, .vst, 2 ^ MEM.sz w, 2 ^ MEM.sz w, fun k => (r.getV (MEM.rd w)).toNat / 256 ^ k, byteActive w r),
        (.dst, .dst, 24, 8, fun k => (r.getD (MEM.rd w)).toNat / 256 ^ k, fun _ => true)] :
        List (Op × (Hand → Word64 → Instr) × Nat × Nat × (Nat → Nat) × (Nat → Bool))),
      CanIssue s h x.1 w → ownAccess s h a x.2.2.1 x.2.2.2.1 true off →
      ∃ t, exec (x.2.1 h w) s = .next t ∧
        (∀ k, tabGet 0 (bayGet t h.pb).store k =
          if off ≤ k ∧ k < off + x.2.2.1 ∧ x.2.2.2.2.2 (k - off) = true then BitVec.ofNat 8 (x.2.2.2.2.1 (k - off))
          else tabGet 0 (bayGet s h.pb).store k) ∧
        (∀ q, q ≠ h.pb → bayGet t q = bayGet s q) ∧ t.mem = s.mem ∧ t.pegs = s.pegs ∧
        (handGet t h).regs = r ∧ (handGet t h).pc = nextPc (handGet s h).pc

/-! ## Penyca: pegs, time and special registers -/

/-- R194, R207, R244, R328: PADD and PSET on a peg of the partition that is not poisoned, with no earlier write of the bay
outstanding, change the peg and stamp it with working time, and s[RD] takes the count; every other peg keeps its count. A peg
outside the partition's range is PEG 0x01. -/
def Obligations.PegSignalResult : Prop :=
  ∀ (s : State) (h : Hand) (w : Word64),
    let c := handGet s h
    let n := pgPeg w c.regs
    let v := pgValue w c.regs
    let p := pegGet s n
    (∀ x ∈ ([(.padd, .padd, min (p.count.toNat + v) 0xFFFFFFFF, p.sat || decide (0xFFFFFFFF < p.count.toNat + v)), (.pset, .pset, v, p.sat)] :
        List (Op × (Hand → Word64 → Instr) × Nat × Bool)),
      CanIssue s h x.1 w → ownsPeg s c.part n = true → writesPending s h.pb = false →
      ∃ t r', exec (x.2.1 h w) s = .next t ∧ (handGet t h).regs = r' ∧ (handGet t h).pc = nextPc c.pc ∧
        (p.poison = false → pegGet t n = { p with count := BitVec.ofNat 32 x.2.2.1, stamp := BitVec.ofNat 32 (workTime s), sat := x.2.2.2 }) ∧
        (p.poison = true → pegGet t n = p) ∧
        WroteS c.regs r' (PG.rd w) ((pegGet t n).count.zeroExtend 64) ∧ (∀ m, m ≠ n → pegGet t m = pegGet s m)) ∧
    (∀ x ∈ ([(.padd, .padd), (.pset, .pset), (.parrive, .parrive), (.pwait, .pwait), (.pcount, .pcount), (.ptarget, .ptarget),
        (.pstamp, .pstamp)] : List (Op × (Hand → Word64 → Instr))),
      CanIssue s h x.1 w → ownsPeg s c.part n = false → exec (x.2 h w) s = .next (preciseFault h 0x901 s))

/-- R240, R245, R328, R331: a wait that its peg satisfies completes as it issues, and otherwise the context waits; PARRIVE adds 1
first, once, and waits for the peg's target. R214, R330, R331: the release of a waiting context completes its wait with the value that
it was released with; a release by a poisoned peg is PEG 0x02. -/
def Obligations.PegWaitResult : Prop :=
  (∀ (s : State) (h : Hand) (w : Word64),
    let c := handGet s h
    let n := pgPeg w c.regs
    let v := pgValue w c.regs
    let p := pegGet s n
    (CanIssue s h .pwait w → ownsPeg s c.part n = true → p.poison = false →
      (v ≤ p.count.toNat → ∃ t, exec (.pwait h w) s = .next t ∧ WroteS c.regs (handGet t h).regs (PG.rd w) (p.count.zeroExtend 64) ∧
        (handGet t h).pc = nextPc c.pc ∧ (handGet t h).wait = .none ∧ t.pegs = s.pegs) ∧
      (p.count.toNat < v → exec (.pwait h w) s = .next (handMod s h (fun c => { c with wait := .pegs (PG.rd w) n 0 v false })))) ∧
    (CanIssue s h .pwany w → (∀ k, k ≤ PG.cnt w → ownsPeg s c.part (n + k) = true ∧ (pegGet s (n + k)).poison = false) →
      (∀ k, 0 < PG.cnt w → k ≤ PG.cnt w → v ≤ (pegGet s (n + k)).count.toNat → (∀ j, j < k → (pegGet s (n + j)).count.toNat < v) →
        ∃ t, exec (.pwany h w) s = .next t ∧ WroteS c.regs (handGet t h).regs (PG.rd w) (BitVec.ofNat 64 (n + k)) ∧
          (handGet t h).pc = nextPc c.pc ∧ (handGet t h).divcnt = c.divcnt + 1 ∧ t.pegs = s.pegs) ∧
      ((∀ k, k ≤ PG.cnt w → (pegGet s (n + k)).count.toNat < v) →
        exec (.pwany h w) s = .next (handMod s h (fun c => { c with wait := .pegs (PG.rd w) n (PG.cnt w) v true })))) ∧
    (CanIssue s h .parrive w → ownsPeg s c.part n = true → p.poison = false → writesPending s h.pb = false → c.arrived = false →
      ∃ t, exec (.parrive h w) s = .next t ∧ (pegGet t n).count.toNat = min (p.count.toNat + 1) 0xFFFFFFFF ∧
        (p.target.toNat ≤ min (p.count.toNat + 1) 0xFFFFFFFF →
          (handGet t h).pc = nextPc c.pc ∧ WroteS c.regs (handGet t h).regs (PG.rd w) ((pegGet t n).count.zeroExtend 64)) ∧
        (min (p.count.toNat + 1) 0xFFFFFFFF < p.target.toNat →
          (handGet t h).pc = c.pc ∧ (handGet t h).regs = c.regs ∧ (handGet t h).wait = .arrive (PG.rd w) n)) ∧
    (∀ x ∈ ([(.pcount, .pcount, p.count.zeroExtend 64 ||| (if p.poison then 0x100000000 else 0)), (.ptarget, .ptarget, p.target.zeroExtend 64),
        (.pstamp, .pstamp, p.stamp.zeroExtend 64)] : List (Op × (Hand → Word64 → Instr) × Word64)),
      CanIssue s h x.1 w → ownsPeg s c.part n = true →
      ∃ r', exec (x.2.1 h w) s = .next (afterRegs s h r') ∧ WroteS c.regs r' (PG.rd w) x.2.2)) ∧
  (∀ (s : State) (h : Hand), h.pb < bayCount →
    let c := handGet s h
    (∀ rd v, c.wait = .released rd v false →
      ∃ t, exec (.pegWaitRelease (.hand h)) s = .next t ∧ WroteS c.regs (handGet t h).regs rd v ∧
        (handGet t h).pc = nextPc c.pc ∧ (handGet t h).wait = .none) ∧
    (c.wait = .poisoned →
      exec (.pegWaitRelease (.hand h)) s = .next (preciseFault h 0x902 (handMod s h (fun c => { c with wait := .none })))))

/-- R197, R208, R241, R242, R508: TREAD reads working time; TWAIT completes at once when its target is not ahead of working time in
modular comparison (a distance of exactly 2^31, on which R241 and R508 differ, is log entry 12), and otherwise waits until it is
reached; MFSR reads the special registers; MTSR writes FLAGS. -/
def Obligations.TimeAndSpecialRegisters : Prop :=
  ∀ (s : State) (h : Hand) (w : Word64),
    let c := handGet s h
    let r := c.regs
    let target := (r.getS (PG.ra w)).toNat % 2 ^ 32
    (CanIssue s h .tread w →
      ∃ r', exec (.tread h w) s = .next (afterRegs s h r') ∧ WroteS r r' (PG.rd w) (BitVec.ofNat 64 (workTime s))) ∧
    (CanIssue s h .twait w →
      (2 ^ 31 < (target + 2 ^ 32 - workTime s % 2 ^ 32) % 2 ^ 32 ∨ target = workTime s % 2 ^ 32 → exec (.twait h w) s = .next (afterRegs s h r)) ∧
      (0 < (target + 2 ^ 32 - workTime s % 2 ^ 32) % 2 ^ 32 → (target + 2 ^ 32 - workTime s % 2 ^ 32) % 2 ^ 32 < 2 ^ 31 →
        exec (.twait h w) s = .next (handMod s h (fun c => { c with wait := .time target })))) ∧
    (h.pb < bayCount → ∀ t, c.wait = .time t → reached (workTime s) t = true →
      exec (.twaitReached h) s = .next (handMod s h (fun c => { c with wait := .none, pc := nextPc c.pc }))) ∧
    (CanIssue s h .mfsr w → (SY.sr w = 0 → flagsBusy s h = false) →
      ∃ r', exec (.mfsr h w) s = .next (afterRegs s h r') ∧
        WroteS r r' (SY.rd w) (match SY.sr w with
          | 0 => BitVec.ofNat 64 (r.flags.sticky.toBits + if r.flags.ftz then 256 else 0)
          | 1 => BitVec.ofNat 64 (workTime s) | 2 => BitVec.ofNat 64 (ownNum s h.pb) | 3 => BitVec.ofNat 64 c.divcnt
          | 4 => BitVec.ofNat 64 (pairGet s (Reg.BAY_PLUMBSIG (ownNum s h.pb))) | 5 => BitVec.ofNat 64 c.nbays
          | 6 => BitVec.ofNat 64 c.rank | 7 => BitVec.ofNat 64 c.args | 8 => BitVec.ofNat 64 c.progid
          | 9 => BitVec.ofNat 64 c.part | _ => BitVec.ofNat 64 c.handle)) ∧
    (CanIssue s h .mtsr w → flagsBusy s h = false →
      ∃ r', exec (.mtsr h w) s = .next (afterRegs s h r') ∧ { r' with flags := r.flags } = r ∧
        r'.flags.sticky.toBits = (r.getS (SY.ra w)).toNat % 64 ∧ r'.flags.ftz = (r.getS (SY.ra w)).getLsbD 8)

/-- R242, R459: PLBFOLD folds s[RA] into the plumb signature; PLBGOLD reads a golden word; PLBDONE with the golden signature records
the signature, ends the run and leaves the bay IDLE with its sills zero, and with another signature the bay is FENCED. -/
def Obligations.PlumbInstructions : Prop :=
  ∀ (s : State) (h : Hand) (w : Word64),
    let c := handGet s h
    (CanIssue s h .plbfold w →
      ∃ t, exec (.plbfold h w) s = .next t ∧ (handGet t h).plumbSig = c.plumbSig.rotateLeft 1 ^^^ c.regs.getS (SY.ra w) ∧
        (handGet t h).pc = nextPc c.pc ∧ (handGet t h).regs = c.regs) ∧
    (CanIssue s h .plbgold w →
      ∃ r', exec (.plbgold h w) s = .next (afterRegs s h r') ∧ WroteS c.regs r' (SY.rd w) (tabGet 0 s.golden (w.toNat % 4096))) ∧
    (∀ n, CanIssue s h .plbdone w → pbLogical s h.pb = some n →
      let s1 := pairPut s (Reg.BAY_PLUMBSIG n) c.plumbSig.toNat
      (c.plumbSig.toNat = pairGet s1 Reg.SAFETY_PLUMB_GOLD → s.waitWrites = [] →
        ∃ t, exec (.plbdone h w) s = .next t ∧ (bayGet t h.pb).st = .idle ∧ (bayGet t h.pb).sills = [] ∧
          pairGet t (Reg.BAY_PLUMBSIG n) = c.plumbSig.toNat) ∧
      (c.plumbSig.toNat ≠ pairGet s1 Reg.SAFETY_PLUMB_GOLD → exec (.plbdone h w) s = .next (plumbMismatch raise h.pb s1)))

/-- R44, R171, R172, R173: a panel that the hand processor needs and does not hold is fetched from the plumb ROM in a plumb run;
when its check word, its reserved bits and its program ID are good it enters the panel cache, and otherwise the first failure is the
fault. -/
def Obligations.PanelFetchVerifies : Prop :=
  ∀ (s : State) (h : Hand), h.pb < bayCount →
    let b := bayGet s h.pb
    let c := handGet s h
    let a := c.pc - c.pc % 64
    let p := (List.range 64).map (fun k => tabGet 0 s.plumbRom (a + k))
    let good := leAt p 60 4 = (crc32c (p.take 56 ++ leBytes 8 (a / 64))).toNat
    b.st = .plumb → issuing b c = true → tabGet [] b.cache a = [] → tabGet 0 b.badAhead a = 0 → a < 0x800 → c.progid = 0xFFFF →
      (good → leAt p 56 2 = 0 → leAt p 58 2 = 0xFFFF →
        ∃ t, exec (.panelFetch h false) s = .next t ∧ tabGet [] (bayGet t h.pb).cache a = p ∧ handGet t h = c) ∧
      (∃ t, (¬good → exec (.panelFetch h false) s = .next (takeFault raise h 0x201 0 a t)) ∧
        (good → leAt p 56 2 ≠ 0 → exec (.panelFetch h false) s = .next (takeFault raise h 0x202 0 a t)) ∧
        (good → leAt p 56 2 = 0 → leAt p 58 2 = 0 → exec (.panelFetch h false) s = .next (takeFault raise h 0x301 0 a t)) ∧
        (good → leAt p 56 2 = 0 → leAt p 58 2 ≠ 0 → leAt p 58 2 ≠ 0xFFFF →
          exec (.panelFetch h false) s = .next (takeFault raise h 0x302 0 a t)))

/-- R202, R203, R204: a Penyca fault of a job records its code, origin and place in BAY_FAULT and BAY_FAULT_PC of the logical bay when
none is recorded, gives the job the code of its lowest rank, and reports BAY_PROGRAM for the job's partition (BAY_ICHECK for an ICHECK or
PROGID fault); then the context stops. TRAP is such a fault on every path. -/
def Obligations.FaultEntryRecords : Prop :=
  ∀ (s : State) (h : Hand) (w : Word64) (n : Nat), CanIssue s h .trap w → (bayGet s h.pb).st = .running → pbLogical s h.pb = some n →
    regBit s (Reg.BAY_FAULT n) 31 = false →
    let c := handGet s h
    let code := 0xA00 + w.toNat % 256
    ∃ t, exec (.trap h w) s =
        .next (let u := raise 0x053 (some c.part) 0 t; if (handGet u h).active then stopHand u h else u) ∧
      regGet t (Reg.BAY_FAULT n) = BitVec.ofNat 32 (2 ^ 31 + code) ∧ pairGet t (Reg.BAY_FAULT_PC n) = c.pc % 2 ^ 48 ∧
      (handGet t h).faultCode = code ∧ (handGet t h).regs = c.regs ∧
      (∃ x, (dowelGet t (slotOf c.handle)).faultBy = some x ∧
        ((dowelGet s (slotOf c.handle)).faultBy = none → x = (c.rank, code)) ∧
        (∀ y, (dowelGet s (slotOf c.handle)).faultBy = some y → x = if c.rank < y.1 then (c.rank, code) else y))

/-- R205, R206: an instruction word with an ILLEGAL cause that is the next to issue raises ILLEGAL with the lowest subcode, whatever
the instruction, and has no other effect. -/
def Obligations.IllegalWordFaults : Prop :=
  ∀ (s : State) (h : Hand) (w : Word64) (k : Nat), h.pb < bayCount →
    ∀ x ∈ ([(.add, .add), (.sub, .sub), (.and, .and), (.or, .or), (.xor, .xor), (.andn, .andn), (.min, .min), (.max, .max),
        (.minu, .minu), (.maxu, .maxu), (.addi, .addi), (.andi, .andi), (.ori, .ori), (.xori, .xori), (.li, .li), (.sll,
        .sll), (.srl, .srl), (.sra, .sra), (.ror, .ror), (.slli, .slli), (.srli, .srli), (.srai, .srai), (.rori, .rori),
        (.extu, .extu), (.exts, .exts), (.ins, .ins), (.mul, .mul), (.mulh, .mulh), (.mulhu, .mulhu), (.div, .div), (.divu,
        .divu), (.rem, .rem), (.remu, .remu), (.seq, .seq), (.sne, .sne), (.slt, .slt), (.sltu, .sltu), (.sel, .sel), (.vext,
        .vext), (.vins, .vins), (.ktos, .ktos), (.ktosh, .ktosh), (.stok, .stok), (.popc, .popc), (.clz, .clz), (.ctz, .ctz),
        (.beq, .beq), (.bne, .bne), (.blt, .blt), (.bge, .bge), (.bltu, .bltu), (.bgeu, .bgeu), (.bra, .bra), (.jal, .jal),
        (.jr, .jr), (.loop, .loop), (.waitq, .waitq), (.fence, .fence), (.trap, .trap), (.endP, .endP), (.nop, .nop), (.vadd,
        .vadd), (.vsub, .vsub), (.vmul, .vmul), (.vmin, .vmin), (.vmax, .vmax), (.vdiv, .vdiv), (.vsqrt, .vsqrt), (.vabs,
        .vabs), (.vneg, .vneg), (.vfma, .vfma), (.vfms, .vfms), (.vfnma, .vfnma), (.vfnms, .vfnms), (.vceq, .vceq), (.vcne,
        .vcne), (.vclt, .vclt), (.vcle, .vcle), (.vcgt, .vcgt), (.vcge, .vcge), (.vcvt, .vcvt), (.viadd, .viadd), (.visub,
        .visub), (.vimul, .vimul), (.vimin, .vimin), (.vimax, .vimax), (.vand, .vand), (.vor, .vor), (.vxor, .vxor), (.vsll,
        .vsll), (.vsrl, .vsrl), (.vsra, .vsra), (.vbcast, .vbcast), (.vperm, .vperm), (.vsel, .vsel), (.vmov, .vmov), (.kand,
        .kand), (.kor, .kor), (.kxor, .kxor), (.knot, .knot), (.kpop, .kpop), (.vrsum, .vrsum), (.vrmax, .vrmax), (.vrmin,
        .vrmin), (.vrisum, .vrisum), (.mloadw, .mloadw), (.mstream, .mstream), (.mdrain, .mdrain), (.mclear, .mclear),
        (.mxferStore, .mxferStore), (.mxferAdd, .mxferAdd), (.mxferLoad, .mxferLoad), (.mstat, .mstat), (.ld, .ld), (.lds,
        .lds), (.st, .st), (.vld, .vld), (.vst, .vst), (.copy, .copy), (.scopy, .scopy), (.dld, .dld), (.dst, .dst), (.pref,
        .pref), (.jgather, .jgather), (.jscato, .jscato), (.jscatu, .jscatu), (.jsegpack, .jsegpack), (.jcompact, .jcompact),
        (.jsort, .jsort), (.jhparto, .jhparto), (.jhpartu, .jhpartu), (.jisect, .jisect), (.jtopk, .jtopk), (.jstat, .jstat),
        (.jwait, .jwait), (.padd, .padd), (.pset, .pset), (.parrive, .parrive), (.pwait, .pwait), (.pwany, .pwany), (.tread,
        .tread), (.twait, .twait), (.pcount, .pcount), (.ptarget, .ptarget), (.pstamp, .pstamp), (.mfsr, .mfsr), (.mtsr,
        .mtsr), (.plbfold, .plbfold), (.plbgold, .plbgold), (.plbdone, .plbdone)] :
        List (Op × (Hand → Word64 → Instr))),
      issuable s h x.1 w = true → illegalOf h x.1 (handGet s h) w = some k →
      exec (x.2 h w) s = .next (takeFault raise h (0x100 + k) 0 (handGet s h).pc s)

/-- R209, R105: END ends issue in its context, and a bay whose queues are empty leaves its job: with no other context resident it
becomes IDLE. -/
def Obligations.EndLeavesTheJob : Prop :=
  ∀ (s : State) (pb : Nat) (w : Word64),
    let h : Hand := { pb := pb }
    CanIssue s h .endP w →
    ((bayGet s pb).st = .running → (bayGet s pb).matrixQ = [] → (bayGet s pb).dmaQ = [] → (bayGet s pb).jointerQ = [] →
      (bayGet s pb).filler.active = false →
      ∃ t, exec (.endP h w) s = .next t ∧ (bayGet t pb).st = .idle ∧ (bayGet t pb).main.active = false ∧
        (bayGet t pb).main.ended = true ∧ (bayGet t pb).store = (bayGet s pb).store) ∧
    ((∃ e, e ∈ (bayGet s pb).matrixQ ++ (bayGet s pb).dmaQ ++ (bayGet s pb).jointerQ ∧ e.filler = false) →
      ∃ t, exec (.endP h w) s = .next t ∧ t = handMod s h (fun c => { c with ended := true }))

/-! ## The command processor -/

/-- R297–R301, R303, R304: the commit of a submission replaces the window's ticket, counts one that was not read, and decides the
descriptor by the tests of R300 in their order: the first that fails is the rejection code, it is counted, and a check word that
mismatches is reported. -/
def Obligations.SubmissionRejected : Prop :=
  ∀ (s : State) (init w addr p : Nat), w < 64 → reaches s init (Reg.CMDPROC_SUBMIT w) true = true → windowOwner s w = some p →
    ∀ x ∈ ([(.submitJob, fun k => decide (k < 2 ∨ 4 < k)), (.submitBatch, fun k => decide (k = 2)),
        (.submitRegionSwap, fun k => decide (k = 3)), (.submitPlaneFlip, fun k => decide (k = 4))] :
        List ((Nat → Nat → Nat → Instr) × (Nat → Bool))),
      x.2 (kindAt s addr) = true →
      let a := addr % 2 ^ 48
      let s0 := commitPair s (Reg.CMDPROC_SUBMIT w) a
      let q := readDesc (if (tabGet {} s.cmd.tickets w).seen then s0 else cntInc s0 (Reg.CMDPROC_WIN_LOST w)) p a
      let rejects := fun (c : Nat) (u : State) =>
        exec (x.1 init w addr) s = .next (ticketed w (0x80000000 + c) 0 (cntInc u (Reg.CMDPROC_REJECT_CNT p)))
      (q.1 = none → rejects (if a % 128 = 0 then 3 else 6) q.2) ∧
      (∀ d, q.1 = some d →
        let formatOk := dsFormatOk a d = true ∧ (dsKind d = 1 → leAt d 3 1 < recKclasses q.2 p)
        let n := if dsKind d = 2 then dsChildCount d else 1
        (checkOk d = false → rejects 1 (raise 0x057 (some p) 0 q.2)) ∧
        (checkOk d = true → ¬formatOk → rejects 6 q.2) ∧
        (checkOk d = true → formatOk → dsPartitionOk q.2 p d = false → rejects 3 q.2) ∧
        (checkOk d = true → formatOk → dsPartitionOk q.2 p d = true → deadlinePast q.2 d = true → rejects 4 q.2) ∧
        (checkOk d = true → formatOk → dsPartitionOk q.2 p d = true → deadlinePast q.2 d = false →
          (dowelQuota q.2 p < dowelsInUse q.2 p + n → rejects 2 q.2) ∧
          (dowelsInUse q.2 p + n ≤ dowelQuota q.2 p → freeRun q.2 n = none → rejects 5 q.2)))

/-- R296, R299, R302, R303, R310, R54, R55, R360, R596: an accepted descriptor returns the handle of its first slot; a job, or each
child of a batch, takes a QUEUED dowel of the next generation, and the request of a swap or a flip runs or queues under the region
update rule. -/
def Obligations.SubmissionAccepted : Prop :=
  ∀ (s : State) (init w addr p b : Nat) (d : List Byte) (s2 : State),
    let a := addr % 2 ^ 48
    let s0 := commitPair s (Reg.CMDPROC_SUBMIT w) a
    let n := if dsKind d = 2 then dsChildCount d else 1
    let h := nextGen (dowelGet s2 b).gen * 65536 + b
    w < 64 → reaches s init (Reg.CMDPROC_SUBMIT w) true = true → windowOwner s w = some p →
    readDesc (if (tabGet {} s.cmd.tickets w).seen then s0 else cntInc s0 (Reg.CMDPROC_WIN_LOST w)) p a = (some d, s2) →
    dsTest s2 p a d = none → dowelsInUse s2 p + n ≤ dowelQuota s2 p → freeRun s2 n = some b → kindAt s addr = dsKind d →
    let taken := takeSlot s2 b (dowelOf s2 .job w p d)
    (dsKind d = 1 → ∃ t, exec (.submitJob init w addr) s = .next (ticketed w h 1 t) ∧
      (let e := dowelGet t b
       e.st = .queued ∧ e.kind = .job ∧ e.desc = d ∧ e.part = p ∧ e.window = w ∧ e.gen = nextGen (dowelGet s2 b).gen ∧
         e.accepted = s2.tb.elapsed) ∧
      (∀ k, k ≠ b → dowelGet t k = dowelGet s2 k)) ∧
    (dsKind d = 2 → ∃ t, exec (.submitBatch init w addr) s = .next (ticketed w h n t) ∧
      (∀ k, k < n → let e := dowelGet t (b + k)
        e.st = .queued ∧ e.kind = .child ∧ e.part = p ∧ e.gen = nextGen (dowelGet s2 (b + k)).gen) ∧
      t.cmd.batches = s2.cmd.batches ++ [{ base := b, part := p, children := dsChildren d, count := n, next := 0 }]) ∧
    (dsKind d = 3 → ∃ t, exec (.submitRegionSwap init w addr) s = .next (ticketed w h 1 t) ∧
      (∀ s4, swapGroupOf taken p (dsArgs d) = (none, s4) →
        t = completeDowel raise b .doneFault 0x2002 (dowelMod s4 b (fun e => { e with kind := .swap 0 }))) ∧
      (∀ g s4, swapGroupOf taken p (dsArgs d) = (some g, s4) →
        ((updGet s4 (swapRegion p g)).running = none → updGet t (swapRegion p g) = { running := some b, queued := none }) ∧
        (∀ y, (updGet s4 (swapRegion p g)).running = some y → updGet t (swapRegion p g) = { running := some y, queued := some b }))) ∧
    (dsKind d = 4 → ∃ t, exec (.submitPlaneFlip init w addr) s = .next (ticketed w h 1 t) ∧
      (∀ s4, flipPlaneOf taken p (dsArgs d) = (none, s4) →
        t = completeDowel raise b .doneFault 0x6001 (dowelMod s4 b (fun e => { e with kind := .flip 0 }))) ∧
      (∀ g s4, flipPlaneOf taken p (dsArgs d) = (some g, s4) →
        ((updGet s4 (planeRegion g)).running = none → updGet t (planeRegion g) = { running := some b, queued := none }) ∧
        (∀ y, (updGet s4 (planeRegion g)).running = some y → updGet t (planeRegion g) = { running := some y, queued := some b })))

/-- R298, R301, R302, R319, R320, R322, R328, R330: TICKET returns the decided ticket, or 0x8000_0003 on a window of no partition;
DOWEL_QUERY latches the state of a current handle, else STALE; a cancel ends what R320 lets it end, a release frees a terminal slot,
and both are else only counted; a write of a peg's register signals or clears it. -/
def Obligations.TicketsDowelsPegs : Prop :=
  (∀ (s : State) (init w : Nat), w < 64 → reaches s init (Reg.CMDPROC_TICKET w) false = true →
    ∃ t, exec (.ticketRead init w) s = .next t ∧
      t.reply = some ((if windowOwner s w = none then 0x80000003#32 else (tabGet {} s.cmd.tickets w).ticket).zeroExtend 64) ∧
      tabGet {} t.cmd.tickets w = { tabGet {} s.cmd.tickets w with seen := true } ∧ t.cmd.slots = s.cmd.slots ∧ t.regs = s.regs) ∧
  (∀ (s : State) (init p : Nat) (h : Word32), p < 8 →
    let k := slotOf h.toNat
    let d := dowelGet s k
    let current := d.gen = h.toNat / 65536 ∧ d.part = p ∧ 0 < d.gen
    let ignored := cntInc s (Reg.DOWEL_IGNORED_CNT p)
    (reaches s init (Reg.DOWEL_QUERY p) true = true → ∃ t, exec (.dowelQuery init p h) s = .next t ∧
      { t with cmd := { t.cmd with qlatch := s.cmd.qlatch } } = s ∧
      (current → tabGet 0 t.cmd.qlatch (8 * init + p) = BitVec.ofNat 32 (d.gen * 65536 + d.st.code)) ∧
      (¬current → tabGet 0 t.cmd.qlatch (8 * init + p) = 0xF#32)) ∧
    (reaches s init (Reg.DOWEL_CANCEL p) true = true →
      (¬current ∨ d.st.terminal = true → exec (.dowelCancel init p h) s = .next ignored) ∧
      (current → d.kind = .job ∨ d.kind = .child → d.st = .queued →
        exec (.dowelCancel init p h) s = .next (completeDowel raise k .cancelled 0 s)) ∧
      (current → d.kind = .job ∨ d.kind = .child → d.st = .running → d.ending = none →
        exec (.dowelCancel init p h) s = .next (stopJob raise k .cancelled 0 s)) ∧
      (∀ g, current → d.kind = .swap g ∨ d.kind = .flip g → d.st = .queued →
        exec (.dowelCancel init p h) s = .next (if d.updating then ignored else completeDowel raise k .cancelled 0 s))) ∧
    (reaches s init (Reg.DOWEL_RELEASE p) true = true →
      (current → d.st.terminal = true → ∃ t, exec (.dowelRelease init p h) s = .next t ∧ dowelGet t k = { gen := d.gen } ∧
        (∀ j, j ≠ k → dowelGet t j = dowelGet s j)) ∧
      (¬current ∨ d.st.terminal = false → exec (.dowelRelease init p h) s = .next ignored))) ∧
  (∀ (s : State) (init n : Nat) (v : Word32), n < 2048 →
    let p := pegGet s n
    let stamp := BitVec.ofNat 32 (workTime s)
    ∀ x ∈ ([(.pegCountWrite init n v, Reg.PEG_COUNT n, if p.poison then p else { p with count := v, stamp := stamp }),
        (.pegAddWrite init n v, Reg.PEG_ADD n, if p.poison then p else
          { p with count := BitVec.ofNat 32 (min (p.count.toNat + v.toNat) 0xFFFFFFFF), stamp := stamp,
                   sat := p.sat || decide (0xFFFFFFFF < p.count.toNat + v.toNat) }),
        (.pegStatusClear init n, Reg.PEG_STATUS n, { p with poison := false, sat := false, count := 0 })] : List (Instr × Addr × Peg)),
      reaches s init x.2.1 true = true →
      ∃ t, exec x.1 s = .next t ∧ pegGet t n = x.2.2 ∧ (∀ m, m ≠ n → pegGet t m = pegGet s m) ∧ t.regs = s.regs ∧ t.mem = s.mem)

/-- R310, R311: the next child of a batch is fetched. One that was cancelled is passed over; one that cannot be read, or that fails a
test, completes DONE_FAULT 0x10nn, and one whose deadline is past completes EXPIRED; one that passes holds its descriptor. -/
def Obligations.BatchChildFetched : Prop :=
  ∀ (s : State) (k : Nat) (b : Batch), s.cmd.batches.find? (fun b => decide (b.base + b.next = k)) = some b →
    let s1 := batchNext b s
    let addr := b.children + 128 * b.next
    let known := fun (u : State) (d : List Byte) => dowelMod u k (fun x =>
      { x with kind := .job, desc := d, dist := deadlineDist u d, accepted := u.tb.elapsed, waitOk := 0 })
    ((dowelGet s k).st ≠ .queued → exec (.batchChildFetch k) s = .next s1) ∧
    ((dowelGet s k).st = .queued →
      (∀ s2, readDesc s1 b.part addr = (none, s2) → exec (.batchChildFetch k) s = .next (completeDowel raise k .doneFault 0x1003 s2)) ∧
      (∀ d s2, readDesc s1 b.part addr = (some d, s2) →
        (dsTest s2 b.part addr d = some 1 →
          exec (.batchChildFetch k) s = .next (completeDowel raise k .doneFault 0x1001 (raise 0x057 (some b.part) 0 s2))) ∧
        (dsTest s2 b.part addr d = some 4 → exec (.batchChildFetch k) s = .next (completeDowel raise k .expired 0 (known s2 d))) ∧
        (∀ c, dsTest s2 b.part addr d = some c → c = 3 ∨ c = 6 →
          exec (.batchChildFetch k) s = .next (completeDowel raise k .doneFault (0x1000 + c) s2)) ∧
        (dsTest s2 b.part addr d = none → dsKind d = 2 →
          exec (.batchChildFetch k) s = .next (completeDowel raise k .doneFault 0x1006 s2)) ∧
        (dsTest s2 b.part addr d = none → dsKind d = 1 →
          ∃ t, exec (.batchChildFetch k) s = .next t ∧
            (let e := dowelGet t k
             e.st = (dowelGet s2 k).st ∧ e.kind = .job ∧ e.desc = d ∧ e.dist = deadlineDist s2 d ∧ e.accepted = s2.tb.elapsed))))

/-! ## Jobs -/

/-- R103, R202, R308, R309, R313, R373–R375, R431, R432, R464, R589, R590, R658: a chosen job whose bays are free starts on all of
them with its context and sills clear; the last bay's end decides the state, or holds the job under gating; a decided job completes;
a fault stops the job; a replay starts it again from its entry; a spanning job starts at S, and a filler beside its host. -/
def Obligations.JobLifecycle : Prop :=
  ∀ (s : State) (k : Nat), k < 65536 →
    let d := dowelGet s k
    let starts := fun (t : State) => (dowelGet t k).st = .running ∧
      ∀ r pb, r < dsBays d.desc → lbPhys s (dsFirst d.desc + r) = some pb →
        (∀ q, q < dsBays d.desc → q ≠ r → lbPhys s (dsFirst d.desc + q) ≠ some pb) →
        let b := bayGet t pb
        let c := b.main
        b.st = .running ∧ b.slots = [] ∧ b.sills = [] ∧ b.store = (bayGet s pb).store ∧ c.active = true ∧ c.pc = dsProg d.desc ∧
          c.handle = handleOf s k ∧ c.rank = r ∧ c.nbays = dsBays d.desc ∧ c.args = dsArgs d.desc ∧ c.divcnt = 0 ∧
          c.regs = { (bayGet s pb).main.regs with flags := {} }
    ((schedule s d.part).1.contains k = true ∨ (schedule s d.part).2.contains k = true → d.suspended = false → spans s d = false →
      (needHere s d).all (bayIsFree s) = true → ∃ t, exec (.jobStart k) s = .next t ∧ starts t) ∧
    (jobEnded s k d = true → gateInForce s d.part = false ∨ dsAge d.desc = 0xFF →
      exec (.jobEnd k) s = .next (kerfPass d.part (dowelPut s k { d with
        ending := some (if ∃ x, d.dist = some x ∧ x < d.endNs - d.accepted then .expired else if 0 < d.replays then .doneReplayed
          else .doneOk) }))) ∧
    (jobEnded s k d = true → gateInForce s d.part = true → dsAge d.desc ≠ 0xFF →
      exec (.jobEnd k) s = .next (kerfPass d.part (dowelPut s k { d with held := true, gateLeft := localBays s d }))) ∧
    (∀ st, d.ending = some st → d.st = .running → jobHands s (handleOf s k) = [] →
      exec (.jobComplete k) s = .next (completeDowel raise k st d.fault s)) ∧
    (∀ r c, d.faultBy = some (r, c) → d.st = .running → d.ending = none →
      exec (.jobFaultStop k) s = .next (stopJob raise k .doneFault c s)) ∧
    (replayReady s k = true → d.spanning = false → isFiller s d = false → s.fc.colls = [] → d.journal.length ≤ 1 →
      ∃ t, exec (.jobReplay k) s = .next (startJob k t) ∧ dowelGet t k = replayed d ∧ (replayed d).replays = d.replays + 1 ∧
        (replayed d).journal = [] ∧ (replayed d).div = 0 ∧
        ∀ n v sat, d.journal = [(n, v, sat)] →
          pegGet t n = if (pegGet s n).poison then pegGet s n else { pegGet s n with count := v, sat := sat }) ∧
    (∀ at_, d.startAt = some at_ → d.asked = true → d.st = .queued → d.ending = none → d.replayDue = false →
      reached (workTime s) at_ = true →
      exec (.spanningJobStart k) s = .next (startJob k (dowelPut s k { d with asked := false, granted := false, startAt := none }))) ∧
    (fillerReady s k = true → ∃ t, exec (.fillerJobStart k) s = .next t ∧ (dowelGet t k).st = .running ∧
      ∀ r pb, r < dsBays d.desc → lbPhys s (dsFirst d.desc + r) = some pb →
        (∀ q, q < dsBays d.desc → q ≠ r → lbPhys s (dsFirst d.desc + q) ≠ some pb) →
        (bayGet t pb).main = (bayGet s pb).main ∧ (bayGet t pb).store = (bayGet s pb).store ∧ (bayGet t pb).filler.active = true ∧
          (bayGet t pb).filler.pc = dsProg d.desc ∧ (bayGet t pb).filler.rank = r ∧ (bayGet t pb).filler.handle = handleOf s k ∧
          (∀ i, tabGet {} (bayGet t pb).slots i = if i < 2 then tabGet {} (bayGet s pb).slots i else {}) ∧
          (∀ i, tabGet {} (bayGet t pb).sills i = if i < 256 then tabGet {} (bayGet s pb).sills i else {}))

/-- R314–R317: the record of a completion goes to its ring, at BASE + 32 × (PI mod 2^SIZE), when the ring is enabled and has room
and the partition's regions grant the write, and PI advances; a ring that is full drops it and counts it. -/
def Obligations.CompletionRecordGoesToItsRing : Prop :=
  ∀ (s : State) (p r : Nat) (mk : Nat → List Byte),
    let cfg := Reg.CMDPROC_RING_CFG p r
    let size := regFld s cfg 8 5
    let pi := regFld s (Reg.CMDPROC_RING_PI p r) 0 17
    let ci := regFld s (Reg.CMDPROC_RING_CI p r) 0 17
    let a := pairGet s (Reg.CMDPROC_RING_BASE p r) % 2 ^ 48 + pi % 2 ^ size * 32
    (regBit s cfg 31 = false → writeRecord raise p r mk s = (s, false)) ∧
    (regBit s cfg 31 = true → (pi + 2 ^ 17 - ci) % 2 ^ 17 = 2 ^ size →
      writeRecord raise p r mk s =
        (raise 0x05A (some p) 0 (cntInc (regSetFld s (Reg.CMDPROC_RING_STAT p r) 31 1 1) (Reg.CMDPROC_RING_DROP p)), false)) ∧
    (regBit s cfg 31 = true → (pi + 2 ^ 17 - ci) % 2 ^ 17 ≠ 2 ^ size → ∀ c s1, accessCheck s p 7 .write a 32 = (.ok c, s1) →
      ∃ t, writeRecord raise p r mk s = (t, true) ∧
        regGet t (Reg.CMDPROC_RING_PI p r) = BitVec.ofNat 32 ((pi + 1) % 2 ^ 17) ∧
        (homeOf s1 a 32 = .dram → (mk (pi / 2 ^ size % 2)).length = 32 →
          ∀ x, memByte t x = if a ≤ x ∧ x < a + 32 then (mk (pi / 2 ^ size % 2)).getD (x - a) 0 else memByte s x))

/-! ## Partitions, kerfs and girts -/

/-- R347–R350, R354, R355, R360, R403, R48: an operation is refused with its code at acceptance or waits under the update rule; one
whose conditions hold is tested again and takes effect; a swap exchanges two entries' permissions; the checks, the re-verification,
the end of a zeroing and the lock do what their rules say. -/
def Obligations.PartitionConfiguration : Prop :=
  ∀ s : State, twinJoined s = false →
    (∀ y ∈ ([(.partitionConfigRecord, 516, 0), (.partitionConfigRegions, 532, 1), (.partitionConfigWheels, 132, 2)] : List (Instr × Nat × Nat)),
      ∀ x, sealedWaits s 1 x → x.payload.length = y.2.1 →
        let p := leAt x.payload 1 1
        let l := x.payload.drop 4
        let u := dowelMod (sealedTaken s) x.slot (fun d => { d with kind := .config y.2.2 p, payload := l })
        let named := leAt x.payload 0 1 = y.2.2 + 1 ∧ p < 8 ∧ (y.2.2 = 2 → p = 0)
        (¬named → exec y.1 s = .next (sealDone x.slot 0x2002 (sealedTaken s))) ∧
        (∀ c, named → configTest u y.2.2 p l = some c →
          exec y.1 s = .next (completeDowel raise x.slot .doneFault (0x2000 + c) (if c = 0x0A then raise 0x05D (some p) 0 u else u))) ∧
        (named → configTest u y.2.2 p l = none →
          let r := if y.2.2 = 2 then 8 else p
          ∃ t, exec y.1 s = .next t ∧
            ((updGet s r).running = none → updGet t r = { running := some x.slot, queued := none }) ∧
            (∀ z, (updGet s r).running = some z → updGet t r = { running := some z, queued := some x.slot }))) ∧
    (∀ r k op p, r ≤ 8 → (if r < 8 then atBeat s r = true else s.part.wheelSlots % 64 = 0) → (updGet s r).running = some k →
      (dowelGet s k).kind = .config op p → configReady s op p (dowelGet s k).payload = true →
      let l := (dowelGet s k).payload
      ∀ i ∈ ([.partitionConfigApply r, .regionUpdateTakeEffect r] : List Instr),
        (configTest s op p l ≠ none → exec i s = .next (completeDowel raise k .doneFault 0x2009 s)) ∧
        (configTest s op p l = none → ∃ t, exec i s = .next (completeDowel raise k .doneOk 0 t) ∧
          (op = 0 → l.length = 512 → p < 8 → ∀ j, j < 512 → tabGet 0 t.part.table (256 + 512 * p + j) = l.getD j 0) ∧
          (op = 1 → ∀ j, tabGet 0 (tabGet [] t.part.regions p) j = l.getD j 0) ∧
          (op = 2 → l.length = 128 → ∀ j, j < 128 → tabGet 0 t.part.table j = l.getD j 0))) ∧
    (∀ p g k, p < 8 → 1 ≤ g → g < 16 → atBeat s p = true → (updGet s p).running = none →
      (updGet s (swapRegion p g)).running = some k →
      ∀ n ∈ ([.regionSwapApply p g, .regionUpdateTakeEffect (swapRegion p g)] : List Instr),
        ((groupEntries s p g).length ≠ 2 → exec n s = .next (completeDowel raise k .doneFault 0x2008 s)) ∧
        (∀ i j, groupEntries s p g = [i, j] → ∃ t, exec n s = .next (completeDowel raise k .doneOk 0 t) ∧
          rgAttr (rgEntry t p i) = rgAttr (rgEntry s p i) / 16 * 16 + rgAttr (rgEntry s p j) % 16 ∧
          rgAttr (rgEntry t p j) = rgAttr (rgEntry s p j) / 16 * 16 + rgAttr (rgEntry s p i) % 16 ∧
          (∀ m, m < 32 → m ≠ i → m ≠ j → rgEntry t p m = rgEntry s p m))) ∧
    ((∀ p, p < 8 → (updGet s p).running = none) → s.part.checks < s.tb.elapsed / 10000 →
      ∃ t, exec .partCheck s = .next t ∧ t.part.checks = s.part.checks + 1 ∧
        ∀ p, p < 8 → recBeat s p = 0 → 100 ≤ s.part.checks + 1 - tabGet 0 s.part.contestCheck p →
          ∀ e ∈ t.part.lastWriter, e.1 / 2 ^ 45 ≠ p) ∧
    (s.part.tableHeld = true → s.part.tableBad = false → checkOk ((List.range 4368).map (tabGet 0 s.part.table)) = false →
      (∀ p, p < 8 → tabGet false s.part.regionsHeld p = false) →
      exec .tableScan s = .next (raiseWith 3 0x056 none 0 { s with part := { s.part with tableBad := true } })) ∧
    (∀ g i, g < 96 → zeroAt s (.granule g) = some i → s.part.zeroDue.getD i 0 ≤ s.tb.elapsed →
      ∃ t, exec (.resourceZeroingDone true g) s = .next t ∧ t.part.zeroing = s.part.zeroing.eraseIdx i ∧
        ∀ a, memByte t a = if loftBase + g * 0x40000 ≤ a ∧ a < loftBase + (g + 1) * 0x40000 then 0 else memByte s a) ∧
    (∀ init p, p < 8 → reaches s init (Reg.PART_CTRL p) true = true →
      exec (.partCtrlLock init p) s = .next (regPut s (Reg.PART_CTRL p) 1))

/-- R353, R372, R403, R378, R380, R382, R385: a beat starts its schedule at entry 0 and forgets the contest window's writers; an entry
that has lasted LEN × 10 µs gives way to the next; a bay that has drained enters SAVING, and a drain over its limit is reported; a
save leaves the store and the sills in the image, and a restore brings the context back from it. -/
def Obligations.KerfSwitch : Prop :=
  (∀ (s : State) (p : Nat), p < 8 → twinJoined s = false →
    let b := beatGet s p
    let now := if b.started then b.startNs + recBeat s p * 1000 else s.tb.elapsed
    let due := b.entryNs + schedLen s p b.entry * 10000
    (beatDue s p = true → (updGet s p).running = none → (∀ g, g < 16 → (updGet s (swapRegion p g)).running = none) →
      ∃ t, exec (.beatStart p) s = .next (kerfPass p t) ∧
        (let c := beatGet t p
         c.started = true ∧ c.startNs = now ∧ c.startWt = workTime s ∧ c.entry = 0 ∧ c.entryNs = now ∧
           c.tail = decide (recNkerf s p = 0)) ∧
        (∀ e ∈ t.part.lastWriter, e.1 / 2 ^ 45 ≠ p)) ∧
    (recNkerf s p ≠ 0 → b.tail = false → due ≤ s.tb.elapsed →
      exec (.kerfEntryStart p) s = .next (kerfPass p (beatPut s p
        (if b.entry + 1 < recNkerf s p then { b with entry := b.entry + 1, entryNs := due }
         else if recBeat s p = 0 then { b with entry := 0, entryNs := due } else { b with tail := true, entryNs := due }))))) ∧
  (∀ (s : State) (pb : Nat), pb < bayCount →
    let b := bayGet s pb
    let p := b.main.part
    (b.st = .running → b.drain = true → b.entries = [] → b.main.ended = false →
      exec (.kerfDrainComplete pb) s = .next (bayPut s pb { b with st := .saving, drain := false, phaseSince := s.tb.elapsed })) ∧
    (b.st = .running → b.drain = true → b.overrun = false →
      b.phaseSince + regFld s (Reg.PART_KERF_CFG p) 0 16 * 10000 < s.tb.elapsed →
      exec (.kerfOverrun pb) s =
        .next (raise 0x05B (some p) 0 (cntInc (bayPut s pb { b with overrun := true }) (Reg.PART_OVERRUN_CNT p)))) ∧
    (∀ n, b.st = .saving → pbLogical s pb = some n → b.main.active = true → b.filler.active = false → b.main.ended = false →
      s.waitWrites = [] → (dowelGet s (slotOf b.main.handle)).ending = none → (dowelGet s (slotOf b.main.handle)).replayDue = false →
      let base := imageBase s p b.main.kclass n
      ∃ t, exec (.saveComplete pb) s = .next (kerfPass p t) ∧ (bayGet t pb).st = .idle ∧ (bayGet t pb).main.active = false ∧
        (dowelGet t (slotOf b.main.handle)).savedBays = (dowelGet s (slotOf b.main.handle)).savedBays ++ [n] ∧
        (∀ i, i < storeSize → memByte t (base + i) = tabGet 0 b.store i) ∧
        (∀ k, k < 512 → memRead t (base + 0x140000 + 80 * k) 80 = sillImage (tabGet {} b.sills k))) ∧
    (∀ n, b.st = .restoring → pbLogical s pb = some n → b.filler.active = false → fillerWith s b.incoming n = none → s.waitWrites = [] →
      let d := dowelGet s b.incoming
      let base := imageBase s d.part (dsClass d.desc) n
      let img := tabGet {} s.part.images base
      slotOf img.hand.handle = b.incoming → d.ending = none → d.replayDue = false →
      ∃ t, exec (.restoreComplete pb) s = .next (kerfPass img.hand.part (countSwitches b.incoming [n] t)) ∧
        (bayGet t pb).st = .running ∧ (bayGet t pb).main = { img.hand with active := true, stopped := false, wait := .none } ∧
        (∀ i, i < storeSize → tabGet 0 (bayGet t pb).store i = memByte s (base + i)) ∧
        (∀ k, k < 512 → tabGet {} (bayGet t pb).sills k = sillOfImage (memRead s (base + 0x140000 + 80 * k) 80))))

/-- R364–R369: a window begins with nothing used; a wheel slot moves on and an owner whose request waited misses; a grant goes to the
higher level, charges its girt the units of its bytes and updates its latency. -/
def Obligations.GirtScheduling : Prop :=
  ∀ s : State,
    (s.part.windows < s.tb.ticks / 2500 → ∃ t, exec .girtWindowStart s = .next t ∧ t.part.windows = s.part.windows + 1 ∧
      ∀ p g c, p < 8 → g < 2 → c < 8 → (girtGet t p g c).used = 0 ∧ (girtGet t p g c).active = false ∧
        (girtGet t p g c).latNum = (girtGet s p g c).latNum) ∧
    (∀ p c, s.part.wheelSlots < s.tb.ticks / 32 → (s.part.wheelSlots + 1) % 64 ≠ 0 → slotOwner s 0 = some (p, c) → slotOwner s 1 = none →
      (girtGet s p 0 c).forfeited = false →
      exec (.wheelSlotStart true false) s = .next (openSlot 1 (openSlot 0 (nextSlot (girtMiss p 0 c s)))) ∧
      regGet (girtMiss p 0 c s) (Reg.GIRT_MISS_CNT p 0 c) =
        BitVec.ofNat 32 (min ((regGet s (Reg.GIRT_MISS_CNT p 0 c)).toNat + 1) 0x7FFFFFFF) ∧
      (girtGet (girtMiss p 0 c s) p 0 c).missing = true) ∧
    (∀ target r, target < 80 → r.part < 8 → r.cls < 8 →
      let g := if target < 32 then 0 else 1
      ∃ t, exec (.girtGrant target [r]) s = .next t ∧
        (girtGet t r.part g r.cls).used = (girtGet s r.part g r.cls).used + (r.bytes + 63) / 64 ∧
        (girtGet t r.part g r.cls).latNum =
          255 * (girtGet s r.part g r.cls).latNum + r.latency * 256 ^ (girtGet s r.part g r.cls).latExp ∧
        (girtGet t r.part g r.cls).latExp = (girtGet s r.part g r.cls).latExp + 1) ∧
    (∀ target r q, target < 80 → r.part < 8 → r.cls < 8 → q.part < 8 → q.cls < 8 →
      girtLevel s q.part (if target < 32 then 0 else 1) q.cls < girtLevel s r.part (if target < 32 then 0 else 1) r.cls →
      ∀ l ∈ ([[r, q], [q, r]] : List (List GirtReq)), ∃ t, exec (.girtGrant target l) s = .next t ∧
        tabGet 63 t.part.lastGrant target = reqIndex r)

/-! ## Repair -/

/-- R106, R107, R428–R430, R436–R438, R443–R445, R441, R442, R424: a fence event leaves the bay FENCED with its cause recorded and a
substitution in progress whose spare, if any, runs its plumb run with its store zeroed; at the retirement point the number passes to
that spare, or to none; a jointer that hangs gives its bent to the lowest spare; the patrol steps on, and remaps a bad row; burns
and the grade lock do what their rules say. -/
def Obligations.RepairEvents : Prop :=
  ∀ (s : State) (pb n : Nat), pb < bayCount →
    let b := bayGet s pb
    (∀ cause, 1 ≤ cause → cause ≤ 4 → b.st ≠ .fenced → b.st ≠ .retired → pbLogical s pb = some n → (∀ e ∈ s.cmd.slots, e.2.st ≠ .running) →
      ∃ t, exec (.bayFence pb cause) s = .next t ∧ (bayGet t pb).st = .fenced ∧ (bayGet t pb).main.active = false ∧
        (bayGet t pb).matrixQ = [] ∧ (bayGet t pb).dmaQ = [] ∧ (bayGet t pb).jointerQ = [] ∧
        regGet t (Reg.BAY_FENCE n) = BitVec.ofNat 32 (2 ^ 31 + pb * 256 + cause) ∧
        ∃ y ∈ t.repair.substs, y.lb = n ∧ y.pb = pb ∧ y.cause = cause ∧
          ∀ sp, y.spare = some sp → sp ≠ pb ∧ (bayGet t sp).st = .plumb ∧ (bayGet t sp).store = []) ∧
    (b.st = .running → exec (.bayHang pb) s = exec (.bayFence pb 3) s) ∧
    (b.st = .plumb → exec (.bayHang pb) s = .next (plumbMismatch raise pb s)) ∧
    exec (.bayDomainFault pb) s = .next (fenceBay raise pb 2 (raise (0x020 + pb) ((pbLogical s pb).bind (bayOwner s)) 0 s)) ∧
    (∀ x, n < 64 → s.repair.substs.find? (fun y => decide (y.lb = n)) = some x → (∀ sp, x.spare = some sp → x.passed = true) →
      ∃ t, exec (.retirementPoint n) s = .next t ∧ lbPhys t n = x.spare ∧ (∀ m, m ≠ n → lbPhys t m = lbPhys s m) ∧
        ∀ y ∈ t.repair.substs, y.lb ≠ n) ∧
    (freeSpare s pb = true → b.st = .idle → ∃ t, exec (.sparePeriodicPlumb pb) s = .next t ∧ (bayGet t pb).st = .plumb ∧
      (bayGet t pb).main.pc = 0 ∧ (bayGet t pb).main.progid = 0xFFFF ∧ (bayGet t pb).main.plumbSig = 0 ∧ (bayGet t pb).store = b.store) ∧
    (∀ pj k j, pj < 9 → jointerBent s pj = some k → jointerBusy s k = true →
      (List.range 9).find? (spareJointer { s with jointers := tabPut {} s.jointers pj { tabGet {} s.jointers pj with retired := true } }) = some j →
      ∃ t, exec (.jointerHang pj) s = .next t ∧ (tabGet {} t.jointers pj).retired = true ∧ bentJointer t k = some j ∧
        ∀ m, m ≠ k → bentJointer t m = bentJointer s m) ∧
    (let r := tabGet 0 s.repair.patrolRow pb
     let mac := 80 * pb + r / 128
     let used := tabGet 0 s.repair.rowsUsed mac
     regBit s Reg.GLOBAL_PATROL_CFG 31 = true → patrolBay s pb = true →
      (∃ t, exec (.patrolRowTest false pb false) s = .next t ∧ tabGet 0 t.repair.patrolRow pb = (r + 1) % 10240 ∧ t.bays = s.bays ∧
        t.regs = s.regs ∧ t.mem = s.mem) ∧
      (∃ t, tabGet 0 t.repair.patrolRow pb = (r + 1) % 10240 ∧ t.bays = s.bays ∧
        (used < 4 → tabGet 0 t.repair.rowsUsed mac = used + 1 ∧
          exec (.patrolRowTest false pb true) s =
            .next (addPending (logEntry 4 5 mac (r % 128)) (raise 0x066 none 0 (cntInc t Reg.GLOBAL_PATROL_CNT)))) ∧
        (4 ≤ used → exec (.patrolRowTest false pb true) s = .next (addPending (logEntry 1 5 pb 0) (raise 0x067 none 0 t))))) ∧
    (∀ x, sealedWaits s 2 x → s.repair.burning = none →
      (∀ c, repairTest (sealedTaken s) x.payload = some c → exec .repairCommit s = .next (sealDone x.slot c (sealedTaken s))) ∧
      (repairTest (sealedTaken s) x.payload = none →
        exec .repairCommit s = .next { sealedTaken s with repair := { s.repair with burning := some (x.payload, x.slot) } })) ∧
    (∀ e k ok, s.repair.burning = some (e, k) →
      ∃ t, exec (.repairBurnComplete ok) s = .next (sealDone k (if ok then 0 else 0x3105) t) ∧ t.repair.used = s.repair.used + 1 ∧
        (let row := withCheck (e ++ leBytes 4 (regGet s Reg.SEAL_EPOCH).toNat)
         tabGet [] t.repair.fieldLog s.repair.used = if ok then row else 0xFF#8 :: row.drop 1)) ∧
    (∀ x, sealedWaits s 10 x →
      (repairLife s = false → exec .gradeLock s = .next (sealDone x.slot 0x3103 (sealedTaken s))) ∧
      (repairLife s = true → leAt x.payload 0 1 ≠ regFld s Reg.GLOBAL_GRADE 16 8 →
        exec .gradeLock s = .next (sealDone x.slot 0x3106 (sealedTaken s))) ∧
      (repairLife s = true → leAt x.payload 0 1 = regFld s Reg.GLOBAL_GRADE 16 8 → regBit s Reg.GLOBAL_GRADE 2 = false →
        exec .gradeLock s = .next (sealDone x.slot 0 (regSetFld (sealedTaken s) Reg.GLOBAL_GRADE 2 1 1))))

/-! ## Safety mechanisms -/

/-- R460–R462, R464, R465: a plumb run that is due starts on an IDLE bay of a partition other than P0; gated runs start on the bays of
a held job, which is released once all have passed; a run that a beat did not see is reported, and is owed. -/
def Obligations.PlumbRunSchedule : Prop :=
  ∀ (s : State) (n p : Nat),
    (∀ pb, pb < bayCount → pbLogical s pb = some n → bayOwner s n = some p → p ≠ 0 → bayIdle s n = true → gateOwed s n = false →
      (plumbDue s p n = true → exec (.plumbScheduledStart pb) s = .next (startPlumb s pb 2)) ∧
      (plumbDue s p n = false → exec (.plumbScheduledStart pb) s = .next s)) ∧
    (∀ k pb, k < 65536 → (dowelGet s k).st = .running → (dowelGet s k).held = true → (dowelGet s k).gateLeft = [n] →
      lbPhys s n = some pb → bayIdle s n = true → exec (.plumbGatedStart k) s = .next (startPlumb s pb 1)) ∧
    (∀ k, k < 65536 → (dowelGet s k).st = .running → (dowelGet s k).held = true → (dowelGet s k).gateLeft = [] →
      exec (.gatedRelease k) s = .next (kerfPass (dowelGet s k).part
        (completeDowel raise k (dowelGet s k).endState 0 (dowelPut s k { dowelGet s k with held := false })))) ∧
    (p < 8 → s.part.overdue = [(n, p)] → s.part.owesPlumb = [] →
      let u := raise 0x051 (some p) n { s with part := { s.part with overdue := [] } }
      exec (.plumbOverdue p) s = .next { u with part := { u.part with owesPlumb := [n] } }) ∧
    (n < 64 → bayOwner s n = some p → p ≠ 0 → recBeat s p = 0 → (lbPhys s n).isSome = true →
      tabGet 0 s.part.lateSince n ≠ tabGet 0 s.part.lastPass n + 1 →
      tabGet 0 s.part.lastPass n + 2 * (regFld s (Reg.SAFETY_PLUMB_CFG p) 0 10 * 1000000) ≤ s.tb.elapsed →
      exec (.plumbPeriodOverdue n) s = .next (raise 0x051 (some p) n { s with part := { s.part with
        lateSince := tabPut 0 s.part.lateSince n (tabGet 0 s.part.lastPass n + 1) } }))

/-- R469–R471, R473, R474: an age event records the capture word that its address holds and arms the gap timer, and an age over LIMIT
is reported for the channel's owner; a gap over LIMIT is reported once; agreeing samples of an input pair are resolved, and the Nth
disagreement in a row is reported. -/
def Obligations.AgeAndInputSupervision : Prop :=
  ∀ s : State,
    (∀ a addr rest, a < 64 → s.safety.ageDue = (a, addr) :: rest → homeOf s addr 4 = .dram →
      let cap := leVal (devRead s addr 4)
      let age := (workTime s + 2 ^ 32 - cap) % 2 ^ 32
      ∃ t, t.safety.ageDue = rest ∧ regGet t (Reg.SAFETY_AGE_LAST a) = BitVec.ofNat 32 cap ∧
        regGet t (Reg.SAFETY_AGE_ARRIVE a) = BitVec.ofNat 32 (workTime s) ∧ tabGet {} t.safety.age a = {} ∧
        exec (.ageEvent a) s = .next (if regFld s (Reg.SAFETY_AGE_LIMIT a) 0 20 * 1000 < age then
          raise (0x080 + a) (ageOwner s a) age t else t)) ∧
    (∀ a, a < 64 → regBit s (Reg.SAFETY_AGE_CFG a) 31 = true → (∀ e ∈ s.safety.ageDue, e.1 ≠ a) →
      regFld s (Reg.SAFETY_AGE_LIMIT a) 0 20 * 1000 < (workTime s + 2 ^ 32 - (regGet s (Reg.SAFETY_AGE_ARRIVE a)).toNat) % 2 ^ 32 →
      exec (.ageGap a) s = .next (if (tabGet {} s.safety.age a).gapRaised then s else
        raise (0x080 + a) (ageOwner s a) 0
          { s with safety := { s.safety with age := tabPut {} s.safety.age a { gapRaised := true } } })) ∧
    (∀ n x y, n < 4 → regBit s (Reg.SAFETY_DIN_CFG n) 31 = true →
      let d := tabGet {} s.safety.din n
      let put := fun (d : DinSt) => { s with safety := { s.safety with din := tabPut {} s.safety.din n d } }
      let agrees := ¬(x = y ↔ regBit s (Reg.SAFETY_DIN_CFG n) 30 = true)
      (agrees → exec (.dinSample n x y) s = .next
        (let u := put { d with count := 0, resolved := x }
         if x = true ∧ d.resolved = false ∧ regBit s (Reg.SAFETY_DIN_CFG n) 29 = true then raise (0x04C + n) (some 0) 0 u else u)) ∧
      (¬agrees → d.count < 65535 →
        let hit := d.count + 1 = regFld s (Reg.SAFETY_DIN_CFG n) 0 16
        (hit → exec (.dinSample n x y) s =
          .next (raise (0x048 + n) (some 0) (d.count + 1) (put { d with count := d.count + 1, disc := true }))) ∧
        (¬hit → exec (.dinSample n x y) s = .next (put { d with count := d.count + 1 }))))

/-- R476–R479: a clock whose count lies outside 0.75 to 1.25 times the expected one is reported, a bay's clock fences it; a rail
outside its window is reported, and VDD_SAFE holds the pins until it returns; two samples in a row beyond a threshold are reported;
a lockstep mismatch and a failing island memory are reported. -/
def Obligations.MonitorsReport : Prop :=
  ∀ s : State,
    (∀ src count f, (src, f) ∈ ([(0x004, 25000), (0x005, 250000), (0x006, 2000000), (0x007, 1000000), (0x008, 500000), (0x009, 250000),
        (0x00A, 4000000)] : List (Nat × Nat)) → tabGet false s.safety.clkSkip src = false →
      exec (.clockMonitorWindow src count) s =
        .next (if 4 * (6400 * count) < 3 * f ∨ 5 * f < 4 * (6400 * count) then raise src none 0 s else s)) ∧
    (∀ pb count, pb < bayCount → clockWatched s (0x020 + pb) = true → clockOut s (0x020 + pb) count = true →
      tabGet false s.safety.clkSkip (0x020 + pb) = false → exec (.clockMonitorWindow (0x020 + pb) count) s = exec (.bayDomainFault pb) s) ∧
    (∀ src mv lo hi, (src, lo, hi) ∈ ([(0x010, 690, 810), (0x011, 736, 864), (0x012, 966, 1134), (0x013, 828, 972), (0x014, 460, 540),
        (0x015, 1656, 1944), (0x016, 828, 972), (0x017, 782, 918), (0x018, 690, 810)] : List (Nat × Nat × Nat)) →
      (lo ≤ mv → mv ≤ hi → exec (.voltageExcursion src mv) s = .next s) ∧
      (mv < lo ∨ hi < mv → src ≠ 0x011 → exec (.voltageExcursion src mv) s = .next (raise src none 0 s)) ∧
      (mv < lo ∨ hi < mv → src = 0x011 → ∃ t, exec (.voltageExcursion src mv) s = .next (raise src none 0 t) ∧
        t.safety.vddSafeBad = true ∧ t.safety.fault0 = false ∧ t.safety.fault1 = false ∧ t.safety.hold = true ∧ t.regs = s.regs) ∧
      exec (.voltageReturn src) s =
        .next (if src = 0x011 then { s with safety := { s.safety with vddSafeBad := false } } else s)) ∧
    (∀ v, v < 2 ^ 16 → tempOf v < 110 * 16 → -45 * 16 ≤ tempOf v →
      ∃ t, exec (.temperatureSample (List.replicate 16 v)) s = .next t ∧ (∀ i, i < 16 → regGet t (Reg.SAFETY_TEMP i) = BitVec.ofNat 32 v) ∧
        t.safety.srcs = s.safety.srcs ∧ t.safety.coolSince = s.safety.coolSince) ∧
    (∀ pair, pair < 2 → exec (.lockstepMismatch pair) s = .next (raise pair none 0 s)) ∧
    (let u := { s with safety := { s.safety with bistBlock := (s.safety.bistBlock + 1) % 128 } }
     exec (.islandBistStep false) s = .next u ∧ exec (.islandBistStep true) s = .next (raise 0x002 none 0 u))

/-- R480, R481, R487–R489, R492, R494: a kick of the island with the right word restarts the watchdog and any other is reported; RUN
starts the pins, which toggle at their boundaries unless held; the stop of a partition is released unless a CRITICAL source of it is
pending; software raises and clears sources, but a CRITICAL one only a sealed command clears; the sealed exit leaves safe state. -/
def Obligations.SafetyRegistersAndPins : Prop :=
  ∀ (s : State) (init : Nat) (v : Word32),
    (s.safety.run = true → reaches s init Reg.SAFETY_KICK true = true →
      ((init = 0x11 ∨ init = 0x12) → v = (if s.safety.kickFirst then 0x5A5A#32 else 0xA5A5#32) →
        exec (.safetyKick init v) s =
          .next { s with safety := { s.safety with kickFirst := !s.safety.kickFirst, kickNs := s.tb.elapsed } }) ∧
      (¬(init = 0x11 ∨ init = 0x12) ∨ v ≠ (if s.safety.kickFirst then 0x5A5A#32 else 0xA5A5#32) →
        exec (.safetyKick init v) s = .next (raise 0x003 none 0 s))) ∧
    (s.safety.run = true → s.safety.kickNs + 10000000 < s.tb.elapsed →
      exec .safeWdog s = .next (raise 0x003 none 0 { s with safety := { s.safety with kickNs := s.safety.kickNs + 10000000 } })) ∧
    (s.safety.run = true →
      ∃ t, exec .faultPhaseBoundary s = .next t ∧ { t with safety := s.safety } = s ∧
        (pinsHeld s = true → t.safety.fault0 = false ∧ t.safety.fault1 = false ∧ t.safety.hold = true) ∧
        (pinsHeld s = false → t.safety.fault0 = (if s.safety.hold then true else !s.safety.fault0) ∧ t.safety.fault1 = !t.safety.fault0 ∧
          t.safety.hold = false)) ∧
    (s.safety.run = false → (init = 0x11 ∨ init = 0x12) → reaches s init Reg.SAFETY_CTRL true = true →
      ∃ t, exec (.safetyCtrlRun init) s = .next t ∧ t.safety.run = true ∧ t.safety.kickNs = s.tb.elapsed ∧ t.safety.kickFirst = true ∧
        (critPending s = false → s.safety.safe = false → s.safety.vddSafeBad = false →
          t.safety.fault0 = true ∧ t.safety.fault1 = false ∧ t.safety.hold = false)) ∧
    (∀ p, p < 8 → reaches s init Reg.SAFETY_PSTOP true = true →
      ∃ t, exec (.safetyPstopRelease init p) s = .next t ∧
        (s.safety.safe = true ∨ critOf s p = true → t = s) ∧
        (s.safety.safe = false → critOf s p = false → ∀ q, q < 32 →
          t.safety.stopped.getLsbD q = (s.safety.stopped.getLsbD q && decide (q ≠ p)))) ∧
    (reaches s init Reg.SAFETY_SWRAISE true = true → v.toNat < 16 →
      exec (.safetySwraise init v) s = .next (raise (0x110 + v.toNat) (some 0) 0 s)) ∧
    (∀ n, n < 512 → reaches s init (Reg.SAFETY_SRC n) true = true →
      (pendClass n (fsrc s n) = some 2 → exec (.safetySrcPendClear init n) s = .next s) ∧
      (pendClass n (fsrc s n) ≠ some 2 → ∃ t, exec (.safetySrcPendClear init n) s = .next t ∧ (fsrc t n).pend = false ∧
        (fsrc t n).count = (fsrc s n).count ∧ ∀ m, m ≠ n → fsrc t m = fsrc s m)) ∧
    (∀ x, sealedWaits s 9 x → leAt x.payload 0 2 ≠ 0xFFFF →
      let n := leAt x.payload 0 2
      (pendClass n (fsrc s n) = some 2 → ∃ t, exec .faultClearCritical s = .next (sealDone x.slot 0 t) ∧ (fsrc t n).pend = false ∧
        ∀ m, m ≠ n → fsrc t m = fsrc s m) ∧
      (pendClass n (fsrc s n) ≠ some 2 → exec .faultClearCritical s = .next (sealDone x.slot 0x8301 (sealedTaken s)))) ∧
    (∀ x, sealedWaits s 3 x →
      (s.safety.safe = false → exec .safeStateExit s = .next (sealDone x.slot 0x4101 (sealedTaken s))) ∧
      (s.safety.safe = true → critPending s = true → exec .safeStateExit s = .next (sealDone x.slot 0x4102 (sealedTaken s))) ∧
      (s.safety.safe = true → critPending s = false → ∃ t, exec .safeStateExit s = .next (sealDone x.slot 0 t) ∧ t.safety.safe = false ∧
        ∀ q, q < 8 → t.safety.stopped.getLsbD q = (s.safety.stopped.getLsbD q && !s.safety.safeStopped.contains q)))

/-! ## Timebase -/

/-- R504–R531: SYNC and DROP, the loss of a domain, a SEL write, requested and forced steps, the decay of the bridge, WRAP and HALF;
a timestamp record and a capture record are popped into a latch, an edge is stamped 8 ns back, and a pulse output is armed, fires and
ends. -/
def Obligations.TimebaseCapturesPulses : Prop :=
  ∀ (s : State) (init : Nat),
    (∀ d, d < 2 →
      (reaches s init (Reg.TB_DOM_SYNC d) true = true →
        (∃ t, exec (.tbDomSync init d) s = .next t ∧ (domGet t d).valid = true ∧ (domGet t d).acq = false ∧
          (domGet t d).syncNs = s.tb.elapsed ∧ (domGet t d).time = (domGet s d).time) ∧
        ((domGet s d).valid = true → exec (.tbDomDrop init d) s = .next (loseDom d s)) ∧
        ((domGet s d).valid = false → exec (.tbDomDrop init d) s = .next s)) ∧
      (let t := regFld s (Reg.TB_DOM_CFG d) 0 16 * 1000000
       let expired := (domGet s d).valid = true ∧ t ≠ 0 ∧ (domGet s d).syncNs + t ≤ s.tb.elapsed
       (expired → exec (.tbDomainLoss d) s = .next (loseDom d (raise 0x0E3 none d s))) ∧
       (¬expired → exec (.tbDomainLoss d) s = .next s)) ∧
      (∃ t, loseDom d s = t ∧ (domGet t d).valid = false ∧ regBit t Reg.TB_EVENT (4 + d) = true ∧ (domGet t d).time = (domGet s d).time) ∧
      (reaches s init Reg.TB_CTRL true = true → pageLocked s Reg.TB_CTRL = false → selDom s ≠ d →
        ((domGet s d).valid = true → ∃ t, exec (.tbCtrlSel init d) s = .next t ∧ selDom t = d ∧ regBit t Reg.TB_EVENT 3 = true ∧
          (workTime s < 2 ^ 32 → workTime t = workTime s)) ∧
        ((domGet s d).valid = false → ∃ t, exec (.tbCtrlSel init d) s = .next t ∧ t.tb = s.tb ∧ regBit t Reg.TB_EVENT 7 = true)) ∧
      (∀ v : Word32, reaches s init (Reg.TB_DOM_STEP d) true = true →
        exec (.tbDomStep init d v) s = .next (domPut s d { domGet s d with step := some v.toInt })) ∧
      (∀ v, (domGet s d).step = some v →
        let limit := regFld s Reg.TB_JUMP_LIMIT 0 20
        (v = 0 → exec (.unsealedStepApply d) s = .next (domPut s d { domGet s d with step := none })) ∧
        (v ≠ 0 → (domGet s d).acq = true ∨ v.natAbs ≤ limit → ∃ t, exec (.unsealedStepApply d) s = .next t ∧
          ((domGet t d).time : Int) = ((domGet s d).time + v) % 2 ^ 32 ∧ (domGet t d).step = none ∧
          ((domGet s d).acq = false → workTime s < 2 ^ 32 → workTime t = workTime s ∧ regGet t Reg.TB_STEP_LAST = regGet s Reg.TB_STEP_LAST) ∧
          ((domGet s d).acq = true → selDom s = d → s.tb.follow = none →
            (workTime t : Int) = (workTime s + v) % 2 ^ 32 ∧ regGet t Reg.TB_STEP_LAST = BitVec.ofInt 32 v ∧ t.tb.bridge = s.tb.bridge ∧
              regBit t Reg.TB_EVENT 2 = true ∧
              ∀ a, a < 64 → regGet t (Reg.SAFETY_AGE_ARRIVE a) = regGet s (Reg.SAFETY_AGE_ARRIVE a) + BitVec.ofInt 32 v)) ∧
        (v ≠ 0 → (domGet s d).acq = false → limit < v.natAbs →
          exec (.unsealedStepApply d) s = .next (raise 0x0E2 none (BitVec.ofInt 32 v).toNat
            (cntInc (tbEvent 6 (domPut s d { domGet s d with step := none })) Reg.TB_JUMP_CNT))))) ∧
    (∀ f, s.tb.forces = [f] → f.amount ≠ 0 → f.target ≤ 2 →
      ∃ t, exec .forceStepApply s = .next (completeDowel raise f.slot .doneOk 0 t) ∧ t.tb.forces = [] ∧
        (f.target = 0 → t.tb.bridge = wrap32 (s.tb.bridge + f.amount) ∧ t.tb.decayCtr = 0 ∧ t.tb.a = s.tb.a ∧ t.tb.b = s.tb.b) ∧
        (f.target ≠ 0 → ((domGet t (f.target - 1)).time : Int) = ((domGet s (f.target - 1)).time + f.amount) % 2 ^ 32 ∧
          t.tb.bridge = s.tb.bridge)) ∧
    (s.tb.follow = none → regFld s Reg.TB_DECAY 0 20 ≤ s.tb.decayCtr →
      ∃ t, exec .bridgeDecayStep s = .next t ∧ t.regs = s.regs ∧
        t.tb.bridge = (if 0 < s.tb.bridge then s.tb.bridge - 1 else if s.tb.bridge < 0 then s.tb.bridge + 1 else 0) ∧
        (s.tb.bridge ≠ 0 → t.tb.decayCtr = 0)) ∧
    (s.tb.stepped = false → s.tb.wrapDue = false → s.tb.halfDue = false →
      let u := { s with tb := { s.tb with prevNow := workTime s } }
      exec .wrap s = .next (if topBit s.tb.prevNow = true ∧ topBit (workTime s) = false then tbEvent 0 u else s) ∧
      exec .half s = .next (if topBit s.tb.prevNow = false ∧ topBit (workTime s) = true then tbEvent 1 u else s)) ∧
    (∀ port, port < 4 → reaches s init (Reg.TB_TSTX0 port) false = true → reaches s init (Reg.TB_TSRX0 port) false = true →
      (∀ r q, tabGet [] s.tb.tsrx port = r :: q → ∃ t, exec (.tbTsRecordPop init port false) s = .next t ∧
        tabGet [] t.tb.tsrx port = q ∧ tabGet none t.tb.tsLatch (2 * port) = some r ∧ t.tb.tstx = s.tb.tstx ∧
        t.reply = some (BitVec.ofNat 64 ((2 ^ 31 + r.typ * 2 ^ 24 + r.domain * 2 ^ 16 + r.seq) % 2 ^ 32))) ∧
      (∀ r q, tabGet [] s.tb.tstx port = r :: q → ∃ t, exec (.tbTsRecordPop init port true) s = .next t ∧
        tabGet [] t.tb.tstx port = q ∧ tabGet none t.tb.tsLatch (2 * port + 1) = some r ∧ t.tb.tsrx = s.tb.tsrx) ∧
      (tabGet [] s.tb.tsrx port = [] → exec (.tbTsRecordPop init port false) s = .next { s with reply := some 0 })) ∧
    (∀ n, n < 16 →
      let x := tcapGet s n
      (∀ rise, x.level = !rise → regBit s (Reg.TCAP_CFG n) 31 = true →
        let want := regFld s (Reg.TCAP_CFG n) (if rise then 4 else 5) 1 = 1
        ∃ t, exec (.tcapEdge n rise) s = .next t ∧ (tcapGet t n).level = rise ∧
          (¬want → (tcapGet t n).queue = x.queue) ∧
          (want → x.queue.length < 8 → (tcapGet t n).queue =
            x.queue ++ [{ stamp := (workTime s + 2 ^ 32 - 8) % 2 ^ 32, rise := rise, ns := s.tb.elapsed }]) ∧
          (want → 8 ≤ x.queue.length → (tcapGet t n).queue = x.queue ∧
            regGet t (Reg.TCAP_LOST n) = BitVec.ofNat 32 (min ((regGet s (Reg.TCAP_LOST n)).toNat + 1) 0x7FFFFFFF))) ∧
      (reaches s init (Reg.TCAP_HEAD n) false = true →
        (x.queue = [] → exec (.tcapHeadRead init n) s = .next { s with reply := some 0 }) ∧
        (∀ r q, x.queue = r :: q → ∃ t, exec (.tcapHeadRead init n) s = .next t ∧ (tcapGet t n).queue = q ∧
          (tcapGet t n).latch = some r ∧ t.reply = some (BitVec.ofNat 64 ((2 ^ 31 + (if r.aged then 2 ^ 30 else 0) +
            (if r.rise then 2 ^ 29 else 0) + q.length) % 2 ^ 32)))) ∧
      (∀ r, x.queue = [r] → ∃ t, exec (.tcapAged n) s = .next t ∧
        (tcapGet t n).queue = [{ r with aged := r.aged || decide (r.ns + 2 ^ 31 ≤ s.tb.elapsed) }])) ∧
    (∀ n, n < 8 →
      let x := tpulseGet s n
      let start := (regGet s (Reg.TPULSE_START n)).toNat
      let period := (regGet s (Reg.TPULSE_PERIOD n)).toNat
      let armed := regBit s (Reg.TPULSE_CFG n) 31
      (reaches s init (Reg.TPULSE_CFG n) true = true →
        (armed = true → exec (.tpulseArm init n) s = .next s) ∧
        (armed = false → ∃ t, exec (.tpulseArm init n) s = .next t ∧ regBit t (Reg.TPULSE_CFG n) 31 = true ∧
          (reached (workTime s) start = true → regBit t (Reg.TPULSE_CFG n) 29 = true) ∧
          (tpulseGet t n).armTick = s.tb.ticks ∧ (tpulseGet t n).active = x.active ∧
          (reached (workTime s) start = false ∨ period = 0 → (tpulseGet t n).next = start) ∧
          (workTime s < 2 ^ 32 → reached (workTime s) start = true → period ≠ 0 → period < 2 ^ 31 →
            reached (workTime s) (tpulseGet t n).next = false ∧ ∃ k, (tpulseGet t n).next = (start + k * period) % 2 ^ 32 ∧
              regGet t (Reg.TPULSE_SKIP n) = BitVec.ofNat 32 (min ((regGet s (Reg.TPULSE_SKIP n)).toNat + k) 0x7FFFFFFF)))) ∧
      (armed = true → reached (workTime s) x.next = true → x.armTick < s.tb.ticks →
        ∃ t, exec (.tpulseFire n) s = .next t ∧ (tpulseGet t n).active = true ∧
          (tpulseGet t n).endTick = s.tb.ticks + regFld s (Reg.TPULSE_WIDTH n) 0 16 ∧
          (period = 0 → regBit t (Reg.TPULSE_CFG n) 31 = false) ∧
          (period ≠ 0 → regBit t (Reg.TPULSE_CFG n) 31 = true ∧ ∃ k, (tpulseGet t n).next = (x.next + (k + 1) * period) % 2 ^ 32)) ∧
      (exec (.tpulseWidthEnd n) s = .next (if x.active = true ∧ x.endTick ≤ s.tb.ticks then tpulsePut s n { x with active := false } else s)))

/-! ## Camera intake, graphics and display -/

/-- R541–R563: a frame start opens a frame, or adds to the gap when the ring is full; a long packet is written as the next line, a
surplus one is counted; the counter is taken from embedded data; a frame end, the timeout and EN = 0 close the frame; a closed frame
is handed over, and its signature kept; the port's lane events show in INTAKE_PORT_STAT. -/
def Obligations.CameraFrames : Prop :=
  ∀ (s : State) (init port vc n : Nat), port < 4 → portOn s port = true →
    let x := ctxGet s n
    (∀ i ∈ ([.csiFrameStart port vc n true, .csiFrameEnd port vc true, .csiLongPacket port vc n [] true false,
        .csiEmbeddedPacket port vc [] true] : List Instr), exec i s = .next (cntInc s (Reg.INTAKE_PORT_DISC port))) ∧
    (∀ p cnt, ctxsAt s port vc = [n] → ctxOn s n = true → ctxOwner s n = some p → ctxLive s n = true → x.frame = none →
      (ringFree s n = false → exec (.csiFrameStart port vc cnt false) s = .next (ctxPut s n { x with gap := x.gap + 1 })) ∧
      (∀ s1, let f := newFrame n p cnt s
        ringFree s n = true → intakeWrite p f.desc (frameDesc n f false 0 0 0) s = (true, s1) →
        f.no = x.next ∧ f.softime = workTime s ∧ f.gap = x.gap ∧ f.cfg = ctxCfg s n ∧
        ∃ t, exec (.csiFrameStart port vc cnt false) s = .next t ∧ (ctxGet t n).frame = some f ∧
          (ctxGet t n).next = (x.next + 1) % 2 ^ 32 ∧ (ctxGet t n).gap = 0 ∧ ∀ a, memByte t a = memByte s1 a)) ∧
    (∀ f, x.frame = some f →
      let closed := fun (fl : Nat) (t : State) => (ctxGet t n).frame = none ∧
        (ctxGet t n).closing = x.closing ++ [{ f with eoftime := workTime s, flags := f.flags ||| fl }] ∧
        ∀ m, m ≠ n → ctxGet t m = ctxGet s m
      (openAt s port vc = [n] → ∃ t, exec (.csiFrameEnd port vc false) s = .next t ∧ closed 0 t ∧ t.regs = s.regs) ∧
      (n < 16 → fld f.cfg.trig 0 12 ≠ 0 → f.sofNs + fld f.cfg.trig 0 12 * 1000000 ≤ s.tb.elapsed →
        ∃ t, exec (.csiFrameTimeout n) s = .next t ∧ closed 64 t ∧ t.regs = s.regs) ∧
      (n < 16 → (fld f.cfg.trig 0 12 = 0 ∨ s.tb.elapsed < f.sofNs + fld f.cfg.trig 0 12 * 1000000) →
        exec (.csiFrameTimeout n) s = .next s) ∧
      (n < 16 → reaches s init (Reg.INTAKE_CTX_CFG n) true = true → pageLocked s (Reg.INTAKE_CTX_CFG n) = false →
        ∃ t, exec (.intakeCtxDisable init n) s = .next t ∧ closed 4096 t ∧ ctxOn t n = false) ∧
      (∀ dt data, lineTaker s port vc dt = some n → ((ctxsOn s port vc).filter (fun m => decide ((ctxCfg s m).dt = dt))).length ≤ 1 →
        (f.cfg.lines ≤ f.packets → ∃ t g, exec (.csiLongPacket port vc dt data false false) s = .next t ∧ (ctxGet t n).frame = some g ∧
          g.surplus = f.surplus + 1 ∧ g.packets = f.packets + 1 ∧ g.got = f.got ∧ g.flags = f.flags ||| 2) ∧
        (∀ s1, f.packets < f.cfg.lines → f.dead = false → (storedLine f.cfg data).length = f.cfg.lb →
          intakeWrite f.part (f.buffer + f.packets * f.cfg.lstride) (storedLine f.cfg data) (takeFree s).2 = (true, s1) →
          ∃ t g, exec (.csiLongPacket port vc dt data false false) s = .next t ∧ (ctxGet t n).frame = some g ∧
            g.got = f.got ++ [f.packets] ∧ g.packets = f.packets + 1 ∧ g.flags = f.flags ∧ g.short = f.short ∧ g.long = f.long ∧
            ∀ a, memByte t a = memByte s1 a)) ∧
      (∀ data, openAt s port vc = [n] → ctxLive s n = true → f.cfg.cntsrc = 2 → f.counter = none →
        4 * fld f.cfg.cfg 0 8 + 4 ≤ data.length →
        ∃ t, exec (.csiEmbeddedPacket port vc data false) s = .next t ∧
          (ctxGet t n).frame = some { f with counter := some (leAt data (4 * fld f.cfg.cfg 0 8) 4) })) ∧
    (∀ f rest, n < 16 → x.closing = f :: rest → f.cfg.lines ≤ f.packets → (∀ l, l < f.cfg.lines → l ∈ f.got) →
      ∃ t, exec (.frameCloseComplete n) s = .next t ∧ (ctxGet t n).closing = rest ∧ (ctxGet t n).prevSig = some (frameSig f) ∧
        (ctxGet t n).run = (if x.prevSig = some (frameSig f) then x.run + 1 else 0) ∧ (ctxGet t n).frame = x.frame) ∧
    (∀ y ∈ ([(.ulpsEntry port, 2, true), (.ulpsExit port, 2, false), (.deskewSequence port, 1, true), (.hsBurstStart port, 0, true),
        (.hsBurstEnd port, 0, false)] : List (Instr × Nat × Bool)),
      ∃ t, exec y.1 s = .next t ∧ ∀ b, b < 32 →
        regBit t (Reg.INTAKE_PORT_STAT port) b = if b = y.2.1 then y.2.2 else regBit s (Reg.INTAKE_PORT_STAT port) b)

/-- R573–R602: the front end binds the first waiting render job whose block passes its tests; it hands out packets of vertices and
END packets, takes them back, retires the oldest fragment sample by sample, and writes out or skips a finished tile. R592–R600: a pipe
that enters vertical blanking latches its planes and the flips that pass; a line that ran late is counted once; a composed frame's
signature is judged; AUX and hot plug show in their registers. -/
def Obligations.GraphicsAndDisplay : Prop :=
  (∀ (s : State) (slot : Nat), slot < 65536 →
    (∀ b s1, regBit s Reg.GFX_CFG 31 = true → gfxSlot s = none → gfxNext s = some slot → (dowelGet s slot).replayDue = false →
      gfxRead (dsArgs (dowelGet s slot).desc) 128 s = (some b, s1) → blockOk b = true →
      (∀ i, i < 4 → ownsGranule s1 (gOwner s1) (nfld (leAt b 76 1) 0 7 + i) = true) →
      (∀ r, r < dsBays (dowelGet s slot).desc → ownsPeg s1 (gOwner s1) (leAt b 108 2 + r) = true) →
      ∃ t, exec (.gfxBind slot) s = .next t ∧ t.gfx.bound = handleOf s slot ∧ t.gfx.block = b ∧ t.gfx.stage = 0 ∧ t.gfx.draw = 0 ∧
        t.gfx.waiting = s.gfx.waiting.filter (fun k => decide (k ≠ slot))) ∧
    (gfxSlot s = some slot → (dowelGet s slot).suspended = false → (dowelGet s slot).ending = none → (dowelGet s slot).replayDue = false →
      (∀ r l s1, s.gfx.stage = 0 → s.gfx.drec ≠ [] → s.gfx.vnext < leAt s.gfx.drec 16 4 → nextRank s slot (fun _ => true) = some r →
        readVerts (rangeFrom s.gfx.vnext (min 32 (leAt s.gfx.drec 16 4 - s.gfx.vnext))) [] s = (some l, s1) →
        let n := min 32 (leAt s.gfx.drec 16 4 - s.gfx.vnext)
        ∃ t, exec .gfxPacketIssue s = .next t ∧ t.gfx.vnext = s.gfx.vnext + n ∧ t.gfx.last = r ∧
          t.gfx.out = s.gfx.out ++ [{ rank := r, num := tabGet 0 s.gfx.issued r, kind := 1, first := s.gfx.vnext, count := n }] ∧
          tabGet 0 t.gfx.issued r = tabGet 0 s.gfx.issued r + 1) ∧
      (∀ r, s.gfx.stage = 2 → nextRank s slot (fun r => !s.gfx.ended.contains r) = some r →
        ∃ t, exec .gfxPacketIssue s = .next t ∧ t.gfx.ended = s.gfx.ended ++ [r] ∧ t.gfx.last = r ∧
          t.gfx.out = s.gfx.out ++ [{ rank := r, num := tabGet 0 s.gfx.issued r, kind := 3 }])) ∧
    (∀ r p, r < 64 → gfxSlot s = some slot → s.gfx.out.find? (fun p => decide (p.rank = r)) = some p →
      let done := leVal (mboxRead s slot r (gBlk s 104 4 + 0x0FF8) 8)
      (done ≤ p.num → exec (.gfxPacketReturn r) s = .next s) ∧
      (p.num < done → p.kind ≠ 1 → ∃ t, exec (.gfxPacketReturn r) s = .next t ∧ t.gfx.out = s.gfx.out.erase p ∧
        tabGet 0 t.gfx.returned r = tabGet 0 s.gfx.returned r + 1 ∧ t.gfx.board.map (·.frag) = s.gfx.board.map (·.frag) ∧
        (p.kind = 2 → ∀ e ∈ t.gfx.board, e.rank = r → e.num = p.num → e.out.isSome = true))) ∧
    (∀ e rest g, gfxSlot s = some slot → s.gfx.board = e :: rest → s.gfx.tile = some g →
      (e.out = none → exec .gfxFragmentRetire s = .next s) ∧
      (∀ c, e.out = some (c, true) → exec .gfxFragmentRetire s = .next { s with gfx := { s.gfx with board := rest } }) ∧
      (∀ c, e.out = some (c, false) → ∃ t h, exec .gfxFragmentRetire s = .next t ∧ t.gfx.board = rest ∧ t.gfx.tile = some h ∧
        ∀ k, k < gSamples s →
          let key := sampleKey e.frag.x e.frag.y k
          tabGet 0 h.color key = if e.frag.mask.testBit k then
            blendColor (gFmt s) (leAt (psoOf s e.draw) 60 4) (tabGet 0 g.color key) c else tabGet 0 g.color key)) ∧
    (∀ g, gfxSlot s = some slot → s.gfx.tile = some g → g.pend = [] → s.gfx.board = [] → s.gfx.tris.length ≤ g.next →
      gBlk s 40 8 = 0 → gTiles s ≤ g.t + 1 → (gBlk s 12 4 + g.t) % gBlk s 101 1 ≠ 0 →
      let r := tileRect s g.t
      let sig := (rangeFrom r.2.1 r.2.2).foldl (fun a y => foldWords a (colorRow s g r.1 y)) 0
      (∀ s1, gBlk s 56 8 = 0 →
        writeRows (gBlk s 16 8) (gBlk s 24 4) (colorBytes (gFmt s)) r.1 (colorRow s g r.1) (rangeFrom r.2.1 r.2.2) s = (true, s1) →
        ∃ t, exec .gfxTileWriteout s = .next t ∧ t.gfx.tile = none ∧ t.gfx.stage = 2 ∧
          regGet t Reg.GFX_TILE_WRITE_CNT = BitVec.ofNat 32 (min ((regGet s1 Reg.GFX_TILE_WRITE_CNT).toNat + 1) 0x7FFFFFFF) ∧
          ∀ a, memByte t a = memByte s1 a) ∧
      (∀ l s1, gBlk s 56 8 ≠ 0 → gfxRead (gBlk s 56 8 + 16 * g.t) 16 s = (some l, s1) → (leVal l).testBit 64 = true →
        leVal l % 2 ^ 64 = sig.toNat →
        ∃ t, exec .gfxTileWriteout s = .next t ∧ t.gfx.tile = none ∧ t.gfx.stage = 2 ∧
          regGet t Reg.GFX_TILE_SKIP_CNT = BitVec.ofNat 32 (min ((regGet s1 Reg.GFX_TILE_SKIP_CNT).toNat + 1) 0x7FFFFFFF) ∧
          ∀ a, memByte t a = memByte s1 a))) ∧
  (∀ (s : State) (init pipe : Nat), pipe < 4 →
    (regBit s (Reg.DISP_PIPE_CFG pipe) 31 = true →
      ((∀ q ∈ pipePlanes pipe, (updGet s (planeRegion q)).running = none) →
        ∃ t, exec (.verticalBlanking pipe) s = .next t ∧ (∀ q ∈ pipePlanes pipe, planeLat t q = latchPlane s q) ∧
          regFld t (Reg.DISP_PIPE_STAT pipe) 16 16 = (regFld s (Reg.DISP_PIPE_STAT pipe) 16 16 + 1) % 2 ^ 16) ∧
      (∀ x line, line < regFld s (Reg.DISP_VTIME pipe) 0 16 → x < regFld s (Reg.DISP_HTIME pipe) 0 16 →
        ∃ t, exec (.displayLineUnderrun pipe x line) s = .next t ∧
          (tabGet none s.disp.late (65536 * pipe + line) = none → tabGet none t.disp.late (65536 * pipe + line) = some x ∧
            regGet t (Reg.DISP_UNDERRUN_CNT pipe) =
              BitVec.ofNat 32 (min ((regGet s (Reg.DISP_UNDERRUN_CNT pipe)).toNat + 1) 0x7FFFFFFF)) ∧
          (∀ y, tabGet none s.disp.late (65536 * pipe + line) = some y →
            tabGet none t.disp.late (65536 * pipe + line) = some (min x y) ∧ t.regs = s.regs)) ∧
      (∀ sig s1, watchOn s pipe = true → watchSig pipe s = (sig, s1) →
        let run := regFld s1 (Reg.DISP_WATCH_STAT pipe) 0 8 + 1
        ∃ t, exec (.outputWatchSignature pipe) s = .next (if sigExpected s1 pipe sig = false ∧ run = regFld s1 (Reg.DISP_WATCH_CFG pipe) 0 8 then
            raise (0x0D0 + pipe) (some 0) (sig.toNat % 2 ^ 32) t else t) ∧
          pairGet t (Reg.DISP_WATCH_LAST pipe) = sig.toNat ∧ tabGet 0 t.disp.watchNs pipe = s1.tb.elapsed ∧
          regFld t (Reg.DISP_WATCH_STAT pipe) 0 8 = if sigExpected s1 pipe sig then 0 else min run 255)) ∧
    (∀ q slot s1, (updGet s (planeRegion q)).running = some slot → (dowelGet s slot).tested = true → (dowelGet s slot).waitsMet = true →
      (dowelGet s slot).waitPoison = false → q < 24 →
      let l := (dowelGet s slot).payload
      unitCheck 0x72 ((planeOwner s q).getD 0) 6 .read
        (sourcePieces (leAt l 8 8) (leAt l 4 4) ((planeLat s q).w * pixBytes (leAt l 2 1)) (planeLat s q).h) s = (true, s1) →
      ∃ t, latchFlip q s = completeDowel raise slot .doneOk 0 t ∧ pairGet t (Reg.DISP_PL_BASE q) = leAt l 8 8 ∧
        regGet t (Reg.DISP_PL_PITCH q) = BitVec.ofNat 32 (leAt l 4 4) ∧ regFld t (Reg.DISP_PL_CFG q) 24 2 = leAt l 2 1 % 4) ∧
    (watchOn s pipe = true → tabGet 0 s.disp.watchNs pipe + 3 * framePeriod s pipe ≤ s.tb.elapsed →
      ∃ t, exec (.outputWatchMissing pipe) s = .next (raise (0x0D0 + pipe) (some 0) 0xFFFFFFFF t) ∧
        regBit t (Reg.DISP_WATCH_STAT pipe) 31 = true) ∧
    (∀ v : Word32, reaches s init (Reg.DISP_AUX_CMD pipe) true = true → pageLocked s (Reg.DISP_AUX_CMD pipe) = false → fld v 28 3 = 0 →
      ∃ t, exec (.dispAuxGo init pipe v) s = .next t ∧ regBit t (Reg.DISP_AUX_CMD pipe) 31 = true ∧
        regFld t (Reg.DISP_AUX_CMD pipe) 0 28 = fld v 0 28 ∧ regGet t Reg.GLOBAL_RSVD_CNT = regGet s Reg.GLOBAL_RSVD_CNT) ∧
    (∀ reply data, regBit s (Reg.DISP_AUX_CMD pipe) 31 = true →
      ∃ t, exec (.auxTransactionDone pipe reply data) s = .next t ∧ regBit t (Reg.DISP_AUX_CMD pipe) 31 = false ∧
        regBit t (Reg.DISP_AUX_STAT pipe) 31 = true ∧ regFld t (Reg.DISP_AUX_STAT pipe) 0 4 = reply % 16 ∧
        ∀ i, i < min data.length 16 → regFld t (Reg.DISP_AUX_DATA0 pipe + i / 4 * 4) (8 * (i % 4)) 8 = leAt data i 1) ∧
    (∀ level irq, ∃ t, exec (.hpdEvent pipe level irq) s = .next t ∧ regBit t (Reg.DISP_AUX_STAT pipe) 17 = level ∧
      (irq = true → regBit t (Reg.DISP_AUX_STAT pipe) 16 = true) ∧
      (irq = false → regBit t (Reg.DISP_AUX_STAT pipe) 16 = regBit s (Reg.DISP_AUX_STAT pipe) 16)))

/-! ## Gateway -/

/-- R608–R625: a frame that no rule matches is counted; the acting rule forwards a frame to a queue of its class, which drops it when
full, or copies it into a partition's ring; frames out of range are dropped; host frames, receive records, rule loads, gate lists and
the CAN controllers' error counters follow their rules. -/
def Obligations.GatewayFrames : Prop :=
  (∀ (s : State) (src : GwIn) (f : GwFrame),
    let found := s.gw.rules.filter (fun e => ruleMatches src f e.2)
    (found = [] → gwHandle src f s = cntInc s Reg.GW_MISS_CNT) ∧
    (∀ i r q c l, found = [(i, r)] → f = .eth l → leAt r 1 1 = 1 + 16 * c → c < 8 → leAt r 5 2 = 2 ^ q → q < 5 → src ≠ .port q →
      (64 ≤ (egressQ s q c).length → gwHandle src f s = cntInc s (Reg.GW_PORT_DROP q)) ∧
      ((egressQ s q c).length < 64 → egressQ (gwHandle src f s) q c = egressQ s q c ++ [l] ∧ (gwHandle src f s).regs = s.regs ∧
        ∀ m d, 8 * m + d ≠ 8 * q + c → egressQ (gwHandle src f s) m d = egressQ s m d)) ∧
    (∀ i r p s1, found = [(i, r)] → leAt r 1 1 = 2 → nfld (leAt r 7 1) 0 3 = p → s.safety.stopped.getLsbD p = false →
      regBit s (Reg.GW_RX_CFG p) 31 = true → (tabGet [] s.gw.rxRecs p).length < 256 →
      let size := 2 ^ regFld s (Reg.GW_RX_CFG p) 0 4
      let pi := tabGet 0 s.gw.rxPI p
      let l := match f with | .eth l => l | .can c => tunnelHead src.can 0 c ++ c.data
      (pi + 512 - regFld s (Reg.GW_RX_CI p) 0 9) % 512 ≠ size →
      unitWrite 0x73 p 7 (pairGet s (Reg.GW_RX_BASE p) % 2 ^ 48 + pi % size * 2048) l s = (true, s1) →
      ∃ t, gwHandle src f s = t ∧ tabGet 0 t.gw.rxPI p = (pi + 1) % 512 ∧ (∀ a, memByte t a = memByte s1 a) ∧
        tabGet [] t.gw.rxRecs p = tabGet [] s.gw.rxRecs p ++
          [{ port := match src with | .port n => n | .host _ => 16, rule := i, len := l.length, stamp := 0 }])) ∧
  (∀ (s : State) (init n : Nat), n < 5 →
    (∀ l : List Byte, regBit s (Reg.GW_PORT_CFG n) 31 = true →
      (l.length < 64 ∨ 2000 < l.length → exec (.ethernetFrameReceive n l) s = .next (cntInc s (Reg.GW_PORT_DROP n))) ∧
      (64 ≤ l.length → l.length ≤ 2000 → ethType l ≠ 0x88F7 → (n < 4 → regBit s Reg.SEAL_SRC_CFG n = false) →
        exec (.ethernetFrameReceive n l) s = .next (gwHandle (.port n) (.eth l) s)) ∧
      (∀ c rest ns, c < 8 → egressQ s n c = l :: rest → (∀ d, c < d → d < 8 → egressQ s n d = []) → frameNs s n l = some ns →
        (n < 4 → regBit s (Reg.GW_TAS_CTRL n) 31 = false) → ethType l ≠ 0x88F7 →
        ∃ t, exec (.egressFrameSend n) s = .next t ∧ egressQ t n c = rest ∧ tabGet [] t.gw.wire n = l ∧ t.regs = s.regs)) ∧
    (n < 4 → let t := tasGet s n
     (t.next = none → t.list ≠ [] → entryEnd t ≤ s.tb.elapsed → exec (.gateEntryStart n) s =
        .next (tasPut s n { t with entry := if t.list.length ≤ t.entry + 1 then 0 else t.entry + 1, entryNs := entryEnd t })) ∧
     (t.list ≠ [] → s.tb.elapsed < entryEnd t → exec (.gateEntryStart n) s = .next s) ∧
     (∀ v : Word32, let w := v ||| 0x40000000#32
       reaches s init (Reg.GW_TAS_CTRL n) true = true → wordRefuses (Reg.GW_TAS_CTRL n) w = false → fld w 0 9 ≤ 256 →
       ∃ u, exec (.tasCommit init n v) s = .next u ∧ (tasGet u n).list = t.list ∧ regBit u (Reg.GW_TAS_CTRL n) 29 = true ∧
         (tasGet u n).next = some ((List.range (fld w 0 9)).map (fun e =>
           (regFld s (Reg.GW_TAS_LIST0 n e) 0 8, (regGet s (Reg.GW_TAS_LIST1 n e)).toNat)), (regGet s (Reg.GW_TAS_BASE n)).toNat)) ∧
     (∀ l base, t.next = some (l, base) → reached (workTime s) base = true →
       (t.list = [] → ∃ u, exec (.gateListTakeover n) s = .next u ∧ tasGet u n = { list := l, entryNs := s.tb.elapsed } ∧
         regBit u (Reg.GW_TAS_CTRL n) 29 = false) ∧
       (t.list ≠ [] → t.list.length = t.entry + 1 → entryEnd t ≤ s.tb.elapsed →
         ∃ u, exec (.gateListTakeover n) s = .next u ∧ tasGet u n = { list := l, entryNs := entryEnd t } ∧
           regBit u (Reg.GW_TAS_CTRL n) 29 = false))) ∧
    (∀ speed, exec (.portLinkChange n speed) s =
      .next (if speed = 0 ∨ speed = 2 ∨ (n = 4 ∧ speed = 1) ∨ (n < 4 ∧ 3 ≤ speed ∧ speed ≤ 5) then regSetFld s (Reg.GW_PORT_CFG n) 0 3 speed else s))) ∧
  (∀ (s : State) (init p : Nat) (v : Word32), p < 8 →
    (reaches s init (Reg.GW_TX_CMD p) true = true → s.safety.stopped.getLsbD p = false → wordRefuses (Reg.GW_TX_CMD p) v = false →
      let word := fun (x : Addr) => ((tabGet none s.staging (init * 2 ^ 48 + x)).getD (regGet s x)).toNat
      ((hostQ s p).length < 32 → ∃ t, exec (.gwTxCmd init p v) s = .next t ∧ hostQ t p = hostQ s p ++
        [((word (Reg.GW_TX_ADDR p) + 2 ^ 32 * word (Reg.GW_TX_ADDR p + 4)) % 2 ^ 48, fld v 0 11)]) ∧
      (32 ≤ (hostQ s p).length → ∃ t, exec (.gwTxCmd init p v) s = .next t ∧ hostQ t p = hostQ s p ∧
        regBit t (Reg.GW_TX_STAT p) 31 = true)) ∧
    (∀ a n rest l s2, hostQ s p = (a, n) :: rest →
      unitRead 0x73 p 7 a n { s with gw := { s.gw with hostTx := tabPut [] s.gw.hostTx p rest } } = (some l, s2) →
      hostQ s2 p = rest ∧ exec (.hostFrameProcess p) s = .next (gwHandle (.host p) (.eth (withFcs l)) s2)) ∧
    (reaches s init (Reg.GW_RX_HEAD p) false = true →
      (tabGet [] s.gw.rxRecs p = [] → exec (.gwRxHeadRead init p) s = .next { s with reply := some 0 }) ∧
      (∀ x rest, tabGet [] s.gw.rxRecs p = x :: rest → ∃ t, exec (.gwRxHeadRead init p) s = .next t ∧ tabGet [] t.gw.rxRecs p = rest ∧
        tabGet none t.gw.rxLatch p = some x ∧ t.regs = s.regs ∧
        t.reply = some (BitVec.ofNat 64 ((2 ^ 31 + x.port * 2 ^ 24 + x.rule * 2 ^ 14 + x.len) % 2 ^ 32)))) ∧
    (let w := v ||| 0x80000000#32
     reaches s init Reg.GW_RULE_CTRL true = true → fld w 0 10 + fld w 16 11 ≤ 1024 → wordRefuses Reg.GW_RULE_CTRL w = false →
      (s.gw.load = none → ∃ t, exec (.gwRuleLoadGo init v) s = .next t ∧ regBit t Reg.GW_RULE_STAT 31 = true ∧ t.gw.rules = s.gw.rules ∧
        t.gw.load = some { first := fld w 0 10, count := fld w 16 11, base := pairGet s Reg.GW_RULE_LOAD % 2 ^ 48 }) ∧
      (s.gw.load ≠ none → ∃ t, exec (.gwRuleLoadGo init v) s = .next t ∧ regBit t Reg.GW_RULE_STAT 30 = true ∧ t.gw = s.gw)) ∧
    (∀ g l s1, s.gw.load = some g →
      let s0 := regSetFld { s with gw := { s.gw with load := none } } Reg.GW_RULE_STAT 31 1 0
      unitRead 0x73 ((pageOwner s0 Reg.GW_RULE_CTRL).getD 0) 7 g.base (32 * g.count) s0 = (some l, s1) →
      (∀ k, k < g.count → checkOk (bytesAt l (32 * k) 32) = true) →
      ∃ t, exec .gwRuleLoadCommit s = .next t ∧ t.gw.load = none ∧
        ∀ i, tabGet (List.replicate 32 0) t.gw.rules i =
          if g.first ≤ i ∧ i < g.first + g.count then bytesAt l (32 * (i - g.first)) 32 else tabGet (List.replicate 32 0) s.gw.rules i)) ∧
  (∀ (s : State) (k : Nat), k < 8 →
    let a := Reg.GW_CAN_STAT k
    (∀ l i f, canBest l = some (i, f) → l[i]? = some f ∧ ∀ g ∈ l, canRank f ≤ canRank g) ∧
    (canOn s k = true →
      (∀ f, ∃ t, exec (.canFrameReceive k f) s = .next (gwHandle (.port (8 + k)) (.can f) t) ∧ t.gw = s.gw ∧
        regFld t a 8 8 = if 127 < regFld s a 8 8 then 127 else regFld s a 8 8 - 1) ∧
      (regBit s (Reg.GW_CAN_CTRL k) 1 = false →
        (∀ i f, canBest (canQ s k) = some (i, f) → ∃ t, exec (.canFrameTransmit k) s = .next t ∧ canQ t k = (canQ s k).eraseIdx i ∧
          tabGet none t.gw.canWire k = some (f, workTime s) ∧ regFld t a 0 8 = regFld s a 0 8 - 1) ∧
        (∀ eight, ∃ t, exec (.canBusError k true eight) s = .next t ∧ regFld t a 0 8 = min 255 (regFld s a 0 8 + 8) ∧
          (regBit t a 24 = true ↔ 255 < regFld s a 0 8 + 8) ∧ regFld t a 8 8 = regFld s a 8 8) ∧
        (∀ eight, ∃ t, exec (.canBusError k false eight) s = .next t ∧ regFld t a 0 8 = regFld s a 0 8 ∧
          regFld t a 8 8 = min 255 (regFld s a 8 8 + (if eight then 8 else 1))))) ∧
    (regBit s (Reg.GW_CAN_CTRL k) 31 = true → regBit s (Reg.GW_CAN_CTRL k) 0 = true → regBit s a 24 = true →
      ∃ t, exec (.canBusoffRecovery k) s = .next t ∧ regBit t a 24 = false ∧ regFld t a 0 8 = 0 ∧ regFld t a 8 8 = 0))

/-! ## Sealed commands, scribe, test access port and register accesses -/

/-- R610, R628–R634, R742, R772: a frame from SUP or the software window enters its buffer, or is answered BUSY; the unit takes the
next frame, rejects it with its first failing test, or accepts it with a dowel when it is critical; the effects of the sealed
commands on keys, time (R519), firmware and scribe, and the answers to the queries. -/
def Obligations.SealedCommands : Prop :=
  (∀ (s : State) (init : Nat) (bytes : List Byte) (v : Word32), epochDrawn s = true →
    (regBit s Reg.SEAL_SRC_CFG 31 = true →
      (s.sealU.sup = none → exec (.supWrite bytes) s = .next { s with sealU := { s.sealU with sup := some { src := 0, bytes := bytes } } }) ∧
      (s.sealU.sup ≠ none → exec (.supWrite bytes) s = .next (sealReject { src := 0, bytes := bytes } 0x09 s))) ∧
    (regBit s Reg.SEAL_SRC_CFG 31 = false → exec (.supWrite bytes) s = .next s) ∧
    (reaches s init Reg.SEAL_SW_CTRL true = true → wordRefuses Reg.SEAL_SW_CTRL v = false → regBit s Reg.SEAL_SRC_CFG 30 = true →
      s.sealU.sw = none → ∃ t, exec (.sealSwCtrl init v) s = .next t ∧
        t.sealU.sw = some { src := 5, bytes := (List.range (fld v 0 10)).map (tabGet 0 s.sealU.swWin) } ∧ t.sealU.sup = s.sealU.sup)) ∧
  (∀ (s : State) (n : Nat), exec (.supRead n) s = .next { s with sealU := { s.sealU with
      miso := bytesAt s.sealU.supRsp 0 n, supRsp := if s.sealU.supRsp.length ≤ n then [] else s.sealU.supRsp } }) ∧
  (∀ (s : State) (k : Nat) (f : SealFrame), s.sealU.accepted = none → sealNext s = some k → sealBuf s k = some f → f.src ≤ 5 →
    let s0 := sealBufPut s k none
    let u := { s0 with sealU := { s0.sealU with last := k } }
    let l := f.bytes
    (sealTest u f ≠ 0 → exec .sealFrameTake s = .next (sealReject f (sealTest u f) u)) ∧
    (sealTest u f = 0 → sealCritical (leAt l 1 1) = false → ∃ t, exec .sealFrameTake s = .next t ∧
      t.sealU.accepted = some { frame := f, payload := bytesAt l 16 (leAt l 4 2) }) ∧
    (sealTest u f = 0 → sealCritical (leAt l 1 1) = true →
      let a := takeFree (regPut u (Reg.SEAL_LASTSEQ (leAt l 2 1 % 8)) (BitVec.ofNat 32 (leAt l 12 4)))
      let d := sealedDowel (.sealed (leAt l 1 1)) (bytesAt l 16 (leAt l 4 2)) a.1
      (allocDowel a.2 d = none → exec .sealFrameTake s = .next (sealReject f 0x0A a.2)) ∧
      (∀ slot s3, allocDowel a.2 d = some (slot, s3) → ∃ t, exec .sealFrameTake s = .next t ∧
        t.sealU.accepted = some { frame := f, payload := bytesAt l 16 (leAt l 4 2), slot := slot } ∧
        regGet t (Reg.SEAL_LASTSEQ (leAt l 2 1 % 8)) = BitVec.ofNat 32 (leAt l 12 4)))) ∧
  (∀ (s : State) (c : Nat) (x : SealCmd), sealedWaits s c x →
    let u := sealedTaken s
    let k := leAt x.payload 0 1
    let attr := regGet s (Reg.SEAL_KEY_ATTR k)
    (c = 7 →
      (k = leAt x.frame.bytes 2 1 → exec .keyRevoke s = .next (sealDone x.slot 0x8101 u)) ∧
      (k ≠ leAt x.frame.bytes 2 1 → k < 8 → bitAt attr 31 = true → bitAt attr 30 = false →
        (∀ j, j < 8 → j ≠ k → revokerOk s j = false) → exec .keyRevoke s = .next (sealDone x.slot 0x8104 u)) ∧
      (∀ j, k ≠ leAt x.frame.bytes 2 1 → k < 8 → bitAt attr 31 = true → bitAt attr 30 = false → j < 8 → j ≠ k → revokerOk s j = true →
        exec .keyRevoke s = .next { u with sealU := { u.sealU with revoking := s.sealU.revoking ++ [(k, x.slot)] } })) ∧
    (∀ y ∈ ([(.identityReport, 0x20, identityReport s (leAt x.frame.bytes 2 1) x.payload), (.statusQuery, 0x21, statusPayload s),
        (.resultQuery, 0x22, resultPayload s (leAt x.payload 0 4))] : List (Instr × Nat × List Byte)), c = y.2.1 →
      exec y.1 s = .next (sealAnswer x.frame 0 0 y.2.2 u) ∧
      (x.frame.src = 0 → (sealAnswer x.frame 0 0 y.2.2 u).sealU.supRsp = sealResponse s c 0 0 y.2.2)) ∧
    (c = 6 → ∀ ok,
      (fwTest s x.payload ok ≠ 0 → exec (.firmwareAccept ok) s = .next (sealDone x.slot (fwTest s x.payload ok) u)) ∧
      (fwTest s x.payload ok = 0 → exec (.firmwareAccept ok) s = .next { u with boot := { u.boot with
        accept := some { slot := x.slot, typ := leAt x.payload 0 1, bank := leAt x.payload 1 1,
                         svn := imageSvn s (leAt x.payload 0 1) (leAt x.payload 1 1) } } })) ∧
    (c = 4 →
      (3 ≤ k ∨ leAt x.payload 1 3 ≠ 0 → exec .timeForceStep s = .next (sealDone x.slot 0x5001 u)) ∧
      (k < 3 → leAt x.payload 1 3 = 0 → k ≠ 0 ∨ s.tb.follow = none → exec .timeForceStep s = .next { u with tb := { u.tb with
        forces := s.tb.forces ++ [{ target := k, amount := sintOf 32 (leAt x.payload 4 4), slot := x.slot }] } })) ∧
    (c = 5 →
      (lifeState s ≠ 2 → exec .scribeEnable s = .next (sealDone x.slot 0x8001 u)) ∧
      (lifeState s = 2 →
        let u1 := raise 0x100 none 0 u
        regBit u1 Reg.SCRIBE_STATE 0 = false →
        ∃ t, exec .scribeEnable s = .next t ∧ t.boot.scribe = u1.boot.scribe ++ [x.slot] ∧ t.regs = u1.regs))) ∧
  (∀ (s : State) (k slot : Nat), k < 8 → s.sealU.revoking = [(k, slot)] →
    ∃ t, exec (.keyRevokeComplete k) s = .next (sealDone slot 0 t) ∧ t.sealU.revoking = [] ∧ regBit t (Reg.SEAL_KEY_ATTR k) 30 = true) ∧
  (∀ (s : State) (a : FwAccept), s.boot.accept = some a →
    let other := if s.boot.copy = some 0 then 1 else 0
    let u := { s with boot := { s.boot with accept := none } }
    (∃ t, exec (.firmwareAcceptDone true) s = .next (sealDone a.slot 0 t) ∧ t.boot.accept = none ∧ t.boot.record = newRecord u a ∧
      t.boot.copy = some other ∧ t.regs = s.regs) ∧
    (∃ t, exec (.firmwareAcceptDone false) s = .next (sealDone a.slot 0x8207 t) ∧ t.boot.accept = none ∧
      t.boot.record = s.boot.record ∧ t.boot.copy = s.boot.copy)) ∧
  (∀ (s : State) (slot : Nat), s.boot.scribe = [slot] →
    (s.safety.fast = false → ∃ t, exec .scribePatternStart s = .next t ∧ t.safety.fast = true ∧ t.boot.scribeNs = s.tb.elapsed) ∧
    (s.safety.fast = true → s.tb.elapsed < s.boot.scribeNs + 125000 → exec .scribeDriverEnable s = .next s) ∧
    (s.safety.fast = true → s.boot.scribeNs + 125000 ≤ s.tb.elapsed → ∃ t, exec .scribeDriverEnable s = .next (sealDone slot 0 t) ∧
      t.boot.scribe = [] ∧ regBit t Reg.SCRIBE_STATE 0 = true))

/-- R425, R630, R738, R770, R777–R784: an instruction of the test access port is in force when the lifecycle state, or WRST_N, allows
it, and acts as BYPASS otherwise; fuses, keys and the lifecycle are burned, and an image is loaded. R34–R39, R357: a register access of
a page that the initiator reaches reads or writes the word; one outside is an access error; a hart's load reads memory. -/
def Obligations.AccessPorts : Prop :=
  (∀ s : State,
    let inForce := fun (ir drive : Nat) (t : State) => t.boot.jtag.ir = ir ∧ t.boot.jtag.drive = drive
    (∀ y ∈ ([(.extest, 0x00, 1), (.clamp, 0x03, 1), (.highz, 0x04, 2)] : List ((Bool → Instr) × Nat × Nat)), ∀ wrst,
      (wrst = true ∨ jtagLife s = some 1 → ∃ t, exec (y.1 wrst) s = .next t ∧ inForce y.2.1 y.2.2 t ∧ t.regs = s.regs) ∧
      (wrst = false → jtagLife s ≠ some 1 → ∃ t, exec (y.1 wrst) s = .next t ∧ inForce 0xFF 0 t ∧ t.regs = s.regs)) ∧
    (∃ t, exec .bypass s = .next t ∧ inForce 0xFF 0 t) ∧
    (∃ t, exec .tapReset s = .next t ∧ inForce 0x01 0 t) ∧
    (∃ t, exec .idcode s = .next t ∧ inForce 0x01 0 t ∧
      t.reply = some (BitVec.ofNat 64 (regFld s Reg.GLOBAL_DEVID 8 4 * 2 ^ 28 + 0x0736 * 2 ^ 12 + 0x4E5 * 2 + 1))) ∧
    (∀ pins load, ∃ t, exec (.samplePreload pins load) s = .next t ∧ inForce 0x02 0 t ∧ t.boot.jtag.sample = BitVec.ofNat 2968 pins ∧
      t.boot.jtag.bsr = BitVec.ofNat 2968 load) ∧
    (∀ y ∈ ([(.debug, 0x43, [1]), (.fuseProg (.bay 0), 0x40, [0, 1]), (.keyProg false 0 [] 0, 0x41, [1]), (.islandLoad 0 [], 0x42, [1]),
        (.lifecycle 1, 0x44, [0, 1, 4])] : List (Instr × Nat × List Nat)),
      (∀ n, jtagLife s = some n → n ∈ y.2.2 → ∃ t, exec y.1 s = .next t ∧ inForce y.2.1 0 t) ∧
      (jtagLife s = none ∨ (∃ n, jtagLife s = some n ∧ n ∉ y.2.2) → ∃ t, exec y.1 s = .next t ∧ inForce 0xFF 0 t ∧
        t.boot.fuses = s.boot.fuses ∧ t.repair = s.repair ∧ t.sealU = s.sealU ∧ t.boot.islandSram = s.boot.islandSram)) ∧
    (∀ n, jtagLife s = some n → n < 2 →
      (∀ a m v, (a, m) ∈ fuseMasks → a ≠ Reg.GLOBAL_LIFECYCLE → ∃ t, exec (.fuseProg (.word a v)) s = .next t ∧
        fuseWord t a = fuseWord s a ||| (v &&& BitVec.ofNat 32 m) ∧ ∀ b, b ≠ a → fuseWord t b = fuseWord s b) ∧
      (∀ k, k < 36 → ∃ t, exec (.fuseProg (.bay k)) s = .next t ∧ ∀ i, i < 64 →
        t.repair.factoryBays.getLsbD i = (s.repair.factoryBays.getLsbD i || decide (i = k)))) ∧
    (jtagLife s = some 1 →
      (∀ k key attr, k < 8 → regBit s (Reg.SEAL_KEY_ATTR k) 31 = false → ∃ t, exec (.keyProg false k key attr) s = .next t ∧
        sealKey t k = bytesAt key 0 16 ∧ regBit t (Reg.SEAL_KEY_ATTR k) 31 = true) ∧
      (∀ k key attr, k < 4 → (tabGet {} s.boot.imageKeys k).prov = false → ∃ t, exec (.keyProg true k key attr) s = .next t ∧
        (tabGet {} t.boot.imageKeys k).prov = true ∧ (tabGet {} t.boot.imageKeys k).digest = bytesAt key 0 32) ∧
      (∀ o l, o + l.length ≤ 0x80000 → ∃ t, exec (.islandLoad o l) s = .next t ∧
        ∀ x, tabGet 0 t.boot.islandSram x = if o ≤ x ∧ x < o + l.length then l.getD (x - o) 0 else tabGet 0 s.boot.islandSram x) ∧
      (∀ target, target = 2 ∨ target = 5 → fuseWord s Reg.GLOBAL_LIFECYCLE = 1 → ∃ t, exec (.lifecycle target) s = .next t ∧
        fuseWord t Reg.GLOBAL_LIFECYCLE = BitVec.ofNat 32 target ∧ t.regs = s.regs))) ∧
  (∀ (s : State) (init a : Nat),
    (∀ y ∈ ([(Reg.TB_NOW, BitVec.ofNat 32 (workTime s)), (Reg.TB_BRIDGE, BitVec.ofInt 32 s.tb.bridge), (Reg.TB_STEP_LAST, regGet s Reg.TB_STEP_LAST),
        (Reg.GLOBAL_SERIAL, regGet s Reg.GLOBAL_SERIAL), (Reg.SEAL_EPOCH, regGet s Reg.SEAL_EPOCH)] : List (Addr × Word32)),
      reaches s init y.1 false = true → exec (.registerRead init y.1 4) s = .next { s with reply := some (y.2.zeroExtend 64) }) ∧
    (∀ size v, homeOf s a size = .regs →
      (widthOk a size = false → exec (.registerRead init a size) s = .next (accessError init 2 a s) ∧
        exec (.registerWrite init a size v) s = .next (accessError init 2 a s)) ∧
      (widthOk a size = true → reaches s init a false = false → exec (.registerRead init a size) s = .next (foreignPage init a s)) ∧
      (widthOk a size = true → ignoresWrite s init a = false → reaches s init a true = false →
        exec (.registerWrite init a size v) s = .next (foreignPage init a s))) ∧
    (∀ size v, homeOf s a size = .hole → exec (.registerRead init a size) s = .next (accessError init 0 a s) ∧
      exec (.registerWrite init a size v) s = .next (accessError init 1 a s)) ∧
    (∀ (x : Word64) r, homeOf s a 4 = .regs → widthOk a 4 = true → ignoresWrite s init a = false → reaches s init a true = true →
      let v := BitVec.ofNat 32 x.toNat
      writeActs init a v = none → regRow a = some r → r.half = .single →
      (wordRefuses a v = true → exec (.registerWrite init a 4 x) s = .next (cntInc s Reg.GLOBAL_RSVD_CNT)) ∧
      (wordRefuses a v = false → r.strays v = false →
        exec (.registerWrite init a 4 x) s = .next (regPut s a (r.write (pageLocked s a) v (regGet s a))))) ∧
    (∀ hart p size data c s1, hart < 12 → 1 ≤ size → size ≤ 8 → homeOf s a size = .dram → hartPart s hart = some p →
      (accessCheck s p 3 .read a size = (.ok c, s1) → ∃ t, exec (.hartAccess hart .read a size data) s = .next t ∧
        t.reply = some (BitVec.ofNat 64 (leVal (memRead s1 a size))) ∧ ∀ x, memByte t x = memByte s1 x) ∧
      (accessCheck s p 3 .write a size = (.ok c, s1) → ∃ t, exec (.hartAccess hart .write a size data) s = .next t ∧
        ∀ x, memByte t x = if a ≤ x ∧ x < a + size then (leBytes size data.toNat).getD (x - a) 0 else memByte s1 x)))

/-! ## Twin -/

/-- R644–R673, R676: training decides the width and the state; a flit arrives in order, is acknowledged, asked for again, or sent
again; a data flit writes, reads or completes a read; accords, heartbeats and TIME flits are sent at their intervals and act on
arrival; a REJOIN and a LEAVE follow their tests. -/
def Obligations.TwinLink : Prop :=
  (∀ s : State, training s = true →
    (∀ rx tx, s.twin.tested = none →
      let g := min (goodLanes s rx).length (goodLanes s tx).length
      (g < 8 → exec (.trussTraining rx tx) s = .next { s with twin := { s.twin with tested := some false } }) ∧
      (8 ≤ g → ∃ t, exec (.trussTraining rx tx) s = .next (if g < 16 then laneFault 3 0xFF t else t) ∧ t.twin.tested = some true ∧
        regBit t Reg.TRUSS_STATE 25 = decide (g < 16) ∧ regGet t Reg.TRUSS_LANES =
          BitVec.ofNat 32 (((goodLanes s rx).take (if g < 16 then 8 else 16)).foldl (fun m l => m + 2 ^ l) 0))) ∧
    (s.twin.tested = some true → ∃ t, exec .trussTrainingComplete s = .next t ∧ t.twin.up = true ∧ t.twin.tested = none ∧
      training t = false ∧
      (twinState s = 1 → t.twin.seq = 0 ∧ t.twin.rxSeq = 0 ∧ t.twin.sent = [] ∧ twinState t = if s.twin.alone then 5 else 2) ∧
      (twinState s ≠ 1 → t.twin.seq = s.twin.seq ∧ twinState t = twinState s ∧ t.twin.sent = s.twin.sent.map (fun e => (e.1, 1)) ∧
        regGet t Reg.TRUSS_RETRY_CNT =
          BitVec.ofNat 32 (min ((regGet s Reg.TRUSS_RETRY_CNT).toNat + s.twin.sent.length) 0x7FFFFFFF)))) ∧
  (∀ (s : State) (f : Flit), s.twin.up = true →
    (∀ lane, lane < 18 → regBit s Reg.TRUSS_LANES lane = true → ∃ t, exec (.trussLaneRetire lane) s = .next (retrain (laneFault 2 lane t)) ∧
      t.twin.retired = s.twin.retired ||| 2 ^ lane ∧ training (retrain (laneFault 2 lane t)) = true) ∧
    (f.typ ≠ 8 → f.check ≠ flitCheck f → exec (.flitReceive f) s = .next (headerBad s)) ∧
    (f.typ = 8 → f.check ≠ flitCheck f → exec (.flitNak f) s = .next (headerBad s)) ∧
    (f.check = flitCheck f →
      (f.typ = 0 → ∃ t, exec (.flitReceive f) s = .next t ∧ t.twin.rx = s.twin.rx ∧ t.twin.rxSeq = s.twin.rxSeq ∧
        t.twin.sent = s.twin.sent.filter (fun e => !seqUpTo e.1.seq f.ack)) ∧
      (f.typ ≠ 0 → f.typ ≠ 8 → f.seq = (s.twin.rxSeq + 1) % 65536 → flitPasses s f = true → ∃ t, exec (.flitReceive f) s = .next t ∧
        t.twin.rx = s.twin.rx ++ [f] ∧ t.twin.rxSeq = f.seq ∧ t.twin.sent = s.twin.sent.filter (fun e => !seqUpTo e.1.seq f.ack)) ∧
      (f.typ ≠ 0 → f.typ ≠ 8 → f.seq ≠ (s.twin.rxSeq + 1) % 65536 →
        exec (.flitReceive f) s = .next { s with twin := { s.twin with nak := some s.twin.rxSeq } }) ∧
      (f.typ = 8 → ∃ t, exec (.flitNak f) s = .next t ∧
        t.twin.sent = (s.twin.sent.filter (fun e => !seqUpTo e.1.seq f.ack)).map (fun e => (e.1, e.2 + 1)))) ∧
    (s.twin.sent ≠ [] → training s = false → ∃ t, exec .flitRetryLimit s = .next t ∧ training t = true ∧ t.twin.tested = none)) ∧
  (∀ (s : State) (typ : Nat) (f : Flit) (rest : List Flit), flitWaits s typ f rest →
    let u := flitTaken s rest
    (typ = 1 → ∀ b off, homeOf s f.addr f.body.length = .store b off →
      exec .flitWrite s = .next (let t := devWrite u f.addr f.body
        if f.signal.testBit 15 then pegSignal t (f.signal % 2048) (.add 1) else t)) ∧
    (typ = 2 → ∀ b off, homeOf s f.addr f.len = .store b off → windowWaits s f.addr f.len = false → ∃ t e, exec .flitRead s = .next t ∧
      t.twin.sent.getLast? = some (e, 1) ∧ e.typ = 3 ∧ e.tag = f.tag ∧ e.body = devRead u f.addr f.len ∧ t.twin.rx = rest) ∧
    (typ = 3 → ∀ a n, s.twin.reads = [(f.tag, a, n)] → ∃ t, exec .flitRdata s = .next t ∧ t.twin.reads = [] ∧
      ∀ i, i < n → tabGet none t.twin.mirror (a + i) = some (f.body.getD i 0)) ∧
    (typ = 4 → ∀ c, f.ctl = some c → exec .flitControl s = .next (ctlTake c u) ∧
      (∀ h x, c = .start h x → partJob s h = true → (dowelGet (ctlTake c u) (partSlot h)).startAt = some x) ∧
      (∀ h flags div, c = .ended h flags div → homeJob s h = true →
        (dowelGet (ctlTake c u) (slotOf h)).peerEnded = true ∧
          (dowelGet (ctlTake c u) (slotOf h)).div = (dowelGet s (slotOf h)).div + div) ∧
      (c = .leave → twinJoined s = true → ctlTake c u = split 3 u)) ∧
    (typ = 5 →
      let l := bytesAt f.body 0 64
      (checkOk l = false → exec .accordReceive s = .next (raise 0x0F1 none 5 (cntInc u Reg.TRUSS_ACCORD_BAD))) ∧
      (checkOk l = true → accordTest s l = none → twinState s = 2 → leAt l 1 1 = 2 ∨ leAt l 1 1 = 3 → s.twin.rejoin = none →
        ∃ t, exec .accordReceive s = .next t ∧ twinState t = 3 ∧ t.twin.peer = l ∧ t.twin.heardNs = s.tb.elapsed) ∧
      (checkOk l = true → accordTest s l = some .config → twinState s = 2 →
        let v := regPut { u with twin := { u.twin with peer := l } } Reg.TRUSS_PEER_SERIAL (BitVec.ofNat 32 (leAt l 52 4))
        exec .accordReceive s = .next (rejoinEnds 0x9104 (standAlone 2 (raise 0x0F1 none 1 v))))) ∧
    (typ = 6 → ∃ t, exec .heartbeatReceive s = .next t ∧ t.twin.heardNs = s.tb.elapsed ∧
      regGet t Reg.TRUSS_PEER_LAST = BitVec.ofNat 32 (workTime s) ∧
      regGet t Reg.TRUSS_PEER = BitVec.ofNat 32 (leAt f.body 0 1 % 8 * 2 ^ 29 + leAt f.body 1 1 % 8)) ∧
    (typ = 7 →
      (twinSecondary s = false → ∃ t, exec .timeFlitReceive s = .next t ∧ t.tb = s.tb ∧ regGet t Reg.TRUSS_DELAY =
        BitVec.ofNat 32 (((workTime s + 2 ^ 32 - leAt f.body 0 4) % 2 ^ 32 - leAt f.body 4 4) / 2 % 65536)) ∧
      (twinSecondary s = true → ∃ t, exec .timeFlitReceive s = .next t ∧
        regGet t Reg.TRUSS_DELAY = BitVec.ofNat 32 (leAt f.body 8 4 % 65536) ∧
        ((leAt f.body 12 1).testBit 0 = true → t.tb.follow.isSome = true) ∧
        ((leAt f.body 12 1).testBit 0 = false → t.tb.follow = none)))) ∧
  (∀ s : State,
    let sent := fun (typ : Nat) (body : List Byte) (t : State) => t.twin.seq = (s.twin.seq + 1) % 65536 ∧
      ∃ e, t.twin.sent.getLast? = some (e, 1) ∧ e.typ = typ ∧ e.body = body ∧ e.seq = t.twin.seq ∧ e.check = flitCheck e
    (accordDue s = true → ∃ t, exec .accordSend s = .next t ∧ sent 5 (accordRecord s) t ∧ t.twin.accordNs = some s.tb.elapsed) ∧
    (twinJoined s = true →
      (s.twin.beatNs + 100000 ≤ s.tb.elapsed → ∃ t b, exec .heartbeatSend s = .next t ∧ sent 6 b t ∧ t.twin.beatNs = s.tb.elapsed) ∧
      (s.tb.elapsed < s.twin.beatNs + 100000 → exec .heartbeatSend s = .next s) ∧
      ((∀ f ∈ s.twin.rx, f.typ ≠ 6) → s.twin.heardNs + 300000 ≤ s.tb.elapsed → exec .heartbeatLoss s = .next (split 1 s)) ∧
      (s.tb.elapsed < s.twin.heardNs + 300000 → exec .heartbeatLoss s = .next s)) ∧
    (joinedPrimary s = true → s.twin.timeNs + 10000 ≤ s.tb.elapsed → ∃ t b, exec .timeFlitSend s = .next t ∧ sent 7 b t ∧
      t.twin.timeNs = s.tb.elapsed ∧ t.tb.carry = 0 ∧ leAt b 0 4 = workTime s % 2 ^ 32) ∧
    (∀ slot t0, s.twin.rejoin = some (slot, t0) → t0 + 100000000 ≤ s.tb.elapsed → twinState s = 2 →
      exec .rejoinTimeout s = .next (sealDone slot 0x9105
        (let v := standAlone 0 s
         { v with twin := { v.twin with rejoin := none } }))) ∧
    (∀ x, sealedWaits s 8 x → leAt x.payload 0 1 = 1 ∨ leAt x.payload 0 1 = 2 → leAt x.payload 1 3 = 0 → s.twin.peer ≠ [] →
      let u := sealedTaken s
      let op := leAt x.payload 0 1
      let known := leAt x.payload 4 4 = leAt s.twin.peer 52 4
      (∀ i, i = (if op = 1 then Instr.accordOverrideRejoin else .accordOverrideLeave) →
        (¬known → exec i s = .next (sealDone x.slot 0x9102 u)) ∧
        (known → twinState s ≠ (if op = 1 then 5 else 3) → exec i s = .next (sealDone x.slot 0x9103 u))) ∧
      (op = 1 → known → twinState s = 5 → ∃ t, exec .accordOverrideRejoin s = .next t ∧ twinState t = 2 ∧
        t.twin.rejoin = some (x.slot, s.tb.elapsed) ∧ t.twin.accordNs = none) ∧
      (op = 2 → known → twinState s = 3 → exec .accordOverrideLeave s = .next (sealDone x.slot 0 (split 3 (sendCtl .leave u))))))

/-! ## Fabric controller -/

/-- R685–R699, R701: a doorbell moves PI of an enabled ring that has room; firmware takes the next request, tests it, and answers it
with its status; a collective is created, takes its contributions, writes its results and completes. -/
def Obligations.MailboxesAndCollectives : Prop :=
  (∀ (s : State) (init m : Nat) (v : Word32), m ≤ 16 → m % 2 = 0 →
    (reaches s init (Reg.MB_PI m) true = true →
      (mbOn s m = false → exec (.mailboxDoorbell init m v) s = .next s) ∧
      (mbOn s m = true → mbSlots s m < (fld v 0 9 + 512 - mbCI s m) % 512 →
        exec (.mailboxDoorbell init m v) s = .next (cntInc s Reg.GLOBAL_RSVD_CNT)) ∧
      (mbOn s m = true → (fld v 0 9 + 512 - mbCI s m) % 512 ≤ mbSlots s m → fld v 9 23 = 0 →
        ∃ t, exec (.mailboxDoorbell init m v) s = .next t ∧ mbPI t m = fld v 0 9 ∧ mbCI t m = mbCI s m)) ∧
    (∀ l s1, fcRuns s = true → mbNext s = some m → m < 16 →
      unitRead 0x10 (m / 2) 7 (mbAddr s m (mbCI s m)) 256 { s with fc := { s.fc with lastBox := m } } = (some l, s1) →
      let s2 := regPut s1 (Reg.MB_CI m) (BitVec.ofNat 32 ((mbCI s1 m + 1) % 512))
      (requestTest s2 m l = none → ∃ t, exec (.mailboxRequestTake m) s = .next t ∧ reqOf t m = l ∧ mbCI t m = (mbCI s1 m + 1) % 512) ∧
      (∀ c, requestTest s2 m l = some c → c ≠ 1 → exec (.mailboxRequestTake m) s = .next (answer m l c 0 [] s2))) ∧
    (∀ l st h b, reqOf (answer m l st h b s) m = [])) ∧
  (∀ (s : State) (m typ : Nat) (l : List Byte), m ≤ 16 → m % 2 = 0 → requestTaken s m typ l →
    let b := reqPayload l
    let q := leAt b 0 1
    let n := leAt b 2 2
    (typ = 1 → exec (.fwVersion m) s = .next (answer m l 0 0
      (leBytes 1 (regFld s Reg.FC_VERSION 24 8) ++ leBytes 1 (regFld s Reg.FC_VERSION 16 8) ++ leBytes 2 (regFld s Reg.FC_VERSION 0 16) ++
        leBytes 1 (regFld s Reg.FC_MSGVER 8 8) ++ leBytes 1 (regFld s Reg.FC_MSGVER 0 8) ++ leBytes 2 0 ++ bytesAt s.boot.fcDigest 0 8) s)) ∧
    (typ = 0x20 →
      (8 ≤ q ∨ 1 < leAt b 1 1 ∨ 2048 ≤ n → exec (.pegSignal m) s = .next (answer m l 5 0 [] s)) ∧
      (q < 8 → leAt b 1 1 ≤ 1 → n < 2048 → ownsPeg s q n = false → exec (.pegSignal m) s = .next (answer m l 6 0 [] s)) ∧
      (q < 8 → leAt b 1 1 ≤ 1 → n < 2048 → ownsPeg s q n = true → exec (.pegSignal m) s = .next
        (if regBit s (Reg.FC_ROUTE (m / 2)) q = false then answer m l 7 0 [] s
         else answer m l 0 0 [] (pegSignal s n (if leAt b 1 1 = 0 then .add (leAt b 4 4) else .set (leAt b 4 4)))))) ∧
    (typ = 0x21 →
      (8 ≤ q ∨ leAt b 1 3 ≠ 0 → exec (.messagePost m) s = .next (answer m l 5 0 [] s)) ∧
      (q < 8 → leAt b 1 3 = 0 → exec (.messagePost m) s = .next
        (if regBit s (Reg.FC_ROUTE (m / 2)) q = false then answer m l 7 0 [] s
         else answer m l 0 0 [] (if s.safety.stopped.getLsbD q then cntInc s (Reg.MB_NOTE_DROP (2 * q + 1))
           else notice (2 * q + 1) (m / 2) 0x51 ((b.drop 4).take 192) s)))) ∧
    (typ = 0x30 →
      (lbPhys s q = none → exec (.plumbStatus m) s = .next (answer m l 5 0 [] s)) ∧
      (∀ pb, lbPhys s q = some pb → exec (.plumbStatus m) s = .next (answer m l 0 0
        (leBytes 4 (tabGet 0 s.part.lastPassWt q) ++ leBytes 1 (if s.part.plumbed.contains q then 1 else 0) ++ leBytes 1 pb ++
          leBytes 2 (min (tabGet 0 s.safety.plumbRuns pb) 0xFFFF)) s))) ∧
    (typ = 0x40 →
      (31 < q → exec (.repairList m) s = .next (answer m l 5 0 [] s)) ∧
      (q ≤ 31 → let es := (s.repair.pendingEntries.drop q).take 24
        exec (.repairList m) s = .next (answer m l 0 0 (leBytes 1 s.repair.pendingEntries.length ++ leBytes 1 es.length ++ leBytes 6 0 ++
          es.flatMap (fun e => bytesAt e 0 8)) s))) ∧
    (typ = 0x10 →
      let c := bytesAt b 0 64
      let p := m / 2
      (collFieldsOk c = false → exec (.collCreate m) s = .next (answer m l 5 0 [] s)) ∧
      (∀ slot, collFieldsOk c = true → fpReduction c = false → collOwnedOk s p c = true → dowelsInUse s p < dowelQuota s p →
        collCount s (fun _ => true) < 64 → collCount s (fun x => decide (x.part = p)) < 16 → freeRun s 1 = some slot →
        twinJoined s = false → (∀ k ∈ collBays c, (if twinSecondary s then 32 ≤ k else k < 32)) →
        ∃ t x, exec (.collCreate m) s = .next (answer m l 0 (handleOf t slot) [] t) ∧ collGet t s.fc.nextColl = some x ∧
          x.req = c ∧ x.part = p ∧ x.slot = slot ∧ x.taken = [] ∧ x.written = false ∧ t.fc.nextColl = s.fc.nextColl + 1))) ∧
  (∀ (s : State) (n : Nat) (c : Coll), fcRuns s = true → collGet s n = some c → c.peerHandle = none →
    (∀ r d s2, c.written = false → c.taken.contains r = false → r < (collBays c.req).length → collFar s c r = false →
      (pegGet s (c.gopeg r)).poison = false → fpReduction c.req = false →
      (leAt c.req 28 4 ≤ (pegGet s (c.gopeg r)).count.toNat →
        readRanges c.part (contribRanges c ((collBays c.req).getD r 0) []) s = (some d, s2) → (∀ x ∈ c.first, x.rank ≠ r) →
        ∃ t, exec (.collContributionTake n r) s = .next t ∧ collGet t n = some { c with
          first := c.first ++ [{ rank := r, data := d, sig := contribSig d }], taken := c.taken ++ [r] }) ∧
      ((pegGet s (c.gopeg r)).count.toNat < leAt c.req 28 4 → exec (.collContributionTake n r) s = .next s)) ∧
    (∀ rs f s1, c.written = false → c.taken.length = (collBays c.req).length → fpReduction c.req = false → collResults c = some (rs, f) →
      unitCheck 0x10 c.part 7 .write ((List.range (collBays c.req).length).flatMap (fun r =>
        rowPieces (resultAddr c r) (rs.getD r []).length)) s = (true, s1) →
      ∃ t, exec (.collResultWrite n) s = .next (addRespeg c t) ∧ collGet t n = some { c with written := true }) ∧
    (c.taken.length < (collBays c.req).length → exec (.collResultWrite n) s = .next s) ∧
    (c.owner = 0 → exec (.collComplete n) s = .next (if c.written then completeDowel raise c.slot .doneOk 0 s else s)) ∧
    (c.owner ≠ 0 → c.ownerEnd = none → exec (.collComplete n) s = .next s) ∧
    (c.owner ≠ 0 → c.ownerEnd = some .split → exec (.collComplete n) s = .next (completeDowel raise c.slot .split 0 s)) ∧
    (c.owner ≠ 0 → c.ownerEnd = some .cancelled → exec (.collComplete n) s = .next (completeDowel raise c.slot .doneFault 0xA004 s)) ∧
    (∀ j, c.etype = 1 → c.op = 0 → collBays c.req ≠ [] → reduceElem c j = some (leBytes 4 (((List.range (collBays c.req).length).map
      (fun r => leAt (contribOf c r 0) (4 * j) 4)).sum % 2 ^ 32), {})))

/-! ## Clocks, resets and boot -/

/-- R711, R714–R719, R740, R741, R748: a bay clock request, the step in force, throttling by temperature, the pixel clocks and the
gating of an idle bay. R727–R729, R749: what a cold, a warm and an application reset leave. R426, R711, R721, R733, R735–R738: each
step of the boot goes on to the next, or stops with its code. -/
def Obligations.ClocksResetsBoot : Prop :=
  (∀ (s : State) (init : Nat) (v : Word32),
    (reaches s init Reg.CRP_BAY_CLK true = true →
      (fld v 0 2 < regFld s Reg.GLOBAL_GRADE 4 4 → exec (.crpBayClkReq init v) s = .next (cntInc s Reg.GLOBAL_RSVD_CNT)) ∧
      (regFld s Reg.GLOBAL_GRADE 4 4 ≤ fld v 0 2 → fld v 2 14 = 0 → fld v 18 14 = 0 → ∃ t, exec (.crpBayClkReq init v) s = .next t ∧
        regFld t Reg.CRP_BAY_CLK 0 2 = fld v 0 2 ∧ regFld t Reg.CRP_BAY_CLK 16 2 = regFld s Reg.CRP_BAY_CLK 16 2)) ∧
    (let want := max (regFld s Reg.CRP_BAY_CLK 0 2) (regFld s Reg.CRP_THROTTLE 16 2)
     (want ≠ regFld s Reg.CRP_BAY_CLK 16 2 → anyPlumb s = false → ∃ t, exec .bayClockStep s = .next t ∧
        regFld t Reg.CRP_BAY_CLK 16 2 = want ∧ regFld t Reg.CRP_BAY_CLK 0 2 = regFld s Reg.CRP_BAY_CLK 0 2 ∧
        regGet t Reg.CRP_STEP_CNT = BitVec.ofNat 32 (min ((regGet s Reg.CRP_STEP_CNT).toNat + 1) 0x7FFFFFFF)) ∧
     (want = regFld s Reg.CRP_BAY_CLK 16 2 ∨ anyPlumb s = true → exec .bayClockStep s = .next s)) ∧
    (let l := regFld s Reg.CRP_THROTTLE 16 2
     (2 ≤ tabGet 0 s.safety.thermRun 0x019 → s.boot.throttleMs < s.tb.elapsed / 1000000 → ∃ t, exec .throttleStepSlower s = .next t ∧
        regFld t Reg.CRP_THROTTLE 16 2 = min 3 (l + 1) ∧ t.boot.throttleMs = s.tb.elapsed / 1000000) ∧
     (s.tb.elapsed / 1000000 ≤ s.boot.throttleMs → exec .throttleStepSlower s = .next s) ∧
     (s.safety.coolSince + 10000000 ≤ s.tb.elapsed → ∃ t, exec .throttleStepFaster s = .next t ∧
        regFld t Reg.CRP_THROTTLE 16 2 = l - 1 ∧ t.safety.coolSince = s.safety.coolSince + 10000000) ∧
     (s.tb.elapsed < s.safety.coolSince + 10000000 → exec .throttleStepFaster s = .next s)) ∧
    (∀ i, i < 4 →
      (reaches s init (Reg.CRP_PIX_FRAC i) true = true →
        (regBit s (Reg.DISP_PIPE_CFG i) 31 = true → exec (.crpPixFrac init i v) s = .next (cntInc s Reg.GLOBAL_RSVD_CNT)) ∧
        (regBit s (Reg.DISP_PIPE_CFG i) 31 = false → fld v 24 8 = 0 → ∃ t, exec (.crpPixFrac init i v) s = .next t ∧
          regBit t (Reg.CRP_PIX_STAT i) 0 = false ∧ pixDivisor t i = regFld s (Reg.CRP_PIX_INT i) 0 9 * 2 ^ 24 + fld v 0 24)) ∧
      exec (.pixelPllLock i) s = .next (regSetFld s (Reg.CRP_PIX_STAT i) 0 1 1) ∧
      exec (.pixelPllLockLoss i) s = .next (regSetFld s (Reg.CRP_PIX_STAT i) 0 1 0)) ∧
    (∀ pb, pb < bayCount →
      ((bayGet s pb).st = .idle → (bayGet s pb).idleSince + 100000 ≤ s.tb.elapsed →
        exec (.bayClockGate pb) s = .next (bayPut s pb { bayGet s pb with gated := true })) ∧
      ((bayGet s pb).st ≠ .idle → exec (.bayClockGate pb) s = .next s))) ∧
  (∀ (s : State) (init : Nat),
    (∀ porst role flip, ∃ t, exec (.powerOnReset porst role flip []) s = .next t ∧ bootPhase t = 1 ∧ bootCode t = 0 ∧
      regGet t Reg.CRP_RST_CAUSE = (if porst then 1 else 0) ∧ twinSecondary t = role ∧
      t.mem = [] ∧ t.bays = [] ∧ t.pegs = [] ∧ t.cmd = State.reset.cmd ∧ t.part = State.reset.part ∧ t.safety = State.reset.safety ∧
      t.tb = State.reset.tb ∧ t.boot.fuses = s.boot.fuses ∧ t.boot.flash = s.boot.flash ∧ t.pending = s.pending ∧
      (∀ a, coldKeeps a = false → a ≠ Reg.CRP_RST_CAUSE → a ≠ Reg.SCRIBE_STRAPS → a ≠ Reg.TRUSS_CFG → a ≠ Reg.CRP_BOOT_STAT →
        regGet t a = regReset a)) ∧
    (let warm := fun (kind : Nat) (t : State) => regGet t Reg.CRP_RST_CAUSE = BitVec.ofNat 32 kind ∧ t.bays = [] ∧ t.pegs = [] ∧
       t.cmd = State.reset.cmd ∧ t.part = State.reset.part ∧ t.safety.run = false ∧ t.safety.fault0 = false ∧ t.safety.fault1 = false ∧
       t.safety.stopped = s.safety.stopped ∧ (∀ a, memByte t a = if a < loftBase then memByte s a else 0) ∧
       lifeState t = lifeState s ∧ bootPhase t = (if regBit s Reg.CRP_PLL_STAT 0 then (if lifeState s = 0 ∨ lifeState s = 5 then 3 else 4) else 1)
     (∃ t, exec .wrstNReset s = .next t ∧ warm 2 t) ∧
     (reaches s init Reg.CRP_RST_CTRL true = true →
       (∃ t, exec (.crpRstCtrlWarm init 0xA5C30001#32) s = .next t ∧ warm 3 t) ∧
       (∃ t, exec (.crpRstCtrlApp init 0xA5C30002#32) s = .next t ∧ t.imsic = [] ∧ t.aplic = [] ∧ regBit t Reg.CRP_RST_CAUSE 3 = true ∧
         t.mem = s.mem ∧ t.bays = s.bays ∧ t.cmd = s.cmd) ∧
       (∀ v : Word32, fld v 16 16 ≠ 0xA5C3 → fld v 2 14 = 0 → exec (.crpRstCtrlWarm init v) s = .next s ∧
         exec (.crpRstCtrlApp init v) s = .next s)))) ∧
  (∀ s : State,
    (bootPhase s ≤ 1 → bootCode s = 0 →
      (let life := (fuseWord s Reg.GLOBAL_LIFECYCLE).toNat % 8
       ∃ t, exec .rootPllLock s = .next t ∧ regFld t Reg.CRP_PLL_STAT 0 2 = 3 ∧ lifeState t = life ∧ regGet t Reg.SEAL_EPOCH ≠ 0 ∧
         (life = 0 ∨ life = 5 → bootPhase t = 3 ∧ bootCode t = 7) ∧ (life ≠ 0 → life ≠ 5 → bootPhase t = 4 ∧ bootCode t = 0)) ∧
      (regBit s Reg.CRP_PLL_STAT 0 = false → exec .rootPllLockTimeout s = .next (bootStop 1 1 s))) ∧
    (1 < bootPhase s → exec .rootPllLock s = .next (regSetFld s Reg.CRP_PLL_STAT 0 1 1) ∧ exec .rootPllLockTimeout s = .next s) ∧
    exec .rootPllLockLoss s = .next (regSetFld s Reg.CRP_PLL_STAT 0 1 0) ∧
    (∀ n code, n < 16 → code < 256 → bootPhase (bootStop n code s) = n ∧ bootCode (bootStop n code s) = code) ∧
    (bootAt 4 s = true →
      (∀ panels, s.boot.bistDone = false → s.repair.used = 0 → ∃ t, exec (.memoryBistDone [] panels) s = .next t ∧ t.boot.bistDone = true ∧
        (∀ i, i < 36 → t.repair.badBays.getLsbD i = (s.repair.factoryBays.getLsbD i || panels.testBit i)) ∧
        bootPhase t = if s.boot.imagesDone = true ∧ 0 < s.boot.dramBytes then 5 else 4) ∧
      (s.boot.trained = none →
        (∀ n, exec (.dramTrainingDone false n) s = .next (bootStop 4 4 s)) ∧
        (∀ n c, s.boot.cfg = some c → n = c.dram → ∃ t, exec (.dramTrainingDone true n) s = .next t ∧ t.boot.dramBytes = n ∧
          bootPhase t = if s.boot.bistDone = true ∧ s.boot.imagesDone = true ∧ 0 < n then 5 else 4) ∧
        (∀ n c, s.boot.cfg = some c → n ≠ c.dram → ∃ t, exec (.dramTrainingDone true n) s = .next t ∧ bootPhase t = 4 ∧ bootCode t = 4)) ∧
      (∀ c, s.boot.imagesDone = false →
        exec (.bootImagesVerified false c) s = .next (bootStop 4 2 s) ∧
        (pickBank s 2 = none ∨ pickBank s 0 = none → exec (.bootImagesVerified true c) s = .next (bootStop 4 3 s)) ∧
        (∀ bi bf, pickBank s 2 = some bi → pickBank s 0 = some bf → s.boot.trained = none → ∃ t, exec (.bootImagesVerified true c) s = .next t ∧
          t.boot.imagesDone = true ∧ t.boot.cfg = some c ∧ t.boot.islandEntry = imageEntry s 2 bi ∧ t.boot.fcEntry = imageEntry s 0 bf ∧
          regGet t Reg.FC_VERSION = versionWord (imageHeader s 0 bf)))) ∧
    (4 ≤ bootPhase s → bootPhase s ≤ 8 → bootCode s = 0 → 0 < s.boot.dramBytes → s.boot.appDone = false →
      exec (.appImageVerified false) s = .next (bootStop 4 2 s) ∧
      (pickBank s 1 = none → exec (.appImageVerified true) s = .next (bootStop 4 3 s)) ∧
      (∀ b, pickBank s 1 = some b → ∃ t, exec (.appImageVerified true) s = .next t ∧ t.boot.appDone = true ∧
        t.boot.appEntry = imageEntry s 1 b ∧ bootPhase t = if bootPhase s = 8 ∧ s.safety.run = true then 9 else bootPhase s)) ∧
    (bootAt 5 s = true → ∀ bays jointers, ∃ t, exec (.bayBistDone bays jointers) s = .next t ∧ bootPhase t = 6 ∧
      (∀ i, i < 36 → t.repair.badBays.getLsbD i = (s.repair.badBays.getLsbD i || bays.testBit i)) ∧
      (∀ i, i < 9 → t.repair.badJointers.getLsbD i = (s.repair.badJointers.getLsbD i || jointers.testBit i))) ∧
    (bootAt 6 s = true →
      (gradeOf s = none → exec .bootMapAndGrade s = .next (bootStop 6 6 (raise 0x064 none 0 s))) ∧
      (∀ g c, gradeOf s = some g → (putMap g s).boot.cfg = some c → configOk c (putMap g s) = true → ∃ t, exec .bootMapAndGrade s = .next t ∧
        bootPhase t = 7) ∧
      (∀ g c, gradeOf s = some g → (putMap g s).boot.cfg = some c → configOk c (putMap g s) = false →
        exec .bootMapAndGrade s = .next (bootStop 6 5 (putMap g s))) ∧
      (∀ g, gradeOf s = some g → (g = 8 ∨ g = 16 ∨ g = 24 ∨ g = 32) ∧ g ≤ regFld s Reg.GLOBAL_GRADE 8 8 ∧ g ≤ (goodBays s).length ∧
        g ≤ 4 * (goodJointers s).length)) ∧
    (bootAt 7 s = true → ∃ t, exec .fabricControllerStart s = .next t ∧ regBit t Reg.FC_STATUS 31 = true ∧
      bootPhase t = if s.safety.run = true ∧ s.boot.appDone = true then 9 else 8) ∧
    (bootAt 9 s = true → ∃ t, exec .appHartRelease s = .next t ∧ t.boot.hartsRun = true ∧ regBit t Reg.CRP_BOOT_STAT 31 = true))
end

