-- ==== Sys2Proof/Laws/Tab.lean ====
section
/-!
SUPPORT. Laws of the sparse tables: what a table reads after a write, and that every operation keeps the canonical form.
-/

namespace Sys2Proof.Machine

theorem tabGet_erase {α : Type} (d : α) (t : Tab α) (k j : Nat) :
    tabGet d (tabErase t k) j = if j = k then d else tabGet d t j := by
  induction t with
  | nil => simp [tabErase, tabGet]
  | cons e t ih =>
    obtain ⟨i, v⟩ := e
    by_cases hi : i = k
    · subst hi
      by_cases hj : j = i
      · subst hj
        simpa [tabErase] using ih
      · have : i ≠ j := fun h => hj h.symm
        simp [tabErase, tabGet, ih, hj, this]
    · by_cases hj : i = j
      · subst hj
        simp [tabErase, tabGet, hi]
      · simp [tabErase, tabGet, hi, hj, ih]

theorem tabGet_insert {α : Type} (d : α) (t : Tab α) (k j : Nat) (v : α) :
    tabGet d (tabInsert k v (tabErase t k)) j = if j = k then v else tabGet d t j := by
  have h : ∀ u : Tab α, (∀ x ∈ u, x.1 ≠ k) → tabGet d (tabInsert k v u) j = if j = k then v else tabGet d u j := by
    intro u hu
    induction u with
    | nil =>
      by_cases hj : k = j
      · simp [tabInsert, tabGet, hj]
      · have : ¬j = k := fun h => hj h.symm
        simp [tabInsert, tabGet, hj, this]
    | cons e u ih =>
      obtain ⟨i, w⟩ := e
      have hik : i ≠ k := hu (i, w) List.mem_cons_self
      have ih := ih (fun x hx => hu x (List.mem_cons_of_mem _ hx))
      by_cases hlt : k < i
      · by_cases hj : j = k
        · simp [tabInsert, tabGet, hlt, hj]
        · have : k ≠ j := fun h => hj h.symm
          simp [tabInsert, tabGet, hlt, hj, this]
      · by_cases hij : i = j
        · subst hij
          simp [tabInsert, tabGet, hlt, hik]
        · simp [tabInsert, tabGet, hlt, hij, ih]
  have hsub : ∀ x ∈ tabErase t k, x.1 ≠ k := by
    induction t with
    | nil => simp [tabErase]
    | cons e t ih =>
      obtain ⟨i, w⟩ := e
      intro x hx
      simp only [tabErase] at hx
      split at hx
      · exact ih x hx
      · rcases List.mem_cons.mp hx with rfl | hx
        · assumption
        · exact ih x hx
  rw [h _ hsub, tabGet_erase]
  split <;> rfl

/-- A table reads what was put, and elsewhere what it read. -/
@[simp] theorem tabGet_put {α : Type} [DecidableEq α] (d : α) (t : Tab α) (k j : Nat) (v : α) :
    tabGet d (tabPut d t k v) j = if j = k then v else tabGet d t j := by
  unfold tabPut
  split
  · rename_i hv
    rw [tabGet_erase, hv]
  · rw [tabGet_insert]

/-- A byte list put at `a` reads back, and other addresses read what they read. -/
theorem tabGet_putBytes (t : Tab Byte) (a : Nat) (l : List Byte) (x : Nat) :
    tabGet 0 (putBytes t a l) x = if a ≤ x ∧ x < a + l.length then l.getD (x - a) 0 else tabGet 0 t x := by
  induction l generalizing t a with
  | nil => simp only [putBytes, List.length_nil]; rw [if_neg (by omega)]
  | cons b l ih =>
    rw [putBytes, ih, tabGet_put, List.length_cons]
    by_cases hx : x = a
    · subst hx
      rw [if_neg (by omega), if_pos rfl, if_pos (by omega)]
      simp
    · by_cases hr : a + 1 ≤ x ∧ x < a + 1 + l.length
      · rw [if_pos hr, if_pos (by omega)]
        obtain ⟨n, hn⟩ : ∃ n, x - a = n + 1 := ⟨x - a - 1, by omega⟩
        rw [hn, show x - (a + 1) = n by omega]
        simp
      · rw [if_neg hr, if_neg hx, if_neg (by omega)]

theorem tabSorted_cons {α : Type} (e : Nat × α) (t : Tab α) :
    tabSorted (e :: t) = true ↔ (∀ x ∈ t, e.1 < x.1) ∧ tabSorted t = true := by
  induction t generalizing e with
  | nil => simp [tabSorted]
  | cons f t ih =>
    have h2 := ih f
    obtain ⟨j, v⟩ := e
    obtain ⟨k, u⟩ := f
    simp only [tabSorted, Bool.and_eq_true, decide_eq_true_eq, List.mem_cons, forall_eq_or_imp]
    constructor
    · rintro ⟨a, b⟩
      exact ⟨⟨a, fun x hx => Nat.lt_trans a ((h2.mp b).1 x hx)⟩, b⟩
    · rintro ⟨⟨a, _⟩, b⟩
      exact ⟨a, b⟩

theorem tabErase_sub {α : Type} (t : Tab α) (k : Nat) : ∀ x ∈ tabErase t k, x ∈ t ∧ x.1 ≠ k := by
  induction t with
  | nil => simp [tabErase]
  | cons e t ih =>
    obtain ⟨j, v⟩ := e
    intro x hx
    simp only [tabErase] at hx
    split at hx
    · exact ⟨List.mem_cons_of_mem _ (ih x hx).1, (ih x hx).2⟩
    · rcases List.mem_cons.mp hx with rfl | hx
      · exact ⟨List.mem_cons_self, ‹_›⟩
      · exact ⟨List.mem_cons_of_mem _ (ih x hx).1, (ih x hx).2⟩

theorem tabSorted_erase {α : Type} (t : Tab α) (k : Nat) (h : tabSorted t = true) : tabSorted (tabErase t k) = true := by
  induction t with
  | nil => rfl
  | cons e t ih =>
    obtain ⟨j, v⟩ := e
    have h' := (tabSorted_cons _ _).mp h
    simp only [tabErase]
    split
    · exact ih h'.2
    · exact (tabSorted_cons _ _).mpr ⟨fun x hx => h'.1 x (tabErase_sub t k x hx).1, ih h'.2⟩

theorem tabInsert_mem {α : Type} (t : Tab α) (k : Nat) (v : α) : ∀ x ∈ tabInsert k v t, x = (k, v) ∨ x ∈ t := by
  induction t with
  | nil => simp [tabInsert]
  | cons e t ih =>
    obtain ⟨j, u⟩ := e
    intro x hx
    simp only [tabInsert] at hx
    split at hx
    · simpa using hx
    · rcases List.mem_cons.mp hx with rfl | hx
      · exact .inr List.mem_cons_self
      · exact (ih x hx).imp id (List.mem_cons_of_mem _)

theorem tabSorted_insert {α : Type} (t : Tab α) (k : Nat) (v : α) (h : tabSorted t = true) (hk : ∀ x ∈ t, x.1 ≠ k) :
    tabSorted (tabInsert k v t) = true := by
  induction t with
  | nil => rfl
  | cons e t ih =>
    obtain ⟨j, u⟩ := e
    have h' := (tabSorted_cons _ _).mp h
    simp only [tabInsert]
    split
    · rename_i hlt
      refine (tabSorted_cons _ _).mpr ⟨fun x hx => ?_, h⟩
      rcases List.mem_cons.mp hx with rfl | hx
      · exact hlt
      · exact Nat.lt_trans hlt (h'.1 x hx)
    · rename_i hge
      have hjk : j < k := by have := hk (j, u) List.mem_cons_self; simp at this; omega
      refine (tabSorted_cons _ _).mpr ⟨fun x hx => ?_, ih h'.2 (fun x hx => hk x (List.mem_cons_of_mem _ hx))⟩
      rcases tabInsert_mem t k v x hx with rfl | hx
      · exact hjk
      · exact h'.1 x hx

theorem tabWf_iff {α : Type} [DecidableEq α] (d : α) (t : Tab α) :
    tabWf d t = true ↔ tabSorted t = true ∧ ∀ x ∈ t, x.2 ≠ d := by
  simp [tabWf]

theorem tabWf_put {α : Type} [DecidableEq α] (d : α) (t : Tab α) (k : Nat) (v : α) (h : tabWf d t = true) :
    tabWf d (tabPut d t k v) = true := by
  obtain ⟨hs, hd⟩ := (tabWf_iff d t).mp h
  unfold tabPut
  split
  · exact (tabWf_iff d _).mpr ⟨tabSorted_erase t k hs, fun x hx => hd x (tabErase_sub t k x hx).1⟩
  · rename_i hv
    refine (tabWf_iff d _).mpr ⟨tabSorted_insert _ k v (tabSorted_erase t k hs) (fun x hx => (tabErase_sub t k x hx).2), fun x hx => ?_⟩
    rcases tabInsert_mem _ k v x hx with rfl | hx
    · exact hv
    · exact hd x (tabErase_sub t k x hx).1

theorem tabSorted_filter {α : Type} (t : Tab α) (p : Nat × α → Bool) (h : tabSorted t = true) : tabSorted (t.filter p) = true := by
  induction t with
  | nil => rfl
  | cons e t ih =>
    have h' := (tabSorted_cons _ _).mp h
    rw [List.filter_cons]
    split
    · exact (tabSorted_cons _ _).mpr ⟨fun x hx => h'.1 x (List.mem_filter.mp hx).1, ih h'.2⟩
    · exact ih h'.2

theorem tabWf_filter {α : Type} [DecidableEq α] (d : α) (t : Tab α) (p : Nat × α → Bool) (h : tabWf d t = true) :
    tabWf d (t.filter p) = true := by
  obtain ⟨hs, hd⟩ := (tabWf_iff d t).mp h
  exact (tabWf_iff d _).mpr ⟨tabSorted_filter t p hs, fun x hx => hd x (List.mem_filter.mp hx).1⟩

theorem tabWf_putBytes (t : Tab Byte) (a : Addr) (l : List Byte) (h : tabWf 0 t = true) : tabWf 0 (putBytes t a l) = true := by
  induction l generalizing t a with
  | nil => exact h
  | cons b l ih => exact ih _ _ (tabWf_put 0 t a b h)

end Sys2Proof.Machine
end

