-- ==== Sys2Proof/Laws/Frame.lean ====
section
/-!
SUPPORT. How a change of state is framed. `Fr π w s e` says that every state that the value `e` holds (a state, the state of a
pair, the next state of an outcome: `π`) is within the parts `w` of `s`. Each form that a meaning is written in (a let, a
conditional, a match, a fold, a record update) has one rule here; the Frame files beside this one state with them, for each
operation of the model, the parts it may change.
-/

namespace Sys2Proof.Machine

theorem union_assoc (a b c : Parts) : (a.union b).union c = a.union (b.union c) := by
  simp only [Parts.union, Bool.or_assoc]

theorem cond_or {α : Type} (x y : Bool) (d v : α) :
    (bif (x || y) then d else (bif x then d else v)) = (bif (x || y) then d else v) := by cases x <;> cases y <;> rfl

theorem hide_hide (a b : Parts) (s : State) : (a.union b).hide (a.hide s) = (a.union b).hide s := by
  simp only [Parts.hide, Parts.union, cond_or]

theorem Within.mono {a b : Parts} (h : a.union b = b) {s t : State} (f : Within a s t) : Within b s t :=
  ⟨by rw [← h, ← hide_hide a b t, f.same, hide_hide a b s], f.mem⟩

theorem Within.trans {w : Parts} {s t u : State} (f : Within w s t) (g : Within w t u) : Within w s u :=
  ⟨g.same.trans f.same, fun h => g.mem (f.mem h)⟩

def stIs (e t : State) : Prop := e = t
def via {α β : Type} (π : β → State → Prop) (e : α × β) (t : State) : Prop := π e.2 t
def fstIs {β : Type} (e : State × β) (t : State) : Prop := e.1 = t
def optIs {β : Type} (π : β → State → Prop) (e : Option β) (t : State) : Prop := ∃ x, e = some x ∧ π x t
def nextIs (e : Host.Outcome State Fault Refusal) (t : State) : Prop := e = .next t

def Fr {β : Type} (π : β → State → Prop) (w : Parts) (s : State) (e : β) : Prop := ∀ t, π e t → Within w s t

variable {w : Parts} {s z : State} {α β γ : Type}

theorem frefl : Fr stIs w s s := fun _ h => h ▸ ⟨rfl, id⟩
theorem gle {a b : Parts} (h : a.union b = b) (k : b.union w = w) : a.union w = w := by
  rw [← k, ← union_assoc, h]
theorem gstep {π : β → State → Prop} {e : β} (h : Fr π w z e) (hz : Fr stIs w s z) : Fr π w s e :=
  fun t ht => (hz z rfl).trans (h t ht)
theorem upd {a : Parts} {t : State} (hz : Fr stIs w s z) (hw : a.union w = w) (h : a.hide t = a.hide z) (m : t.mem = z.mem) :
    Fr stIs w s t := by
  rintro _ rfl
  exact (hz z rfl).trans (Within.mono hw ⟨h, fun k => m ▸ k⟩)
theorem gmk {π : β → State → Prop} {a : α} {e : β} (h : Fr π w s e) : Fr (via π) w s (a, e) := h
theorem gmkf {b : β} (h : Fr stIs w s z) : Fr fstIs w s (z, b) := h
theorem gsnd {π : β → State → Prop} {e : α × β} (h : Fr (via π) w s e) : Fr π w s e.2 := h
theorem gfself {p : State × β} : Fr fstIs w p.1 p := by rintro t ht; cases ht; exact ⟨rfl, id⟩
theorem gfst {e : State × β} (h : Fr fstIs w s e) : Fr stIs w s e.1 := h
theorem gite {π : β → State → Prop} {c : Prop} [Decidable c] {a b : β} (ha : Fr π w s a) (hb : Fr π w s b) :
    Fr π w s (if c then a else b) := by split <;> assumption
theorem gdite {π : β → State → Prop} {c : Prop} [Decidable c] {a : c → β} {b : ¬c → β} (ha : ∀ h, Fr π w s (a h)) (hb : ∀ h, Fr π w s (b h)) :
    Fr π w s (if h : c then a h else b h) := by split <;> simp_all
theorem gcond {π : β → State → Prop} {c : Bool} {a b : β} (ha : Fr π w s a) (hb : Fr π w s b) :
    Fr π w s (bif c then a else b) := by cases c <;> assumption
theorem gpair {π : γ → State → Prop} {π1 : β → State → Prop} {e : α × β} {b : α → β → γ} (h : Fr (via π1) w s e)
    (k : ∀ a r, Fr π1 w s r → Fr π w s (b a r)) : Fr π w s (match e with | (a, r) => b a r) := k _ _ h
theorem gpairf {π : γ → State → Prop} {e : State × β} {b : State → β → γ} (h : Fr fstIs w s e)
    (k : ∀ a r, Fr stIs w s a → Fr π w s (b a r)) : Fr π w s (match e with | (a, r) => b a r) := k _ _ h
theorem gpair3 {δ : Type} {π : γ → State → Prop} {π1 : β → State → Prop} {e : α × δ × β} {b : α → δ → β → γ} (h : Fr (via (via π1)) w s e)
    (k : ∀ a d r, Fr π1 w s r → Fr π w s (b a d r)) : Fr π w s (match e with | (a, d, r) => b a d r) := k _ _ _ h
theorem gfold {π : β → State → Prop} {f : β → α → β} {a : β} {l : List α} (ha : Fr π w s a)
    (k : ∀ a x, Fr π w s a → Fr π w s (f a x)) : Fr π w s (l.foldl f a) := by
  induction l generalizing a with
  | nil => exact ha
  | cons x l ih => exact ih (k a x ha)
theorem gofeq {π : β → State → Prop} {e e' : β} (he : e = e') (h : Fr π w s e) : Fr π w s e' := he ▸ h
theorem gofsnd {π : β → State → Prop} {e : α × β} {a : α} {r : β} (he : e = (a, r)) (h : Fr (via π) w s e) : Fr π w s r := by
  subst he; exact h
theorem goffst {e : State × β} {a : State} {r : β} (he : e = (a, r)) (h : Fr fstIs w s e) : Fr stIs w s a := by
  subst he; exact h
theorem gofopt {π : β → State → Prop} {e : Option β} {r : β} (he : e = some r) (h : Fr (optIs π) w s e) : Fr π w s r :=
  fun t ht => h t ⟨r, he, ht⟩
theorem gofoptsnd {π : β → State → Prop} {e : Option (α × β)} {a : α} {r : β} (he : e = some (a, r)) (h : Fr (optIs (via π)) w s e) :
    Fr π w s r := fun t ht => h t ⟨(a, r), he, ht⟩
theorem gnone {π : β → State → Prop} : Fr (optIs π) w s none := by rintro t ⟨x, h, _⟩; cases h
theorem gsome {π : β → State → Prop} {e : β} (h : Fr π w s e) : Fr (optIs π) w s (some e) := by
  rintro t ⟨x, hx, hp⟩; cases hx; exact h t hp
theorem gnext (h : Fr stIs w s z) : Fr nextIs w s (.next z) := by rintro t ht; cases ht; exact h z rfl
theorem gfault {f : Fault} : Fr nextIs w s (.fault f) := by rintro t ht; cases ht

def actAt (s : State) (e : Option (State → State)) (t : State) : Prop := ∃ f, e = some f ∧ t = f s
theorem asome {f : State → State} (h : ∀ y, Fr stIs w y (f y)) : Fr (actAt s) w s (some f) := by
  rintro t ⟨g, hg, rfl⟩; cases hg; exact h s _ rfl
theorem anone : Fr (actAt s) w s none := by rintro t ⟨g, hg, _⟩; cases hg
theorem gofact {e : Option (State → State)} {f : State → State} (he : e = some f) (h : Fr (actAt s) w s e) : Fr stIs w s (f s) := by
  rintro _ rfl; exact h _ ⟨f, he, rfl⟩
theorem gpair4 {δ ε : Type} {π : γ → State → Prop} {π1 : β → State → Prop} {e : α × δ × ε × β} {b : α → δ → ε → β → γ}
    (h : Fr (via (via (via π1))) w s e) (k : ∀ a d c r, Fr π1 w s r → Fr π w s (b a d c r)) :
    Fr π w s (match e with | (a, d, c, r) => b a d c r) := k _ _ _ _ h
/-- The canonical form of memory is kept by a step that only changes memory in a way that keeps it. -/
theorem gmem {t : State} {a : Parts} (hz : Fr stIs w s z) (hw : a.union w = w) (h : a.hide t = a.hide z)
    (m : tabWf 0 z.mem = true → Memory.wf t.mem = true) : Fr stIs w s t := by
  rintro _ rfl
  exact (hz z rfl).trans (Within.mono hw ⟨h, m⟩)

theorem upd_aplic {w : Parts} {s z : State} {v0} (hz : Fr stIs w s z) (hw : ({ aplic := true } : Parts).union w = w) :
    Fr stIs w s { z with aplic := v0 } := upd hz hw rfl rfl

theorem upd_bayMap {w : Parts} {s z : State} {v0} (hz : Fr stIs w s z) (hw : ({ bayMap := true } : Parts).union w = w) :
    Fr stIs w s { z with bayMap := v0 } := upd hz hw rfl rfl

theorem upd_bayMap_jmap_part {w : Parts} {s z : State} {v0} {v1} {v2} (hz : Fr stIs w s z) (hw : ({ bayMap := true, jmap := true, part := true } : Parts).union w = w) :
    Fr stIs w s { z with bayMap := v0, jmap := v1, part := v2 } := upd hz hw rfl rfl

theorem upd_bayMap_repair {w : Parts} {s z : State} {v0} {v1} (hz : Fr stIs w s z) (hw : ({ bayMap := true, repair := true } : Parts).union w = w) :
    Fr stIs w s { z with bayMap := v0, repair := v1 } := upd hz hw rfl rfl

theorem upd_bays {w : Parts} {s z : State} {v0} (hz : Fr stIs w s z) (hw : ({ bays := true } : Parts).union w = w) :
    Fr stIs w s { z with bays := v0 } := upd hz hw rfl rfl

theorem upd_bays_cmd {w : Parts} {s z : State} {v0} {v1} (hz : Fr stIs w s z) (hw : ({ bays := true, cmd := true } : Parts).union w = w) :
    Fr stIs w s { z with bays := v0, cmd := v1 } := upd hz hw rfl rfl

theorem upd_boot {w : Parts} {s z : State} {v0} (hz : Fr stIs w s z) (hw : ({ boot := true } : Parts).union w = w) :
    Fr stIs w s { z with boot := v0 } := upd hz hw rfl rfl

theorem upd_cmd {w : Parts} {s z : State} {v0} (hz : Fr stIs w s z) (hw : ({ cmd := true } : Parts).union w = w) :
    Fr stIs w s { z with cmd := v0 } := upd hz hw rfl rfl

theorem upd_disp {w : Parts} {s z : State} {v0} (hz : Fr stIs w s z) (hw : ({ disp := true } : Parts).union w = w) :
    Fr stIs w s { z with disp := v0 } := upd hz hw rfl rfl

theorem upd_fc {w : Parts} {s z : State} {v0} (hz : Fr stIs w s z) (hw : ({ fc := true } : Parts).union w = w) :
    Fr stIs w s { z with fc := v0 } := upd hz hw rfl rfl

theorem upd_freeCtr {w : Parts} {s z : State} {v0} (hz : Fr stIs w s z) (hw : ({ freeCtr := true } : Parts).union w = w) :
    Fr stIs w s { z with freeCtr := v0 } := upd hz hw rfl rfl

theorem upd_gfx {w : Parts} {s z : State} {v0} (hz : Fr stIs w s z) (hw : ({ gfx := true } : Parts).union w = w) :
    Fr stIs w s { z with gfx := v0 } := upd hz hw rfl rfl

theorem upd_gw {w : Parts} {s z : State} {v0} (hz : Fr stIs w s z) (hw : ({ gw := true } : Parts).union w = w) :
    Fr stIs w s { z with gw := v0 } := upd hz hw rfl rfl

theorem upd_gw_reply {w : Parts} {s z : State} {v0} {v1} (hz : Fr stIs w s z) (hw : ({ gw := true, reply := true } : Parts).union w = w) :
    Fr stIs w s { z with gw := v0, reply := v1 } := upd hz hw rfl rfl

theorem upd_imsic {w : Parts} {s z : State} {v0} (hz : Fr stIs w s z) (hw : ({ imsic := true } : Parts).union w = w) :
    Fr stIs w s { z with imsic := v0 } := upd hz hw rfl rfl

theorem upd_intake {w : Parts} {s z : State} {v0} (hz : Fr stIs w s z) (hw : ({ intake := true } : Parts).union w = w) :
    Fr stIs w s { z with intake := v0 } := upd hz hw rfl rfl

theorem upd_jmap {w : Parts} {s z : State} {v0} (hz : Fr stIs w s z) (hw : ({ jmap := true } : Parts).union w = w) :
    Fr stIs w s { z with jmap := v0 } := upd hz hw rfl rfl

theorem upd_jointers {w : Parts} {s z : State} {v0} (hz : Fr stIs w s z) (hw : ({ jointers := true } : Parts).union w = w) :
    Fr stIs w s { z with jointers := v0 } := upd hz hw rfl rfl

theorem upd_latches {w : Parts} {s z : State} {v0} (hz : Fr stIs w s z) (hw : ({ latches := true } : Parts).union w = w) :
    Fr stIs w s { z with latches := v0 } := upd hz hw rfl rfl

theorem upd_part {w : Parts} {s z : State} {v0} (hz : Fr stIs w s z) (hw : ({ part := true } : Parts).union w = w) :
    Fr stIs w s { z with part := v0 } := upd hz hw rfl rfl

theorem upd_pegs {w : Parts} {s z : State} {v0} (hz : Fr stIs w s z) (hw : ({ pegs := true } : Parts).union w = w) :
    Fr stIs w s { z with pegs := v0 } := upd hz hw rfl rfl

theorem upd_regs {w : Parts} {s z : State} {v0} (hz : Fr stIs w s z) (hw : ({ regs := true } : Parts).union w = w) :
    Fr stIs w s { z with regs := v0 } := upd hz hw rfl rfl

theorem upd_repair {w : Parts} {s z : State} {v0} (hz : Fr stIs w s z) (hw : ({ repair := true } : Parts).union w = w) :
    Fr stIs w s { z with repair := v0 } := upd hz hw rfl rfl

theorem upd_reply {w : Parts} {s z : State} {v0} (hz : Fr stIs w s z) (hw : ({ reply := true } : Parts).union w = w) :
    Fr stIs w s { z with reply := v0 } := upd hz hw rfl rfl

theorem upd_safety {w : Parts} {s z : State} {v0} (hz : Fr stIs w s z) (hw : ({ safety := true } : Parts).union w = w) :
    Fr stIs w s { z with safety := v0 } := upd hz hw rfl rfl

theorem upd_safety_boot {w : Parts} {s z : State} {v0} {v1} (hz : Fr stIs w s z) (hw : ({ safety := true, boot := true } : Parts).union w = w) :
    Fr stIs w s { z with safety := v0, boot := v1 } := upd hz hw rfl rfl

theorem upd_sealU {w : Parts} {s z : State} {v0} (hz : Fr stIs w s z) (hw : ({ sealU := true } : Parts).union w = w) :
    Fr stIs w s { z with sealU := v0 } := upd hz hw rfl rfl

theorem upd_staging {w : Parts} {s z : State} {v0} (hz : Fr stIs w s z) (hw : ({ staging := true } : Parts).union w = w) :
    Fr stIs w s { z with staging := v0 } := upd hz hw rfl rfl

theorem upd_staging_latches_imsic_aplic {w : Parts} {s z : State} {v0} {v1} {v2} {v3} (hz : Fr stIs w s z) (hw : ({ staging := true, latches := true, imsic := true, aplic := true } : Parts).union w = w) :
    Fr stIs w s { z with staging := v0, latches := v1, imsic := v2, aplic := v3 } := upd hz hw rfl rfl

theorem upd_tb {w : Parts} {s z : State} {v0} (hz : Fr stIs w s z) (hw : ({ tb := true } : Parts).union w = w) :
    Fr stIs w s { z with tb := v0 } := upd hz hw rfl rfl

theorem upd_tb_freeCtr {w : Parts} {s z : State} {v0} {v1} (hz : Fr stIs w s z) (hw : ({ tb := true, freeCtr := true } : Parts).union w = w) :
    Fr stIs w s { z with tb := v0, freeCtr := v1 } := upd hz hw rfl rfl

theorem upd_tb_reply {w : Parts} {s z : State} {v0} {v1} (hz : Fr stIs w s z) (hw : ({ tb := true, reply := true } : Parts).union w = w) :
    Fr stIs w s { z with tb := v0, reply := v1 } := upd hz hw rfl rfl

theorem upd_tb_twin {w : Parts} {s z : State} {v0} {v1} (hz : Fr stIs w s z) (hw : ({ tb := true, twin := true } : Parts).union w = w) :
    Fr stIs w s { z with tb := v0, twin := v1 } := upd hz hw rfl rfl

theorem upd_twin {w : Parts} {s z : State} {v0} (hz : Fr stIs w s z) (hw : ({ twin := true } : Parts).union w = w) :
    Fr stIs w s { z with twin := v0 } := upd hz hw rfl rfl

theorem upd_waitWrites {w : Parts} {s z : State} {v0} (hz : Fr stIs w s z) (hw : ({ waitWrites := true } : Parts).union w = w) :
    Fr stIs w s { z with waitWrites := v0 } := upd hz hw rfl rfl

theorem upd_memf {p : Nat × Byte → Bool} {w : Parts} {s z : State} (hz : Fr stIs w s z) (hw : ({ mem := true } : Parts).union w = w) :
    Fr stIs w s { z with mem := z.mem.filter p } := gmem hz hw rfl (tabWf_filter 0 _ _)

theorem upd_memf_safety {p : Nat × Byte → Bool} {v : SafetySt} {w : Parts} {s z : State} (hz : Fr stIs w s z)
    (hw : ({ mem := true, safety := true } : Parts).union w = w) :
    Fr stIs w s { z with safety := v, mem := s.mem.filter p } := by
  rintro _ rfl
  have h : w.hide { z with safety := v, mem := s.mem.filter p } = w.hide z := by
    conv_lhs => rw [← hw, ← hide_hide]
    conv_rhs => rw [← hw, ← hide_hide]
    rfl
  exact ⟨h.trans (hz z rfl).same, tabWf_filter 0 _ _⟩

end Sys2Proof.Machine
end

