-- ==== Sys2Proof/Laws/FrameCore.lean ====
section
/-!
SUPPORT. The parts of the state that each operation may change: the named operations, pegs, faults, the fence, hands and queues.
-/

namespace Sys2Proof.Machine

theorem frame_takeFree {w : Parts} (hw : ({ freeCtr := true } : Parts).union w = w) s :
    Fr (via stIs) w s (takeFree s) := by
  delta takeFree; exact (gmk (upd_freeCtr frefl (gle rfl hw)))

theorem frame_bayPut {w : Parts} (hw : ({ bays := true } : Parts).union w = w) s x1 x2 :
    Fr stIs w s (bayPut s x1 x2) := by
  delta bayPut; exact (upd_bays frefl (gle rfl hw))

theorem frame_sendFlit {w : Parts} (hw : ({ twin := true } : Parts).union w = w) x0 s :
    Fr stIs w s (sendFlit x0 s) := by
  delta sendFlit; exact (by extract_lets +onlyGivenNames -merge -useContext -underBinder v0 v1 v2; clear_value v0 v1 v2; exact (upd_twin frefl (gle rfl hw)))

theorem frame_sendWrites {w : Parts} (hw : ({ twin := true } : Parts).union w = w) x0 x1 x2 x3 s :
    Fr stIs w s (sendWrites x0 x1 x2 x3 s) := by
  induction x0 generalizing x1 x2 x3 s with
  | zero => rw [sendWrites.eq_1]; exact frefl
  | succ k ih => rw [sendWrites.eq_2]; exact (gite frefl (gstep (ih _ _ _ _) (frame_sendFlit (gle rfl hw) _ _)))

theorem frame_memWrite {w : Parts} (hw : ({ mem := true } : Parts).union w = w) s x1 x2 :
    Fr stIs w s (memWrite s x1 x2) := by
  delta memWrite; exact (gmem (a := ({ mem := true } : Parts)) frefl (gle rfl hw) rfl (tabWf_putBytes _ _ _))

theorem frame_sendReads {w : Parts} (hw : ({ twin := true } : Parts).union w = w) x0 x1 x2 x3 s :
    Fr stIs w s (sendReads x0 x1 x2 x3 s) := by
  induction x0 generalizing x1 x2 x3 s with
  | zero => rw [sendReads.eq_1]; exact frefl
  | succ k ih => rw [sendReads.eq_2]; exact (gite frefl (by extract_lets +onlyGivenNames -merge -useContext -underBinder v0 v1 v2; clear_value v0 v1; have hv2 : Fr stIs w s v2 := (frame_sendFlit (gle rfl hw) _ _); clear_value v2; exact (gstep (ih _ _ _ _) (upd_twin hv2 (gle rfl hw)))))

theorem frame_msi {w : Parts} (hw : ({ imsic := true } : Parts).union w = w) s x1 x2 :
    Fr stIs w s (msi s x1 x2) := by
  delta msi; exact (by extract_lets +onlyGivenNames -merge -useContext -underBinder v0; clear_value v0; exact (gite (by extract_lets +onlyGivenNames -merge -useContext -underBinder v1 v2; clear_value v1 v2; exact (upd_imsic frefl (gle rfl hw))) frefl))

theorem frame_regPut {w : Parts} (hw : ({ regs := true } : Parts).union w = w) s x1 x2 :
    Fr stIs w s (regPut s x1 x2) := by
  delta regPut; exact (upd_regs frefl (gle rfl hw))

theorem frame_farUse {w : Parts} (hw : ({ twin := true } : Parts).union w = w) x0 x1 s :
    Fr stIs w s (farUse x0 x1 s) := by
  delta farUse; exact (upd_twin frefl (gle rfl hw))

theorem frame_sendCtl {w : Parts} (hw : ({ twin := true } : Parts).union w = w) x0 s :
    Fr stIs w s (sendCtl x0 s) := by
  delta sendCtl; exact (frame_sendFlit (gle rfl hw) _ _)

theorem frame_memPutByte {w : Parts} (hw : ({ mem := true } : Parts).union w = w) s x1 x2 :
    Fr stIs w s (memPutByte s x1 x2) := by
  delta memPutByte; exact (gmem (a := ({ mem := true } : Parts)) frefl (gle rfl hw) rfl (tabWf_put 0 _ _ _))

theorem frame_bayMod {w : Parts} (hw : ({ bays := true } : Parts).union w = w) s x1 x2 :
    Fr stIs w s (bayMod s x1 x2) := by
  delta bayMod; exact (frame_bayPut (gle rfl hw) _ _ _)

theorem frame_pairPut {w : Parts} (hw : ({ regs := true } : Parts).union w = w) s x1 x2 :
    Fr stIs w s (pairPut s x1 x2) := by
  delta pairPut; exact (gstep (frame_regPut (gle rfl hw) _ _ _) (frame_regPut (gle rfl hw) _ _ _))

theorem frame_dropPanels {w : Parts} (hw : ({ bays := true } : Parts).union w = w) x0 x1 s :
    Fr stIs w s (dropPanels x0 x1 s) := by
  delta dropPanels; exact (gite (gfold frefl (by exact fun p0 _ hp0 => (gstep (frame_bayMod (gle rfl hw) _ _ _) hp0))) frefl)

theorem frame_cntAdd {w : Parts} (hw : ({ regs := true } : Parts).union w = w) s x1 x2 :
    Fr stIs w s (cntAdd s x1 x2) := by
  delta cntAdd; exact (frame_regPut (gle rfl hw) _ _ _)

theorem frame_farFetch {w : Parts} (hw : ({ twin := true } : Parts).union w = w) x0 s :
    Fr (via stIs) w s (farFetch x0 s) := by
  induction x0 generalizing s with
  | nil => rw [farFetch.eq_1]; exact (gmk frefl)
  | cons z l ih => rw [farFetch.eq_2]; exact (by split; (focus (exact (gite (ih _) (by extract_lets +onlyGivenNames -merge -useContext -underBinder v0 v1; clear_value v0; have hv1 : Fr stIs w s v1 := (gite frefl (frame_sendReads (gle rfl hw) _ _ _ _ _)); clear_value v1; exact (gmk (gsnd (gstep (ih _) hv1))))))); (focus (exact (ih _))))

theorem frame_regSetFld {w : Parts} (hw : ({ regs := true } : Parts).union w = w) s x1 x2 x3 x4 :
    Fr stIs w s (regSetFld s x1 x2 x3 x4) := by
  delta regSetFld; exact (frame_regPut (gle rfl hw) _ _ _)

theorem frame_handMod {w : Parts} (hw : ({ bays := true } : Parts).union w = w) s x1 x2 :
    Fr stIs w s (handMod s x1 x2) := by
  delta handMod; exact (frame_bayMod (gle rfl hw) _ _ _)

theorem frame_storeWrite {w : Parts} (hw : ({ regs := true, bays := true } : Parts).union w = w) s x1 x2 x3 :
    Fr stIs w s (storeWrite s x1 x2 x3) := by
  delta storeWrite; exact (by extract_lets +onlyGivenNames -merge -useContext -underBinder v0; clear_value v0; exact (by split <;> (exact (by extract_lets +onlyGivenNames -merge -useContext -underBinder v1; have hv1 : Fr stIs w s v1 := (frame_bayPut (gle rfl hw) _ _ _); clear_value v1; exact (by split; (focus (exact (gite hv1 (gstep (frame_cntAdd (gle rfl hw) _ _ _) hv1)))); (focus (exact hv1)))))))

theorem frame_cntInc {w : Parts} (hw : ({ regs := true } : Parts).union w = w) s x1 :
    Fr stIs w s (cntInc s x1) := by
  delta cntInc; exact (frame_cntAdd (gle rfl hw) _ _ _)

theorem frame_devWrite {w : Parts} (hw : ({ regs := true, mem := true, bays := true, waitWrites := true, twin := true } : Parts).union w = w) s x1 x2 :
    Fr stIs w s (devWrite s x1 x2) := by
  delta devWrite; exact (gite frefl (by split; (focus (exact (gstep (frame_dropPanels (gle rfl hw) _ _ _) (frame_memWrite (gle rfl hw) _ _ _)))); (focus (exact (gstep (frame_dropPanels (gle rfl hw) _ _ _) (frame_memWrite (gle rfl hw) _ _ _)))); (focus (exact (by split; (focus (exact (gite (upd_waitWrites frefl (gle rfl hw)) (frame_storeWrite (gle rfl hw) _ _ _ _)))); (focus (exact frefl))))); (focus (exact (frame_sendWrites (gle rfl hw) _ _ _ _ _))); (focus (exact frefl)); (focus (exact frefl)); (focus (exact frefl)); (focus (exact frefl))))

theorem frame_landWrites {w : Parts} (hw : ({ regs := true, mem := true, bays := true, waitWrites := true, twin := true } : Parts).union w = w) s :
    Fr stIs w s (landWrites s) := by
  delta landWrites; exact (gfold (upd_waitWrites frefl (gle rfl hw)) (by exact fun p0 _ hp0 => (gstep (frame_devWrite (gle rfl hw) _ _ _) hp0)))

theorem frame_regionCheck {w : Parts} (hw : ({ regs := true } : Parts).union w = w) s x1 x2 x3 x4 x5 x6 :
    Fr (via stIs) w s (regionCheck s x1 x2 x3 x4 x5 x6) := by
  delta regionCheck; exact (by extract_lets +onlyGivenNames -merge -useContext -underBinder v0; clear_value v0; exact (by split; (focus (exact (gmk frefl))); (focus (exact (by extract_lets +onlyGivenNames -merge -useContext -underBinder v1; have hv1 : Fr stIs w s v1 := (gite (frame_cntInc (gle rfl hw) _ _) frefl); clear_value v1; exact (gite (gmk hv1) (gite (gmk hv1) (gmk hv1))))))))

theorem frame_accessCheck {w : Parts} (hw : ({ regs := true } : Parts).union w = w) s x1 x2 x3 x4 x5 :
    Fr (via stIs) w s (accessCheck s x1 x2 x3 x4 x5) := by
  delta accessCheck; exact (by split; (focus (exact (gmk frefl))); (focus (exact (frame_regionCheck (gle rfl hw) _ _ _ _ _ _ _))); (focus (exact (frame_regionCheck (gle rfl hw) _ _ _ _ _ _ _))); (focus (exact (gmk frefl))); (focus (exact (gmk frefl))); (focus (exact (gmk frefl))); (focus (exact (gmk frefl))); (focus (exact (gmk frefl))))

theorem frame_judgeAll {w : Parts} (hw : ({ bays := true, cmd := true } : Parts).union w = w) s :
    Fr stIs w s (judgeAll s) := by
  delta judgeAll; exact (upd_bays_cmd frefl (gle rfl hw))

theorem frame_ageEvents {w : Parts} (hw : ({ safety := true } : Parts).union w = w) s x1 :
    Fr stIs w s (ageEvents s x1) := by
  delta ageEvents; exact (upd_safety frefl (gle rfl hw))

theorem frame_pegPut {w : Parts} (hw : ({ pegs := true } : Parts).union w = w) s x1 x2 :
    Fr stIs w s (pegPut s x1 x2) := by
  delta pegPut; exact (upd_pegs frefl (gle rfl hw))

theorem frame_pegSetTarget {w : Parts} (hw : ({ bays := true, cmd := true, pegs := true } : Parts).union w = w) s x1 x2 :
    Fr stIs w s (pegSetTarget s x1 x2) := by
  delta pegSetTarget; exact (gstep (frame_judgeAll (gle rfl hw) _) (frame_pegPut (gle rfl hw) _ _ _))

theorem frame_pegSignal {w : Parts} (hw : ({ bays := true, cmd := true, pegs := true, safety := true } : Parts).union w = w) s x1 x2 :
    Fr stIs w s (pegSignal s x1 x2) := by
  delta pegSignal; exact (by extract_lets +onlyGivenNames -merge -useContext -underBinder v0; clear_value v0; exact (gite frefl (by extract_lets +onlyGivenNames -merge -useContext -underBinder v1 v2 v3; clear_value v1; have hv2 : Fr stIs w s v2 := (frame_pegPut (gle rfl hw) _ _ _); clear_value v2; have hv3 : Fr stIs w s v3 := (gite (gstep (frame_ageEvents (gle rfl hw) _ _) hv2) hv2); clear_value v3; exact (gstep (frame_judgeAll (gle rfl hw) _) hv3))))

theorem frame_pegPoison {w : Parts} (hw : ({ bays := true, cmd := true, pegs := true } : Parts).union w = w) s x1 :
    Fr stIs w s (pegPoison s x1) := by
  delta pegPoison; exact (gstep (frame_judgeAll (gle rfl hw) _) (frame_pegPut (gle rfl hw) _ _ _))

theorem frame_pegClear {w : Parts} (hw : ({ bays := true, cmd := true, pegs := true } : Parts).union w = w) s x1 :
    Fr stIs w s (pegClear s x1) := by
  delta pegClear; exact (gstep (frame_judgeAll (gle rfl hw) _) (frame_pegPut (gle rfl hw) _ _ _))

theorem frame_pinsUpdate {w : Parts} (hw : ({ safety := true } : Parts).union w = w) s :
    Fr stIs w s (pinsUpdate s) := by
  delta pinsUpdate; exact (gite (upd_safety frefl (gle rfl hw)) frefl)

theorem frame_sealKeep {w : Parts} (hw : ({ sealU := true } : Parts).union w = w) s x1 :
    Fr stIs w s (sealKeep s x1) := by
  delta sealKeep; exact (by extract_lets +onlyGivenNames -merge -useContext -underBinder v0 v1; clear_value v0 v1; exact (upd_sealU frefl (gle rfl hw)))

theorem frame_fsrcPut {w : Parts} (hw : ({ safety := true } : Parts).union w = w) s x1 x2 :
    Fr stIs w s (fsrcPut s x1 x2) := by
  delta fsrcPut; exact (upd_safety frefl (gle rfl hw))

theorem frame_dowelPut {w : Parts} (hw : ({ cmd := true } : Parts).union w = w) s x1 x2 :
    Fr stIs w s (dowelPut s x1 x2) := by
  delta dowelPut; exact (upd_cmd frefl (gle rfl hw))

theorem frame_endPart {w : Parts} (hw : ({ cmd := true, twin := true } : Parts).union w = w) x0 x1 s :
    Fr stIs w s (endPart x0 x1 s) := by
  delta endPart; exact (by extract_lets +onlyGivenNames -merge -useContext -underBinder v0 v1 v2; clear_value v0 v1; have hv2 : Fr stIs w s v2 := (gite frefl (by split <;> (exact (frame_sendCtl (gle rfl hw) _ _)))); clear_value v2; exact (gstep (frame_dowelPut (gle rfl hw) _ _ _) hv2))

theorem frame_collClose {w : Parts} (hw : ({ bays := true, cmd := true, pegs := true, fc := true, twin := true } : Parts).union w = w) x0 x1 s :
    Fr stIs w s (collClose x0 x1 s) := by
  delta collClose; exact (by extract_lets +onlyGivenNames -merge -useContext -underBinder v0 v1 v2 a3 v4; clear_value v0 v1 v2 a3; have hv4 : Fr stIs w s v4 := (upd_fc frefl (gle rfl hw)); clear_value v4; exact (by split; (focus (exact (by extract_lets +onlyGivenNames -merge -useContext -underBinder v5 a6 v7 v8; clear_value v5 a6; have hv7 : Fr stIs w s v7 := (upd_fc hv4 (gle rfl hw)); clear_value v7; have hv8 : Fr stIs w s v8 := (gite hv7 (gstep (frame_pegPoison (gle rfl hw) _ _) hv7)); clear_value v8; exact (gite (gstep (frame_sendCtl (gle rfl hw) _ _) hv8) hv8)))); (focus (exact hv4))))

theorem frame_endContext {w : Parts} (hw : ({ bays := true, cmd := true, safety := true } : Parts).union w = w) s x1 :
    Fr stIs w s (endContext s x1) := by
  delta endContext; exact (by extract_lets +onlyGivenNames -merge -useContext -underBinder v0 v1 v2 v3 v4 v5 a6 v7 v8 v9 v10; clear_value v0 v1 v2 v3 v4 a6 v8 v9 v10; have hv5 : Fr stIs w s v5 := (frame_bayPut (gle rfl hw) _ _ _); clear_value v5; have hv7 : Fr stIs w s v7 := (upd_safety hv5 (gle rfl hw)); clear_value v7; exact (gstep (frame_dowelPut (gle rfl hw) _ _ _) hv7))

theorem frame_tellDrop {w : Parts} (hw : ({ twin := true } : Parts).union w = w) x0 x1 s :
    Fr stIs w s (tellDrop x0 x1 s) := by
  delta tellDrop; exact (by split; (focus (exact (gite (frame_sendCtl (gle rfl hw) _ _) frefl))); (focus (exact frefl)))

theorem frame_tellPeer {w : Parts} (hw : ({ twin := true } : Parts).union w = w) x0 s :
    Fr stIs w s (tellPeer x0 s) := by
  delta tellPeer; exact (gite (frame_sendCtl (gle rfl hw) _ _) frefl)

theorem frame_dowelMod {w : Parts} (hw : ({ cmd := true } : Parts).union w = w) s x1 x2 :
    Fr stIs w s (dowelMod s x1 x2) := by
  delta dowelMod; exact (frame_dowelPut (gle rfl hw) _ _ _)

theorem frame_signalSigs {w : Parts} (hw : ({ bays := true, cmd := true, pegs := true, safety := true } : Parts).union w = w) x0 x1 s :
    Fr stIs w s (signalSigs x0 x1 s) := by
  delta signalSigs; exact (gfold frefl (by exact fun p0 _ hp0 => (by split; (focus (exact (by split; (focus (exact (gstep (frame_pegSignal (gle rfl hw) _ _ _) hp0))); (focus (exact (gstep (frame_pegSignal (gle rfl hw) _ _ _) hp0))); (focus (exact (gstep (frame_pegSignal (gle rfl hw) _ _ _) hp0))); (focus (exact (gstep (frame_pegPoison (gle rfl hw) _ _) hp0))); (focus (exact (gstep (frame_pegPoison (gle rfl hw) _ _) hp0))); (focus (exact (gstep (frame_pegPoison (gle rfl hw) _ _) hp0))); (focus (exact (gstep (frame_pegPoison (gle rfl hw) _ _) hp0))); (focus (exact hp0)); (focus (exact hp0)); (focus (exact hp0))))); (focus (exact hp0)))))

theorem frame_logRecord {w : Parts} (hw : ({ regs := true, safety := true } : Parts).union w = w) s x1 x2 :
    Fr stIs w s (logRecord s x1 x2) := by
  delta logRecord; exact (by extract_lets +onlyGivenNames -merge -useContext -underBinder v0 v1; clear_value v0 v1; exact (gite (frame_cntInc (gle rfl hw) _ _) (by extract_lets +onlyGivenNames -merge -useContext -underBinder v2 v3; clear_value v2 v3; exact (gite (frame_cntInc (gle rfl hw) _ _) (gstep (frame_fsrcPut (gle rfl hw) _ _ _) (upd_safety frefl (gle rfl hw)))))))

theorem frame_settle {w : Parts} (hw : ({ bays := true, cmd := true, safety := true } : Parts).union w = w) s x1 :
    Fr stIs w s (settle s x1) := by
  delta settle; exact (by extract_lets +onlyGivenNames -merge -useContext -underBinder v0 v1; clear_value v0 v1; exact (gite (frame_endContext (gle rfl hw) _ _) frefl))

theorem frame_freeSlot {w : Parts} (hw : ({ cmd := true, sealU := true } : Parts).union w = w) s x1 :
    Fr stIs w s (freeSlot s x1) := by
  delta freeSlot; exact (gstep (frame_dowelMod (gle rfl hw) _ _ _) (frame_sealKeep (gle rfl hw) _ _))

theorem frame_updDrop {w : Parts} (hw : ({ cmd := true } : Parts).union w = w) s x1 :
    Fr stIs w s (updDrop s x1) := by
  delta updDrop; exact (by extract_lets +onlyGivenNames -merge -useContext -underBinder v0 v1; clear_value v0 v1; exact (gfold frefl (by exact fun p2 _ hp2 => (by split <;> (exact (by extract_lets +onlyGivenNames -merge -useContext -underBinder v3 a4 v5; clear_value v3 a4; have hv5 : Fr stIs w s v5 := (upd_cmd hp2 (gle rfl hw)); clear_value v5; exact (by split; (focus (exact (gstep (frame_dowelMod (gle rfl hw) _ _ _) hv5))); (focus (exact hv5)))))))))

theorem frame_holeError {w : Parts} (hw : ({ regs := true } : Parts).union w = w) {x0 : Raiser} (hf0 : ∀ q0 q1 q2 q3, Fr stIs w q3 (x0 q0 q1 q2 q3)) x1 x2 x3 x4 s :
    Fr stIs w s (holeError x0 x1 x2 x3 x4 s) := by
  delta holeError; exact (by extract_lets +onlyGivenNames -merge -useContext -underBinder v0; have hv0 : Fr stIs w s v0 := (gite frefl (gstep (frame_regPut (gle rfl hw) _ _ _) (frame_pairPut (gle rfl hw) _ _ _))); clear_value v0; exact (gstep (hf0 _ _ _ _) (gstep (frame_cntInc (gle rfl hw) _ _) hv0)))

theorem frame_violation {w : Parts} (hw : ({ regs := true } : Parts).union w = w) {x0 : Raiser} (hf0 : ∀ q0 q1 q2 q3, Fr stIs w q3 (x0 q0 q1 q2 q3)) x1 x2 x3 x4 x5 s :
    Fr stIs w s (violation x0 x1 x2 x3 x4 x5 s) := by
  delta violation; exact (by extract_lets +onlyGivenNames -merge -useContext -underBinder v0; have hv0 : Fr stIs w s v0 := (gite frefl (gstep (frame_regPut (gle rfl hw) _ _ _) (frame_pairPut (gle rfl hw) _ _ _))); clear_value v0; exact (gstep (hf0 _ _ _ _) (gstep (frame_cntInc (gle rfl hw) _ _) hv0)))

theorem frame_stopHand {w : Parts} (hw : ({ bays := true, cmd := true, safety := true } : Parts).union w = w) s x1 :
    Fr stIs w s (stopHand s x1) := by
  delta stopHand; exact (by extract_lets +onlyGivenNames -merge -useContext -underBinder v0; have hv0 : Fr stIs w s v0 := (frame_bayMod (gle rfl hw) _ _ _); clear_value v0; exact (gstep (frame_settle (gle rfl hw) _ _) hv0))

theorem frame_reportVerdict {w : Parts} (hw : ({ regs := true } : Parts).union w = w) {x0 : Raiser} (hf0 : ∀ q0 q1 q2 q3, Fr stIs w q3 (x0 q0 q1 q2 q3)) x1 x2 x3 x4 x5 x6 s :
    Fr stIs w s (reportVerdict x0 x1 x2 x3 x4 x5 x6 s) := by
  delta reportVerdict; exact (by split; (focus (exact frefl)); (focus (exact (frame_holeError (gle rfl hw) hf0 _ _ _ _ _))); (focus (exact (frame_violation (gle rfl hw) hf0 _ _ _ _ _ _))); (focus (exact frefl)))

theorem frame_writeRecord {w : Parts} (hw : ({ regs := true, mem := true, bays := true, waitWrites := true, twin := true } : Parts).union w = w) {x0 : Raiser} (hf0 : ∀ q0 q1 q2 q3, Fr stIs w q3 (x0 q0 q1 q2 q3)) x1 x2 x3 s :
    Fr fstIs w s (writeRecord x0 x1 x2 x3 s) := by
  delta writeRecord; exact (by extract_lets +onlyGivenNames -merge -useContext -underBinder v0; clear_value v0; exact (gite (gmkf frefl) (by extract_lets +onlyGivenNames -merge -useContext -underBinder v1 v2 v3 v4 v5; clear_value v1 v2 v3 v4 v5; exact (gite (gmkf (gstep (hf0 _ _ _ _) (gstep (frame_cntInc (gle rfl hw) _ _) (frame_regSetFld (gle rfl hw) _ _ _ _ _)))) (by extract_lets +onlyGivenNames -merge -useContext -underBinder v6; clear_value v6; exact (by split; (focus (rename_i m7 em7; have gm7 := gofeq em7 (frame_accessCheck (gle rfl hw) _ _ _ _ _ _); have hm7 : Fr stIs w s m7 := gm7; exact (gmkf (gstep (frame_regPut (gle rfl hw) _ _ _) (gstep (frame_devWrite (gle rfl hw) _ _ _) hm7))))); (focus (rename_i m8 em8; have gm8 := gofeq em8 (frame_accessCheck (gle rfl hw) _ _ _ _ _ _); have hm8 : Fr stIs w s m8 := gm8; exact (gmkf (gstep (frame_violation (gle rfl hw) hf0 _ _ _ _ _ _) (gstep (frame_cntInc (gle rfl hw) _ _) (gstep (frame_regSetFld (gle rfl hw) _ _ _ _ _) hm8)))))); (focus (rename_i m9 em9; have gm9 := gofeq em9 (frame_accessCheck (gle rfl hw) _ _ _ _ _ _); have hm9 : Fr stIs w s m9 := gm9; exact (gmkf (gstep (frame_violation (gle rfl hw) hf0 _ _ _ _ _ _) (gstep (frame_cntInc (gle rfl hw) _ _) (gstep (frame_regSetFld (gle rfl hw) _ _ _ _ _) hm9)))))); (focus (rename_i m10 em10; have gm10 := gofeq em10 (frame_accessCheck (gle rfl hw) _ _ _ _ _ _); have hm10 : Fr stIs w s m10 := gm10; exact (gmkf (gstep (frame_violation (gle rfl hw) hf0 _ _ _ _ _ _) (gstep (frame_cntInc (gle rfl hw) _ _) (gstep (frame_regSetFld (gle rfl hw) _ _ _ _ _) hm10))))))))))))

theorem frame_completeDowel {w : Parts} (hw : Parts.faultReach.union w = w) {x0 : Raiser} (hf0 : ∀ q0 q1 q2 q3, Fr stIs w q3 (x0 q0 q1 q2 q3)) x1 x2 x3 s :
    Fr stIs w s (completeDowel x0 x1 x2 x3 s) := by
  delta completeDowel; exact (by extract_lets +onlyGivenNames -merge -useContext -underBinder v0 v1; clear_value v1; have hv0 : Fr stIs w s v0 := (gite (frame_endPart (gle rfl hw) _ _ _) (gstep (frame_tellDrop (gle rfl hw) _ _ _) (frame_tellPeer (gle rfl hw) _ _))); clear_value v0; exact (gite (by extract_lets +onlyGivenNames -merge -useContext -underBinder v2 v3 v4 v5; clear_value v2 v3 v4; have hv5 : Fr stIs w s v5 := (gstep (frame_updDrop (gle rfl hw) _ _) (gstep (frame_dowelPut (gle rfl hw) _ _ _) hv0)); clear_value v5; exact (by split; rename_i r6 r7 e13; have gr6 := gofeq e13 (gstep (frame_writeRecord (gle rfl hw) hf0 _ _ _ _) hv5); have hr6 : Fr stIs w s r6 := gr6; exact (by extract_lets +onlyGivenNames -merge -useContext -underBinder v8 v9 v10 v11 v12; clear_value v10; have hv8 : Fr stIs w s v8 := (gstep (frame_collClose (gle rfl hw) _ _ _) (gstep (frame_signalSigs (gle rfl hw) _ _ _) hr6)); clear_value v8; have hv9 : Fr stIs w s v9 := (gite (gstep (frame_msi (gle rfl hw) _ _ _) hv8) hv8); clear_value v9; have hv11 : Fr stIs w s v11 := (gite (gstep (frame_ageEvents (gle rfl hw) _ _) hv9) hv9); clear_value v11; have hv12 : Fr stIs w s v12 := (gite (gstep (hf0 _ _ _ _) hv11) hv11); clear_value v12; exact (gite (gstep (frame_freeSlot (gle rfl hw) _ _) hv12) hv12)))) hv0))

theorem frame_stopJob {w : Parts} (hw : Parts.faultReach.union w = w) {x0 : Raiser} (hf0 : ∀ q0 q1 q2 q3, Fr stIs w q3 (x0 q0 q1 q2 q3)) x1 x2 x3 s :
    Fr stIs w s (stopJob x0 x1 x2 x3 s) := by
  delta stopJob; exact (by extract_lets +onlyGivenNames -merge -useContext -underBinder v0 v1 v2 v3; clear_value v0 v2; have hv1 : Fr stIs w s v1 := (gfold (frame_tellPeer (gle rfl hw) _ _) (by exact fun p4 _ hp4 => (gstep (frame_stopHand (gle rfl hw) _ _) hp4))); clear_value v1; have hv3 : Fr stIs w s v3 := (gstep (frame_dowelPut (gle rfl hw) _ _ _) hv1); clear_value v3; exact (gite (gstep (frame_completeDowel (gle rfl hw) hf0 _ _ _ _) hv3) hv3))

theorem frame_endDowel {w : Parts} (hw : Parts.faultReach.union w = w) {x0 : Raiser} (hf0 : ∀ q0 q1 q2 q3, Fr stIs w q3 (x0 q0 q1 q2 q3)) x1 x2 x3 s :
    Fr stIs w s (endDowel x0 x1 x2 x3 s) := by
  delta endDowel; exact (by split; (focus (exact (frame_completeDowel (gle rfl hw) hf0 _ _ _ _))); (focus (exact (gite (frame_stopJob (gle rfl hw) hf0 _ _ _ _) (frame_completeDowel (gle rfl hw) hf0 _ _ _ _)))); (focus (exact frefl)); (focus (exact frefl)); (focus (exact frefl)); (focus (exact frefl)); (focus (exact frefl)); (focus (exact frefl)); (focus (exact frefl)); (focus (exact frefl)))

theorem frame_partitionStop {w : Parts} (hw : Parts.faultReach.union w = w) {x0 : Raiser} (hf0 : ∀ q0 q1 q2 q3, Fr stIs w q3 (x0 q0 q1 q2 q3)) x1 x2 s :
    Fr stIs w s (partitionStop x0 x1 x2 s) := by
  delta partitionStop; exact (gite frefl (by extract_lets +onlyGivenNames -merge -useContext -underBinder a0 v1 a2 v3 v4; clear_value a0 a2 v4; have hv1 : Fr stIs w s v1 := (upd_safety frefl (gle rfl hw)); clear_value v1; have hv3 : Fr stIs w s v3 := (upd_cmd hv1 (gle rfl hw)); clear_value v3; exact (gfold hv3 (by exact fun p5 _ hp5 => (gstep (frame_endDowel (gle rfl hw) hf0 _ _ _ _) hp5)))))

theorem frame_enterSafe {w : Parts} (hw : Parts.faultReach.union w = w) {x0 : Raiser} (hf0 : ∀ q0 q1 q2 q3, Fr stIs w q3 (x0 q0 q1 q2 q3)) s :
    Fr stIs w s (enterSafe x0 s) := by
  delta enterSafe; exact (gite frefl (by extract_lets +onlyGivenNames -merge -useContext -underBinder v0 a1 v2; clear_value v0 a1; have hv2 : Fr stIs w s v2 := (gstep (frame_pinsUpdate (gle rfl hw) _) (upd_safety frefl (gle rfl hw))); clear_value v2; exact (gfold hv2 (by exact fun p3 _ hp3 => (gstep (frame_partitionStop (gle rfl hw) hf0 _ _ _) hp3)))))

theorem frame_raiseN {w : Parts} (hw : Parts.faultReach.union w = w) x0 x1 x2 x3 x4 x5 s :
    Fr stIs w s (raiseN x0 x1 x2 x3 x4 x5 s) := by
  induction x0 generalizing x1 x2 x3 x4 x5 s with
  | zero => rw [raiseN.eq_1]; exact frefl
  | succ k ih => rw [raiseN.eq_2]; exact (by split; (focus (exact frefl)); (focus (exact (by extract_lets +onlyGivenNames -merge -useContext -underBinder v0 v1 v2 v3 v4 v5 v6 v7 v8 v9; clear_value v0 v2 v4 v6; have hv1 : ∀ q14 q15 q16 q17, Fr stIs w q17 (v1 q14 q15 q16 q17) := (by unfold v1; beta_reduce; exact (by exact fun y10 y11 y12 y13 => (ih _ _ _ _ _ _))); clear_value v1; have hv3 : Fr stIs w s v3 := (frame_fsrcPut (gle rfl hw) _ _ _); clear_value v3; have hv5 : Fr stIs w s v5 := (gite (gstep (frame_cntInc (gle rfl hw) _ _) hv3) hv3); clear_value v5; have hv7 : Fr stIs w s v7 := (gstep (frame_pinsUpdate (gle rfl hw) _) (gstep (frame_logRecord (gle rfl hw) _ _ _) hv5)); clear_value v7; have hv8 : Fr stIs w s v8 := (gite (gstep (frame_msi (gle rfl hw) _ _ _) hv7) hv7); clear_value v8; have hv9 : Fr stIs w s v9 := (by unfold v9; exact (by split; (focus (exact (gite (gstep (frame_partitionStop (gle rfl hw) hv1 _ _ _) hv8) hv8))); (focus (exact hv8)))); clear_value v9; exact (gite (gstep (frame_enterSafe (gle rfl hw) hv1 _) hv9) hv9)))))

theorem frame_raiseCritical {w : Parts} (hw : Parts.faultReach.union w = w) x0 x1 x2 s :
    Fr stIs w s (raiseCritical x0 x1 x2 s) := by
  delta raiseCritical; exact (frame_raiseN (gle rfl hw) _ _ _ _ _ _ _)

theorem frame_raiseWith {w : Parts} (hw : Parts.faultReach.union w = w) x0 x1 x2 x3 s :
    Fr stIs w s (raiseWith x0 x1 x2 x3 s) := by
  delta raiseWith; exact (frame_raiseN (gle rfl hw) _ _ _ _ _ _ _)

theorem frame_raise {w : Parts} (hw : Parts.faultReach.union w = w) x0 x1 x2 s :
    Fr stIs w s (raise x0 x1 x2 s) := by
  delta raise; exact (frame_raiseN (gle rfl hw) _ _ _ _ _ _ _)

theorem frame_startPlumb {w : Parts} (hw : ({ bays := true, safety := true } : Parts).union w = w) s x1 x2 :
    Fr stIs w s (startPlumb s x1 x2) := by
  delta startPlumb; exact (by extract_lets +onlyGivenNames -merge -useContext -underBinder v0; have hv0 : Fr stIs w s v0 := (frame_bayMod (gle rfl hw) _ _ _); clear_value v0; exact (upd_safety hv0 (gle rfl hw)))

theorem frame_zeroStore {w : Parts} (hw : ({ bays := true } : Parts).union w = w) s x1 :
    Fr stIs w s (zeroStore s x1) := by
  delta zeroStore; exact (frame_bayMod (gle rfl hw) _ _ _)

theorem frame_serveSubst {w : Parts} (hw : ({ bays := true, safety := true, repair := true } : Parts).union w = w) s x1 :
    Fr stIs w s (serveSubst s x1) := by
  delta serveSubst; exact (by extract_lets +onlyGivenNames -merge -useContext -underBinder v0 v1 a2 v3; clear_value v0 v1 a2; have hv3 : Fr stIs w s v3 := (upd_repair frefl (gle rfl hw)); clear_value v3; exact (by split; (focus (exact (gstep (frame_startPlumb (gle rfl hw) _ _ _) (gstep (frame_zeroStore (gle rfl hw) _ _) hv3)))); (focus (exact hv3))))

theorem frame_markHere {w : Parts} (hw : Parts.faultReach.union w = w) {x0 : Raiser} (hf0 : ∀ q0 q1 q2 q3, Fr stIs w q3 (x0 q0 q1 q2 q3)) s x2 :
    Fr stIs w s (markHere x0 s x2) := by
  delta markHere; exact (gite (frame_stopJob (gle rfl hw) hf0 _ _ _ _) (by extract_lets +onlyGivenNames -merge -useContext -underBinder v0; have hv0 : Fr stIs w s v0 := (frame_dowelMod (gle rfl hw) _ _ _); clear_value v0; exact (gfold hv0 (by exact fun p1 _ hp1 => (gstep (frame_stopHand (gle rfl hw) _ _) hp1)))))

theorem frame_markReplay {w : Parts} (hw : Parts.faultReach.union w = w) {x0 : Raiser} (hf0 : ∀ q0 q1 q2 q3, Fr stIs w q3 (x0 q0 q1 q2 q3)) s x2 :
    Fr stIs w s (markReplay x0 s x2) := by
  delta markReplay; exact (by extract_lets +onlyGivenNames -merge -useContext -underBinder v0; clear_value v0; exact (gstep (frame_markHere (gle rfl hw) hf0 _ _) (gite (frame_sendCtl (gle rfl hw) _ _) frefl)))

theorem frame_fenceBay {w : Parts} (hw : Parts.handReach.union w = w) {x0 : Raiser} (hf0 : ∀ q0 q1 q2 q3, Fr stIs w q3 (x0 q0 q1 q2 q3)) x1 x2 s :
    Fr stIs w s (fenceBay x0 x1 x2 s) := by
  delta fenceBay; exact (by extract_lets +onlyGivenNames -merge -useContext -underBinder v0; clear_value v0; exact (gite frefl (by split; (focus (exact (by extract_lets +onlyGivenNames -merge -useContext -underBinder a1 v2; clear_value a1; have hv2 : Fr stIs w s v2 := (gstep (hf0 _ _ _ _) (frame_bayPut (gle rfl hw) _ _ _)); clear_value v2; exact (by split; (focus (exact (gstep (frame_serveSubst (gle rfl hw) _ _) hv2))); (focus (exact hv2)))))); (focus (exact (by extract_lets +onlyGivenNames -merge -useContext -underBinder a3 v4 v5 v6 v7 v8 v9; clear_value a3 v7 v9; have hv4 : Fr stIs w s v4 := (frame_bayPut (gle rfl hw) _ _ _); clear_value v4; have hv5 : Fr stIs w s v5 := (gstep (frame_regPut (gle rfl hw) _ _ _) hv4); clear_value v5; have hv6 : Fr stIs w s v6 := (gfold hv5 (by exact fun p10 _ hp10 => (gstep (frame_markReplay (gle rfl hw) hf0 _ _) hp10))); clear_value v6; have hv8 : Fr stIs w s v8 := (gfold hv6 (by exact fun p11 _ hp11 => (by split; (focus (exact (gstep (frame_completeDowel (gle rfl hw) hf0 _ _ _ _) hp11))); (focus (exact hp11))))); clear_value v8; exact (gstep (frame_serveSubst (gle rfl hw) _ _) (upd_repair hv8 (gle rfl hw)))))))))

theorem frame_plumbMismatch {w : Parts} (hw : Parts.handReach.union w = w) {x0 : Raiser} (hf0 : ∀ q0 q1 q2 q3, Fr stIs w q3 (x0 q0 q1 q2 q3)) x1 s :
    Fr stIs w s (plumbMismatch x0 x1 s) := by
  delta plumbMismatch; exact (by extract_lets +onlyGivenNames -merge -useContext -underBinder v0; clear_value v0; exact (gstep (frame_fenceBay (gle rfl hw) hf0 _ _ _) (hf0 _ _ _ _)))

theorem frame_takeFault {w : Parts} (hw : Parts.handReach.union w = w) {x0 : Raiser} (hf0 : ∀ q0 q1 q2 q3, Fr stIs w q3 (x0 q0 q1 q2 q3)) x1 x2 x3 x4 s :
    Fr stIs w s (takeFault x0 x1 x2 x3 x4 s) := by
  delta takeFault; exact (by extract_lets +onlyGivenNames -merge -useContext -underBinder v0 v1; clear_value v0 v1; exact (gite (frame_plumbMismatch (gle rfl hw) hf0 _ _) (by extract_lets +onlyGivenNames -merge -useContext -underBinder v2 v3 v4 v5 v6 v7; clear_value v3 v6; have hv2 : Fr stIs w s v2 := (by unfold v2; exact (by split; (focus (exact (gite frefl (gstep (frame_pairPut (gle rfl hw) _ _ _) (frame_regPut (gle rfl hw) _ _ _))))); (focus (exact frefl)))); clear_value v2; have hv4 : Fr stIs w s v4 := (gstep (frame_dowelMod (gle rfl hw) _ _ _) hv2); clear_value v4; have hv5 : Fr stIs w s v5 := (gstep (frame_handMod (gle rfl hw) _ _ _) hv4); clear_value v5; have hv7 : Fr stIs w s v7 := (gstep (hf0 _ _ _ _) hv5); clear_value v7; exact (gite (gstep (frame_stopHand (gle rfl hw) _ _) hv7) hv7))))

theorem frame_regStep {w : Parts} (hw : ({ bays := true } : Parts).union w = w) x0 x1 s :
    Fr stIs w s (regStep x0 x1 s) := by
  delta regStep; exact (frame_handMod (gle rfl hw) _ _ _)

theorem frame_countChoice {w : Parts} (hw : ({ regs := true, bays := true } : Parts).union w = w) x0 x1 x2 s :
    Fr stIs w s (countChoice x0 x1 x2 s) := by
  delta countChoice; exact (gite frefl (by extract_lets +onlyGivenNames -merge -useContext -underBinder v0 v1 v2; clear_value v0; have hv1 : Fr stIs w s v1 := (frame_handMod (gle rfl hw) _ _ _); clear_value v1; have hv2 : Fr stIs w s v2 := (gstep (frame_regPut (gle rfl hw) _ _ _) hv1); clear_value v2; exact (gstep (frame_cntAdd (gle rfl hw) _ _ _) hv2)))

theorem frame_journalPeg {w : Parts} (hw : ({ cmd := true } : Parts).union w = w) x0 x1 s :
    Fr stIs w s (journalPeg x0 x1 s) := by
  delta journalPeg; exact (by extract_lets +onlyGivenNames -merge -useContext -underBinder v0 v1; clear_value v0 v1; exact (gite frefl (frame_dowelMod (gle rfl hw) _ _ _)))

theorem frame_contestStore {w : Parts} (hw : ({ regs := true, bays := true, part := true } : Parts).union w = w) x0 x1 x2 s :
    Fr stIs w s (contestStore x0 x1 x2 s) := by
  delta contestStore; exact (by extract_lets +onlyGivenNames -merge -useContext -underBinder v0 v1; clear_value v0 v1; exact (gstep (frame_countChoice (gle rfl hw) _ _ _ _) (upd_part frefl (gle rfl hw))))

theorem frame_advance {w : Parts} (hw : ({ bays := true } : Parts).union w = w) x0 s :
    Fr stIs w s (advance x0 s) := by
  delta advance; exact (frame_handMod (gle rfl hw) _ _ _)

theorem frame_handSignal {w : Parts} (hw : ({ bays := true, cmd := true, pegs := true, safety := true } : Parts).union w = w) x0 x1 x2 s :
    Fr stIs w s (handSignal x0 x1 x2 s) := by
  delta handSignal; exact (gstep (frame_pegSignal (gle rfl hw) _ _ _) (frame_journalPeg (gle rfl hw) _ _ _))

theorem frame_bayWrite {w : Parts} (hw : ({ regs := true, mem := true, bays := true, waitWrites := true, part := true, twin := true } : Parts).union w = w) x0 x1 x2 x3 s :
    Fr stIs w s (bayWrite x0 x1 x2 x3 s) := by
  delta bayWrite; exact (gstep (frame_devWrite (gle rfl hw) _ _ _) (gite (frame_contestStore (gle rfl hw) _ _ _ _) frefl))

theorem frame_issue {w : Parts} (hw : Parts.handReach.union w = w) {x4 : Sys2Proof.Machine.State → Sys2Proof.Machine.State} (hf4 : ∀ q0, Fr stIs w q0 (x4 q0)) x0 x1 x2 s :
    Fr nextIs w s (issue x0 x1 x2 s x4) := by
  delta issue; exact (gite (gnext (gite (by extract_lets +onlyGivenNames -merge -useContext -underBinder v0; clear_value v0; exact (by split; (focus (exact (frame_takeFault (gle rfl hw) (by exact fun y1 y2 y3 y4 => (frame_raise (gle rfl hw) _ _ _ _)) _ _ _ _ _))); (focus (exact (hf4 _))))) frefl)) gfault)

theorem frame_preciseFault {w : Parts} (hw : Parts.handReach.union w = w) x0 x1 s :
    Fr stIs w s (preciseFault x0 x1 s) := by
  delta preciseFault; exact (frame_takeFault (gle rfl hw) (by exact fun y0 y1 y2 y3 => (frame_raise (gle rfl hw) _ _ _ _)) _ _ _ _ _)

theorem frame_releaseWait {w : Parts} (hw : Parts.handReach.union w = w) x0 s :
    Fr stIs w s (releaseWait x0 s) := by
  delta releaseWait; exact (by split; (focus (exact (by extract_lets +onlyGivenNames -merge -useContext -underBinder v0; have hv0 : Fr stIs w s v0 := (frame_handMod (gle rfl hw) _ _ _); clear_value v0; exact (gite (gstep (frame_countChoice (gle rfl hw) _ _ _ _) hv0) hv0)))); (focus (exact (gstep (frame_preciseFault (gle rfl hw) _ _ _) (frame_handMod (gle rfl hw) _ _ _)))); (focus (exact frefl)); (focus (exact frefl)); (focus (exact frefl)); (focus (exact frefl)))

theorem frame_goTo {w : Parts} (hw : Parts.handReach.union w = w) x0 x1 x2 s :
    Fr stIs w s (goTo x0 x1 x2 s) := by
  delta goTo; exact (gite (frame_preciseFault (gle rfl hw) _ _ _) (frame_handMod (gle rfl hw) _ _ _))

theorem frame_branch {w : Parts} (hw : Parts.handReach.union w = w) x0 x1 x2 x3 s :
    Fr stIs w s (branch x0 x1 x2 x3 s) := by
  delta branch; exact (gite (frame_goTo (gle rfl hw) _ _ _ _) (frame_regStep (gle rfl hw) _ _ _))

theorem frame_startWait {w : Parts} (hw : Parts.handReach.union w = w) x0 x1 s :
    Fr stIs w s (startWait x0 x1 s) := by
  delta startWait; exact (gstep (frame_releaseWait (gle rfl hw) _ _) (frame_handMod (gle rfl hw) _ _ _))

theorem frame_signalLast {w : Parts} (hw : ({ twin := true } : Parts).union w = w) x0 s :
    Fr stIs w s (signalLast x0 s) := by
  delta signalLast; exact (by extract_lets +onlyGivenNames -merge -useContext -underBinder v0; clear_value v0; exact (by split; (focus (exact (by extract_lets +onlyGivenNames -merge -useContext -underBinder v1; clear_value v1; exact (upd_twin frefl (gle rfl hw))))); (focus (exact frefl))))

theorem frame_startBay {w : Parts} (hw : ({ bays := true } : Parts).union w = w) s x1 :
    Fr stIs w s (startBay s x1) := by
  delta startBay; exact (by extract_lets +onlyGivenNames -merge -useContext -underBinder v0; clear_value v0; exact (frame_bayMod (gle rfl hw) _ _ _))

theorem frame_signalAt {w : Parts} (hw : ({ bays := true, cmd := true, pegs := true, safety := true, twin := true } : Parts).union w = w) x0 x1 s :
    Fr stIs w s (signalAt x0 x1 s) := by
  delta signalAt; exact (by split; (focus (exact (frame_signalLast (gle rfl hw) _ _))); (focus (exact (frame_pegSignal (gle rfl hw) _ _ _))))

theorem frame_enqueue {w : Parts} (hw : ({ bays := true } : Parts).union w = w) x0 x1 x2 x3 x4 s :
    Fr stIs w s (enqueue x0 x1 x2 x3 x4 s) := by
  delta enqueue; exact (by extract_lets +onlyGivenNames -merge -useContext -underBinder v0; have hv0 : Fr stIs w s v0 := (frame_bayMod (gle rfl hw) _ _ _); clear_value v0; exact (gstep (frame_startBay (gle rfl hw) _ _) (gstep (frame_advance (gle rfl hw) _ _) hv0)))

theorem frame_retireEntry {w : Parts} (hw : ({ bays := true, cmd := true, safety := true } : Parts).union w = w) x0 x1 x2 s :
    Fr stIs w s (retireEntry x0 x1 x2 s) := by
  delta retireEntry; exact (by extract_lets +onlyGivenNames -merge -useContext -underBinder v0 v1; have hv0 : Fr stIs w s v0 := (frame_bayMod (gle rfl hw) _ _ _); clear_value v0; have hv1 : Fr stIs w s v1 := (gstep (frame_startBay (gle rfl hw) _ _) hv0); clear_value v1; exact (gstep (frame_settle (gle rfl hw) _ _) (gstep (frame_settle (gle rfl hw) _ _) hv1)))

theorem frame_bulkCheck {w : Parts} (hw : ({ regs := true } : Parts).union w = w) x0 x1 x2 x3 x4 x5 s :
    Fr (via (via stIs)) w s (bulkCheck x0 x1 x2 x3 x4 x5 s) := by
  induction x4 generalizing x0 x1 x2 x3 x5 s with
  | nil => rw [bulkCheck.eq_1]; exact (gmk (gmk frefl))
  | cons z l ih => rw [bulkCheck.eq_2]; exact (gite (ih _ _ _ _ _ _) (by split; (focus (rename_i m0 em0; have gm0 := gofeq em0 (frame_accessCheck (gle rfl hw) _ _ _ _ _ _); have hm0 : Fr stIs w s m0 := gm0; exact (gstep (ih _ _ _ _ _ _) hm0))); (focus (rename_i m1 _ em1; have gm1 := gofeq em1 (frame_accessCheck (gle rfl hw) _ _ _ _ _ _); have hm1 : Fr stIs w s m1 := gm1; exact (gmk (gmk hm1))))))

theorem frame_completeEntry {w : Parts} (hw : Parts.handReach.union w = w) {x5 : Sys2Proof.Hand → QEntry → Sys2Proof.Machine.State → Sys2Proof.Machine.State × Option ℕ} (hf5 : ∀ q0 q1 q2, Fr fstIs w q2 (x5 q0 q1 q2)) x0 x1 x2 x3 x4 s :
    Fr nextIs w s (completeEntry x0 x1 x2 x3 x4 x5 s) := by
  delta completeEntry; exact (gite (gnext (by split; (focus (exact frefl)); (focus (exact (gite (by extract_lets +onlyGivenNames -merge -useContext -underBinder v0; clear_value v0; exact (by split; rename_i r1 r2 e8; have gr1 := gofeq e8 (hf5 _ _ _); have hr1 : Fr stIs w s r1 := gr1; exact (by extract_lets +onlyGivenNames -merge -useContext -underBinder v3; have hv3 : Fr stIs w s v3 := (by unfold v3; exact (by split; (focus (exact (gstep (frame_takeFault (gle rfl hw) (by exact fun y4 y5 y6 y7 => (frame_raise (gle rfl hw) _ _ _ _)) _ _ _ _ _) hr1))); (focus (exact hr1)))); clear_value v3; exact (gstep (frame_retireEntry (gle rfl hw) _ _ _ _) hv3)))) frefl))))) gfault)

theorem frame_issueQueued {w : Parts} (hw : Parts.handReach.union w = w) {x6 : Sys2Proof.Machine.State → List ℕ × Sys2Proof.Machine.State} (hf6 : ∀ q0, Fr (via stIs) w q0 (x6 q0)) x0 x1 x2 x3 x4 x5 s :
    Fr nextIs w s (issueQueued x0 x1 x2 x3 x4 x5 x6 s) := by
  delta issueQueued; exact (frame_issue (gle rfl hw) (by exact fun y0 => (gite frefl (by split; rename_i r1 r2 e3; have gr2 := gofeq e3 (hf6 _); have hr2 : Fr stIs w y0 r2 := gr2; exact (by split; (focus (exact (gstep (frame_enqueue (gle rfl hw) _ _ _ _ _ _) hr2))); (focus (exact (gstep (frame_preciseFault (gle rfl hw) _ _ _) hr2))))))) _ _ _ _)

theorem frame_unitCheck {w : Parts} (hw : Parts.faultReach.union w = w) x0 x1 x2 x3 x4 s :
    Fr (via stIs) w s (unitCheck x0 x1 x2 x3 x4 s) := by
  induction x4 generalizing x0 x1 x2 x3 s with
  | nil => rw [unitCheck.eq_1]; exact (gmk frefl)
  | cons z l ih => rw [unitCheck.eq_2]; exact (by split; (focus (rename_i m0 em0; have gm0 := gofeq em0 (frame_accessCheck (gle rfl hw) _ _ _ _ _ _); have hm0 : Fr stIs w s m0 := gm0; exact (gstep (ih _ _ _ _ _) hm0))); (focus (rename_i m1 _ em1; have gm1 := gofeq em1 (frame_accessCheck (gle rfl hw) _ _ _ _ _ _); have hm1 : Fr stIs w s m1 := gm1; exact (gmk (gstep (frame_reportVerdict (gle rfl hw) (by exact fun y2 y3 y4 y5 => (frame_raise (gle rfl hw) _ _ _ _)) _ _ _ _ _ _ _) hm1)))))

theorem frame_unitWrite {w : Parts} (hw : Parts.faultReach.union w = w) x0 x1 x2 x3 x4 s :
    Fr (via stIs) w s (unitWrite x0 x1 x2 x3 x4 s) := by
  delta unitWrite; exact (by split; (focus (rename_i m0 em0; have gm0 := gofeq em0 (frame_unitCheck (gle rfl hw) _ _ _ _ _ _); have hm0 : Fr stIs w s m0 := gm0; exact (gmk (gstep (frame_devWrite (gle rfl hw) _ _ _) hm0)))); (focus (rename_i m1 em1; have gm1 := gofeq em1 (frame_unitCheck (gle rfl hw) _ _ _ _ _ _); have hm1 : Fr stIs w s m1 := gm1; exact (gmk hm1))))

theorem frame_unitRead {w : Parts} (hw : Parts.faultReach.union w = w) x0 x1 x2 x3 x4 s :
    Fr (via stIs) w s (unitRead x0 x1 x2 x3 x4 s) := by
  delta unitRead; exact (by split; (focus (rename_i m0 em0; have gm0 := gofeq em0 (frame_unitCheck (gle rfl hw) _ _ _ _ _ _); have hm0 : Fr stIs w s m0 := gm0; exact (gmk hm0))); (focus (rename_i m1 em1; have gm1 := gofeq em1 (frame_unitCheck (gle rfl hw) _ _ _ _ _ _); have hm1 : Fr stIs w s m1 := gm1; exact (gmk hm1))))

theorem frame_collPut {w : Parts} (hw : ({ fc := true } : Parts).union w = w) s x1 x2 :
    Fr stIs w s (collPut s x1 x2) := by
  delta collPut; exact (upd_fc frefl (gle rfl hw))

theorem frame_collReset {w : Parts} (hw : ({ bays := true, cmd := true, pegs := true, fc := true } : Parts).union w = w) x0 x1 s :
    Fr stIs w s (collReset x0 x1 s) := by
  delta collReset; exact (by extract_lets +onlyGivenNames -merge -useContext -underBinder v0 v1; clear_value v0; have hv1 : Fr stIs w s v1 := (gite frefl (gstep (frame_judgeAll (gle rfl hw) _) (frame_pegPut (gle rfl hw) _ _ _))); clear_value v1; exact (gstep (frame_collPut (gle rfl hw) _ _ _) hv1))

theorem frame_addRespeg {w : Parts} (hw : ({ bays := true, cmd := true, pegs := true, safety := true, twin := true } : Parts).union w = w) x0 s :
    Fr stIs w s (addRespeg x0 s) := by
  delta addRespeg; exact (by extract_lets +onlyGivenNames -merge -useContext -underBinder v0; have hv0 : Fr stIs w s v0 := (frame_pegSignal (gle rfl hw) _ _ _); clear_value v0; exact (gite (gstep (frame_sendFlit (gle rfl hw) _ _) hv0) hv0))

theorem frame_collReruns {w : Parts} (hw : ({ regs := true, bays := true, cmd := true, pegs := true, fc := true, twin := true } : Parts).union w = w) x0 s :
    Fr stIs w s (collReruns x0 s) := by
  delta collReruns; exact (gfold frefl (by exact fun p0 _ hp0 => (by extract_lets +onlyGivenNames -merge -useContext -underBinder v1; have hv1 : Fr stIs w s v1 := (gstep (frame_cntInc (gle rfl hw) _ _) (gstep (frame_dowelMod (gle rfl hw) _ _ _) (gstep (frame_collReset (gle rfl hw) _ _ _) hp0))); clear_value v1; exact (gite (gstep (frame_sendCtl (gle rfl hw) _ _) hv1) hv1))))

theorem frame_enterContrib {w : Parts} (hw : Parts.faultReach.union w = w) x0 x1 x2 x3 s :
    Fr stIs w s (enterContrib x0 x1 x2 x3 s) := by
  delta enterContrib; exact (by extract_lets +onlyGivenNames -merge -useContext -underBinder v0 v1; clear_value v0; have hv1 : Fr stIs w s v1 := (frame_dowelMod (gle rfl hw) _ _ _); clear_value v1; exact (by split; (focus (exact (gite (gstep (frame_collPut (gle rfl hw) _ _ _) hv1) (gstep (frame_completeDowel (gle rfl hw) (by exact fun y2 y3 y4 y5 => (frame_raise (gle rfl hw) _ _ _ _)) _ _ _ _) (gstep (frame_raise (gle rfl hw) _ _ _ _) hv1))))); (focus (exact (gstep (frame_collPut (gle rfl hw) _ _ _) hv1)))))

theorem frame_collComplete {w : Parts} (hw : Parts.faultReach.union w = w) x0 s :
    Fr stIs w s (collComplete x0 s) := by
  delta collComplete; exact (by split; (focus (exact (by split; (focus (exact (frame_completeDowel (gle rfl hw) (by exact fun y0 y1 y2 y3 => (frame_raise (gle rfl hw) _ _ _ _)) _ _ _ _))); (focus (exact frefl))))); (focus (exact frefl)))

theorem frame_collCtl {w : Parts} (hw : Parts.faultReach.union w = w) x0 s :
    Fr stIs w s (collCtl x0 s) := by
  delta collCtl
  extract_lets mine theirs
  have hm : ∀ h s' eff, (∀ n c y, Fr stIs w y (eff n c y)) → Fr stIs w s' (mine h s' eff) := by
    intro h s' eff he
    unfold mine
    beta_reduce
    split
    · exact he _ _ _
    · exact frefl
  have ht : ∀ h s' eff, (∀ n c y, Fr stIs w y (eff n c y)) → Fr stIs w s' (theirs h s' eff) := by
    intro h s' eff he
    unfold theirs
    beta_reduce
    split
    · exact he _ _ _
    · exact frefl
  clear_value mine theirs
  split
  · exact gstep (frame_collPut (gle rfl hw) _ _ _) (upd_fc frefl (gle rfl hw))
  · exact hm _ _ _ (by exact fun n c y => frame_enterContrib (gle rfl hw) _ _ _ _ _)
  · exact hm _ _ _ (by exact fun n c y => frame_completeDowel (gle rfl hw) (by exact fun a b c d => frame_raise (gle rfl hw) _ _ _ _) _ _ _ _)
  · exact ht _ _ _ (by exact fun n c y => frame_collReset (gle rfl hw) _ _ _)
  · exact ht _ _ _ (by exact fun n c y => (by
      extract_lets s1
      have h1 : Fr stIs w y s1 := frame_collPut (gle rfl hw) _ _ _
      clear_value s1
      exact gite (gstep (frame_pegPoison (gle rfl hw) _ _) h1) h1))
  all_goals exact frefl

theorem frame_collFail {w : Parts} (hw : Parts.faultReach.union w = w) x0 x1 x2 s :
    Fr stIs w s (collFail x0 x1 x2 s) := by
  delta collFail; exact (by split; (focus (exact (gstep (frame_sendCtl (gle rfl hw) _ _) (frame_collPut (gle rfl hw) _ _ _)))); (focus (exact (frame_completeDowel (gle rfl hw) (by exact fun y0 y1 y2 y3 => (frame_raise (gle rfl hw) _ _ _ _)) _ _ _ _))))

theorem frame_readRanges {w : Parts} (hw : Parts.faultReach.union w = w) x0 x1 s :
    Fr (via stIs) w s (readRanges x0 x1 s) := by
  induction x1 generalizing x0 s with
  | nil => rw [readRanges.eq_1]; exact (gmk frefl)
  | cons z l ih => rw [readRanges.eq_2]; exact (by split; (focus (rename_i m0 em0; have gm0 := gofeq em0 (frame_unitRead (gle rfl hw) _ _ _ _ _ _); have hm0 : Fr stIs w s m0 := gm0; exact (by split; (focus (rename_i m1 em1; have gm1 := gofeq em1 (gstep (ih _ _) hm0); have hm1 : Fr stIs w s m1 := gm1; exact (gmk hm1))); (focus (rename_i m2 em2; have gm2 := gofeq em2 (gstep (ih _ _) hm0); have hm2 : Fr stIs w s m2 := gm2; exact (gmk hm2)))))); (focus (rename_i m3 em3; have gm3 := gofeq em3 (frame_unitRead (gle rfl hw) _ _ _ _ _ _); have hm3 : Fr stIs w s m3 := gm3; exact (gmk hm3))))

theorem frame_leafTable {w : Parts} (hw : Parts.faultReach.union w = w) x0 x1 s :
    Fr (via stIs) w s (leafTable x0 x1 s) := by
  delta leafTable; exact (by split; (focus (rename_i m0 em0; have gm0 := gofeq em0 (frame_unitRead (gle rfl hw) _ _ _ _ _ _); have hm0 : Fr stIs w s m0 := gm0; exact (gmk hm0))); (focus (rename_i m1 em1; have gm1 := gofeq em1 (frame_unitRead (gle rfl hw) _ _ _ _ _ _); have hm1 : Fr stIs w s m1 := gm1; exact (gmk hm1))))

theorem frame_collPoisoned {w : Parts} (hw : Parts.faultReach.union w = w) x0 s :
    Fr stIs w s (collPoisoned x0 s) := by
  delta collPoisoned; exact (by split; (focus (exact (gite (frame_collFail (gle rfl hw) _ _ _ _) frefl))); (focus (exact frefl)))

theorem frame_takeContrib {w : Parts} (hw : Parts.faultReach.union w = w) x0 x1 x2 s :
    Fr stIs w s (takeContrib x0 x1 x2 s) := by
  delta takeContrib; exact (by extract_lets +onlyGivenNames -merge -useContext -underBinder v0; clear_value v0; exact (by split; rename_i r1 r2 e5; have gr2 := gofeq e5 (gite (frame_leafTable (gle rfl hw) _ _ _) (gmk frefl)); have hr2 : Fr stIs w s r2 := gr2; exact (by split; (focus (exact (gstep (frame_collFail (gle rfl hw) _ _ _ _) hr2))); (focus (exact (by split; (focus (rename_i m3 em3; have gm3 := gofeq em3 (gstep (frame_readRanges (gle rfl hw) _ _ _) hr2); have hm3 : Fr stIs w s m3 := gm3; exact (gstep (frame_collFail (gle rfl hw) _ _ _ _) hm3))); (focus (rename_i m4 em4; have gm4 := gofeq em4 (gstep (frame_readRanges (gle rfl hw) _ _ _) hr2); have hm4 : Fr stIs w s m4 := gm4; exact (by split; (focus (exact (gstep (frame_sendCtl (gle rfl hw) _ _) (gstep (frame_collPut (gle rfl hw) _ _ _) hm4)))); (focus (exact (gstep (frame_enterContrib (gle rfl hw) _ _ _ _ _) hm4))))))))))))

theorem frame_contribute {w : Parts} (hw : Parts.faultReach.union w = w) x0 x1 s :
    Fr stIs w s (contribute x0 x1 s) := by
  delta contribute; exact (by split; (focus (exact (by extract_lets +onlyGivenNames -merge -useContext -underBinder v0; clear_value v0; exact (gite frefl (gite (frame_collFail (gle rfl hw) _ _ _ _) (gite (frame_takeContrib (gle rfl hw) _ _ _ _) frefl)))))); (focus (exact frefl)))

theorem frame_writeResults {w : Parts} (hw : Parts.faultReach.union w = w) x0 x1 s :
    Fr stIs w s (writeResults x0 x1 s) := by
  delta writeResults; exact (by extract_lets +onlyGivenNames -merge -useContext -underBinder v0; clear_value v0; exact (gite (frame_collFail (gle rfl hw) _ _ _ _) (by split; (focus (exact (frame_collFail (gle rfl hw) _ _ _ _))); (focus (exact (by extract_lets +onlyGivenNames -merge -useContext -underBinder v1 v2; clear_value v1 v2; exact (by split; (focus (rename_i m3 em3; have gm3 := gofeq em3 (frame_unitCheck (gle rfl hw) _ _ _ _ _ _); have hm3 : Fr stIs w s m3 := gm3; exact (gstep (frame_collFail (gle rfl hw) _ _ _ _) hm3))); (focus (rename_i m4 em4; have gm4 := gofeq em4 (frame_unitCheck (gle rfl hw) _ _ _ _ _ _); have hm4 : Fr stIs w s m4 := gm4; exact (by extract_lets +onlyGivenNames -merge -useContext -underBinder v5 v6 v7 v8 v9; clear_value v6 v7; have hv5 : Fr stIs w s v5 := (gfold hm4 (by exact fun p10 _ hp10 => (gstep (frame_devWrite (gle rfl hw) _ _ _) hp10))); clear_value v5; have hv8 : Fr stIs w s v8 := (gstep (frame_dowelMod (gle rfl hw) _ _ _) hv5); clear_value v8; have hv9 : Fr stIs w s v9 := (gite hv8 (gstep (frame_cntAdd (gle rfl hw) _ _ _) (gstep (frame_regPut (gle rfl hw) _ _ _) hv8))); clear_value v9; exact (gstep (frame_addRespeg (gle rfl hw) _ _) (gstep (frame_collPut (gle rfl hw) _ _ _) hv9))))))))))))

theorem frame_collResult {w : Parts} (hw : Parts.faultReach.union w = w) x0 s :
    Fr stIs w s (collResult x0 s) := by
  delta collResult; exact (by split; (focus (exact (gite (frame_writeResults (gle rfl hw) _ _ _) frefl))); (focus (exact frefl)))

theorem frame_putMessage {w : Parts} (hw : Parts.faultReach.union w = w) x0 x1 s :
    Fr fstIs w s (putMessage x0 x1 s) := by
  delta putMessage; exact (gite (gmkf frefl) (by extract_lets +onlyGivenNames -merge -useContext -underBinder v0; clear_value v0; exact (by split; rename_i r1 r2 e8; have gr2 := gofeq e8 (gite (frame_accessCheck (gle rfl hw) _ _ _ _ _ _) (gmk frefl)); have hr2 : Fr stIs w s r2 := gr2; exact (by split; (focus (exact (by extract_lets +onlyGivenNames -merge -useContext -underBinder v3; have hv3 : Fr stIs w s v3 := (gstep (frame_regPut (gle rfl hw) _ _ _) (gstep (frame_devWrite (gle rfl hw) _ _ _) hr2)); clear_value v3; exact (gmkf (gite (gstep (frame_msi (gle rfl hw) _ _ _) hv3) hv3))))); (focus (exact (gmkf (gstep (frame_reportVerdict (gle rfl hw) (by exact fun y4 y5 y6 y7 => (frame_raise (gle rfl hw) _ _ _ _)) _ _ _ _ _ _ _) hr2))))))))

theorem frame_notice {w : Parts} (hw : Parts.faultReach.union w = w) x0 x1 x2 x3 s :
    Fr stIs w s (notice x0 x1 x2 x3 s) := by
  delta notice; exact (by extract_lets +onlyGivenNames -merge -useContext -underBinder v0; clear_value v0; exact (by split; (focus (rename_i m1 em1; have gm1 := gofeq em1 (frame_putMessage (gle rfl hw) _ _ _); have hm1 : Fr stIs w s m1 := gm1; exact hm1)); (focus (rename_i m2 em2; have gm2 := gofeq em2 (frame_putMessage (gle rfl hw) _ _ _); have hm2 : Fr stIs w s m2 := gm2; exact (gstep (frame_cntInc (gle rfl hw) _ _) hm2)))))

theorem frame_repairEvent {w : Parts} (hw : Parts.faultReach.union w = w) x0 x1 x2 x3 x4 s :
    Fr stIs w s (repairEvent x0 x1 x2 x3 x4 s) := by
  delta repairEvent; exact (by extract_lets +onlyGivenNames -merge -useContext -underBinder v0; clear_value v0; exact (gstep (frame_notice (gle rfl hw) _ _ _ _ _) (frame_notice (gle rfl hw) _ _ _ _ _)))

theorem frame_commitPair {w : Parts} (hw : ({ regs := true, staging := true } : Parts).union w = w) s x1 x2 :
    Fr stIs w s (commitPair s x1 x2) := by
  delta commitPair; exact (by extract_lets +onlyGivenNames -merge -useContext -underBinder v0; have hv0 : Fr stIs w s v0 := (frame_pairPut (gle rfl hw) _ _ _); clear_value v0; exact (upd_staging hv0 (gle rfl hw)))

theorem frame_foreignPage {w : Parts} (hw : { Parts.faultReach with reply := true }.union w = w) x0 x1 s :
    Fr stIs w s (foreignPage x0 x1 s) := by
  delta foreignPage; exact (by extract_lets +onlyGivenNames -merge -useContext -underBinder v0; have hv0 : Fr stIs w s v0 := (frame_holeError (gle rfl hw) (by exact fun y1 y2 y3 y4 => (frame_raise (gle rfl hw) _ _ _ _)) _ _ _ _ _); clear_value v0; exact (upd_reply hv0 (gle rfl hw)))

theorem frame_asInit {w : Parts} (hw : { Parts.faultReach with reply := true }.union w = w) {x3 : Sys2Proof.Machine.State → Sys2Proof.Machine.State} (hf3 : ∀ q0, Fr stIs w q0 (x3 q0)) x0 x1 x2 s :
    Fr stIs w s (asInit x0 x1 x2 x3 s) := by
  delta asInit; exact (gite (hf3 _) (frame_foreignPage (gle rfl hw) _ _ _))

theorem frame_storeFields {w : Parts} (hw : ({ regs := true } : Parts).union w = w) x0 x1 s :
    Fr stIs w s (storeFields x0 x1 s) := by
  delta storeFields; exact (by split; (focus (exact (frame_regPut (gle rfl hw) _ _ _))); (focus (exact frefl)))

theorem frame_tryWrite {w : Parts} (hw : ({ regs := true } : Parts).union w = w) {x2 : Sys2Proof.Machine.State → Sys2Proof.Machine.State} (hf2 : ∀ q0, Fr stIs w q0 (x2 q0)) x0 x1 s :
    Fr stIs w s (tryWrite x0 x1 x2 s) := by
  delta tryWrite; exact (gite (frame_cntInc (gle rfl hw) _ _) (by split; (focus (exact (gstep (hf2 _) (gite (frame_cntInc (gle rfl hw) _ _) frefl)))); (focus (exact frefl))))

theorem frame_fieldWrite {w : Parts} (hw : ({ regs := true } : Parts).union w = w) x0 x1 s :
    Fr stIs w s (fieldWrite x0 x1 s) := by
  delta fieldWrite; exact (frame_tryWrite (gle rfl hw) (by exact fun y0 => (frame_storeFields (gle rfl hw) _ _ _)) _ _ _)

end Sys2Proof.Machine
end

