-- ==== Sys2Proof/Laws/FrameJobs.lean ====
section
/-!
SUPPORT. The parts of the state that each operation may change: submission, kerfs, the partition table, the fabric controller.
-/

namespace Sys2Proof.Machine

theorem frame_queryLatch {w : Parts} (hw : ({ cmd := true } : Parts).union w = w) x0 x1 x2 s :
    Fr stIs w s (queryLatch x0 x1 x2 s) := by
  delta queryLatch; exact (by extract_lets +onlyGivenNames -merge -useContext -underBinder v0 v1; clear_value v0 v1; exact (upd_cmd frefl (gle rfl hw)))

theorem frame_ticketSeen {w : Parts} (hw : ({ cmd := true } : Parts).union w = w) x0 s :
    Fr stIs w s (ticketSeen x0 s) := by
  delta ticketSeen; exact (upd_cmd frefl (gle rfl hw))

theorem frame_updPut {w : Parts} (hw : ({ cmd := true } : Parts).union w = w) s x1 x2 :
    Fr stIs w s (updPut s x1 x2) := by
  delta updPut; exact (upd_cmd frefl (gle rfl hw))

theorem frame_takeSlot {w : Parts} (hw : ({ cmd := true } : Parts).union w = w) s x1 x2 :
    Fr stIs w s (takeSlot s x1 x2) := by
  delta takeSlot; exact (by extract_lets +onlyGivenNames -merge -useContext -underBinder v0 a1 v2; clear_value v0 a1; have hv2 : Fr stIs w s v2 := (upd_cmd frefl (gle rfl hw)); clear_value v2; exact (gstep (frame_dowelPut (gle rfl hw) _ _ _) hv2))

theorem frame_ignored {w : Parts} (hw : ({ regs := true } : Parts).union w = w) x0 s :
    Fr stIs w s (ignored x0 s) := by
  delta ignored; exact (frame_cntInc (gle rfl hw) _ _)

theorem frame_allocDowel {w : Parts} (hw : ({ cmd := true } : Parts).union w = w) s x1 :
    Fr (optIs (via stIs)) w s (allocDowel s x1) := by
  delta allocDowel; exact (gite gnone (by split; (focus (exact (gsome (gmk (frame_takeSlot (gle rfl hw) _ _ _))))); (focus (exact gnone))))

theorem frame_releaseDowel {w : Parts} (hw : ({ regs := true, cmd := true, sealU := true } : Parts).union w = w) x0 x1 s :
    Fr stIs w s (releaseDowel x0 x1 s) := by
  delta releaseDowel; exact (by extract_lets +onlyGivenNames -merge -useContext -underBinder v0; clear_value v0; exact (gite (frame_freeSlot (gle rfl hw) _ _) (frame_ignored (gle rfl hw) _ _)))

theorem frame_swapGroupOf {w : Parts} (hw : Parts.faultReach.union w = w) s x1 x2 :
    Fr (via stIs) w s (swapGroupOf s x1 x2) := by
  delta swapGroupOf; exact (by split; (focus (rename_i m0 em0; have gm0 := gofeq em0 (frame_accessCheck (gle rfl hw) _ _ _ _ _ _); have hm0 : Fr stIs w s m0 := gm0; exact (by extract_lets +onlyGivenNames -merge -useContext -underBinder v1 v2; clear_value v1 v2; exact (gmk hm0)))); (focus (rename_i m3 _ em3; have gm3 := gofeq em3 (frame_accessCheck (gle rfl hw) _ _ _ _ _ _); have hm3 : Fr stIs w s m3 := gm3; exact (gmk (gstep (frame_reportVerdict (gle rfl hw) (by exact fun y4 y5 y6 y7 => (frame_raise (gle rfl hw) _ _ _ _)) _ _ _ _ _ _ _) hm3)))))

theorem frame_updAccept {w : Parts} (hw : Parts.faultReach.union w = w) x0 x1 s :
    Fr stIs w s (updAccept x0 x1 s) := by
  delta updAccept; exact (by split; (focus (exact (gstep (frame_dowelMod (gle rfl hw) _ _ _) (frame_updPut (gle rfl hw) _ _ _)))); (focus (exact (by extract_lets +onlyGivenNames -merge -useContext -underBinder v0; have hv0 : Fr stIs w s v0 := (by unfold v0; exact (by split; (focus (exact (frame_completeDowel (gle rfl hw) (by exact fun y1 y2 y3 y4 => (frame_raise (gle rfl hw) _ _ _ _)) _ _ _ _))); (focus (exact frefl)))); clear_value v0; exact (gstep (frame_updPut (gle rfl hw) _ _ _) hv0)))))

theorem frame_flipPlaneOf {w : Parts} (hw : Parts.faultReach.union w = w) s x1 x2 :
    Fr (via stIs) w s (flipPlaneOf s x1 x2) := by
  delta flipPlaneOf; exact (by split; (focus (rename_i m0 em0; have gm0 := gofeq em0 (frame_accessCheck (gle rfl hw) _ _ _ _ _ _); have hm0 : Fr stIs w s m0 := gm0; exact (by extract_lets +onlyGivenNames -merge -useContext -underBinder v1; clear_value v1; exact (gmk hm0)))); (focus (rename_i m2 _ em2; have gm2 := gofeq em2 (frame_accessCheck (gle rfl hw) _ _ _ _ _ _); have hm2 : Fr stIs w s m2 := gm2; exact (gmk (gstep (frame_reportVerdict (gle rfl hw) (by exact fun y3 y4 y5 y6 => (frame_raise (gle rfl hw) _ _ _ _)) _ _ _ _ _ _ _) hm2)))))

theorem frame_acceptKind {w : Parts} (hw : Parts.faultReach.union w = w) x0 s :
    Fr stIs w s (acceptKind x0 s) := by
  delta acceptKind; exact (by extract_lets +onlyGivenNames -merge -useContext -underBinder v0; clear_value v0; exact (by split; (focus (exact (by split; (focus (rename_i m1 em1; have gm1 := gofeq em1 (frame_swapGroupOf (gle rfl hw) _ _ _); have hm1 : Fr stIs w s m1 := gm1; exact (gstep (frame_updAccept (gle rfl hw) _ _ _) (gstep (frame_dowelMod (gle rfl hw) _ _ _) hm1)))); (focus (rename_i m2 em2; have gm2 := gofeq em2 (frame_swapGroupOf (gle rfl hw) _ _ _); have hm2 : Fr stIs w s m2 := gm2; exact (gstep (frame_completeDowel (gle rfl hw) (by exact fun y3 y4 y5 y6 => (frame_raise (gle rfl hw) _ _ _ _)) _ _ _ _) (gstep (frame_dowelMod (gle rfl hw) _ _ _) hm2))))))); (focus (exact (by split; (focus (rename_i m7 em7; have gm7 := gofeq em7 (frame_flipPlaneOf (gle rfl hw) _ _ _); have hm7 : Fr stIs w s m7 := gm7; exact (gstep (frame_updAccept (gle rfl hw) _ _ _) (gstep (frame_dowelMod (gle rfl hw) _ _ _) hm7)))); (focus (rename_i m8 em8; have gm8 := gofeq em8 (frame_flipPlaneOf (gle rfl hw) _ _ _); have hm8 : Fr stIs w s m8 := gm8; exact (gstep (frame_completeDowel (gle rfl hw) (by exact fun y9 y10 y11 y12 => (frame_raise (gle rfl hw) _ _ _ _)) _ _ _ _) (gstep (frame_dowelMod (gle rfl hw) _ _ _) hm8))))))); (focus (exact frefl))))

theorem frame_cancelDowel {w : Parts} (hw : Parts.faultReach.union w = w) x0 x1 s :
    Fr stIs w s (cancelDowel x0 x1 s) := by
  delta cancelDowel; exact (by extract_lets +onlyGivenNames -merge -useContext -underBinder v0 v1; clear_value v0 v1; exact (gite (frame_ignored (gle rfl hw) _ _) (by split; (focus (exact (gite (frame_endDowel (gle rfl hw) (by exact fun y2 y3 y4 y5 => (frame_raise (gle rfl hw) _ _ _ _)) _ _ _ _) (frame_ignored (gle rfl hw) _ _)))); (focus (exact (gite (frame_endDowel (gle rfl hw) (by exact fun y6 y7 y8 y9 => (frame_raise (gle rfl hw) _ _ _ _)) _ _ _ _) (frame_ignored (gle rfl hw) _ _)))); (focus (exact (gite (frame_completeDowel (gle rfl hw) (by exact fun y10 y11 y12 y13 => (frame_raise (gle rfl hw) _ _ _ _)) _ _ _ _) (frame_ignored (gle rfl hw) _ _)))); (focus (exact (gite (frame_completeDowel (gle rfl hw) (by exact fun y14 y15 y16 y17 => (frame_raise (gle rfl hw) _ _ _ _)) _ _ _ _) (frame_ignored (gle rfl hw) _ _)))); (focus (exact (by extract_lets +onlyGivenNames -merge -useContext -underBinder v18; clear_value v18; exact (gite (frame_completeDowel (gle rfl hw) (by exact fun y19 y20 y21 y22 => (frame_raise (gle rfl hw) _ _ _ _)) _ _ _ _) (frame_ignored (gle rfl hw) _ _))))); (focus (exact (frame_ignored (gle rfl hw) _ _))); (focus (exact (frame_ignored (gle rfl hw) _ _))))))

theorem frame_readDesc {w : Parts} (hw : Parts.faultReach.union w = w) s x1 x2 :
    Fr (via stIs) w s (readDesc s x1 x2) := by
  delta readDesc; exact (by split; (focus (rename_i m0 em0; have gm0 := gofeq em0 (frame_accessCheck (gle rfl hw) _ _ _ _ _ _); have hm0 : Fr stIs w s m0 := gm0; exact (gmk hm0))); (focus (rename_i m1 _ em1; have gm1 := gofeq em1 (frame_accessCheck (gle rfl hw) _ _ _ _ _ _); have hm1 : Fr stIs w s m1 := gm1; exact (gmk (gstep (frame_reportVerdict (gle rfl hw) (by exact fun y2 y3 y4 y5 => (frame_raise (gle rfl hw) _ _ _ _)) _ _ _ _ _ _ _) hm1)))))

theorem frame_allocate {w : Parts} (hw : Parts.faultReach.union w = w) s x1 x2 x3 :
    Fr (via (via stIs)) w s (allocate s x1 x2 x3) := by
  delta allocate; exact (by extract_lets +onlyGivenNames -merge -useContext -underBinder v0; clear_value v0; exact (gite (gmk (gmk frefl)) (by split; (focus (exact (gmk (gmk frefl)))); (focus (exact (by extract_lets +onlyGivenNames -merge -useContext -underBinder a1 a2 v3 v4; clear_value a2 v4; have ha1 : Fr stIs w s a1 := (gfold frefl (by exact fun p5 _ hp5 => (gstep (frame_takeSlot (gle rfl hw) _ _ _) hp5))); clear_value a1; have hv3 : Fr stIs w s v3 := (gite (upd_cmd ha1 (gle rfl hw)) (frame_takeSlot (gle rfl hw) _ _ _)); clear_value v3; exact (gmk (gmk (gite hv3 (gstep (frame_acceptKind (gle rfl hw) _ _) hv3))))))))))

theorem frame_fetchChild {w : Parts} (hw : Parts.faultReach.union w = w) x0 x1 s :
    Fr stIs w s (fetchChild x0 x1 s) := by
  delta fetchChild; exact (by extract_lets +onlyGivenNames -merge -useContext -underBinder v0 a1 v2 v3; clear_value v0 a1 v3; have hv2 : Fr stIs w s v2 := (upd_cmd frefl (gle rfl hw)); clear_value v2; exact (gite hv2 (by split; (focus (rename_i m4 em4; have gm4 := gofeq em4 (gstep (frame_readDesc (gle rfl hw) _ _ _) hv2); have hm4 : Fr stIs w s m4 := gm4; exact (gstep (frame_completeDowel (gle rfl hw) (by exact fun y5 y6 y7 y8 => (frame_raise (gle rfl hw) _ _ _ _)) _ _ _ _) hm4))); (focus (rename_i m9 em9; have gm9 := gofeq em9 (gstep (frame_readDesc (gle rfl hw) _ _ _) hv2); have hm9 : Fr stIs w s m9 := gm9; exact (by extract_lets +onlyGivenNames -merge -useContext -underBinder v10; have hv10 : Fr stIs w s v10 := (gstep (frame_dowelMod (gle rfl hw) _ _ _) hm9); clear_value v10; exact (by split; (focus (exact (gstep (frame_completeDowel (gle rfl hw) (by exact fun y11 y12 y13 y14 => (frame_raise (gle rfl hw) _ _ _ _)) _ _ _ _) hv10))); (focus (exact (gstep (frame_completeDowel (gle rfl hw) (by exact fun y15 y16 y17 y18 => (frame_raise (gle rfl hw) _ _ _ _)) _ _ _ _) (gstep (frame_raise (gle rfl hw) _ _ _ _) hm9)))); (focus (exact (gstep (frame_completeDowel (gle rfl hw) (by exact fun y19 y20 y21 y22 => (frame_raise (gle rfl hw) _ _ _ _)) _ _ _ _) hm9))); (focus (exact (gstep (frame_acceptKind (gle rfl hw) _ _) (gstep (frame_dowelMod (gle rfl hw) _ _ _) hv10)))))))))))

theorem frame_execDowelQuery {w : Parts} (hw : { Parts.faultReach with reply := true }.union w = w) x0 x1 x2 s :
    Fr nextIs w s (execDowelQuery x0 x1 x2 s) := by
  delta execDowelQuery; exact (gite (gnext (frame_asInit (gle rfl hw) (by exact fun y0 => (frame_queryLatch (gle rfl hw) _ _ _ _)) _ _ _ _)) gfault)

theorem frame_execPegAddWrite {w : Parts} (hw : { Parts.faultReach with reply := true }.union w = w) x0 x1 x2 s :
    Fr nextIs w s (execPegAddWrite x0 x1 x2 s) := by
  delta execPegAddWrite; exact (gite (gnext (frame_asInit (gle rfl hw) (by exact fun y0 => (frame_pegSignal (gle rfl hw) _ _ _)) _ _ _ _)) gfault)

theorem frame_decideSubmit {w : Parts} (hw : Parts.faultReach.union w = w) s x1 x2 x3 :
    Fr (via (via stIs)) w s (decideSubmit s x1 x2 x3) := by
  delta decideSubmit; exact (by extract_lets +onlyGivenNames -merge -useContext -underBinder v0; have hv0 : ∀ q3 q4, Fr (via (via stIs)) w q4 (v0 q3 q4) := (by unfold v0; beta_reduce; exact (by exact fun y1 y2 => (gmk (gmk (gstep (frame_cntInc (gle rfl hw) _ _) (gite (frame_raise (gle rfl hw) _ _ _ _) frefl)))))); clear_value v0; exact (by split; (focus (rename_i m5 em5; have gm5 := gofeq em5 (frame_readDesc (gle rfl hw) _ _ _); have hm5 : Fr stIs w s m5 := gm5; exact (gstep (hv0 _ _) hm5))); (focus (rename_i m6 em6; have gm6 := gofeq em6 (frame_readDesc (gle rfl hw) _ _ _); have hm6 : Fr stIs w s m6 := gm6; exact (by split; (focus (exact (gstep (hv0 _ _) hm6))); (focus (exact (by split; (focus (rename_i m7 em7; have gm7 := gofeq em7 (gstep (frame_allocate (gle rfl hw) _ _ _ _) hm6); have hm7 : Fr stIs w s m7 := gm7; exact (gmk (gmk (gstep (frame_cntInc (gle rfl hw) _ _) hm7))))); (focus (exact (gstep (frame_allocate (gle rfl hw) _ _ _ _) hm6)))))))))))

theorem frame_execBatchChildFetch {w : Parts} (hw : Parts.faultReach.union w = w) x0 s :
    Fr nextIs w s (execBatchChildFetch x0 s) := by
  delta execBatchChildFetch; exact (gnext (by split; (focus (exact (frame_fetchChild (gle rfl hw) _ _ _))); (focus (exact frefl))))

theorem frame_execTicketRead {w : Parts} (hw : { Parts.faultReach with reply := true }.union w = w) x0 x1 s :
    Fr nextIs w s (execTicketRead x0 x1 s) := by
  delta execTicketRead; exact (gite (gnext (frame_asInit (gle rfl hw) (by exact fun y0 => (by extract_lets +onlyGivenNames -merge -useContext -underBinder v1; have hv1 : Fr stIs w y0 v1 := (frame_ticketSeen (gle rfl hw) _ _); clear_value v1; exact (upd_reply hv1 (gle rfl hw)))) _ _ _ _)) gfault)

theorem frame_execPegStatusClear {w : Parts} (hw : { Parts.faultReach with reply := true }.union w = w) x0 x1 s :
    Fr nextIs w s (execPegStatusClear x0 x1 s) := by
  delta execPegStatusClear; exact (gite (gnext (frame_asInit (gle rfl hw) (by exact fun y0 => (frame_pegClear (gle rfl hw) _ _)) _ _ _ _)) gfault)

theorem frame_execPegCountWrite {w : Parts} (hw : { Parts.faultReach with reply := true }.union w = w) x0 x1 x2 s :
    Fr nextIs w s (execPegCountWrite x0 x1 x2 s) := by
  delta execPegCountWrite; exact (gite (gnext (frame_asInit (gle rfl hw) (by exact fun y0 => (frame_pegSignal (gle rfl hw) _ _ _)) _ _ _ _)) gfault)

theorem frame_execDowelRelease {w : Parts} (hw : { Parts.faultReach with reply := true }.union w = w) x0 x1 x2 s :
    Fr nextIs w s (execDowelRelease x0 x1 x2 s) := by
  delta execDowelRelease; exact (gite (gnext (frame_asInit (gle rfl hw) (by exact fun y0 => (frame_releaseDowel (gle rfl hw) _ _ _)) _ _ _ _)) gfault)

theorem frame_submitAt {w : Parts} (hw : Parts.faultReach.union w = w) x0 x1 s :
    Fr stIs w s (submitAt x0 x1 s) := by
  delta submitAt; exact (by split; (focus (exact frefl)); (focus (exact (by extract_lets +onlyGivenNames -merge -useContext -underBinder v0 v1; clear_value v0; have hv1 : Fr stIs w s v1 := (gite frefl (frame_cntInc (gle rfl hw) _ _)); clear_value v1; exact (by split; rename_i r2 r3 r4 e5; have gr4 := gofeq e5 (gstep (frame_decideSubmit (gle rfl hw) _ _ _ _) hv1); have hr4 : Fr stIs w s r4 := gr4; exact (upd_cmd hr4 (gle rfl hw)))))))

theorem frame_submitCmd {w : Parts} (hw : { Parts.faultReach with staging := true, reply := true }.union w = w) x0 x1 x2 x3 s :
    Fr nextIs w s (submitCmd x0 x1 x2 x3 s) := by
  delta submitCmd; exact (gite (gnext (gite (frame_asInit (gle rfl hw) (by exact fun y0 => (gstep (frame_submitAt (gle rfl hw) _ _ _) (frame_commitPair (gle rfl hw) _ _ _))) _ _ _ _) frefl)) gfault)

theorem frame_execDowelCancel {w : Parts} (hw : { Parts.faultReach with reply := true }.union w = w) x0 x1 x2 s :
    Fr nextIs w s (execDowelCancel x0 x1 x2 s) := by
  delta execDowelCancel; exact (gite (gnext (frame_asInit (gle rfl hw) (by exact fun y0 => (frame_cancelDowel (gle rfl hw) _ _ _)) _ _ _ _)) gfault)

theorem frame_execSubmitPlaneFlip {w : Parts} (hw : { Parts.faultReach with staging := true, reply := true }.union w = w) x0 x1 x2 s :
    Fr nextIs w s (execSubmitPlaneFlip x0 x1 x2 s) := by
  delta execSubmitPlaneFlip; exact (frame_submitCmd (gle rfl hw) _ _ _ _ _)

theorem frame_execSubmitJob {w : Parts} (hw : { Parts.faultReach with staging := true, reply := true }.union w = w) x0 x1 x2 s :
    Fr nextIs w s (execSubmitJob x0 x1 x2 s) := by
  delta execSubmitJob; exact (frame_submitCmd (gle rfl hw) _ _ _ _ _)

theorem frame_execSubmitBatch {w : Parts} (hw : { Parts.faultReach with staging := true, reply := true }.union w = w) x0 x1 x2 s :
    Fr nextIs w s (execSubmitBatch x0 x1 x2 s) := by
  delta execSubmitBatch; exact (frame_submitCmd (gle rfl hw) _ _ _ _ _)

theorem frame_execSubmitRegionSwap {w : Parts} (hw : { Parts.faultReach with staging := true, reply := true }.union w = w) x0 x1 x2 s :
    Fr nextIs w s (execSubmitRegionSwap x0 x1 x2 s) := by
  delta execSubmitRegionSwap; exact (frame_submitCmd (gle rfl hw) _ _ _ _ _)

theorem frame_beatPut {w : Parts} (hw : ({ part := true } : Parts).union w = w) s x1 x2 :
    Fr stIs w s (beatPut s x1 x2) := by
  delta beatPut; exact (upd_part frefl (gle rfl hw))

theorem frame_startBayJob {w : Parts} (hw : ({ bays := true } : Parts).union w = w) x0 x1 s :
    Fr stIs w s (startBayJob x0 x1 s) := by
  delta startBayJob; exact (by extract_lets +onlyGivenNames -merge -useContext -underBinder v0; clear_value v0; exact (by split; (focus (exact (frame_bayMod (gle rfl hw) _ _ _))); (focus (exact frefl))))

theorem frame_beginRestore {w : Parts} (hw : ({ bays := true, cmd := true } : Parts).union w = w) x0 s :
    Fr stIs w s (beginRestore x0 s) := by
  delta beginRestore; exact (by extract_lets +onlyGivenNames -merge -useContext -underBinder v0 v1; clear_value v0; have hv1 : Fr stIs w s v1 := (gfold frefl (by exact fun p2 _ hp2 => (by split; (focus (exact (gstep (frame_bayMod (gle rfl hw) _ _ _) hp2))); (focus (exact hp2))))); clear_value v1; exact (gstep (frame_dowelPut (gle rfl hw) _ _ _) hv1))

theorem frame_countSwitches {w : Parts} (hw : ({ regs := true, cmd := true } : Parts).union w = w) x0 x1 s :
    Fr stIs w s (countSwitches x0 x1 s) := by
  delta countSwitches; exact (by extract_lets +onlyGivenNames -merge -useContext -underBinder v0 v1; clear_value v0 v1; exact (gfold (frame_dowelMod (gle rfl hw) _ _ _) (by exact fun p2 _ hp2 => (gstep (frame_cntInc (gle rfl hw) _ _) (gstep (frame_dowelMod (gle rfl hw) _ _ _) hp2)))))

theorem frame_startJob {w : Parts} (hw : ({ regs := true, bays := true, cmd := true, gfx := true } : Parts).union w = w) x0 s :
    Fr stIs w s (startJob x0 s) := by
  delta startJob; exact (by extract_lets +onlyGivenNames -merge -useContext -underBinder v0 v1 a2 v3; clear_value v0 a2; have hv1 : Fr stIs w s v1 := (frame_dowelPut (gle rfl hw) _ _ _); clear_value v1; have hv3 : Fr stIs w s v3 := (gite (upd_gfx hv1 (gle rfl hw)) hv1); clear_value v3; exact (gstep (frame_countSwitches (gle rfl hw) _ _ _) (gfold hv3 (by exact fun p4 _ hp4 => (gstep (frame_startBayJob (gle rfl hw) _ _ _) hp4)))))

theorem frame_kerfStop {w : Parts} (hw : Parts.handReach.union w = w) x0 s :
    Fr stIs w s (kerfStop x0 s) := by
  delta kerfStop; exact (gstep (frame_handMod (gle rfl hw) _ _ _) (frame_releaseWait (gle rfl hw) _ _))

theorem frame_beginSwitch {w : Parts} (hw : Parts.handReach.union w = w) x0 s :
    Fr stIs w s (beginSwitch x0 s) := by
  delta beginSwitch; exact (gfold frefl (by exact fun p0 _ hp0 => (gite (gstep (frame_bayMod (gle rfl hw) _ _ _) (gstep (frame_kerfStop (gle rfl hw) _ _) (gstep (frame_kerfStop (gle rfl hw) _ _) hp0))) hp0)))

theorem frame_kerfPass {w : Parts} (hw : Parts.handReach.union w = w) x0 s :
    Fr stIs w s (kerfPass x0 s) := by
  delta kerfPass; exact (by split <;> (exact (by extract_lets +onlyGivenNames -merge -useContext -underBinder v0; have hv0 : Fr stIs w s v0 := (gfold frefl (by exact fun p1 _ hp1 => (gfold hp1 (by exact fun p2 _ hp2 => (by split; (focus (exact (gite hp2 (gstep (frame_beginSwitch (gle rfl hw) _ _) hp2)))); (focus (exact hp2))))))); clear_value v0; exact (gfold hv0 (by exact fun p3 _ hp3 => (gite (gstep (frame_beginRestore (gle rfl hw) _ _) hp3) hp3))))))

theorem frame_commitTable {w : Parts} (hw : ({ part := true } : Parts).union w = w) s :
    Fr stIs w s (commitTable s) := by
  delta commitTable; exact (by extract_lets +onlyGivenNames -merge -useContext -underBinder v0; clear_value v0; exact (upd_part frefl (gle rfl hw)))

theorem frame_withWheels {w : Parts} (hw : ({ part := true } : Parts).union w = w) s x1 :
    Fr stIs w s (withWheels s x1) := by
  delta withWheels; exact (upd_part frefl (gle rfl hw))

theorem frame_withRegions {w : Parts} (hw : ({ part := true } : Parts).union w = w) s x1 x2 :
    Fr stIs w s (withRegions s x1 x2) := by
  delta withRegions; exact (upd_part frefl (gle rfl hw))

theorem frame_forgetWriters {w : Parts} (hw : ({ part := true } : Parts).union w = w) x0 s :
    Fr stIs w s (forgetWriters x0 s) := by
  delta forgetWriters; exact (upd_part frefl (gle rfl hw))

theorem frame_withRecord {w : Parts} (hw : ({ part := true } : Parts).union w = w) s x1 x2 :
    Fr stIs w s (withRecord s x1 x2) := by
  delta withRecord; exact (upd_part frefl (gle rfl hw))

theorem frame_startZeroing {w : Parts} (hw : ({ part := true } : Parts).union w = w) x0 x1 s :
    Fr stIs w s (startZeroing x0 x1 s) := by
  delta startZeroing; exact (by extract_lets +onlyGivenNames -merge -useContext -underBinder v0 v1 v2 v3; clear_value v0 v1 v2 v3; exact (upd_part frefl (gle rfl hw)))

theorem frame_applyRegions {w : Parts} (hw : ({ part := true } : Parts).union w = w) x0 x1 s :
    Fr stIs w s (applyRegions x0 x1 s) := by
  delta applyRegions; exact (by extract_lets +onlyGivenNames -merge -useContext -underBinder v0 v1 a2 v3; clear_value v1 a2; have hv0 : Fr stIs w s v0 := (frame_withRegions (gle rfl hw) _ _ _); clear_value v0; have hv3 : Fr stIs w s v3 := (upd_part hv0 (gle rfl hw)); clear_value v3; exact (gite hv3 (gstep (frame_forgetWriters (gle rfl hw) _ _) hv3)))

theorem frame_tellApply {w : Parts} (hw : ({ twin := true } : Parts).union w = w) x0 s :
    Fr stIs w s (tellApply x0 s) := by
  delta tellApply; exact (by extract_lets +onlyGivenNames -merge -useContext -underBinder v0; clear_value v0; exact (gite (gstep (frame_sendCtl (gle rfl hw) _ _) (upd_twin frefl (gle rfl hw))) frefl))

theorem frame_applyRecord {w : Parts} (hw : ({ regs := true, part := true } : Parts).union w = w) x0 x1 s :
    Fr stIs w s (applyRecord x0 x1 s) := by
  delta applyRecord; exact (by extract_lets +onlyGivenNames -merge -useContext -underBinder v0 v1; have hv0 : Fr stIs w s v0 := (gstep (frame_startZeroing (gle rfl hw) _ _ _) (gstep (frame_commitTable (gle rfl hw) _) (frame_withRecord (gle rfl hw) _ _ _))); clear_value v0; have hv1 : Fr stIs w s v1 := (gite (gstep (frame_regPut (gle rfl hw) _ _ _) hv0) hv0); clear_value v1; exact (gstep (frame_beatPut (gle rfl hw) _ _ _) hv1))

theorem frame_applyConfig {w : Parts} (hw : ({ regs := true, part := true } : Parts).union w = w) x0 x1 x2 s :
    Fr stIs w s (applyConfig x0 x1 x2 s) := by
  delta applyConfig; exact (by split; (focus (exact (frame_applyRecord (gle rfl hw) _ _ _))); (focus (exact (frame_applyRegions (gle rfl hw) _ _ _))); (focus (exact (gstep (frame_commitTable (gle rfl hw) _) (frame_withWheels (gle rfl hw) _ _)))))

theorem frame_applyForwarded {w : Parts} (hw : ({ regs := true, part := true, twin := true } : Parts).union w = w) x0 s :
    Fr stIs w s (applyForwarded x0 s) := by
  delta applyForwarded; exact (by extract_lets +onlyGivenNames -merge -useContext -underBinder v0; clear_value v0; exact (by split; (focus (exact (gstep (frame_applyConfig (gle rfl hw) _ _ _ _) (upd_twin frefl (gle rfl hw))))); (focus (exact frefl))))

theorem frame_reportReady {w : Parts} (hw : ({ twin := true } : Parts).union w = w) x0 s :
    Fr stIs w s (reportReady x0 s) := by
  delta reportReady; exact (gite (by split; (focus (exact (gite (frame_sendCtl (gle rfl hw) _ _) frefl))); (focus (exact frefl))) frefl)

theorem frame_withPayload {w : Parts} (hw : ({ part := true } : Parts).union w = w) s x1 x2 x3 :
    Fr stIs w s (withPayload s x1 x2 x3) := by
  delta withPayload; exact (by split; (focus (exact (frame_withRecord (gle rfl hw) _ _ _))); (focus (exact (frame_withRegions (gle rfl hw) _ _ _))); (focus (exact (frame_withWheels (gle rfl hw) _ _))))

theorem frame_takeConfig {w : Parts} (hw : { Parts.faultReach with part := true }.union w = w) x0 s :
    Fr stIs w s (takeConfig x0 s) := by
  delta takeConfig; exact (by extract_lets +onlyGivenNames -merge -useContext -underBinder v0; have hv0 : Fr stIs w s v0 := (frame_reportReady (gle rfl hw) _ _); clear_value v0; exact (by split; (focus (exact (by extract_lets +onlyGivenNames -merge -useContext -underBinder v1; clear_value v1; exact (by split; (focus (exact (gite (by split; (focus (exact (gstep (frame_completeDowel (gle rfl hw) (by exact fun y2 y3 y4 y5 => (frame_raise (gle rfl hw) _ _ _ _)) _ _ _ _) hv0))); (focus (exact (gstep (frame_completeDowel (gle rfl hw) (by exact fun y6 y7 y8 y9 => (frame_raise (gle rfl hw) _ _ _ _)) _ _ _ _) (gstep (frame_applyConfig (gle rfl hw) _ _ _ _) (gstep (frame_tellApply (gle rfl hw) _ _) hv0)))))) hv0))); (focus (exact hv0)))))); (focus (exact hv0))))

theorem frame_configAccept {w : Parts} (hw : Parts.faultReach.union w = w) x0 x1 x2 x3 s :
    Fr stIs w s (configAccept x0 x1 x2 x3 s) := by
  delta configAccept; exact (by split; (focus (exact (gstep (frame_completeDowel (gle rfl hw) (by exact fun y0 y1 y2 y3 => (frame_raise (gle rfl hw) _ _ _ _)) _ _ _ _) (gite (frame_raise (gle rfl hw) _ _ _ _) frefl)))); (focus (exact (gstep (frame_updAccept (gle rfl hw) _ _ _) (gite (frame_sendCtl (gle rfl hw) _ _) frefl)))))

theorem frame_serve {w : Parts} (hw : ({} : Parts).union w = w) {x2 : List Sys2Proof.Byte → Sys2Proof.Machine.State → Sys2Proof.Machine.State} (hf2 : ∀ q0 q1, Fr stIs w q1 (x2 q0 q1)) x0 x1 s :
    Fr nextIs w s (serve x0 x1 x2 s) := by
  delta serve; exact (gite (gnext (gite (hf2 _ _) frefl)) gfault)

theorem frame_doorbell {w : Parts} (hw : ({ regs := true } : Parts).union w = w) x0 x1 s :
    Fr stIs w s (doorbell x0 x1 s) := by
  delta doorbell; exact (gite frefl (gite (frame_cntInc (gle rfl hw) _ _) (frame_fieldWrite (gle rfl hw) _ _ _)))

theorem frame_execCollComplete {w : Parts} (hw : Parts.faultReach.union w = w) x0 s :
    Fr nextIs w s (execCollComplete x0 s) := by
  delta execCollComplete; exact (gnext (gite (frame_collComplete (gle rfl hw) _ _) frefl))

theorem frame_answerNone {w : Parts} (hw : Parts.faultReach.union w = w) x0 x1 s :
    Fr stIs w s (answerNone x0 x1 s) := by
  delta answerNone; exact (by extract_lets +onlyGivenNames -merge -useContext -underBinder v0; clear_value v0; exact (gfst (frame_putMessage (gle rfl hw) _ _ _)))

theorem frame_answer {w : Parts} (hw : Parts.faultReach.union w = w) x0 x1 x2 x3 x4 s :
    Fr stIs w s (answer x0 x1 x2 x3 x4 s) := by
  delta answer; exact (by extract_lets +onlyGivenNames -merge -useContext -underBinder v0 v1 v2; clear_value v0 v1; have hv2 : Fr stIs w s v2 := (gfst (frame_putMessage (gle rfl hw) _ _ _)); clear_value v2; exact (upd_fc hv2 (gle rfl hw)))

theorem frame_execMailboxDoorbell {w : Parts} (hw : { Parts.faultReach with reply := true }.union w = w) x0 x1 x2 s :
    Fr nextIs w s (execMailboxDoorbell x0 x1 x2 s) := by
  delta execMailboxDoorbell; exact (gite (gnext (frame_asInit (gle rfl hw) (by exact fun y0 => (frame_doorbell (gle rfl hw) _ _ _)) _ _ _ _)) gfault)

theorem frame_collMake {w : Parts} (hw : Parts.faultReach.union w = w) x0 x1 x2 x3 s :
    Fr stIs w s (collMake x0 x1 x2 x3 s) := by
  delta collMake; exact (gite (frame_answer (gle rfl hw) _ _ _ _ _ _) (by split; (focus (exact (frame_answer (gle rfl hw) _ _ _ _ _ _))); (focus (exact (gite (frame_answer (gle rfl hw) _ _ _ _ _ _) (by extract_lets +onlyGivenNames -merge -useContext -underBinder v0 v1 v2 v3 a4 v5 v6; clear_value v1 v2 v3 a4; have hv0 : Fr stIs w s v0 := (frame_takeSlot (gle rfl hw) _ _ _); clear_value v0; have hv5 : Fr stIs w s v5 := (gstep (frame_collPut (gle rfl hw) _ _ _) (upd_fc hv0 (gle rfl hw))); clear_value v5; have hv6 : Fr stIs w s v6 := (gite (gstep (frame_sendCtl (gle rfl hw) _ _) hv5) hv5); clear_value v6; exact (gstep (frame_answer (gle rfl hw) _ _ _ _ _ _) hv6)))))))

theorem frame_repairRequest {w : Parts} (hw : Parts.faultReach.union w = w) x0 x1 s :
    Fr stIs w s (repairRequest x0 x1 s) := by
  delta repairRequest; exact (by extract_lets +onlyGivenNames -merge -useContext -underBinder v0 v1; clear_value v0 v1; exact (gite (frame_answer (gle rfl hw) _ _ _ _ _ _) (frame_answer (gle rfl hw) _ _ _ _ _ _)))

theorem frame_execCollContributionTake {w : Parts} (hw : Parts.faultReach.union w = w) x0 x1 s :
    Fr nextIs w s (execCollContributionTake x0 x1 s) := by
  delta execCollContributionTake; exact (gnext (gite (frame_contribute (gle rfl hw) _ _ _) frefl))

theorem frame_execFwVersion {w : Parts} (hw : Parts.faultReach.union w = w) x0 s :
    Fr nextIs w s (execFwVersion x0 s) := by
  delta execFwVersion; exact (frame_serve (gle rfl hw) (by exact fun y0 y1 => (frame_answer (gle rfl hw) _ _ _ _ _ _)) _ _ _)

theorem frame_plumbRequest {w : Parts} (hw : Parts.faultReach.union w = w) x0 x1 s :
    Fr stIs w s (plumbRequest x0 x1 s) := by
  delta plumbRequest; exact (by extract_lets +onlyGivenNames -merge -useContext -underBinder v0; clear_value v0; exact (by split <;> (exact (frame_answer (gle rfl hw) _ _ _ _ _ _))))

theorem frame_takeRequest {w : Parts} (hw : Parts.faultReach.union w = w) x0 s :
    Fr stIs w s (takeRequest x0 s) := by
  delta takeRequest; exact (by extract_lets +onlyGivenNames -merge -useContext -underBinder a0 v1 v2; clear_value a0 v2; have hv1 : Fr stIs w s v1 := (upd_fc frefl (gle rfl hw)); clear_value v1; exact (by split; rename_i r3 r4 e6; have gr4 := gofeq e6 (gite (gstep (frame_unitRead (gle rfl hw) _ _ _ _ _ _) hv1) (gmk hv1)); have hr4 : Fr stIs w s r4 := gr4; exact (by extract_lets +onlyGivenNames -merge -useContext -underBinder v5; have hv5 : Fr stIs w s v5 := (gstep (frame_regPut (gle rfl hw) _ _ _) hr4); clear_value v5; exact (by split; (focus (exact (gstep (frame_answerNone (gle rfl hw) _ _ _) hv5))); (focus (exact (by split; (focus (exact (gstep (frame_answerNone (gle rfl hw) _ _ _) (gstep (frame_raise (gle rfl hw) _ _ _ _) (gstep (frame_cntInc (gle rfl hw) _ _) hv5))))); (focus (exact (gstep (frame_answer (gle rfl hw) _ _ _ _ _ _) hv5))); (focus (exact (upd_fc hv5 (gle rfl hw)))))))))))

theorem frame_execRepairList {w : Parts} (hw : Parts.faultReach.union w = w) x0 s :
    Fr nextIs w s (execRepairList x0 s) := by
  delta execRepairList; exact (frame_serve (gle rfl hw) (by exact fun y0 y1 => (frame_repairRequest (gle rfl hw) _ _ _)) _ _ _)

theorem frame_pegRequest {w : Parts} (hw : Parts.faultReach.union w = w) x0 x1 s :
    Fr stIs w s (pegRequest x0 x1 s) := by
  delta pegRequest; exact (by extract_lets +onlyGivenNames -merge -useContext -underBinder v0 v1 v2 v3; clear_value v0 v1 v2 v3; exact (gite (frame_answer (gle rfl hw) _ _ _ _ _ _) (gite (frame_answer (gle rfl hw) _ _ _ _ _ _) (gite (frame_answer (gle rfl hw) _ _ _ _ _ _) (gstep (frame_answer (gle rfl hw) _ _ _ _ _ _) (frame_pegSignal (gle rfl hw) _ _ _))))))

theorem frame_collRequest {w : Parts} (hw : Parts.faultReach.union w = w) x0 x1 s :
    Fr stIs w s (collRequest x0 x1 s) := by
  delta collRequest; exact (by extract_lets +onlyGivenNames -merge -useContext -underBinder v0 v1; clear_value v0 v1; exact (gite (frame_answer (gle rfl hw) _ _ _ _ _ _) (by split; rename_i r2 r3 e4; have gr3 := gofeq e4 (gite (frame_leafTable (gle rfl hw) _ _ _) (gmk frefl)); have hr3 : Fr stIs w s r3 := gr3; exact (gite (gstep (frame_answer (gle rfl hw) _ _ _ _ _ _) hr3) (gite (gstep (frame_answer (gle rfl hw) _ _ _ _ _ _) hr3) (gite (gstep (frame_answer (gle rfl hw) _ _ _ _ _ _) hr3) (gstep (frame_collMake (gle rfl hw) _ _ _ _ _) hr3)))))))

theorem frame_postRequest {w : Parts} (hw : Parts.faultReach.union w = w) x0 x1 s :
    Fr stIs w s (postRequest x0 x1 s) := by
  delta postRequest; exact (by extract_lets +onlyGivenNames -merge -useContext -underBinder v0 v1; clear_value v0 v1; exact (gite (frame_answer (gle rfl hw) _ _ _ _ _ _) (gite (frame_answer (gle rfl hw) _ _ _ _ _ _) (gstep (frame_answer (gle rfl hw) _ _ _ _ _ _) (gite (frame_cntInc (gle rfl hw) _ _) (frame_notice (gle rfl hw) _ _ _ _ _))))))

theorem frame_execCollCreate {w : Parts} (hw : Parts.faultReach.union w = w) x0 s :
    Fr nextIs w s (execCollCreate x0 s) := by
  delta execCollCreate; exact (frame_serve (gle rfl hw) (by exact fun y0 y1 => (frame_collRequest (gle rfl hw) _ _ _)) _ _ _)

theorem frame_execMessagePost {w : Parts} (hw : Parts.faultReach.union w = w) x0 s :
    Fr nextIs w s (execMessagePost x0 s) := by
  delta execMessagePost; exact (frame_serve (gle rfl hw) (by exact fun y0 y1 => (frame_postRequest (gle rfl hw) _ _ _)) _ _ _)

theorem frame_execMailboxRequestTake {w : Parts} (hw : Parts.faultReach.union w = w) x0 s :
    Fr nextIs w s (execMailboxRequestTake x0 s) := by
  delta execMailboxRequestTake; exact (gite (gnext (gite (frame_takeRequest (gle rfl hw) _ _) frefl)) gfault)

theorem frame_execPlumbStatus {w : Parts} (hw : Parts.faultReach.union w = w) x0 s :
    Fr nextIs w s (execPlumbStatus x0 s) := by
  delta execPlumbStatus; exact (frame_serve (gle rfl hw) (by exact fun y0 y1 => (frame_plumbRequest (gle rfl hw) _ _ _)) _ _ _)

theorem frame_execPegSignal {w : Parts} (hw : Parts.faultReach.union w = w) x0 s :
    Fr nextIs w s (execPegSignal x0 s) := by
  delta execPegSignal; exact (frame_serve (gle rfl hw) (by exact fun y0 y1 => (frame_pegRequest (gle rfl hw) _ _ _)) _ _ _)

theorem frame_execCollResultWrite {w : Parts} (hw : Parts.faultReach.union w = w) x0 s :
    Fr nextIs w s (execCollResultWrite x0 s) := by
  delta execCollResultWrite; exact (gnext (gite (frame_collResult (gle rfl hw) _ _) frefl))

theorem frame_beginBeat {w : Parts} (hw : ({ part := true } : Parts).union w = w) x0 s :
    Fr stIs w s (beginBeat x0 s) := by
  delta beginBeat; exact (by extract_lets +onlyGivenNames -merge -useContext -underBinder v0 v1 v2 v3 a4 v5 v6; clear_value v0 v1 v2 v3 a4 v6; have hv5 : Fr stIs w s v5 := (upd_part frefl (gle rfl hw)); clear_value v5; exact (gstep (frame_beatPut (gle rfl hw) _ _ _) hv5))

theorem frame_exchange {w : Parts} (hw : ({ part := true } : Parts).union w = w) x0 x1 x2 s :
    Fr stIs w s (exchange x0 x1 x2 s) := by
  delta exchange; exact (by extract_lets +onlyGivenNames -merge -useContext -underBinder v0 v1 v2 v3 a4 v5; clear_value v0 v1 v2 v3 a4; have hv5 : Fr stIs w s v5 := (upd_part frefl (gle rfl hw)); clear_value v5; exact (gite hv5 (gstep (frame_forgetWriters (gle rfl hw) _ _) hv5)))

theorem frame_zeroRes {w : Parts} (hw : ({ mem := true, bays := true } : Parts).union w = w) x0 s :
    Fr stIs w s (zeroRes x0 s) := by
  delta zeroRes; exact (by split; (focus (exact (by split; (focus (exact (frame_zeroStore (gle rfl hw) _ _))); (focus (exact frefl))))); (focus (exact (upd_memf frefl (gle rfl hw)))))

theorem frame_zeroDone {w : Parts} (hw : ({ mem := true, bays := true, part := true } : Parts).union w = w) x0 s :
    Fr stIs w s (zeroDone x0 s) := by
  delta zeroDone; exact (by split; (focus (exact (gite (gstep (frame_zeroRes (gle rfl hw) _ _) (upd_part frefl (gle rfl hw))) frefl))); (focus (exact frefl)))

theorem frame_execResourceZeroingDone {w : Parts} (hw : ({ mem := true, bays := true, part := true } : Parts).union w = w) x0 x1 s :
    Fr nextIs w s (execResourceZeroingDone x0 x1 s) := by
  delta execResourceZeroingDone; exact (gite (gnext (frame_zeroDone (gle rfl hw) _ _)) gfault)

theorem frame_scanTable {w : Parts} (hw : { Parts.faultReach with part := true }.union w = w) s :
    Fr stIs w s (scanTable s) := by
  delta scanTable; exact (gite (gstep (frame_raiseWith (gle rfl hw) _ _ _ _ _) (upd_part frefl (gle rfl hw))) frefl)

theorem frame_scanRegions {w : Parts} (hw : { Parts.faultReach with part := true }.union w = w) s x1 :
    Fr stIs w s (scanRegions s x1) := by
  delta scanRegions; exact (gite (gstep (frame_raiseWith (gle rfl hw) _ _ _ _ _) (upd_part frefl (gle rfl hw))) frefl)

theorem frame_takeSwap {w : Parts} (hw : { Parts.faultReach with part := true }.union w = w) x0 x1 s :
    Fr stIs w s (takeSwap x0 x1 s) := by
  delta takeSwap; exact (by split; (focus (exact (by split; (focus (exact (gstep (frame_completeDowel (gle rfl hw) (by exact fun y0 y1 y2 y3 => (frame_raise (gle rfl hw) _ _ _ _)) _ _ _ _) (frame_exchange (gle rfl hw) _ _ _ _)))); (focus (exact (frame_completeDowel (gle rfl hw) (by exact fun y4 y5 y6 y7 => (frame_raise (gle rfl hw) _ _ _ _)) _ _ _ _)))))); (focus (exact frefl)))

theorem frame_execPartitionConfigApply {w : Parts} (hw : { Parts.faultReach with part := true }.union w = w) x0 s :
    Fr nextIs w s (execPartitionConfigApply x0 s) := by
  delta execPartitionConfigApply; exact (gite (gnext (gite (frame_takeConfig (gle rfl hw) _ _) frefl)) (gite (gnext (gite (frame_takeConfig (gle rfl hw) _ _) frefl)) gfault))

theorem frame_execTableScan {w : Parts} (hw : { Parts.faultReach with part := true }.union w = w) s :
    Fr nextIs w s (execTableScan s) := by
  delta execTableScan; exact (gnext (gfold (frame_scanTable (gle rfl hw) _) (by exact fun p0 _ hp0 => (gstep (frame_scanRegions (gle rfl hw) _ _) hp0))))

theorem frame_checkPart {w : Parts} (hw : { Parts.faultReach with part := true }.union w = w) s x1 :
    Fr stIs w s (checkPart s x1) := by
  delta checkPart; exact (gite (by extract_lets +onlyGivenNames -merge -useContext -underBinder v0; have hv0 : Fr stIs w s v0 := (frame_takeConfig (gle rfl hw) _ _); clear_value v0; exact (gite (gstep (frame_forgetWriters (gle rfl hw) _ _) (upd_part hv0 (gle rfl hw))) hv0)) frefl)

theorem frame_execPartCtrlLock {w : Parts} (hw : { Parts.faultReach with reply := true }.union w = w) x0 x1 s :
    Fr nextIs w s (execPartCtrlLock x0 x1 s) := by
  delta execPartCtrlLock; exact (gite (gnext (frame_asInit (gle rfl hw) (by exact fun y0 => (frame_regPut (gle rfl hw) _ _ _)) _ _ _ _)) gfault)

theorem frame_execRegionSwapApply {w : Parts} (hw : { Parts.faultReach with part := true }.union w = w) x0 x1 s :
    Fr nextIs w s (execRegionSwapApply x0 x1 s) := by
  delta execRegionSwapApply; exact (gite (gnext (gite (gstep (frame_takeSwap (gle rfl hw) _ _ _) (frame_takeConfig (gle rfl hw) _ _)) frefl)) gfault)

theorem frame_execPartCheck {w : Parts} (hw : { Parts.faultReach with part := true }.union w = w) s :
    Fr nextIs w s (execPartCheck s) := by
  delta execPartCheck; exact (gnext (gite (gfold (upd_part frefl (gle rfl hw)) (by exact fun p0 _ hp0 => (gstep (frame_checkPart (gle rfl hw) _ _) hp0))) frefl))

theorem frame_startBeat {w : Parts} (hw : { Parts.handReach with part := true }.union w = w) x0 s :
    Fr stIs w s (startBeat x0 s) := by
  delta startBeat; exact (by extract_lets +onlyGivenNames -merge -useContext -underBinder v0 v1; have hv0 : Fr stIs w s v0 := (gstep (frame_takeConfig (gle rfl hw) _ _) (frame_beginBeat (gle rfl hw) _ _)); clear_value v0; have hv1 : Fr stIs w s v1 := (gfold hv0 (by exact fun p2 _ hp2 => (gstep (frame_takeSwap (gle rfl hw) _ _ _) hp2))); clear_value v1; exact (gstep (frame_kerfPass (gle rfl hw) _ _) (gstep (frame_forgetWriters (gle rfl hw) _ _) hv1)))

theorem frame_execBeatStart {w : Parts} (hw : { Parts.handReach with part := true }.union w = w) x0 s :
    Fr nextIs w s (execBeatStart x0 s) := by
  delta execBeatStart; exact (gite (gnext (gite (frame_startBeat (gle rfl hw) _ _) frefl)) gfault)

end Sys2Proof.Machine
end

