-- ==== Sys2Proof/Laws/FrameTime.lean ====
section
/-!
SUPPORT. The parts of the state that each operation may change: the display and the timebase.
-/

namespace Sys2Proof.Machine

theorem frame_latchFlip {w : Parts} (hw : Parts.faultReach.union w = w) x0 s :
    Fr stIs w s (latchFlip x0 s) := by
  delta latchFlip; exact (by split; (focus (exact frefl)); (focus (exact (by extract_lets +onlyGivenNames -merge -useContext -underBinder v0; clear_value v0; exact (gite frefl (by extract_lets +onlyGivenNames -merge -useContext -underBinder v1 v2 v3 v4; clear_value v1 v2 v3 v4; exact (by split; (focus (rename_i m5 em5; have gm5 := gofeq em5 (frame_unitCheck (gle rfl hw) _ _ _ _ _ _); have hm5 : Fr stIs w s m5 := gm5; exact (gstep (frame_completeDowel (gle rfl hw) (by exact fun y6 y7 y8 y9 => (frame_raise (gle rfl hw) _ _ _ _)) _ _ _ _) hm5))); (focus (rename_i m10 em10; have gm10 := gofeq em10 (frame_unitCheck (gle rfl hw) _ _ _ _ _ _); have hm10 : Fr stIs w s m10 := gm10; exact (by extract_lets +onlyGivenNames -merge -useContext -underBinder v11; have hv11 : Fr stIs w s v11 := (gstep (frame_regSetFld (gle rfl hw) _ _ _ _ _) (gstep (frame_regPut (gle rfl hw) _ _ _) (gstep (frame_pairPut (gle rfl hw) _ _ _) hm10))); clear_value v11; exact (gstep (frame_completeDowel (gle rfl hw) (by exact fun y12 y13 y14 y15 => (frame_raise (gle rfl hw) _ _ _ _)) _ _ _ _) hv11)))))))))))

theorem frame_testFlip {w : Parts} (hw : Parts.faultReach.union w = w) x0 x1 s :
    Fr stIs w s (testFlip x0 x1 s) := by
  delta testFlip; exact (by extract_lets +onlyGivenNames -merge -useContext -underBinder v0; clear_value v0; exact (gite frefl (by split; (focus (rename_i m1 em1; have gm1 := gofeq em1 (frame_unitRead (gle rfl hw) _ _ _ _ _ _); have hm1 : Fr stIs w s m1 := gm1; exact (gstep (frame_completeDowel (gle rfl hw) (by exact fun y2 y3 y4 y5 => (frame_raise (gle rfl hw) _ _ _ _)) _ _ _ _) hm1))); (focus (rename_i m6 em6; have gm6 := gofeq em6 (frame_unitRead (gle rfl hw) _ _ _ _ _ _); have hm6 : Fr stIs w s m6 := gm6; exact (gite (gstep (frame_completeDowel (gle rfl hw) (by exact fun y7 y8 y9 y10 => (frame_raise (gle rfl hw) _ _ _ _)) _ _ _ _) hm6) (gite (gstep (frame_completeDowel (gle rfl hw) (by exact fun y11 y12 y13 y14 => (frame_raise (gle rfl hw) _ _ _ _)) _ _ _ _) hm6) (gstep (frame_dowelPut (gle rfl hw) _ _ _) hm6))))))))

theorem frame_planeRow {w : Parts} (hw : { Parts.faultReach with freeCtr := true }.union w = w) x0 x1 s :
    Fr (via stIs) w s (planeRow x0 x1 s) := by
  delta planeRow; exact (by extract_lets +onlyGivenNames -merge -useContext -underBinder v0 v1; clear_value v0 v1; exact (by split; (focus (rename_i m2 em2; have gm2 := gofeq em2 (frame_unitRead (gle rfl hw) _ _ _ _ _ _); have hm2 : Fr stIs w s m2 := gm2; exact (gmk hm2))); (focus (rename_i m3 em3; have gm3 := gofeq em3 (frame_unitRead (gle rfl hw) _ _ _ _ _ _); have hm3 : Fr stIs w s m3 := gm3; exact (gmk (upd_freeCtr hm3 (gle rfl hw)))))))

theorem frame_testRunning {w : Parts} (hw : Parts.faultReach.union w = w) x0 s :
    Fr stIs w s (testRunning x0 s) := by
  delta testRunning; exact (by extract_lets +onlyGivenNames -merge -useContext -underBinder v0; have hv0 : ∀ q2, Fr stIs w q2 (v0 q2) := (by unfold v0; beta_reduce; exact (by exact fun y1 => (by split; (focus (exact (frame_testFlip (gle rfl hw) _ _ _))); (focus (exact frefl))))); clear_value v0; exact (gstep (hv0 _) (hv0 _)))

theorem frame_overLine {w : Parts} (hw : { Parts.faultReach with freeCtr := true }.union w = w) x0 x1 x2 x3 s :
    Fr (via stIs) w s (overLine x0 x1 x2 x3 s) := by
  delta overLine; exact (by extract_lets +onlyGivenNames -merge -useContext -underBinder v0; clear_value v0; exact (gite (by extract_lets +onlyGivenNames -merge -useContext -underBinder v1; clear_value v1; exact (by split; rename_i r2 r3 e4; have gr3 := gofeq e4 (frame_planeRow (gle rfl hw) _ _ _); have hr3 : Fr stIs w s r3 := gr3; exact (gmk hr3))) (gmk frefl)))

theorem frame_enterBlank {w : Parts} (hw : { Parts.faultReach with disp := true }.union w = w) x0 s :
    Fr stIs w s (enterBlank x0 s) := by
  delta enterBlank; exact (by extract_lets +onlyGivenNames -merge -useContext -underBinder v0 v1 v2; have hv0 : Fr stIs w s v0 := (gfold frefl (by exact fun p3 _ hp3 => (upd_disp hp3 (gle rfl hw)))); clear_value v0; have hv1 : Fr stIs w s v1 := (gfold hv0 (by exact fun p4 _ hp4 => (gstep (frame_latchFlip (gle rfl hw) _ _) (gstep (frame_testRunning (gle rfl hw) _ _) hp4)))); clear_value v1; have hv2 : Fr stIs w s v2 := (gstep (frame_regSetFld (gle rfl hw) _ _ _ _ _) hv1); clear_value v2; exact (upd_disp hv2 (gle rfl hw)))

theorem frame_composeLine {w : Parts} (hw : { Parts.faultReach with freeCtr := true }.union w = w) x0 x1 x2 x3 s :
    Fr (via stIs) w s (composeLine x0 x1 x2 x3 s) := by
  delta composeLine; exact (by extract_lets +onlyGivenNames -merge -useContext -underBinder v0; clear_value v0; exact (by split; rename_i r2 r3 e4; have gr3 := gofeq e4 (gfold (gmk frefl) (by exact fun p1 _ hp1 => (gstep (frame_overLine (gle rfl hw) _ _ _ _ _) (gsnd hp1)))); have hr3 : Fr stIs w s r3 := gr3; exact (by split <;> (exact (gmk hr3)))))

theorem frame_watchPixels {w : Parts} (hw : { Parts.faultReach with freeCtr := true }.union w = w) x0 x1 s :
    Fr (via stIs) w s (watchPixels x0 x1 s) := by
  induction x1 generalizing x0 s with
  | nil => rw [watchPixels.eq_1]; exact (gmk frefl)
  | cons z l ih => rw [watchPixels.eq_2]; exact (by split; rename_i r0 r1 e5; have gr1 := gofeq e5 (frame_composeLine (gle rfl hw) _ _ _ _ _); have hr1 : Fr stIs w s r1 := gr1; exact (by split; rename_i r2 r3 e4; have gr3 := gofeq e4 (gstep (ih _ _) hr1); have hr3 : Fr stIs w s r3 := gr3; exact (gmk hr3)))

theorem frame_watchSig {w : Parts} (hw : { Parts.faultReach with freeCtr := true }.union w = w) x0 s :
    Fr (via stIs) w s (watchSig x0 s) := by
  delta watchSig; exact (by extract_lets +onlyGivenNames -merge -useContext -underBinder v0; clear_value v0; exact (by split; rename_i r1 r2 e4; have gr2 := gofeq e4 (frame_watchPixels (gle rfl hw) _ _ _); have hr2 : Fr stIs w s r2 := gr2; exact (by extract_lets +onlyGivenNames -merge -useContext -underBinder v3; clear_value v3; exact (gmk hr2))))

theorem frame_execHpdEvent {w : Parts} (hw : ({ regs := true } : Parts).union w = w) x0 x1 x2 s :
    Fr nextIs w s (execHpdEvent x0 x1 x2 s) := by
  delta execHpdEvent; exact (gite (gnext (by extract_lets +onlyGivenNames -merge -useContext -underBinder v0; have hv0 : Fr stIs w s v0 := (frame_regSetFld (gle rfl hw) _ _ _ _ _); clear_value v0; exact (gite (gstep (frame_regSetFld (gle rfl hw) _ _ _ _ _) hv0) hv0))) gfault)

theorem frame_auxDone {w : Parts} (hw : ({ regs := true } : Parts).union w = w) x0 x1 x2 s :
    Fr stIs w s (auxDone x0 x1 x2 s) := by
  delta auxDone; exact (by extract_lets +onlyGivenNames -merge -useContext -underBinder v0 v1; have hv0 : Fr stIs w s v0 := (frame_regSetFld (gle rfl hw) _ _ _ _ _); clear_value v0; have hv1 : Fr stIs w s v1 := (gstep (frame_regSetFld (gle rfl hw) _ _ _ _ _) (gstep (frame_regSetFld (gle rfl hw) _ _ _ _ _) hv0)); clear_value v1; exact (gfold hv1 (by exact fun p2 _ hp2 => (gstep (frame_regSetFld (gle rfl hw) _ _ _ _ _) hp2))))

theorem frame_execAuxTransactionDone {w : Parts} (hw : ({ regs := true } : Parts).union w = w) x0 x1 x2 s :
    Fr nextIs w s (execAuxTransactionDone x0 x1 x2 s) := by
  delta execAuxTransactionDone; exact (gite (gnext (gite (frame_auxDone (gle rfl hw) _ _ _ _) frefl)) gfault)

theorem frame_lineUnderrun {w : Parts} (hw : ({ regs := true, disp := true } : Parts).union w = w) x0 x1 x2 s :
    Fr stIs w s (lineUnderrun x0 x1 x2 s) := by
  delta lineUnderrun; exact (by extract_lets +onlyGivenNames -merge -useContext -underBinder v0; clear_value v0; exact (by split; (focus (exact (upd_disp frefl (gle rfl hw)))); (focus (exact (gstep (frame_cntInc (gle rfl hw) _ _) (upd_disp frefl (gle rfl hw)))))))

theorem frame_execDisplayLineUnderrun {w : Parts} (hw : ({ regs := true, disp := true } : Parts).union w = w) x0 x1 x2 s :
    Fr nextIs w s (execDisplayLineUnderrun x0 x1 x2 s) := by
  delta execDisplayLineUnderrun; exact (gite (gnext (gite (frame_lineUnderrun (gle rfl hw) _ _ _ _) frefl)) gfault)

theorem frame_watchMissing {w : Parts} (hw : { Parts.faultReach with disp := true }.union w = w) x0 s :
    Fr stIs w s (watchMissing x0 s) := by
  delta watchMissing; exact (gite (gstep (frame_raise (gle rfl hw) _ _ _ _) (by extract_lets +onlyGivenNames -merge -useContext -underBinder v0; have hv0 : Fr stIs w s v0 := (frame_regSetFld (gle rfl hw) _ _ _ _ _); clear_value v0; exact (upd_disp hv0 (gle rfl hw)))) frefl)

theorem frame_execOutputWatchMissing {w : Parts} (hw : { Parts.faultReach with disp := true }.union w = w) x0 s :
    Fr nextIs w s (execOutputWatchMissing x0 s) := by
  delta execOutputWatchMissing; exact (gite (gnext (frame_watchMissing (gle rfl hw) _ _)) gfault)

theorem frame_judgeSig {w : Parts} (hw : { Parts.faultReach with disp := true }.union w = w) x0 x1 s :
    Fr stIs w s (judgeSig x0 x1 s) := by
  delta judgeSig; exact (by extract_lets +onlyGivenNames -merge -useContext -underBinder a0 a1 v2; clear_value a1; have ha0 : Fr stIs w s a0 := (frame_pairPut (gle rfl hw) _ _ _); clear_value a0; have hv2 : Fr stIs w s v2 := (upd_disp ha0 (gle rfl hw)); clear_value v2; exact (gite (gstep (frame_regSetFld (gle rfl hw) _ _ _ _ _) hv2) (by extract_lets +onlyGivenNames -merge -useContext -underBinder v3 v4; clear_value v3; have hv4 : Fr stIs w s v4 := (gstep (frame_regSetFld (gle rfl hw) _ _ _ _ _) hv2); clear_value v4; exact (gite (gstep (frame_raise (gle rfl hw) _ _ _ _) hv4) hv4))))

theorem frame_takeUpdate {w : Parts} (hw : { Parts.faultReach with part := true }.union w = w) x0 s :
    Fr stIs w s (takeUpdate x0 s) := by
  delta takeUpdate; exact (gite (gite (frame_takeConfig (gle rfl hw) _ _) frefl) (gite (gite (frame_takeConfig (gle rfl hw) _ _) frefl) (gite (gite (frame_takeSwap (gle rfl hw) _ _ _) frefl) (gite (frame_testRunning (gle rfl hw) _ _) frefl))))

theorem frame_execDispAuxGo {w : Parts} (hw : { Parts.faultReach with reply := true }.union w = w) x0 x1 x2 s :
    Fr nextIs w s (execDispAuxGo x0 x1 x2 s) := by
  delta execDispAuxGo; exact (gite (gnext (frame_asInit (gle rfl hw) (by exact fun y0 => (frame_fieldWrite (gle rfl hw) _ _ _)) _ _ _ _)) gfault)

theorem frame_execVerticalBlanking {w : Parts} (hw : { Parts.faultReach with disp := true }.union w = w) x0 s :
    Fr nextIs w s (execVerticalBlanking x0 s) := by
  delta execVerticalBlanking; exact (gite (gnext (gite (frame_enterBlank (gle rfl hw) _ _) frefl)) gfault)

theorem frame_execRegionUpdateTakeEffect {w : Parts} (hw : { Parts.faultReach with part := true }.union w = w) x0 s :
    Fr nextIs w s (execRegionUpdateTakeEffect x0 s) := by
  delta execRegionUpdateTakeEffect; exact (gite (gnext (frame_takeUpdate (gle rfl hw) _ _)) gfault)

theorem frame_execOutputWatchSignature {w : Parts} (hw : { Parts.faultReach with disp := true, freeCtr := true }.union w = w) x0 s :
    Fr nextIs w s (execOutputWatchSignature x0 s) := by
  delta execOutputWatchSignature; exact (gite (gnext (gite (by split; rename_i r0 r1 e2; have gr1 := gofeq e2 (frame_watchSig (gle rfl hw) _ _); have hr1 : Fr stIs w s r1 := gr1; exact (gstep (frame_judgeSig (gle rfl hw) _ _ _) hr1)) frefl)) gfault)

theorem frame_domPut {w : Parts} (hw : ({ tb := true } : Parts).union w = w) s x1 x2 :
    Fr stIs w s (domPut s x1 x2) := by
  delta domPut; exact (gite (upd_tb frefl (gle rfl hw)) (upd_tb frefl (gle rfl hw)))

theorem frame_bridgePut {w : Parts} (hw : ({ tb := true } : Parts).union w = w) x0 s :
    Fr stIs w s (bridgePut x0 s) := by
  delta bridgePut; exact (upd_tb frefl (gle rfl hw))

theorem frame_tbEvent {w : Parts} (hw : ({ regs := true, imsic := true } : Parts).union w = w) x0 s :
    Fr stIs w s (tbEvent x0 s) := by
  delta tbEvent; exact (by extract_lets +onlyGivenNames -merge -useContext -underBinder v0; have hv0 : Fr stIs w s v0 := (frame_regPut (gle rfl hw) _ _ _); clear_value v0; exact (gite (gstep (frame_msi (gle rfl hw) _ _ _) hv0) hv0))

theorem frame_tick {w : Parts} (hw : ({ tb := true, freeCtr := true } : Parts).union w = w) s :
    Fr stIs w s (tick s) := by
  delta tick; exact (by extract_lets +onlyGivenNames -merge -useContext -underBinder v0 v1 a2 v3; clear_value v0 a2; have hv1 : Fr stIs w s v1 := (by unfold v1; exact (by split; (focus (exact (upd_tb_freeCtr frefl (gle rfl hw)))); (focus (exact frefl)))); clear_value v1; have hv3 : Fr stIs w s v3 := (upd_tb hv1 (gle rfl hw)); clear_value v3; exact (upd_tb hv3 (gle rfl hw)))

theorem frame_domStep {w : Parts} (hw : ({ tb := true } : Parts).union w = w) x0 x1 s :
    Fr stIs w s (domStep x0 x1 s) := by
  delta domStep; exact (frame_domPut (gle rfl hw) _ _ _)

theorem frame_leaveFollow {w : Parts} (hw : ({ regs := true, tb := true, imsic := true } : Parts).union w = w) x0 s :
    Fr stIs w s (leaveFollow x0 s) := by
  delta leaveFollow; exact (by split; (focus (exact (by extract_lets +onlyGivenNames -merge -useContext -underBinder a0 v1 v2; clear_value a0; have hv1 : Fr stIs w s v1 := (upd_tb frefl (gle rfl hw)); clear_value v1; have hv2 : Fr stIs w s v2 := (gstep (frame_bridgePut (gle rfl hw) _ _) hv1); clear_value v2; exact (gite hv2 (gstep (frame_tbEvent (gle rfl hw) _ _) hv2))))); (focus (exact frefl)))

theorem frame_workStep {w : Parts} (hw : ({ regs := true, tb := true, imsic := true } : Parts).union w = w) x0 s :
    Fr stIs w s (workStep x0 s) := by
  delta workStep; exact (by extract_lets +onlyGivenNames -merge -useContext -underBinder v0 v1; have hv0 : Fr stIs w s v0 := (frame_regPut (gle rfl hw) _ _ _); clear_value v0; have hv1 : Fr stIs w s v1 := (gfold hv0 (by exact fun p2 _ hp2 => (gstep (frame_regPut (gle rfl hw) _ _ _) hp2))); clear_value v1; exact (gstep (frame_tbEvent (gle rfl hw) _ _) (upd_tb hv1 (gle rfl hw))))

theorem frame_selectDom {w : Parts} (hw : ({ regs := true, tb := true, imsic := true } : Parts).union w = w) x0 s :
    Fr stIs w s (selectDom x0 s) := by
  delta selectDom; exact (by extract_lets +onlyGivenNames -merge -useContext -underBinder v0 a1 v2; clear_value v0 a1; have hv2 : Fr stIs w s v2 := (upd_tb frefl (gle rfl hw)); clear_value v2; exact (gstep (frame_tbEvent (gle rfl hw) _ _) (gite hv2 (gstep (frame_bridgePut (gle rfl hw) _ _) hv2))))

theorem frame_autoSwitch {w : Parts} (hw : ({ regs := true, tb := true, imsic := true } : Parts).union w = w) x0 s :
    Fr stIs w s (autoSwitch x0 s) := by
  delta autoSwitch; exact (gite (frame_selectDom (gle rfl hw) _ _) frefl)

theorem frame_loseDom {w : Parts} (hw : ({ regs := true, tb := true, imsic := true } : Parts).union w = w) x0 s :
    Fr stIs w s (loseDom x0 s) := by
  delta loseDom; exact (gstep (frame_autoSwitch (gle rfl hw) _ _) (gstep (frame_tbEvent (gle rfl hw) _ _) (frame_domPut (gle rfl hw) _ _ _)))

theorem frame_tcapPut {w : Parts} (hw : ({ tb := true } : Parts).union w = w) s x1 x2 :
    Fr stIs w s (tcapPut s x1 x2) := by
  delta tcapPut; exact (upd_tb frefl (gle rfl hw))

theorem frame_execBridgeDecayStep {w : Parts} (hw : ({ tb := true } : Parts).union w = w) s :
    Fr nextIs w s (execBridgeDecayStep s) := by
  delta execBridgeDecayStep; exact (gnext (gite (gite (upd_tb frefl (gle rfl hw)) (upd_tb frefl (gle rfl hw))) frefl))

theorem frame_tpulsePut {w : Parts} (hw : ({ tb := true } : Parts).union w = w) s x1 x2 :
    Fr stIs w s (tpulsePut s x1 x2) := by
  delta tpulsePut; exact (upd_tb frefl (gle rfl hw))

theorem frame_tsPop {w : Parts} (hw : ({ tb := true, reply := true } : Parts).union w = w) x0 x1 s :
    Fr stIs w s (tsPop x0 x1 s) := by
  delta tsPop; exact (by extract_lets +onlyGivenNames -merge -useContext -underBinder v0; clear_value v0; exact (by split; (focus (exact (upd_reply frefl (gle rfl hw)))); (focus (exact (by extract_lets +onlyGivenNames -merge -useContext -underBinder a1 v2; clear_value a1 v2; exact (upd_tb_reply frefl (gle rfl hw)))))))

theorem frame_tcapPop {w : Parts} (hw : ({ tb := true, reply := true } : Parts).union w = w) x0 s :
    Fr stIs w s (tcapPop x0 s) := by
  delta tcapPop; exact (by extract_lets +onlyGivenNames -merge -useContext -underBinder v0; clear_value v0; exact (by split; (focus (exact (upd_reply frefl (gle rfl hw)))); (focus (exact (by extract_lets +onlyGivenNames -merge -useContext -underBinder v1; have hv1 : Fr stIs w s v1 := (frame_tcapPut (gle rfl hw) _ _ _); clear_value v1; exact (upd_reply hv1 (gle rfl hw)))))))

theorem frame_execTcapAged {w : Parts} (hw : ({ tb := true } : Parts).union w = w) x0 s :
    Fr nextIs w s (execTcapAged x0 s) := by
  delta execTcapAged; exact (gite (by extract_lets +onlyGivenNames -merge -useContext -underBinder v0; clear_value v0; exact (gnext (frame_tcapPut (gle rfl hw) _ _ _))) gfault)

theorem frame_execHalf {w : Parts} (hw : ({ regs := true, tb := true, imsic := true } : Parts).union w = w) s :
    Fr nextIs w s (execHalf s) := by
  delta execHalf; exact (gnext (gite (gstep (frame_tbEvent (gle rfl hw) _ _) (upd_tb frefl (gle rfl hw))) (gite (gstep (frame_tbEvent (gle rfl hw) _ _) (upd_tb frefl (gle rfl hw))) frefl)))

theorem frame_execTpulseWidthEnd {w : Parts} (hw : ({ tb := true } : Parts).union w = w) x0 s :
    Fr nextIs w s (execTpulseWidthEnd x0 s) := by
  delta execTpulseWidthEnd; exact (gite (by extract_lets +onlyGivenNames -merge -useContext -underBinder v0; clear_value v0; exact (gnext (gite (frame_tpulsePut (gle rfl hw) _ _ _) frefl))) gfault)

theorem frame_execWrap {w : Parts} (hw : ({ regs := true, tb := true, imsic := true } : Parts).union w = w) s :
    Fr nextIs w s (execWrap s) := by
  delta execWrap; exact (gnext (gite (gstep (frame_tbEvent (gle rfl hw) _ _) (upd_tb frefl (gle rfl hw))) (gite (gstep (frame_tbEvent (gle rfl hw) _ _) (upd_tb frefl (gle rfl hw))) frefl)))

theorem frame_applyForce {w : Parts} (hw : ({ regs := true, tb := true, imsic := true } : Parts).union w = w) x0 x1 s :
    Fr stIs w s (applyForce x0 x1 s) := by
  delta applyForce; exact (gite frefl (gite (gstep (frame_workStep (gle rfl hw) _ _) (frame_bridgePut (gle rfl hw) _ _)) (gite (gstep (frame_workStep (gle rfl hw) _ _) (frame_domStep (gle rfl hw) _ _ _)) (frame_domStep (gle rfl hw) _ _ _))))

theorem frame_domSync {w : Parts} (hw : ({ regs := true, tb := true, imsic := true } : Parts).union w = w) x0 s :
    Fr stIs w s (domSync x0 s) := by
  delta domSync; exact (by extract_lets +onlyGivenNames -merge -useContext -underBinder a0 v1; clear_value a0; have hv1 : Fr stIs w s v1 := (frame_domPut (gle rfl hw) _ _ _); clear_value v1; exact (gite (gstep (frame_selectDom (gle rfl hw) _ _) hv1) hv1))

theorem frame_tpulseArm {w : Parts} (hw : ({ regs := true, tb := true } : Parts).union w = w) x0 s :
    Fr stIs w s (tpulseArm x0 s) := by
  delta tpulseArm; exact (gite frefl (by extract_lets +onlyGivenNames -merge -useContext -underBinder v0 v1 v2 v3 v4; clear_value v0 v1 v2 v3; have hv4 : Fr stIs w s v4 := (frame_regPut (gle rfl hw) _ _ _); clear_value v4; exact (gstep (frame_cntAdd (gle rfl hw) _ _ _) (gstep (frame_tpulsePut (gle rfl hw) _ _ _) hv4))))

theorem frame_tpulseFire {w : Parts} (hw : ({ regs := true, tb := true } : Parts).union w = w) x0 s :
    Fr stIs w s (tpulseFire x0 s) := by
  delta tpulseFire; exact (by extract_lets +onlyGivenNames -merge -useContext -underBinder v0; clear_value v0; exact (gite (by extract_lets +onlyGivenNames -merge -useContext -underBinder v1 v2; clear_value v1 v2; exact (gite (gstep (frame_tpulsePut (gle rfl hw) _ _ _) (frame_regPut (gle rfl hw) _ _ _)) (by extract_lets +onlyGivenNames -merge -useContext -underBinder v3 v4; clear_value v3 v4; exact (gstep (frame_cntAdd (gle rfl hw) _ _ _) (frame_tpulsePut (gle rfl hw) _ _ _))))) frefl))

theorem frame_selWrite {w : Parts} (hw : ({ regs := true, tb := true, imsic := true } : Parts).union w = w) x0 s :
    Fr stIs w s (selWrite x0 s) := by
  delta selWrite; exact (gite frefl (gite (frame_selectDom (gle rfl hw) _ _) (frame_tbEvent (gle rfl hw) _ _)))

theorem frame_tcapTake {w : Parts} (hw : ({ regs := true, tb := true, imsic := true } : Parts).union w = w) x0 x1 s :
    Fr stIs w s (tcapTake x0 x1 s) := by
  delta tcapTake; exact (by extract_lets +onlyGivenNames -merge -useContext -underBinder v0 v1 v2 v3; clear_value v0 v1 v2; have hv3 : Fr stIs w s v3 := (gite (gstep (frame_cntInc (gle rfl hw) _ _) (frame_tcapPut (gle rfl hw) _ _ _)) (frame_tcapPut (gle rfl hw) _ _ _)); clear_value v3; exact (by split; (focus (exact (gite (gstep (frame_msi (gle rfl hw) _ _ _) hv3) hv3))); (focus (exact hv3))))

theorem frame_tcapEdge {w : Parts} (hw : ({ regs := true, tb := true, imsic := true } : Parts).union w = w) x0 x1 s :
    Fr stIs w s (tcapEdge x0 x1 s) := by
  delta tcapEdge; exact (by extract_lets +onlyGivenNames -merge -useContext -underBinder v0; clear_value v0; exact (gite frefl (by extract_lets +onlyGivenNames -merge -useContext -underBinder v1 v2; clear_value v2; have hv1 : Fr stIs w s v1 := (frame_tcapPut (gle rfl hw) _ _ _); clear_value v1; exact (gite (gstep (frame_tcapTake (gle rfl hw) _ _ _) hv1) hv1))))

theorem frame_tsPush {w : Parts} (hw : ({ regs := true, tb := true } : Parts).union w = w) x0 x1 x2 x3 x4 s :
    Fr stIs w s (tsPush x0 x1 x2 x3 x4 s) := by
  delta tsPush; exact (by extract_lets +onlyGivenNames -merge -useContext -underBinder v0; clear_value v0; exact (gite frefl (by extract_lets +onlyGivenNames -merge -useContext -underBinder v1 v2 v3; clear_value v1 v2 v3; exact (gite (frame_cntInc (gle rfl hw) _ _) (gite (upd_tb frefl (gle rfl hw)) (upd_tb frefl (gle rfl hw)))))))

theorem frame_execTpulseFire {w : Parts} (hw : ({ regs := true, tb := true } : Parts).union w = w) x0 s :
    Fr nextIs w s (execTpulseFire x0 s) := by
  delta execTpulseFire; exact (gite (gnext (frame_tpulseFire (gle rfl hw) _ _)) gfault)

theorem frame_domDrop {w : Parts} (hw : ({ regs := true, tb := true, imsic := true } : Parts).union w = w) x0 s :
    Fr stIs w s (domDrop x0 s) := by
  delta domDrop; exact (gite (frame_loseDom (gle rfl hw) _ _) frefl)

theorem frame_execTcapEdge {w : Parts} (hw : ({ regs := true, tb := true, imsic := true } : Parts).union w = w) x0 x1 s :
    Fr nextIs w s (execTcapEdge x0 x1 s) := by
  delta execTcapEdge; exact (gite (gnext (frame_tcapEdge (gle rfl hw) _ _ _)) gfault)

theorem frame_execForceStepApply {w : Parts} (hw : { Parts.faultReach with tb := true }.union w = w) s :
    Fr nextIs w s (execForceStepApply s) := by
  delta execForceStepApply; exact (gnext (gfold (upd_tb frefl (gle rfl hw)) (by exact fun p0 _ hp0 => (gstep (frame_completeDowel (gle rfl hw) (by exact fun y1 y2 y3 y4 => (frame_raise (gle rfl hw) _ _ _ _)) _ _ _ _) (gstep (frame_applyForce (gle rfl hw) _ _ _) hp0)))))

theorem frame_domLoss {w : Parts} (hw : { Parts.faultReach with tb := true }.union w = w) x0 s :
    Fr stIs w s (domLoss x0 s) := by
  delta domLoss; exact (by extract_lets +onlyGivenNames -merge -useContext -underBinder v0; clear_value v0; exact (gite (gstep (frame_loseDom (gle rfl hw) _ _) (frame_raise (gle rfl hw) _ _ _ _)) frefl))

theorem frame_applyStep {w : Parts} (hw : { Parts.faultReach with tb := true }.union w = w) x0 x1 s :
    Fr stIs w s (applyStep x0 x1 s) := by
  delta applyStep; exact (gite frefl (gite (gite (gstep (frame_workStep (gle rfl hw) _ _) (frame_domStep (gle rfl hw) _ _ _)) (frame_domStep (gle rfl hw) _ _ _)) (gite (gite (gstep (frame_bridgePut (gle rfl hw) _ _) (frame_domStep (gle rfl hw) _ _ _)) (frame_domStep (gle rfl hw) _ _ _)) (gstep (frame_raise (gle rfl hw) _ _ _ _) (gstep (frame_cntInc (gle rfl hw) _ _) (frame_tbEvent (gle rfl hw) _ _))))))

theorem frame_execUnsealedStepApply {w : Parts} (hw : { Parts.faultReach with tb := true }.union w = w) x0 s :
    Fr nextIs w s (execUnsealedStepApply x0 s) := by
  delta execUnsealedStepApply; exact (gite (gnext (by split; (focus (exact (gstep (frame_applyStep (gle rfl hw) _ _ _) (frame_domPut (gle rfl hw) _ _ _)))); (focus (exact frefl)))) gfault)

theorem frame_execTbDomainLoss {w : Parts} (hw : { Parts.faultReach with tb := true }.union w = w) x0 s :
    Fr nextIs w s (execTbDomainLoss x0 s) := by
  delta execTbDomainLoss; exact (gite (gnext (frame_domLoss (gle rfl hw) _ _)) gfault)

theorem frame_execTbDomStep {w : Parts} (hw : { Parts.faultReach with tb := true, reply := true }.union w = w) x0 x1 x2 s :
    Fr nextIs w s (execTbDomStep x0 x1 x2 s) := by
  delta execTbDomStep; exact (gite (gnext (frame_asInit (gle rfl hw) (by exact fun y0 => (frame_domPut (gle rfl hw) _ _ _)) _ _ _ _)) gfault)

theorem frame_execTpulseArm {w : Parts} (hw : { Parts.faultReach with tb := true, reply := true }.union w = w) x0 x1 s :
    Fr nextIs w s (execTpulseArm x0 x1 s) := by
  delta execTpulseArm; exact (gite (gnext (frame_asInit (gle rfl hw) (by exact fun y0 => (frame_tpulseArm (gle rfl hw) _ _)) _ _ _ _)) gfault)

theorem frame_execTbCtrlSel {w : Parts} (hw : { Parts.faultReach with tb := true, reply := true }.union w = w) x0 x1 s :
    Fr nextIs w s (execTbCtrlSel x0 x1 s) := by
  delta execTbCtrlSel; exact (gite (gnext (frame_asInit (gle rfl hw) (by exact fun y0 => (gite frefl (frame_selWrite (gle rfl hw) _ _))) _ _ _ _)) gfault)

theorem frame_execTbDomSync {w : Parts} (hw : { Parts.faultReach with tb := true, reply := true }.union w = w) x0 x1 s :
    Fr nextIs w s (execTbDomSync x0 x1 s) := by
  delta execTbDomSync; exact (gite (gnext (frame_asInit (gle rfl hw) (by exact fun y0 => (frame_domSync (gle rfl hw) _ _)) _ _ _ _)) gfault)

theorem frame_execTbTsRecordPop {w : Parts} (hw : { Parts.faultReach with tb := true, reply := true }.union w = w) x0 x1 x2 s :
    Fr nextIs w s (execTbTsRecordPop x0 x1 x2 s) := by
  delta execTbTsRecordPop; exact (gite (gnext (frame_asInit (gle rfl hw) (by exact fun y0 => (frame_tsPop (gle rfl hw) _ _ _)) _ _ _ _)) gfault)

theorem frame_execTcapHeadRead {w : Parts} (hw : { Parts.faultReach with tb := true, reply := true }.union w = w) x0 x1 s :
    Fr nextIs w s (execTcapHeadRead x0 x1 s) := by
  delta execTcapHeadRead; exact (gite (gnext (frame_asInit (gle rfl hw) (by exact fun y0 => (frame_tcapPop (gle rfl hw) _ _)) _ _ _ _)) gfault)

theorem frame_execTbDomDrop {w : Parts} (hw : { Parts.faultReach with tb := true, reply := true }.union w = w) x0 x1 s :
    Fr nextIs w s (execTbDomDrop x0 x1 s) := by
  delta execTbDomDrop; exact (gite (gnext (frame_asInit (gle rfl hw) (by exact fun y0 => (frame_domDrop (gle rfl hw) _ _)) _ _ _ _)) gfault)

end Sys2Proof.Machine
end

