-- ==== Sys2Proof/Laws/FrameHand.lean ====
section
/-!
SUPPORT. The parts of the state that each operation may change: the gateway, the seal unit, and the matrix, memory, jointer and peg instructions.
-/

namespace Sys2Proof.Machine

theorem frame_meterFrame {w : Parts} (hw : ({ gw := true } : Parts).union w = w) x0 x1 s :
    Fr (via stIs) w s (meterFrame x0 x1 s) := by
  delta meterFrame; exact (by extract_lets +onlyGivenNames -merge -useContext -underBinder v0 v1 v2 v3 v4 v5 v6 v7 v8 v9 v10; clear_value v0 v1 v2 v3 v4 v5 v6 v7 v8 v9; have hv10 : ∀ q13 q14, Fr stIs w s (v10 q13 q14) := (by unfold v10; beta_reduce; exact (by exact fun y11 y12 => (upd_gw frefl (gle rfl hw)))); clear_value v10; exact (gite (gmk (hv10 _ _)) (gite (gmk (hv10 _ _)) (gmk (hv10 _ _)))))

theorem frame_police {w : Parts} (hw : ({ gw := true } : Parts).union w = w) x0 x1 s :
    Fr (via stIs) w s (police x0 x1 s) := by
  delta police; exact (by extract_lets +onlyGivenNames -merge -useContext -underBinder v0 v1 v2 v3; clear_value v0 v1 v2 v3; exact (by split; rename_i r4 r5 e8; have gr5 := gofeq e8 (gite (frame_meterFrame (gle rfl hw) _ _ _) (gmk frefl)); have hr5 : Fr stIs w s r5 := gr5; exact (by extract_lets +onlyGivenNames -merge -useContext -underBinder v6 v7; clear_value v6 v7; exact (gmk (upd_gw hr5 (gle rfl hw))))))

theorem frame_queueEth {w : Parts} (hw : ({ regs := true, gw := true } : Parts).union w = w) x0 x1 x2 s :
    Fr stIs w s (queueEth x0 x1 x2 s) := by
  delta queueEth; exact (gite (upd_gw frefl (gle rfl hw)) (frame_cntInc (gle rfl hw) _ _))

theorem frame_queueCan {w : Parts} (hw : ({ regs := true, gw := true } : Parts).union w = w) x0 x1 s :
    Fr stIs w s (queueCan x0 x1 s) := by
  delta queueCan; exact (gite (upd_gw frefl (gle rfl hw)) (frame_cntInc (gle rfl hw) _ _))

theorem frame_forwardTo {w : Parts} (hw : ({ regs := true, gw := true } : Parts).union w = w) x0 x1 x2 x3 s x5 :
    Fr stIs w s (forwardTo x0 x1 x2 x3 s x5) := by
  delta forwardTo; exact (by split; (focus (exact (gite (frame_queueEth (gle rfl hw) _ _ _ _) (gite (by split; (focus (exact (frame_queueCan (gle rfl hw) _ _ _))); (focus (exact (frame_cntInc (gle rfl hw) _ _)))) frefl)))); (focus (exact (gite (frame_queueEth (gle rfl hw) _ _ _ _) (gite (frame_queueCan (gle rfl hw) _ _ _) frefl)))))

theorem frame_ptpStamp {w : Parts} (hw : ({ regs := true, tb := true } : Parts).union w = w) x0 x1 x2 s :
    Fr stIs w s (ptpStamp x0 x1 x2 s) := by
  delta ptpStamp; exact (by extract_lets +onlyGivenNames -merge -useContext -underBinder v0; clear_value v0; exact (gite (frame_tsPush (gle rfl hw) _ _ _ _ _ _) frefl))

theorem frame_copyTo {w : Parts} (hw : { Parts.faultReach with gw := true }.union w = w) x0 x1 x2 x3 x4 s :
    Fr stIs w s (copyTo x0 x1 x2 x3 x4 s) := by
  delta copyTo; exact (by extract_lets +onlyGivenNames -merge -useContext -underBinder v0 v1 v2 v3; clear_value v1 v2 v3; have hv0 : Fr stIs w s v0 := (frame_cntInc (gle rfl hw) _ _); clear_value v0; exact (gite hv0 (by extract_lets +onlyGivenNames -merge -useContext -underBinder v4; clear_value v4; exact (by split; (focus (rename_i m5 em5; have gm5 := gofeq em5 (frame_unitWrite (gle rfl hw) _ _ _ _ _ _); have hm5 : Fr stIs w s m5 := gm5; exact (gstep (frame_cntInc (gle rfl hw) _ _) hm5))); (focus (rename_i m6 em6; have gm6 := gofeq em6 (frame_unitWrite (gle rfl hw) _ _ _ _ _ _); have hm6 : Fr stIs w s m6 := gm6; exact (by extract_lets +onlyGivenNames -merge -useContext -underBinder v7; clear_value v7; exact (upd_gw hm6 (gle rfl hw)))))))))

theorem frame_actOn {w : Parts} (hw : { Parts.faultReach with gw := true }.union w = w) x0 x1 x2 x3 s :
    Fr stIs w s (actOn x0 x1 x2 x3 s) := by
  delta actOn; exact (by extract_lets +onlyGivenNames -merge -useContext -underBinder v0 v1 v2 v3 v4; clear_value v0 v1 v2 v3; have hv4 : Fr stIs w s v4 := (gite (gfold frefl (by exact fun p5 _ hp5 => (gstep (frame_forwardTo (gle rfl hw) _ _ _ _ _ _) hp5))) frefl); clear_value v4; exact (gite (gstep (frame_copyTo (gle rfl hw) _ _ _ _ _ _) hv4) hv4))

theorem frame_gwHandle {w : Parts} (hw : { Parts.faultReach with gw := true }.union w = w) x0 x1 s :
    Fr stIs w s (gwHandle x0 x1 s) := by
  delta gwHandle; exact (by split; (focus (exact (frame_cntInc (gle rfl hw) _ _))); (focus (exact (by extract_lets +onlyGivenNames -merge -useContext -underBinder v0; have hv0 : Fr stIs w s v0 := (gite (frame_cntInc (gle rfl hw) _ _) frefl); clear_value v0; exact (gite (by split; (focus (rename_i m1 em1; have gm1 := gofeq em1 (gstep (frame_police (gle rfl hw) _ _ _) hv0); have hm1 : Fr stIs w s m1 := gm1; exact (gstep (frame_actOn (gle rfl hw) _ _ _ _ _) hm1))); (focus (rename_i m2 em2; have gm2 := gofeq em2 (gstep (frame_police (gle rfl hw) _ _ _) hv0); have hm2 : Fr stIs w s m2 := gm2; exact hm2))) (gstep (frame_actOn (gle rfl hw) _ _ _ _ _) hv0))))))

theorem frame_sealRun {w : Parts} (hw : ({ sealU := true } : Parts).union w = w) {x1 : SealCmd → Sys2Proof.Machine.State → Sys2Proof.Machine.State} (hf1 : ∀ q0 q1, Fr stIs w q1 (x1 q0 q1)) x0 s :
    Fr stIs w s (sealRun x0 x1 s) := by
  delta sealRun; exact (by split; (focus (exact (gite (gstep (hf1 _ _) (upd_sealU frefl (gle rfl hw))) frefl))); (focus (exact frefl)))

theorem frame_sealRemember {w : Parts} (hw : ({ sealU := true } : Parts).union w = w) x0 s :
    Fr stIs w s (sealRemember x0 s) := by
  delta sealRemember; exact (by extract_lets +onlyGivenNames -merge -useContext -underBinder v0; clear_value v0; exact (upd_sealU frefl (gle rfl hw)))

theorem frame_sealBufPut {w : Parts} (hw : ({ sealU := true } : Parts).union w = w) s x1 x2 :
    Fr stIs w s (sealBufPut s x1 x2) := by
  delta sealBufPut; exact (upd_sealU frefl (gle rfl hw))

theorem frame_sealAccept {w : Parts} (hw : ({ regs := true, sealU := true } : Parts).union w = w) x0 x1 s :
    Fr stIs w s (sealAccept x0 x1 s) := by
  delta sealAccept; exact (by extract_lets +onlyGivenNames -merge -useContext -underBinder v0; have hv0 : Fr stIs w s v0 := (frame_cntInc (gle rfl hw) _ _); clear_value v0; exact (upd_sealU hv0 (gle rfl hw)))

theorem frame_sealDeliver {w : Parts} (hw : ({ regs := true, gw := true, sealU := true, freeCtr := true } : Parts).union w = w) x0 x1 s :
    Fr stIs w s (sealDeliver x0 x1 s) := by
  delta sealDeliver; exact (gite (upd_sealU frefl (gle rfl hw)) (gite (gstep (frame_regPut (gle rfl hw) _ _ _) (upd_sealU frefl (gle rfl hw))) (by split; rename_i r0 r1 e2; have gr1 := gofeq e2 (frame_takeFree (gle rfl hw) _); have hr1 : Fr stIs w s r1 := gr1; exact (gstep (frame_queueEth (gle rfl hw) _ _ _ _) hr1))))

theorem frame_sealAnswer {w : Parts} (hw : ({ regs := true, gw := true, sealU := true, freeCtr := true } : Parts).union w = w) x0 x1 x2 x3 s :
    Fr stIs w s (sealAnswer x0 x1 x2 x3 s) := by
  delta sealAnswer; exact (frame_sealDeliver (gle rfl hw) _ _ _)

theorem frame_sealReject {w : Parts} (hw : { Parts.faultReach with gw := true, freeCtr := true }.union w = w) x0 x1 s :
    Fr stIs w s (sealReject x0 x1 s) := by
  delta sealReject; exact (gstep (frame_sealAnswer (gle rfl hw) _ _ _ _ _) (gstep (frame_raise (gle rfl hw) _ _ _ _) (frame_cntInc (gle rfl hw) _ _)))

theorem frame_sealDone {w : Parts} (hw : Parts.faultReach.union w = w) x0 x1 s :
    Fr stIs w s (sealDone x0 x1 s) := by
  delta sealDone; exact (frame_completeDowel (gle rfl hw) (by exact fun y0 y1 y2 y3 => (frame_raise (gle rfl hw) _ _ _ _)) _ _ _ _)

theorem frame_sealArrive {w : Parts} (hw : { Parts.faultReach with gw := true, freeCtr := true }.union w = w) x0 s :
    Fr stIs w s (sealArrive x0 s) := by
  delta sealArrive; exact (by split; (focus (exact (frame_sealBufPut (gle rfl hw) _ _ _))); (focus (exact (frame_sealReject (gle rfl hw) _ _ _))))

theorem frame_sealAuth {w : Parts} (hw : { Parts.faultReach with gw := true, freeCtr := true }.union w = w) x0 s :
    Fr stIs w s (sealAuth x0 s) := by
  delta sealAuth; exact (by extract_lets +onlyGivenNames -merge -useContext -underBinder v0; have hv0 : Fr stIs w s v0 := (frame_regPut (gle rfl hw) _ _ _); clear_value v0; exact (by split; rename_i r1 r2 e4; have gr2 := gofeq e4 (gstep (frame_takeFree (gle rfl hw) _) hv0); have hr2 : Fr stIs w s r2 := gr2; exact (by split; (focus (exact (gstep (frame_sealReject (gle rfl hw) _ _ _) hr2))); (focus (rename_i m3 em3; have hm3 : Fr stIs w s m3 := gofoptsnd em3 (gstep (frame_allocDowel (gle rfl hw) _ _) hr2); exact (gstep (frame_sealAnswer (gle rfl hw) _ _ _ _ _) (gstep (frame_sealRemember (gle rfl hw) _ _) (gstep (frame_sealAccept (gle rfl hw) _ _ _) hm3))))))))

theorem frame_sealProcess {w : Parts} (hw : { Parts.faultReach with gw := true, freeCtr := true }.union w = w) x0 s :
    Fr stIs w s (sealProcess x0 s) := by
  delta sealProcess; exact (by split; (focus (exact (gite (frame_sealAuth (gle rfl hw) _ _) (frame_sealAccept (gle rfl hw) _ _ _)))); (focus (exact (frame_sealReject (gle rfl hw) _ _ _))))

theorem frame_runLoad {w : Parts} (hw : ({ bays := true } : Parts).union w = w) x0 x1 s :
    Fr fstIs w s (runLoad x0 x1 s) := by
  delta runLoad; exact (by extract_lets +onlyGivenNames -merge -useContext -underBinder v0 v1 v2; clear_value v0 v1 v2; exact (by split; (focus (exact (gmkf (frame_bayMod (gle rfl hw) _ _ _)))); (focus (exact (gmkf frefl)))))

theorem frame_putSet {w : Parts} (hw : ({ bays := true } : Parts).union w = w) x0 x1 x2 s :
    Fr stIs w s (putSet x0 x1 x2 s) := by
  delta putSet; exact (frame_bayMod (gle rfl hw) _ _ _)

theorem frame_raiseFlags {w : Parts} (hw : ({ bays := true } : Parts).union w = w) x0 x1 s :
    Fr stIs w s (raiseFlags x0 x1 s) := by
  delta raiseFlags; exact (frame_handMod (gle rfl hw) _ _ _)

theorem frame_putDescRow {w : Parts} (hw : ({ regs := true, bays := true } : Parts).union w = w) x0 x1 x2 x3 s :
    Fr stIs w s (putDescRow x0 x1 x2 x3 s) := by
  delta putDescRow; exact (by split; (focus (exact (frame_storeWrite (gle rfl hw) _ _ _ _))); (focus (exact frefl)))

theorem frame_streamLineRow {w : Parts} (hw : ({ regs := true, bays := true } : Parts).union w = w) x0 x1 x2 x3 s :
    Fr fstIs w s.1 (streamLineRow x0 x1 x2 x3 s) := by
  delta streamLineRow; exact (by extract_lets +onlyGivenNames -merge -useContext -underBinder v0 v1 v2 v3 v4 v5 v6 v7 v8 v9; clear_value v1 v2 v3 v4 v5 v6 v7 v9; have hv0 : Fr stIs w s.1 v0 := (gfst gfself); clear_value v0; have hv8 : Fr stIs w s.1 v8 := (gstep (frame_raiseFlags (gle rfl hw) _ _ _) hv0); clear_value v8; exact (gite (by extract_lets +onlyGivenNames -merge -useContext -underBinder v10 v11 v12; clear_value v10 v11 v12; exact (gmkf (gstep (frame_raiseFlags (gle rfl hw) _ _ _) (gstep (frame_putDescRow (gle rfl hw) _ _ _ _ _) hv8)))) (gmkf (gstep (frame_putDescRow (gle rfl hw) _ _ _ _ _) hv8))))

theorem frame_runDrain {w : Parts} (hw : ({ regs := true, bays := true } : Parts).union w = w) x0 x1 s :
    Fr fstIs w s (runDrain x0 x1 s) := by
  delta runDrain; exact (by extract_lets +onlyGivenNames -merge -useContext -underBinder v0 v1 v2 v3; clear_value v0 v1 v2 v3; exact (gite (by extract_lets +onlyGivenNames -merge -useContext -underBinder v4 v5; clear_value v4 v5; exact (gmkf (gfold frefl (by exact fun p6 _ hp6 => (by extract_lets +onlyGivenNames -merge -useContext -underBinder v7; clear_value v7; exact (gstep (frame_raiseFlags (gle rfl hw) _ _ _) (gstep (frame_putDescRow (gle rfl hw) _ _ _ _ _) hp6))))))) (by extract_lets +onlyGivenNames -merge -useContext -underBinder v8 v9; clear_value v8; have hv9 : Fr stIs w s v9 := (gstep (frame_raiseFlags (gle rfl hw) _ _ _) (frame_putDescRow (gle rfl hw) _ _ _ _ _)); clear_value v9; exact (gmkf (gite (gstep (frame_putSet (gle rfl hw) _ _ _ _) hv9) hv9)))))

theorem frame_runClear {w : Parts} (hw : ({ regs := true, bays := true } : Parts).union w = w) x0 x1 s :
    Fr fstIs w s (runClear x0 x1 s) := by
  delta runClear; exact (by extract_lets +onlyGivenNames -merge -useContext -underBinder v0; clear_value v0; exact (gite (by extract_lets +onlyGivenNames -merge -useContext -underBinder v1; clear_value v1; exact (gmkf (gfold frefl (by exact fun p2 _ hp2 => (gstep (frame_putDescRow (gle rfl hw) _ _ _ _ _) hp2))))) (gmkf (frame_putSet (gle rfl hw) _ _ _ _))))

theorem frame_runXfer {w : Parts} (hw : ({ regs := true, bays := true } : Parts).union w = w) x0 x1 s :
    Fr fstIs w s (runXfer x0 x1 s) := by
  delta runXfer; exact (by extract_lets +onlyGivenNames -merge -useContext -underBinder v0 v1 v2 v3; clear_value v0 v1 v2 v3; exact (by split; (focus (exact (by extract_lets +onlyGivenNames -merge -useContext -underBinder v4; clear_value v4; exact (gmkf (frame_putSet (gle rfl hw) _ _ _ _))))); (focus (exact (gmkf (frame_putSet (gle rfl hw) _ _ _ _)))); (focus (exact (gmkf (gfold frefl (by exact fun p5 _ hp5 => (gstep (frame_putDescRow (gle rfl hw) _ _ _ _ _) hp5))))))))

theorem frame_runStream {w : Parts} (hw : ({ regs := true, bays := true } : Parts).union w = w) x0 x1 s :
    Fr fstIs w s (runStream x0 x1 s) := by
  delta runStream; exact (by extract_lets +onlyGivenNames -merge -useContext -underBinder v0 v1 v2; clear_value v0 v1 v2; exact (gite (gmkf frefl) (gite (by extract_lets +onlyGivenNames -merge -useContext -underBinder v3; have hv3 : Fr fstIs w s v3 := (gfold (gmkf frefl) (by exact fun p4 _ hp4 => (gstep (frame_streamLineRow (gle rfl hw) _ _ _ _ _) (gfst hp4)))); clear_value v3; exact (gmkf (gfst hv3))) (by extract_lets +onlyGivenNames -merge -useContext -underBinder v5 v6 v7; clear_value v5 v6 v7; exact (gmkf (gstep (frame_raiseFlags (gle rfl hw) _ _ _) (frame_putSet (gle rfl hw) _ _ _ _)))))))

theorem frame_execMstat {w : Parts} (hw : Parts.handReach.union w = w) x0 x1 s :
    Fr nextIs w s (execMstat x0 x1 s) := by
  delta execMstat; exact (frame_issue (gle rfl hw) (by exact fun y0 => (by extract_lets +onlyGivenNames -merge -useContext -underBinder v1 v2; clear_value v1 v2; exact (frame_regStep (gle rfl hw) _ _ _))) _ _ _ _)

theorem frame_execMclearComplete {w : Parts} (hw : Parts.handReach.union w = w) x0 x1 s :
    Fr nextIs w s (execMclearComplete x0 x1 s) := by
  delta execMclearComplete; exact (frame_completeEntry (gle rfl hw) (by exact fun y0 y1 y2 => (frame_runClear (gle rfl hw) _ _ _)) _ _ _ _ _ _)

theorem frame_execMxferComplete {w : Parts} (hw : Parts.handReach.union w = w) x0 x1 s :
    Fr nextIs w s (execMxferComplete x0 x1 s) := by
  delta execMxferComplete; exact (frame_completeEntry (gle rfl hw) (by exact fun y0 y1 y2 => (frame_runXfer (gle rfl hw) _ _ _)) _ _ _ _ _ _)

theorem frame_execMxferLoad {w : Parts} (hw : Parts.handReach.union w = w) x0 x1 s :
    Fr nextIs w s (execMxferLoad x0 x1 s) := by
  delta execMxferLoad; exact (frame_issueQueued (gle rfl hw) (by exact fun y0 => (gmk frefl)) _ _ _ _ _ _ _)

theorem frame_execMstreamComplete {w : Parts} (hw : Parts.handReach.union w = w) x0 x1 s :
    Fr nextIs w s (execMstreamComplete x0 x1 s) := by
  delta execMstreamComplete; exact (frame_completeEntry (gle rfl hw) (by exact fun y0 y1 y2 => (frame_runStream (gle rfl hw) _ _ _)) _ _ _ _ _ _)

theorem frame_execMloadwComplete {w : Parts} (hw : Parts.handReach.union w = w) x0 x1 s :
    Fr nextIs w s (execMloadwComplete x0 x1 s) := by
  delta execMloadwComplete; exact (frame_completeEntry (gle rfl hw) (by exact fun y0 y1 y2 => (frame_runLoad (gle rfl hw) _ _ _)) _ _ _ _ _ _)

theorem frame_execMclear {w : Parts} (hw : Parts.handReach.union w = w) x0 x1 s :
    Fr nextIs w s (execMclear x0 x1 s) := by
  delta execMclear; exact (frame_issueQueued (gle rfl hw) (by exact fun y0 => (gmk frefl)) _ _ _ _ _ _ _)

theorem frame_execMloadw {w : Parts} (hw : Parts.handReach.union w = w) x0 x1 s :
    Fr nextIs w s (execMloadw x0 x1 s) := by
  delta execMloadw; exact (frame_issueQueued (gle rfl hw) (by exact fun y0 => (gmk frefl)) _ _ _ _ _ _ _)

theorem frame_execMdrain {w : Parts} (hw : Parts.handReach.union w = w) x0 x1 s :
    Fr nextIs w s (execMdrain x0 x1 s) := by
  delta execMdrain; exact (by extract_lets +onlyGivenNames -merge -useContext -underBinder v0; clear_value v0; exact (frame_issueQueued (gle rfl hw) (by exact fun y1 => (gmk frefl)) _ _ _ _ _ _ _))

theorem frame_execMdrainComplete {w : Parts} (hw : Parts.handReach.union w = w) x0 x1 s :
    Fr nextIs w s (execMdrainComplete x0 x1 s) := by
  delta execMdrainComplete; exact (frame_completeEntry (gle rfl hw) (by exact fun y0 y1 y2 => (frame_runDrain (gle rfl hw) _ _ _)) _ _ _ _ _ _)

theorem frame_execMxferStore {w : Parts} (hw : Parts.handReach.union w = w) x0 x1 s :
    Fr nextIs w s (execMxferStore x0 x1 s) := by
  delta execMxferStore; exact (frame_issueQueued (gle rfl hw) (by exact fun y0 => (gmk frefl)) _ _ _ _ _ _ _)

theorem frame_execMstream {w : Parts} (hw : Parts.handReach.union w = w) x0 x1 s :
    Fr nextIs w s (execMstream x0 x1 s) := by
  delta execMstream; exact (by extract_lets +onlyGivenNames -merge -useContext -underBinder v0; clear_value v0; exact (frame_issueQueued (gle rfl hw) (by exact fun y1 => (gmk frefl)) _ _ _ _ _ _ _))

theorem frame_execMxferAdd {w : Parts} (hw : Parts.handReach.union w = w) x0 x1 s :
    Fr nextIs w s (execMxferAdd x0 x1 s) := by
  delta execMxferAdd; exact (frame_issueQueued (gle rfl hw) (by exact fun y0 => (gmk frefl)) _ _ _ _ _ _ _)

theorem frame_handAccess {w : Parts} (hw : ({ regs := true } : Parts).union w = w) s x1 x2 x3 x4 x5 x6 :
    Fr (via stIs) w s (handAccess s x1 x2 x3 x4 x5 x6) := by
  delta handAccess; exact (by extract_lets +onlyGivenNames -merge -useContext -underBinder v0; clear_value v0; exact (by split; (focus (exact (gmk frefl))); (focus (exact (by split; (focus (rename_i m1 em1; have gm1 := gofeq em1 (frame_accessCheck (gle rfl hw) _ _ _ _ _ _); have hm1 : Fr stIs w s m1 := gm1; exact (by extract_lets +onlyGivenNames -merge -useContext -underBinder v2; clear_value v2; exact (gmk hm1)))); (focus (rename_i m3 em3; have gm3 := gofeq em3 (frame_accessCheck (gle rfl hw) _ _ _ _ _ _); have hm3 : Fr stIs w s m3 := gm3; exact (gmk hm3))); (focus (rename_i m4 em4; have gm4 := gofeq em4 (frame_accessCheck (gle rfl hw) _ _ _ _ _ _); have hm4 : Fr stIs w s m4 := gm4; exact (gmk hm4))); (focus (rename_i m5 em5; have gm5 := gofeq em5 (frame_accessCheck (gle rfl hw) _ _ _ _ _ _); have hm5 : Fr stIs w s m5 := gm5; exact (gmk hm5))))))))

theorem frame_handWrite {w : Parts} (hw : ({ regs := true, mem := true, bays := true, waitWrites := true, part := true, twin := true } : Parts).union w = w) x0 x1 x2 x3 s :
    Fr stIs w s (handWrite x0 x1 x2 x3 s) := by
  delta handWrite; exact (by split; (focus (exact (frame_storeWrite (gle rfl hw) _ _ _ _))); (focus (exact (frame_bayWrite (gle rfl hw) _ _ _ _ _))))

theorem frame_moveRows {w : Parts} (hw : { Parts.faultReach with part := true }.union w = w) x0 x1 x2 s :
    Fr fstIs w s (moveRows x0 x1 x2 s) := by
  induction x2 generalizing x0 x1 s with
  | nil => rw [moveRows.eq_1]; exact (gmkf frefl)
  | cons z l ih => rw [moveRows.eq_2]; exact (by split; (focus (rename_i m0 em0; have gm0 := gofeq em0 (frame_bulkCheck (gle rfl hw) _ _ _ _ _ _ _); have hm0 : Fr stIs w s m0 := gm0; exact (by split; (focus (rename_i m1 em1; have gm1 := gofeq em1 (gstep (frame_bulkCheck (gle rfl hw) _ _ _ _ _ _ _) hm0); have hm1 : Fr stIs w s m1 := gm1; exact (gstep (ih _ _ _) (gstep (frame_handWrite (gle rfl hw) _ _ _ _ _) hm1)))); (focus (rename_i m2 _ em2; have gm2 := gofeq em2 (gstep (frame_bulkCheck (gle rfl hw) _ _ _ _ _ _ _) hm0); have hm2 : Fr stIs w s m2 := gm2; exact (gmkf (gstep (frame_reportVerdict (gle rfl hw) (by exact fun y3 y4 y5 y6 => (frame_raise (gle rfl hw) _ _ _ _)) _ _ _ _ _ _ _) hm2))))))); (focus (rename_i m7 _ em7; have gm7 := gofeq em7 (frame_bulkCheck (gle rfl hw) _ _ _ _ _ _ _); have hm7 : Fr stIs w s m7 := gm7; exact (gmkf (gstep (frame_reportVerdict (gle rfl hw) (by exact fun y8 y9 y10 y11 => (frame_raise (gle rfl hw) _ _ _ _)) _ _ _ _ _ _ _) hm7)))))

theorem frame_dmaSide {w : Parts} (hw : Parts.faultReach.union w = w) x0 x1 x2 x3 x4 s :
    Fr (via stIs) w s (dmaSide x0 x1 x2 x3 x4 s) := by
  delta dmaSide; exact (by extract_lets +onlyGivenNames -merge -useContext -underBinder v0; clear_value v0; exact (by split; rename_i r1 r2 r3 e10; have gr3 := gofeq e10 (frame_bulkCheck (gle rfl hw) _ _ _ _ _ _ _); have hr3 : Fr stIs w s r3 := gr3; exact (by extract_lets +onlyGivenNames -merge -useContext -underBinder v4 v5; clear_value v5; have hv4 : Fr stIs w s v4 := (gstep (frame_reportVerdict (gle rfl hw) (by exact fun y6 y7 y8 y9 => (frame_raise (gle rfl hw) _ _ _ _)) _ _ _ _ _ _ _) hr3); clear_value v4; exact (gmk hv4))))

theorem frame_runDma {w : Parts} (hw : { Parts.faultReach with part := true }.union w = w) x0 x1 s :
    Fr fstIs w s (runDma x0 x1 s) := by
  delta runDma; exact (by split; (focus (rename_i m0 _ em0; have gm0 := gofeq em0 (frame_moveRows (gle rfl hw) _ _ _ _); have hm0 : Fr stIs w s m0 := gm0; exact (gmkf hm0))); (focus (rename_i m1 em1; have gm1 := gofeq em1 (frame_moveRows (gle rfl hw) _ _ _ _); have hm1 : Fr stIs w s m1 := gm1; exact (by extract_lets +onlyGivenNames -merge -useContext -underBinder v2; have hv2 : Fr stIs w s v2 := (gfold hm1 (by exact fun p3 _ hp3 => (by split; (focus (exact (gstep (frame_farUse (gle rfl hw) _ _ _) hp3))); (focus (exact hp3))))); clear_value v2; exact (gmkf (gite (gstep (frame_signalAt (gle rfl hw) _ _ _) hv2) hv2))))))

theorem frame_copyCheck {w : Parts} (hw : Parts.faultReach.union w = w) x0 x1 x2 x3 s :
    Fr (via stIs) w s (copyCheck x0 x1 x2 x3 s) := by
  delta copyCheck; exact (by extract_lets +onlyGivenNames -merge -useContext -underBinder v0; clear_value v0; exact (by split; rename_i r1 r2 e6; have gr2 := gofeq e6 (frame_dmaSide (gle rfl hw) _ _ _ _ _ _); have hr2 : Fr stIs w s r2 := gr2; exact (by split; rename_i r3 r4 e5; have gr4 := gofeq e5 (gstep (frame_dmaSide (gle rfl hw) _ _ _ _ _ _) hr2); have hr4 : Fr stIs w s r4 := gr4; exact (gmk hr4))))

theorem frame_scopyCheck {w : Parts} (hw : Parts.faultReach.union w = w) x0 x1 x2 s :
    Fr (via stIs) w s (scopyCheck x0 x1 x2 s) := by
  delta scopyCheck; exact (by extract_lets +onlyGivenNames -merge -useContext -underBinder v0 v1 v2 v3 v4; clear_value v0 v1 v2 v3 v4; exact (by split; rename_i r5 r6 e11; have gr6 := gofeq e11 (frame_dmaSide (gle rfl hw) _ _ _ _ _ _); have hr6 : Fr stIs w s r6 := gr6; exact (by split; rename_i r7 r8 e10; have gr8 := gofeq e10 (gstep (frame_dmaSide (gle rfl hw) _ _ _ _ _ _) hr6); have hr8 : Fr stIs w s r8 := gr8; exact (by extract_lets +onlyGivenNames -merge -useContext -underBinder v9; clear_value v9; exact (gmk hr8)))))

theorem frame_handMem {w : Parts} (hw : Parts.handReach.union w = w) {x6 : Bool → Sys2Proof.Machine.State → Sys2Proof.Machine.State} (hf6 : ∀ q0 q1, Fr stIs w q1 (x6 q0 q1)) x0 x1 x2 x3 x4 x5 s :
    Fr stIs w s (handMem x0 x1 x2 x3 x4 x5 x6 s) := by
  delta handMem; exact (by split; rename_i r0 r1 e6; have gr1 := gofeq e6 (frame_handAccess (gle rfl hw) _ _ _ _ _ _ _); have hr1 : Fr stIs w s r1 := gr1; exact (by split; (focus (exact (gstep (frame_preciseFault (gle rfl hw) _ _ _) (gstep (frame_reportVerdict (gle rfl hw) (by exact fun y2 y3 y4 y5 => (frame_raise (gle rfl hw) _ _ _ _)) _ _ _ _ _ _ _) hr1)))); (focus (exact (by split; (focus (exact (gite frefl (gstep (hf6 _ _) hr1)))); (focus (exact (gstep (hf6 _ _) hr1))))))))

theorem frame_execPref {w : Parts} (hw : Parts.handReach.union w = w) x0 x1 s :
    Fr nextIs w s (execPref x0 x1 s) := by
  delta execPref; exact (frame_issueQueued (gle rfl hw) (by exact fun y0 => (frame_scopyCheck (gle rfl hw) _ _ _ _)) _ _ _ _ _ _ _)

theorem frame_execLd {w : Parts} (hw : Parts.handReach.union w = w) x0 x1 s :
    Fr nextIs w s (execLd x0 x1 s) := by
  delta execLd; exact (frame_issue (gle rfl hw) (by exact fun y0 => (by extract_lets +onlyGivenNames -merge -useContext -underBinder v1 v2; clear_value v1 v2; exact (frame_handMem (gle rfl hw) (by exact fun y3 y4 => (frame_regStep (gle rfl hw) _ _ _)) _ _ _ _ _ _ _))) _ _ _ _)

theorem frame_execVst {w : Parts} (hw : { Parts.handReach with part := true }.union w = w) x0 x1 s :
    Fr nextIs w s (execVst x0 x1 s) := by
  delta execVst; exact (frame_issue (gle rfl hw) (by exact fun y0 => (by extract_lets +onlyGivenNames -merge -useContext -underBinder v1 v2; clear_value v1 v2; exact (frame_handMem (gle rfl hw) (by exact fun y3 y4 => (by extract_lets +onlyGivenNames -merge -useContext -underBinder v5 v6; clear_value v5 v6; exact (gstep (frame_advance (gle rfl hw) _ _) (gite (gfold frefl (by exact fun p7 _ hp7 => (gite (gstep (frame_handWrite (gle rfl hw) _ _ _ _ _) hp7) hp7))) (frame_handWrite (gle rfl hw) _ _ _ _ _))))) _ _ _ _ _ _ _))) _ _ _ _)

theorem frame_execSt {w : Parts} (hw : { Parts.handReach with part := true }.union w = w) x0 x1 s :
    Fr nextIs w s (execSt x0 x1 s) := by
  delta execSt; exact (frame_issue (gle rfl hw) (by exact fun y0 => (by extract_lets +onlyGivenNames -merge -useContext -underBinder v1 v2; clear_value v1 v2; exact (frame_handMem (gle rfl hw) (by exact fun y3 y4 => (gstep (frame_advance (gle rfl hw) _ _) (frame_handWrite (gle rfl hw) _ _ _ _ _))) _ _ _ _ _ _ _))) _ _ _ _)

theorem frame_execDst {w : Parts} (hw : { Parts.handReach with part := true }.union w = w) x0 x1 s :
    Fr nextIs w s (execDst x0 x1 s) := by
  delta execDst; exact (frame_issue (gle rfl hw) (by exact fun y0 => (by extract_lets +onlyGivenNames -merge -useContext -underBinder v1; clear_value v1; exact (frame_handMem (gle rfl hw) (by exact fun y2 y3 => (gstep (frame_advance (gle rfl hw) _ _) (frame_handWrite (gle rfl hw) _ _ _ _ _))) _ _ _ _ _ _ _))) _ _ _ _)

theorem frame_execScopy {w : Parts} (hw : Parts.handReach.union w = w) x0 x1 s :
    Fr nextIs w s (execScopy x0 x1 s) := by
  delta execScopy; exact (frame_issueQueued (gle rfl hw) (by exact fun y0 => (frame_scopyCheck (gle rfl hw) _ _ _ _)) _ _ _ _ _ _ _)

theorem frame_execDmaTransferComplete {w : Parts} (hw : { Parts.handReach with part := true }.union w = w) x0 x1 s :
    Fr nextIs w s (execDmaTransferComplete x0 x1 s) := by
  delta execDmaTransferComplete; exact (gite (gite (gnext frefl) gfault) (by split; (focus (rename_i m0 em0; have gm0 := gofeq em0 (frame_farFetch (gle rfl hw) _ _); have hm0 : Fr stIs w s m0 := gm0; exact (gnext hm0))); (focus (rename_i m1 em1; have gm1 := gofeq em1 (frame_farFetch (gle rfl hw) _ _); have hm1 : Fr stIs w s m1 := gm1; exact (frame_completeEntry (gle rfl hw) (by exact fun y2 y3 y4 => (frame_runDma (gle rfl hw) _ _ _)) _ _ _ _ _ _)))))

theorem frame_execDld {w : Parts} (hw : Parts.handReach.union w = w) x0 x1 s :
    Fr nextIs w s (execDld x0 x1 s) := by
  delta execDld; exact (frame_issue (gle rfl hw) (by exact fun y0 => (by extract_lets +onlyGivenNames -merge -useContext -underBinder v1; clear_value v1; exact (frame_handMem (gle rfl hw) (by exact fun y2 y3 => (frame_regStep (gle rfl hw) _ _ _)) _ _ _ _ _ _ _))) _ _ _ _)

theorem frame_execVld {w : Parts} (hw : Parts.handReach.union w = w) x0 x1 s :
    Fr nextIs w s (execVld x0 x1 s) := by
  delta execVld; exact (frame_issue (gle rfl hw) (by exact fun y0 => (by extract_lets +onlyGivenNames -merge -useContext -underBinder v1 v2; clear_value v1 v2; exact (frame_handMem (gle rfl hw) (by exact fun y3 y4 => (by extract_lets +onlyGivenNames -merge -useContext -underBinder v5; clear_value v5; exact (frame_regStep (gle rfl hw) _ _ _))) _ _ _ _ _ _ _))) _ _ _ _)

theorem frame_execCopy {w : Parts} (hw : Parts.handReach.union w = w) x0 x1 s :
    Fr nextIs w s (execCopy x0 x1 s) := by
  delta execCopy; exact (by extract_lets +onlyGivenNames -merge -useContext -underBinder v0; clear_value v0; exact (frame_issueQueued (gle rfl hw) (by exact fun y1 => (frame_copyCheck (gle rfl hw) _ _ _ _ _)) _ _ _ _ _ _ _))

theorem frame_execLds {w : Parts} (hw : Parts.handReach.union w = w) x0 x1 s :
    Fr nextIs w s (execLds x0 x1 s) := by
  delta execLds; exact (frame_issue (gle rfl hw) (by exact fun y0 => (by extract_lets +onlyGivenNames -merge -useContext -underBinder v1 v2; clear_value v1 v2; exact (frame_handMem (gle rfl hw) (by exact fun y3 y4 => (frame_regStep (gle rfl hw) _ _ _)) _ _ _ _ _ _ _))) _ _ _ _)

theorem frame_jointerFault {w : Parts} (hw : ({ regs := true } : Parts).union w = w) x0 x1 s :
    Fr stIs w s (jointerFault x0 x1 s) := by
  delta jointerFault; exact (by extract_lets +onlyGivenNames -merge -useContext -underBinder v0 v1; clear_value v0 v1; exact (gite frefl (frame_regPut (gle rfl hw) _ _ _)))

theorem frame_jointerAccess {w : Parts} (hw : ({ regs := true } : Parts).union w = w) x0 x1 x2 x3 x4 s :
    Fr (via (via (via stIs))) w s (jointerAccess x0 x1 x2 x3 x4 s) := by
  delta jointerAccess; exact (by extract_lets +onlyGivenNames -merge -useContext -underBinder v0; clear_value v0; exact (gite (gmk (gmk (gmk frefl))) (by split; (focus (exact (gmk (gmk (gmk frefl))))); (focus (exact (gmk (gmk (gmk frefl))))); (focus (exact (gmk (gmk (gmk frefl))))); (focus (exact (gmk (gmk (gmk frefl))))); (focus (exact (gmk (gmk (gmk frefl))))); (focus (exact (gmk (gmk (gmk frefl))))); (focus (exact (by split; (focus (rename_i m1 em1; have gm1 := gofeq em1 (frame_accessCheck (gle rfl hw) _ _ _ _ _ _); have hm1 : Fr stIs w s m1 := gm1; exact (gmk (gmk (gmk hm1))))); (focus (rename_i m2 _ em2; have gm2 := gofeq em2 (frame_accessCheck (gle rfl hw) _ _ _ _ _ _); have hm2 : Fr stIs w s m2 := gm2; exact (gmk (gmk (gmk hm2)))))))); (focus (exact (by split; (focus (rename_i m3 em3; have gm3 := gofeq em3 (frame_accessCheck (gle rfl hw) _ _ _ _ _ _); have hm3 : Fr stIs w s m3 := gm3; exact (gmk (gmk (gmk hm3))))); (focus (rename_i m4 _ em4; have gm4 := gofeq em4 (frame_accessCheck (gle rfl hw) _ _ _ _ _ _); have hm4 : Fr stIs w s m4 := gm4; exact (gmk (gmk (gmk hm4)))))))))))

theorem frame_jointerCheck {w : Parts} (hw : Parts.faultReach.union w = w) x0 x1 x2 x3 x4 s :
    Fr (via (via stIs)) w s (jointerCheck x0 x1 x2 x3 x4 s) := by
  induction x3 generalizing x0 x1 x2 x4 s with
  | nil => rw [jointerCheck.eq_1]; exact (gmk (gmk frefl))
  | cons z l ih => rw [jointerCheck.eq_2]; exact (by split; (focus (rename_i m0 em0; have gm0 := gofeq em0 (frame_jointerAccess (gle rfl hw) _ _ _ _ _ _); have hm0 : Fr stIs w s m0 := gm0; exact (gstep (ih _ _ _ _ _) hm0))); (focus (rename_i m1 _ em1; have gm1 := gofeq em1 (frame_jointerAccess (gle rfl hw) _ _ _ _ _ _); have hm1 : Fr stIs w s m1 := gm1; exact (gmk (gmk (gstep (frame_reportVerdict (gle rfl hw) (by exact fun y2 y3 y4 y5 => (frame_raise (gle rfl hw) _ _ _ _)) _ _ _ _ _ _ _) hm1))))))

theorem frame_jointerCodes {w : Parts} (hw : Parts.faultReach.union w = w) x0 x1 x2 x3 s :
    Fr (via stIs) w s (jointerCodes x0 x1 x2 x3 s) := by
  delta jointerCodes; exact (by extract_lets +onlyGivenNames -merge -useContext -underBinder v0 v1 v2 v3 v4; clear_value v0 v1 v2 v3 v4; exact (by split; rename_i r5 r6 r7 e13; have gr7 := gofeq e13 (frame_jointerCheck (gle rfl hw) _ _ _ _ _ _); have hr7 : Fr stIs w s r7 := gr7; exact (by split; rename_i r8 r9 r10 e12; have gr10 := gofeq e12 (gite (gmk (gmk hr7)) (gstep (frame_jointerCheck (gle rfl hw) _ _ _ _ _ _) hr7)); have hr10 : Fr stIs w s r10 := gr10; exact (by extract_lets +onlyGivenNames -merge -useContext -underBinder v11; clear_value v11; exact (gmk hr10)))))

theorem frame_jointerWrites {w : Parts} (hw : { Parts.faultReach with part := true }.union w = w) x0 x1 x2 s :
    Fr fstIs w s (jointerWrites x0 x1 x2 s) := by
  induction x2 generalizing x0 x1 s with
  | nil => rw [jointerWrites.eq_1]; exact (gmkf frefl)
  | cons z l ih => rw [jointerWrites.eq_2]; exact (by split; (focus (rename_i m0 em0; have gm0 := gofeq em0 (frame_jointerCheck (gle rfl hw) _ _ _ _ _ _); have hm0 : Fr stIs w s m0 := gm0; exact (gstep (ih _ _ _) (gstep (frame_handWrite (gle rfl hw) _ _ _ _ _) hm0)))); (focus (rename_i m1 _ em1; have gm1 := gofeq em1 (frame_jointerCheck (gle rfl hw) _ _ _ _ _ _); have hm1 : Fr stIs w s m1 := gm1; exact (gmkf hm1))))

theorem frame_runJointer {w : Parts} (hw : { Parts.faultReach with part := true, freeCtr := true }.union w = w) x0 x1 s :
    Fr fstIs w s (runJointer x0 x1 s) := by
  delta runJointer; exact (by extract_lets +onlyGivenNames -merge -useContext -underBinder v0 v1 v2 v3; clear_value v0 v1 v2 v3; exact (by split; (focus (rename_i m4 em4; have gm4 := gofeq em4 (frame_jointerCheck (gle rfl hw) _ _ _ _ _ _); have hm4 : Fr stIs w s m4 := gm4; exact (by extract_lets +onlyGivenNames -merge -useContext -underBinder v5 v6 v7; clear_value v5 v6; have hv7 : Fr stIs w s v7 := (gstep (frame_cntAdd (gle rfl hw) _ _ _) (upd_freeCtr hm4 (gle rfl hw))); clear_value v7; exact (by split; (focus (rename_i m8 _ em8; have gm8 := gofeq em8 (gstep (frame_jointerWrites (gle rfl hw) _ _ _ _) hv7); have hm8 : Fr stIs w s m8 := gm8; exact (gmkf (gstep (frame_jointerFault (gle rfl hw) _ _ _) hm8)))); (focus (rename_i m9 em9; have gm9 := gofeq em9 (gstep (frame_jointerWrites (gle rfl hw) _ _ _ _) hv7); have hm9 : Fr stIs w s m9 := gm9; exact (by split; (focus (exact (gmkf (gstep (frame_jointerFault (gle rfl hw) _ _ _) hm9)))); (focus (exact (by extract_lets +onlyGivenNames -merge -useContext -underBinder v10 v11; have hv10 : Fr stIs w s v10 := (gstep (frame_cntInc (gle rfl hw) _ _) hm9); clear_value v10; have hv11 : Fr stIs w s v11 := (by unfold v11; exact (by split; (focus (exact (gstep (frame_countChoice (gle rfl hw) _ _ _ _) hv10))); (focus (exact (gstep (frame_countChoice (gle rfl hw) _ _ _ _) hv10))); (focus (exact hv10)))); clear_value v11; exact (gmkf (gite (gstep (frame_pegSignal (gle rfl hw) _ _ _) hv11) hv11)))))))))))); (focus (rename_i m12 _ em12; have gm12 := gofeq em12 (frame_jointerCheck (gle rfl hw) _ _ _ _ _ _); have hm12 : Fr stIs w s m12 := gm12; exact (by extract_lets +onlyGivenNames -merge -useContext -underBinder v13; clear_value v13; exact (gmkf (gstep (frame_jointerFault (gle rfl hw) _ _ _) hm12)))))))

theorem frame_execJwait {w : Parts} (hw : Parts.handReach.union w = w) x0 x1 s :
    Fr nextIs w s (execJwait x0 x1 s) := by
  delta execJwait; exact (frame_issue (gle rfl hw) (by exact fun y0 => (gite (frame_advance (gle rfl hw) _ _) frefl)) _ _ _ _)

theorem frame_execJstat {w : Parts} (hw : Parts.handReach.union w = w) x0 x1 s :
    Fr nextIs w s (execJstat x0 x1 s) := by
  delta execJstat; exact (frame_issue (gle rfl hw) (by exact fun y0 => (frame_regStep (gle rfl hw) _ _ _)) _ _ _ _)

theorem frame_execJointerCommandComplete {w : Parts} (hw : { Parts.handReach with part := true, freeCtr := true }.union w = w) x0 x1 s :
    Fr nextIs w s (execJointerCommandComplete x0 x1 s) := by
  delta execJointerCommandComplete; exact (gite (gite (gnext frefl) gfault) (frame_completeEntry (gle rfl hw) (by exact fun y0 y1 y2 => (frame_runJointer (gle rfl hw) _ _ _)) _ _ _ _ _ _))

theorem frame_issueJointer {w : Parts} (hw : Parts.handReach.union w = w) x0 x1 x2 s :
    Fr nextIs w s (issueJointer x0 x1 x2 s) := by
  delta issueJointer; exact (by extract_lets +onlyGivenNames -merge -useContext -underBinder v0; clear_value v0; exact (frame_issueQueued (gle rfl hw) (by exact fun y1 => (frame_jointerCodes (gle rfl hw) _ _ _ _ _)) _ _ _ _ _ _ _))

theorem frame_execJisect {w : Parts} (hw : Parts.handReach.union w = w) x0 x1 s :
    Fr nextIs w s (execJisect x0 x1 s) := by
  delta execJisect; exact (frame_issueJointer (gle rfl hw) _ _ _ _)

theorem frame_execJhparto {w : Parts} (hw : Parts.handReach.union w = w) x0 x1 s :
    Fr nextIs w s (execJhparto x0 x1 s) := by
  delta execJhparto; exact (frame_issueJointer (gle rfl hw) _ _ _ _)

theorem frame_execJscatu {w : Parts} (hw : Parts.handReach.union w = w) x0 x1 s :
    Fr nextIs w s (execJscatu x0 x1 s) := by
  delta execJscatu; exact (frame_issueJointer (gle rfl hw) _ _ _ _)

theorem frame_execJgather {w : Parts} (hw : Parts.handReach.union w = w) x0 x1 s :
    Fr nextIs w s (execJgather x0 x1 s) := by
  delta execJgather; exact (frame_issueJointer (gle rfl hw) _ _ _ _)

theorem frame_execJcompact {w : Parts} (hw : Parts.handReach.union w = w) x0 x1 s :
    Fr nextIs w s (execJcompact x0 x1 s) := by
  delta execJcompact; exact (frame_issueJointer (gle rfl hw) _ _ _ _)

theorem frame_execJsegpack {w : Parts} (hw : Parts.handReach.union w = w) x0 x1 s :
    Fr nextIs w s (execJsegpack x0 x1 s) := by
  delta execJsegpack; exact (frame_issueJointer (gle rfl hw) _ _ _ _)

theorem frame_execJsort {w : Parts} (hw : Parts.handReach.union w = w) x0 x1 s :
    Fr nextIs w s (execJsort x0 x1 s) := by
  delta execJsort; exact (frame_issueJointer (gle rfl hw) _ _ _ _)

theorem frame_execJtopk {w : Parts} (hw : Parts.handReach.union w = w) x0 x1 s :
    Fr nextIs w s (execJtopk x0 x1 s) := by
  delta execJtopk; exact (frame_issueJointer (gle rfl hw) _ _ _ _)

theorem frame_execJscato {w : Parts} (hw : Parts.handReach.union w = w) x0 x1 s :
    Fr nextIs w s (execJscato x0 x1 s) := by
  delta execJscato; exact (frame_issueJointer (gle rfl hw) _ _ _ _)

theorem frame_execJhpartu {w : Parts} (hw : Parts.handReach.union w = w) x0 x1 s :
    Fr nextIs w s (execJhpartu x0 x1 s) := by
  delta execJhpartu; exact (frame_issueJointer (gle rfl hw) _ _ _ _)

theorem frame_gatePass {w : Parts} (hw : ({ cmd := true } : Parts).union w = w) x0 x1 s :
    Fr stIs w s (gatePass x0 x1 s) := by
  delta gatePass; exact (upd_cmd frefl (gle rfl hw))

theorem frame_cachePanel {w : Parts} (hw : ({ bays := true } : Parts).union w = w) x0 x1 x2 s :
    Fr stIs w s (cachePanel x0 x1 x2 s) := by
  delta cachePanel; exact (frame_bayMod (gle rfl hw) _ _ _)

theorem frame_execTwaitReached {w : Parts} (hw : ({ bays := true } : Parts).union w = w) x0 s :
    Fr nextIs w s (execTwaitReached x0 s) := by
  delta execTwaitReached; exact (gite (gnext (by split; (focus (exact (gite (frame_handMod (gle rfl hw) _ _ _) frefl))); (focus (exact frefl)); (focus (exact frefl)); (focus (exact frefl)); (focus (exact frefl)); (focus (exact frefl)))) gfault)

theorem frame_plumbPass {w : Parts} (hw : ({ regs := true, mem := true, bays := true, waitWrites := true, cmd := true, part := true, repair := true, twin := true } : Parts).union w = w) x0 s :
    Fr stIs w s (plumbPass x0 s) := by
  delta plumbPass; exact (by extract_lets +onlyGivenNames -merge -useContext -underBinder v0 v1; clear_value v0; have hv1 : Fr stIs w s v1 := (gstep (frame_landWrites (gle rfl hw) _) (frame_bayMod (gle rfl hw) _ _ _)); clear_value v1; exact (by split; (focus (exact (by extract_lets +onlyGivenNames -merge -useContext -underBinder v2; have hv2 : Fr stIs w s v2 := (gite (gstep (frame_gatePass (gle rfl hw) _ _ _) hv1) hv1); clear_value v2; exact (upd_part hv2 (gle rfl hw))))); (focus (exact (upd_repair hv1 (gle rfl hw))))))

theorem frame_countIcheck {w : Parts} (hw : ({ regs := true } : Parts).union w = w) s x1 :
    Fr stIs w s (countIcheck s x1) := by
  delta countIcheck; exact (by split; (focus (exact (frame_cntInc (gle rfl hw) _ _))); (focus (exact frefl)))

theorem frame_fetchPlace {w : Parts} (hw : ({ regs := true } : Parts).union w = w) s x1 x2 :
    Fr (via (via stIs)) w s (fetchPlace s x1 x2) := by
  delta fetchPlace; exact (gite (gmk (gmk frefl)) (by split; (focus (exact (by split; (focus (rename_i m0 em0; have gm0 := gofeq em0 (frame_accessCheck (gle rfl hw) _ _ _ _ _ _); have hm0 : Fr stIs w s m0 := gm0; exact (gmk (gmk hm0)))); (focus (rename_i m1 _ em1; have gm1 := gofeq em1 (frame_accessCheck (gle rfl hw) _ _ _ _ _ _); have hm1 : Fr stIs w s m1 := gm1; exact (gmk (gmk hm1))))))); (focus (exact (by split; (focus (rename_i m2 em2; have gm2 := gofeq em2 (frame_accessCheck (gle rfl hw) _ _ _ _ _ _); have hm2 : Fr stIs w s m2 := gm2; exact (gmk (gmk hm2)))); (focus (rename_i m3 _ em3; have gm3 := gofeq em3 (frame_accessCheck (gle rfl hw) _ _ _ _ _ _); have hm3 : Fr stIs w s m3 := gm3; exact (gmk (gmk hm3))))))); (focus (exact (gmk (gmk frefl)))); (focus (exact (gmk (gmk frefl)))); (focus (exact (gmk (gmk frefl)))); (focus (exact (gmk (gmk frefl)))); (focus (exact (gmk (gmk frefl)))); (focus (exact (gmk (gmk frefl))))))

theorem frame_fetchAhead {w : Parts} (hw : ({ regs := true, bays := true } : Parts).union w = w) x0 s :
    Fr stIs w s (fetchAhead x0 s) := by
  delta fetchAhead; exact (by extract_lets +onlyGivenNames -merge -useContext -underBinder v0 v1 v2; clear_value v0 v1 v2; exact (gite frefl (by split; (focus (rename_i m3 em3; have gm3 := gofeq em3 (frame_fetchPlace (gle rfl hw) _ _ _); have hm3 : Fr stIs w s m3 := gm3; exact (by extract_lets +onlyGivenNames -merge -useContext -underBinder v4 v5; clear_value v4 v5; exact (gite (gstep (frame_cachePanel (gle rfl hw) _ _ _ _) hm3) (gstep (frame_bayMod (gle rfl hw) _ _ _) (gstep (frame_countIcheck (gle rfl hw) _ _) hm3)))))); (focus (rename_i m6 _ em6; have gm6 := gofeq em6 (frame_fetchPlace (gle rfl hw) _ _ _); have hm6 : Fr stIs w s m6 := gm6; exact (gite hm6 (gstep (frame_cntInc (gle rfl hw) _ _) hm6)))))))

theorem frame_execTread {w : Parts} (hw : Parts.handReach.union w = w) x0 x1 s :
    Fr nextIs w s (execTread x0 x1 s) := by
  delta execTread; exact (frame_issue (gle rfl hw) (by exact fun y0 => (frame_regStep (gle rfl hw) _ _ _)) _ _ _ _)

theorem frame_execPlbfold {w : Parts} (hw : Parts.handReach.union w = w) x0 x1 s :
    Fr nextIs w s (execPlbfold x0 x1 s) := by
  delta execPlbfold; exact (frame_issue (gle rfl hw) (by exact fun y0 => (frame_handMod (gle rfl hw) _ _ _)) _ _ _ _)

theorem frame_execMtsr {w : Parts} (hw : Parts.handReach.union w = w) x0 x1 s :
    Fr nextIs w s (execMtsr x0 x1 s) := by
  delta execMtsr; exact (frame_issue (gle rfl hw) (by exact fun y0 => (gite frefl (frame_regStep (gle rfl hw) _ _ _))) _ _ _ _)

theorem frame_execPlbgold {w : Parts} (hw : Parts.handReach.union w = w) x0 x1 s :
    Fr nextIs w s (execPlbgold x0 x1 s) := by
  delta execPlbgold; exact (frame_issue (gle rfl hw) (by exact fun y0 => (frame_regStep (gle rfl hw) _ _ _)) _ _ _ _)

theorem frame_execPlbdone {w : Parts} (hw : { Parts.handReach with part := true }.union w = w) x0 x1 s :
    Fr nextIs w s (execPlbdone x0 x1 s) := by
  delta execPlbdone; exact (frame_issue (gle rfl hw) (by exact fun y0 => (by extract_lets +onlyGivenNames -merge -useContext -underBinder v1 v2; clear_value v1; have hv2 : Fr stIs w y0 v2 := (by unfold v2; exact (by split; (focus (exact (frame_pairPut (gle rfl hw) _ _ _))); (focus (exact frefl)))); clear_value v2; exact (gite (gstep (frame_plumbPass (gle rfl hw) _ _) hv2) (gstep (frame_plumbMismatch (gle rfl hw) (by exact fun y3 y4 y5 y6 => (frame_raise (gle rfl hw) _ _ _ _)) _ _) hv2)))) _ _ _ _)

theorem frame_execMfsr {w : Parts} (hw : Parts.handReach.union w = w) x0 x1 s :
    Fr nextIs w s (execMfsr x0 x1 s) := by
  delta execMfsr; exact (frame_issue (gle rfl hw) (by exact fun y0 => (gite frefl (frame_regStep (gle rfl hw) _ _ _))) _ _ _ _)

theorem frame_fetchHere {w : Parts} (hw : Parts.handReach.union w = w) x0 s :
    Fr stIs w s (fetchHere x0 s) := by
  delta fetchHere; exact (by extract_lets +onlyGivenNames -merge -useContext -underBinder v0 v1; clear_value v0 v1; exact (by split; (focus (exact (frame_takeFault (gle rfl hw) (by exact fun y2 y3 y4 y5 => (frame_raise (gle rfl hw) _ _ _ _)) _ _ _ _ _))); (focus (exact (by split; (focus (rename_i m6 em6; have gm6 := gofeq em6 (frame_fetchPlace (gle rfl hw) _ _ _); have hm6 : Fr stIs w s m6 := gm6; exact (by extract_lets +onlyGivenNames -merge -useContext -underBinder v7 v8 v9; clear_value v8 v9; have hv7 : Fr stIs w s v7 := (by unfold v7; exact (by split; (focus (exact (gstep (frame_cntInc (gle rfl hw) _ _) hm6))); (focus (exact hm6)))); clear_value v7; exact (gite (gstep (frame_cachePanel (gle rfl hw) _ _ _ _) hv7) (gstep (frame_takeFault (gle rfl hw) (by exact fun y10 y11 y12 y13 => (frame_raise (gle rfl hw) _ _ _ _)) _ _ _ _ _) (gstep (frame_countIcheck (gle rfl hw) _ _) hv7)))))); (focus (rename_i m14 _ em14; have gm14 := gofeq em14 (frame_fetchPlace (gle rfl hw) _ _ _); have hm14 : Fr stIs w s m14 := gm14; exact (gstep (frame_takeFault (gle rfl hw) (by exact fun y15 y16 y17 y18 => (frame_raise (gle rfl hw) _ _ _ _)) _ _ _ _ _) (gstep (frame_reportVerdict (gle rfl hw) (by exact fun y19 y20 y21 y22 => (frame_raise (gle rfl hw) _ _ _ _)) _ _ _ _ _ _ _) hm14)))))))))

theorem frame_execTwait {w : Parts} (hw : Parts.handReach.union w = w) x0 x1 s :
    Fr nextIs w s (execTwait x0 x1 s) := by
  delta execTwait; exact (frame_issue (gle rfl hw) (by exact fun y0 => (by extract_lets +onlyGivenNames -merge -useContext -underBinder v1; clear_value v1; exact (gite (frame_advance (gle rfl hw) _ _) (frame_handMod (gle rfl hw) _ _ _)))) _ _ _ _)

theorem frame_onPegs {w : Parts} (hw : Parts.handReach.union w = w) {x3 : ℕ → Sys2Proof.Machine.State → Sys2Proof.Machine.State} (hf3 : ∀ q0 q1, Fr stIs w q1 (x3 q0 q1)) x0 x1 x2 s :
    Fr stIs w s (onPegs x0 x1 x2 x3 s) := by
  delta onPegs; exact (by extract_lets +onlyGivenNames -merge -useContext -underBinder v0 v1; clear_value v0 v1; exact (gite (hf3 _ _) (frame_preciseFault (gle rfl hw) _ _ _)))

theorem frame_pegRead {w : Parts} (hw : Parts.handReach.union w = w) x0 x1 x2 s :
    Fr stIs w s (pegRead x0 x1 x2 s) := by
  delta pegRead; exact (frame_onPegs (gle rfl hw) (by exact fun y0 y1 => (frame_regStep (gle rfl hw) _ _ _)) _ _ _ _)

theorem frame_execPcount {w : Parts} (hw : Parts.handReach.union w = w) x0 x1 s :
    Fr nextIs w s (execPcount x0 x1 s) := by
  delta execPcount; exact (frame_issue (gle rfl hw) (by exact fun y0 => (frame_pegRead (gle rfl hw) _ _ _ _)) _ _ _ _)

theorem frame_execPwait {w : Parts} (hw : Parts.handReach.union w = w) x0 x1 s :
    Fr nextIs w s (execPwait x0 x1 s) := by
  delta execPwait; exact (frame_issue (gle rfl hw) (by exact fun y0 => (frame_onPegs (gle rfl hw) (by exact fun y1 y2 => (frame_startWait (gle rfl hw) _ _ _)) _ _ _ _)) _ _ _ _)

theorem frame_execPanelFetch {w : Parts} (hw : Parts.handReach.union w = w) x0 x1 s :
    Fr nextIs w s (execPanelFetch x0 x1 s) := by
  delta execPanelFetch; exact (gite (gnext (by extract_lets +onlyGivenNames -merge -useContext -underBinder v0 v1; clear_value v0 v1; exact (gite (gite (frame_fetchAhead (gle rfl hw) _ _) (gite (frame_fetchHere (gle rfl hw) _ _) frefl)) frefl))) gfault)

theorem frame_execPstamp {w : Parts} (hw : Parts.handReach.union w = w) x0 x1 s :
    Fr nextIs w s (execPstamp x0 x1 s) := by
  delta execPstamp; exact (frame_issue (gle rfl hw) (by exact fun y0 => (frame_pegRead (gle rfl hw) _ _ _ _)) _ _ _ _)

theorem frame_signalPeg {w : Parts} (hw : Parts.handReach.union w = w) x0 x1 x2 s :
    Fr stIs w s (signalPeg x0 x1 x2 s) := by
  delta signalPeg; exact (frame_onPegs (gle rfl hw) (by exact fun y0 y1 => (gite frefl (by extract_lets +onlyGivenNames -merge -useContext -underBinder v2; have hv2 : Fr stIs w y1 v2 := (frame_handSignal (gle rfl hw) _ _ _ _); clear_value v2; exact (gstep (frame_regStep (gle rfl hw) _ _ _) hv2)))) _ _ _ _)

theorem frame_execPtarget {w : Parts} (hw : Parts.handReach.union w = w) x0 x1 s :
    Fr nextIs w s (execPtarget x0 x1 s) := by
  delta execPtarget; exact (frame_issue (gle rfl hw) (by exact fun y0 => (frame_pegRead (gle rfl hw) _ _ _ _)) _ _ _ _)

theorem frame_execPwany {w : Parts} (hw : Parts.handReach.union w = w) x0 x1 s :
    Fr nextIs w s (execPwany x0 x1 s) := by
  delta execPwany; exact (frame_issue (gle rfl hw) (by exact fun y0 => (frame_onPegs (gle rfl hw) (by exact fun y1 y2 => (frame_startWait (gle rfl hw) _ _ _)) _ _ _ _)) _ _ _ _)

theorem frame_execParrive {w : Parts} (hw : Parts.handReach.union w = w) x0 x1 s :
    Fr nextIs w s (execParrive x0 x1 s) := by
  delta execParrive; exact (frame_issue (gle rfl hw) (by exact fun y0 => (frame_onPegs (gle rfl hw) (by exact fun y1 y2 => (gite frefl (by extract_lets +onlyGivenNames -merge -useContext -underBinder v3; have hv3 : Fr stIs w y2 v3 := (gite frefl (gstep (frame_handMod (gle rfl hw) _ _ _) (frame_handSignal (gle rfl hw) _ _ _ _))); clear_value v3; exact (gstep (frame_startWait (gle rfl hw) _ _ _) hv3)))) _ _ _ _)) _ _ _ _)

theorem frame_execPset {w : Parts} (hw : Parts.handReach.union w = w) x0 x1 s :
    Fr nextIs w s (execPset x0 x1 s) := by
  delta execPset; exact (frame_issue (gle rfl hw) (by exact fun y0 => (frame_signalPeg (gle rfl hw) _ _ _ _)) _ _ _ _)

theorem frame_execPadd {w : Parts} (hw : Parts.handReach.union w = w) x0 x1 s :
    Fr nextIs w s (execPadd x0 x1 s) := by
  delta execPadd; exact (frame_issue (gle rfl hw) (by exact fun y0 => (frame_signalPeg (gle rfl hw) _ _ _ _)) _ _ _ _)

end Sys2Proof.Machine
end

