-- ==== Sys2Proof/Laws/FrameSafety.lean ====
section
/-!
SUPPORT. The parts of the state that each operation may change: beats, repair, jobs and safety mechanisms.
-/

namespace Sys2Proof.Machine

theorem frame_freeBytes {w : Parts} (hw : ({ freeCtr := true } : Parts).union w = w) x0 s :
    Fr (via stIs) w s (freeBytes x0 s) := by
  delta freeBytes; exact (gmk (upd_freeCtr frefl (gle rfl hw)))

theorem frame_saveCtx {w : Parts} (hw : ({ mem := true, part := true, freeCtr := true } : Parts).union w = w) x0 x1 s :
    Fr stIs w s (saveCtx x0 x1 s) := by
  delta saveCtx; exact (by extract_lets +onlyGivenNames -merge -useContext -underBinder v0 v1 v2; clear_value v0 v1 v2; exact (by split; (focus (exact frefl)); (focus (exact (by extract_lets +onlyGivenNames -merge -useContext -underBinder v3 v4 v5; clear_value v3; have hv4 : Fr stIs w s v4 := (frame_memWrite (gle rfl hw) _ _ _); clear_value v4; have hv5 : Fr stIs w s v5 := (gfold hv4 (by exact fun p6 _ hp6 => (gstep (frame_memWrite (gle rfl hw) _ _ _) hp6))); clear_value v5; exact (by split; rename_i r7 r8 e11; have gr8 := gofeq e11 (gstep (frame_freeBytes (gle rfl hw) _ _) hv5); have hr8 : Fr stIs w s r8 := gr8; exact (by extract_lets +onlyGivenNames -merge -useContext -underBinder v9 v10; clear_value v9; have hv10 : Fr stIs w s v10 := (gstep (frame_memWrite (gle rfl hw) _ _ _) hr8); clear_value v10; exact (upd_part hv10 (gle rfl hw)))))))))

theorem frame_unsave {w : Parts} (hw : ({ cmd := true } : Parts).union w = w) x0 x1 x2 s :
    Fr stIs w s (unsave x0 x1 x2 s) := by
  delta unsave; exact (frame_dowelMod (gle rfl hw) _ _ _)

theorem frame_suspendCtx {w : Parts} (hw : ({ bays := true, cmd := true } : Parts).union w = w) x0 x1 x2 s :
    Fr stIs w s (suspendCtx x0 x1 x2 s) := by
  delta suspendCtx; exact (by extract_lets +onlyGivenNames -merge -useContext -underBinder v0 v1 v2 v3; clear_value v0 v2 v3; have hv1 : Fr stIs w s v1 := (frame_bayMod (gle rfl hw) _ _ _); clear_value v1; exact (gstep (frame_dowelMod (gle rfl hw) _ _ _) hv1))

theorem frame_drainDone {w : Parts} (hw : ({ bays := true, cmd := true, safety := true } : Parts).union w = w) x0 s :
    Fr stIs w s (drainDone x0 s) := by
  delta drainDone; exact (by extract_lets +onlyGivenNames -merge -useContext -underBinder v0; clear_value v0; exact (gite (gite (frame_settle (gle rfl hw) _ _) (frame_bayPut (gle rfl hw) _ _ _)) frefl))

theorem frame_finishCtx {w : Parts} (hw : ({ mem := true, bays := true, cmd := true, part := true, safety := true, freeCtr := true } : Parts).union w = w) x0 x1 x2 s :
    Fr stIs w s (finishCtx x0 x1 x2 s) := by
  delta finishCtx; exact (by extract_lets +onlyGivenNames -merge -useContext -underBinder v0 v1; clear_value v0 v1; exact (gite frefl (gite (frame_endContext (gle rfl hw) _ _) (gstep (frame_suspendCtx (gle rfl hw) _ _ _ _) (frame_saveCtx (gle rfl hw) _ _ _)))))

theorem frame_restoreCtx {w : Parts} (hw : ({ bays := true, cmd := true, part := true } : Parts).union w = w) x0 x1 x2 x3 x4 s :
    Fr stIs w s (restoreCtx x0 x1 x2 x3 x4 s) := by
  delta restoreCtx; exact (by extract_lets +onlyGivenNames -merge -useContext -underBinder v0 v1 v2 v3 v4; clear_value v0 v1 v2; have hv3 : Fr stIs w s v3 := (frame_bayMod (gle rfl hw) _ _ _); clear_value v3; have hv4 : Fr stIs w s v4 := (gstep (frame_unsave (gle rfl hw) _ _ _ _) hv3); clear_value v4; exact (upd_part hv4 (gle rfl hw)))

theorem frame_execKerfDrainComplete {w : Parts} (hw : ({ bays := true, cmd := true, safety := true } : Parts).union w = w) x0 s :
    Fr nextIs w s (execKerfDrainComplete x0 s) := by
  delta execKerfDrainComplete; exact (gite (gnext (frame_drainDone (gle rfl hw) _ _)) gfault)

theorem frame_drainOver {w : Parts} (hw : Parts.faultReach.union w = w) x0 s :
    Fr stIs w s (drainOver x0 s) := by
  delta drainOver; exact (by extract_lets +onlyGivenNames -merge -useContext -underBinder v0 v1; clear_value v0 v1; exact (gite (gstep (frame_raise (gle rfl hw) _ _ _ _) (gstep (frame_cntInc (gle rfl hw) _ _) (frame_bayPut (gle rfl hw) _ _ _))) frefl))

theorem frame_execKerfOverrun {w : Parts} (hw : Parts.faultReach.union w = w) x0 s :
    Fr nextIs w s (execKerfOverrun x0 s) := by
  delta execKerfOverrun; exact (gite (gnext (frame_drainOver (gle rfl hw) _ _)) gfault)

theorem frame_restoreDone {w : Parts} (hw : { Parts.handReach with part := true }.union w = w) x0 s :
    Fr stIs w s (restoreDone x0 s) := by
  delta restoreDone; exact (by extract_lets +onlyGivenNames -merge -useContext -underBinder v0; clear_value v0; exact (gite (by split; (focus (exact (by extract_lets +onlyGivenNames -merge -useContext -underBinder v1 v2 v3 v4 v5; clear_value v1; have hv2 : Fr stIs w s v2 := (frame_restoreCtx (gle rfl hw) _ _ _ _ _ _); clear_value v2; have hv3 : Fr stIs w s v3 := (by unfold v3; exact (by split; (focus (exact (gstep (frame_restoreCtx (gle rfl hw) _ _ _ _ _ _) hv2))); (focus (exact hv2)))); clear_value v3; have hv4 : Fr stIs w s v4 := (gstep (frame_landWrites (gle rfl hw) _) (gstep (frame_bayMod (gle rfl hw) _ _ _) hv3)); clear_value v4; have hv5 : ∀ q9 q10, Fr stIs w q10 (v5 q9 q10) := (by unfold v5; beta_reduce; exact (by exact fun y6 y7 => (by extract_lets +onlyGivenNames -merge -useContext -underBinder v8; clear_value v8; exact (gite (frame_stopHand (gle rfl hw) _ _) frefl)))); clear_value v5; exact (gstep (frame_kerfPass (gle rfl hw) _ _) (gstep (frame_countSwitches (gle rfl hw) _ _ _) (gstep (hv5 _ _) (gstep (hv5 _ _) hv4))))))); (focus (exact frefl))) frefl))

theorem frame_nextEntry {w : Parts} (hw : { Parts.handReach with part := true }.union w = w) x0 s :
    Fr stIs w s (nextEntry x0 s) := by
  delta nextEntry; exact (by extract_lets +onlyGivenNames -merge -useContext -underBinder v0 v1; clear_value v0 v1; exact (gite frefl (by extract_lets +onlyGivenNames -merge -useContext -underBinder v2; clear_value v2; exact (gstep (frame_kerfPass (gle rfl hw) _ _) (frame_beatPut (gle rfl hw) _ _ _)))))

theorem frame_execRestoreComplete {w : Parts} (hw : { Parts.handReach with part := true }.union w = w) x0 s :
    Fr nextIs w s (execRestoreComplete x0 s) := by
  delta execRestoreComplete; exact (gite (gnext (frame_restoreDone (gle rfl hw) _ _)) gfault)

theorem frame_saveDone {w : Parts} (hw : { Parts.handReach with part := true, freeCtr := true }.union w = w) x0 s :
    Fr stIs w s (saveDone x0 s) := by
  delta saveDone; exact (by extract_lets +onlyGivenNames -merge -useContext -underBinder v0; clear_value v0; exact (gite (by split; (focus (exact (by extract_lets +onlyGivenNames -merge -useContext -underBinder v1; have hv1 : Fr stIs w s v1 := (gstep (frame_finishCtx (gle rfl hw) _ _ _ _) (frame_finishCtx (gle rfl hw) _ _ _ _)); clear_value v1; exact (gstep (frame_kerfPass (gle rfl hw) _ _) (gstep (frame_landWrites (gle rfl hw) _) (gstep (frame_bayMod (gle rfl hw) _ _ _) hv1)))))); (focus (exact frefl))) frefl))

theorem frame_execSaveComplete {w : Parts} (hw : { Parts.handReach with part := true, freeCtr := true }.union w = w) x0 s :
    Fr nextIs w s (execSaveComplete x0 s) := by
  delta execSaveComplete; exact (gite (gnext (frame_saveDone (gle rfl hw) _ _)) gfault)

theorem frame_execKerfEntryStart {w : Parts} (hw : { Parts.handReach with part := true }.union w = w) x0 s :
    Fr nextIs w s (execKerfEntryStart x0 s) := by
  delta execKerfEntryStart; exact (gite (gnext (frame_nextEntry (gle rfl hw) _ _)) gfault)

theorem frame_addPending {w : Parts} (hw : ({ repair := true } : Parts).union w = w) x0 s :
    Fr stIs w s (addPending x0 s) := by
  delta addPending; exact (gite (upd_repair frefl (gle rfl hw)) frefl)

theorem frame_execSparePeriodicPlumb {w : Parts} (hw : ({ bays := true, safety := true } : Parts).union w = w) x0 s :
    Fr nextIs w s (execSparePeriodicPlumb x0 s) := by
  delta execSparePeriodicPlumb; exact (gite (gnext (gite (frame_startPlumb (gle rfl hw) _ _ _) frefl)) gfault)

theorem frame_dropJointerWork {w : Parts} (hw : ({ bays := true } : Parts).union w = w) x0 s :
    Fr stIs w s (dropJointerWork x0 s) := by
  delta dropJointerWork; exact (gfold frefl (by exact fun p0 _ hp0 => (by split; (focus (exact (gstep (frame_bayMod (gle rfl hw) _ _ _) hp0))); (focus (exact hp0)))))

theorem frame_putDigest {w : Parts} (hw : ({ regs := true } : Parts).union w = w) s :
    Fr stIs w s (putDigest s) := by
  delta putDigest; exact (frame_pairPut (gle rfl hw) _ _ _)

theorem frame_bayDomain {w : Parts} (hw : Parts.handReach.union w = w) x0 s :
    Fr stIs w s (bayDomain x0 s) := by
  delta bayDomain; exact (gstep (frame_fenceBay (gle rfl hw) (by exact fun y0 y1 y2 y3 => (frame_raise (gle rfl hw) _ _ _ _)) _ _ _) (frame_raise (gle rfl hw) _ _ _ _))

theorem frame_replayBent {w : Parts} (hw : Parts.faultReach.union w = w) x0 s :
    Fr stIs w s (replayBent x0 s) := by
  delta replayBent; exact (gfold frefl (by exact fun p0 _ hp0 => (gfold hp0 (by exact fun p1 _ hp1 => (gstep (frame_markReplay (gle rfl hw) (by exact fun y2 y3 y4 y5 => (frame_raise (gle rfl hw) _ _ _ _)) _ _) hp1)))))

theorem frame_execBayDomainFault {w : Parts} (hw : Parts.handReach.union w = w) x0 s :
    Fr nextIs w s (execBayDomainFault x0 s) := by
  delta execBayDomainFault; exact (gite (gnext (frame_bayDomain (gle rfl hw) _ _)) gfault)

theorem frame_raiseDropped {w : Parts} (hw : Parts.faultReach.union w = w) x0 s :
    Fr stIs w s (raiseDropped x0 s) := by
  delta raiseDropped; exact (gite (frame_raiseN (gle rfl hw) _ _ _ _ _ _ _) (frame_raise (gle rfl hw) _ _ _ _))

theorem frame_execBayFence {w : Parts} (hw : Parts.handReach.union w = w) x0 x1 s :
    Fr nextIs w s (execBayFence x0 x1 s) := by
  delta execBayFence; exact (gite (gnext (gite (frame_fenceBay (gle rfl hw) (by exact fun y0 y1 y2 y3 => (frame_raise (gle rfl hw) _ _ _ _)) _ _ _) frefl)) gfault)

theorem frame_patrolBad {w : Parts} (hw : Parts.handReach.union w = w) x0 x1 x2 x3 s :
    Fr stIs w s (patrolBad x0 x1 x2 x3 s) := by
  delta patrolBad; exact (by extract_lets +onlyGivenNames -merge -useContext -underBinder v0; clear_value v0; exact (gite (by extract_lets +onlyGivenNames -merge -useContext -underBinder a1 v2; clear_value a1; have hv2 : Fr stIs w s v2 := (upd_repair frefl (gle rfl hw)); clear_value v2; exact (gstep (frame_addPending (gle rfl hw) _ _) (gstep (frame_raise (gle rfl hw) _ _ _ _) (gstep (frame_cntInc (gle rfl hw) _ _) hv2)))) (gstep (frame_addPending (gle rfl hw) _ _) (frame_raise (gle rfl hw) _ _ _ _))))

theorem frame_patrolRow {w : Parts} (hw : Parts.handReach.union w = w) x0 x1 x2 x3 x4 x5 x6 s :
    Fr stIs w s (patrolRow x0 x1 x2 x3 x4 x5 x6 s) := by
  delta patrolRow; exact (by extract_lets +onlyGivenNames -merge -useContext -underBinder v0 a1 v2 v3; clear_value v0 a1; have hv2 : Fr stIs w s v2 := (upd_repair frefl (gle rfl hw)); clear_value v2; have hv3 : Fr stIs w s v3 := (gite (gstep (frame_regPut (gle rfl hw) _ _ _) hv2) hv2); clear_value v3; exact (gite (gstep (frame_patrolBad (gle rfl hw) _ _ _ _ _) hv3) hv3))

theorem frame_bayHang {w : Parts} (hw : Parts.handReach.union w = w) x0 s :
    Fr stIs w s (bayHang x0 s) := by
  delta bayHang; exact (gite (frame_fenceBay (gle rfl hw) (by exact fun y0 y1 y2 y3 => (frame_raise (gle rfl hw) _ _ _ _)) _ _ _) (gite (frame_plumbMismatch (gle rfl hw) (by exact fun y4 y5 y6 y7 => (frame_raise (gle rfl hw) _ _ _ _)) _ _) frefl))

theorem frame_dropNumber {w : Parts} (hw : { Parts.faultReach with bayMap := true }.union w = w) x0 s :
    Fr stIs w s (dropNumber x0 s) := by
  delta dropNumber; exact (by extract_lets +onlyGivenNames -merge -useContext -underBinder v0 v1; have hv0 : Fr stIs w s v0 := (by unfold v0; exact (by split; (focus (exact (gstep (frame_bayMod (gle rfl hw) _ _ _) (upd_bayMap frefl (gle rfl hw))))); (focus (exact frefl)))); clear_value v0; have hv1 : Fr stIs w s v1 := (gstep (frame_putDigest (gle rfl hw) _) (gstep (frame_regPut (gle rfl hw) _ _ _) hv0)); clear_value v1; exact (gfold (gstep (frame_raiseDropped (gle rfl hw) _ _) hv1) (by exact fun p2 _ hp2 => (gstep (frame_stopJob (gle rfl hw) (by exact fun y3 y4 y5 y6 => (frame_raise (gle rfl hw) _ _ _ _)) _ _ _ _) hp2))))

theorem frame_execBayHang {w : Parts} (hw : Parts.handReach.union w = w) x0 s :
    Fr nextIs w s (execBayHang x0 s) := by
  delta execBayHang; exact (gite (gnext (frame_bayHang (gle rfl hw) _ _)) gfault)

theorem frame_execPatrolRowTest {w : Parts} (hw : Parts.handReach.union w = w) x0 x1 x2 s :
    Fr nextIs w s (execPatrolRowTest x0 x1 x2 s) := by
  delta execPatrolRowTest; exact (gite (gite (gnext (gite (frame_patrolRow (gle rfl hw) _ _ _ _ _ _ _ _) frefl)) gfault) (gite (gnext (gite (frame_patrolRow (gle rfl hw) _ _ _ _ _ _ _ _) frefl)) gfault))

theorem frame_passNumber {w : Parts} (hw : { Parts.handReach with bayMap := true }.union w = w) x0 x1 s :
    Fr stIs w s (passNumber x0 x1 s) := by
  delta passNumber; exact (by extract_lets +onlyGivenNames -merge -useContext -underBinder a0 v1 v2 v3; clear_value a0; have hv1 : Fr stIs w s v1 := (upd_bayMap_repair frefl (gle rfl hw)); clear_value v1; have hv2 : Fr stIs w s v2 := (gstep (frame_bayMod (gle rfl hw) _ _ _) hv1); clear_value v2; have hv3 : Fr stIs w s v3 := (gstep (frame_raise (gle rfl hw) _ _ _ _) (gstep (frame_cntInc (gle rfl hw) _ _) (gstep (frame_putDigest (gle rfl hw) _) hv2))); clear_value v3; exact (gstep (frame_repairEvent (gle rfl hw) _ _ _ _ _ _) (gstep (frame_addPending (gle rfl hw) _ _) hv3)))

theorem frame_jointerHang {w : Parts} (hw : { Parts.handReach with bayMap := true, jointers := true, jmap := true }.union w = w) x0 s :
    Fr stIs w s (jointerHang x0 s) := by
  delta jointerHang; exact (by split; (focus (exact frefl)); (focus (exact (gite frefl (by extract_lets +onlyGivenNames -merge -useContext -underBinder a0 v1 v2; clear_value a0; have hv1 : Fr stIs w s v1 := (upd_jointers frefl (gle rfl hw)); clear_value v1; have hv2 : Fr stIs w s v2 := (gstep (frame_addPending (gle rfl hw) _ _) (gstep (frame_replayBent (gle rfl hw) _ _) (gstep (frame_dropJointerWork (gle rfl hw) _ _) hv1))); clear_value v2; exact (by split; (focus (exact (by extract_lets +onlyGivenNames -merge -useContext -underBinder v3; have hv3 : Fr stIs w s v3 := (gstep (frame_putDigest (gle rfl hw) _) (upd_jmap hv2 (gle rfl hw))); clear_value v3; exact (gstep (frame_repairEvent (gle rfl hw) _ _ _ _ _ _) (gstep (frame_raise (gle rfl hw) _ _ _ _) (gstep (frame_cntInc (gle rfl hw) _ _) hv3)))))); (focus (exact (by extract_lets +onlyGivenNames -merge -useContext -underBinder v4; have hv4 : Fr stIs w s v4 := (upd_jmap hv2 (gle rfl hw)); clear_value v4; exact (gstep (frame_repairEvent (gle rfl hw) _ _ _ _ _ _) (gfold hv4 (by exact fun p5 _ hp5 => (gstep (frame_dropNumber (gle rfl hw) _ _) hp5)))))))))))))

theorem frame_execJointerHang {w : Parts} (hw : { Parts.handReach with bayMap := true, jointers := true, jmap := true }.union w = w) x0 s :
    Fr nextIs w s (execJointerHang x0 s) := by
  delta execJointerHang; exact (gite (gnext (frame_jointerHang (gle rfl hw) _ _)) gfault)

theorem frame_retire {w : Parts} (hw : { Parts.handReach with bayMap := true }.union w = w) x0 s :
    Fr stIs w s (retire x0 s) := by
  delta retire; exact (by extract_lets +onlyGivenNames -merge -useContext -underBinder a0 v1; clear_value a0; have hv1 : Fr stIs w s v1 := (upd_repair frefl (gle rfl hw)); clear_value v1; exact (by split; (focus (exact (gite (gstep (frame_passNumber (gle rfl hw) _ _ _) hv1) frefl))); (focus (exact (gstep (frame_repairEvent (gle rfl hw) _ _ _ _ _ _) (gstep (frame_addPending (gle rfl hw) _ _) (gstep (frame_dropNumber (gle rfl hw) _ _) hv1)))))))

theorem frame_execRetirementPoint {w : Parts} (hw : { Parts.handReach with bayMap := true }.union w = w) x0 s :
    Fr nextIs w s (execRetirementPoint x0 s) := by
  delta execRetirementPoint; exact (gite (gnext (by split; (focus (exact (gstep (frame_landWrites (gle rfl hw) _) (frame_retire (gle rfl hw) _ _)))); (focus (exact frefl)))) gfault)

theorem frame_askStart {w : Parts} (hw : ({ cmd := true, twin := true } : Parts).union w = w) x0 s :
    Fr stIs w s (askStart x0 s) := by
  delta askStart; exact (by extract_lets +onlyGivenNames -merge -useContext -underBinder v0 v1; clear_value v0; have hv1 : Fr stIs w s v1 := (frame_dowelPut (gle rfl hw) _ _ _); clear_value v1; exact (gite (gstep (frame_sendCtl (gle rfl hw) _ _) hv1) (gstep (frame_sendCtl (gle rfl hw) _ _) hv1)))

theorem frame_faultStop {w : Parts} (hw : Parts.faultReach.union w = w) x0 s :
    Fr stIs w s (faultStop x0 s) := by
  delta faultStop; exact (by extract_lets +onlyGivenNames -merge -useContext -underBinder v0; clear_value v0; exact (by split; (focus (exact (gite (frame_stopJob (gle rfl hw) (by exact fun y1 y2 y3 y4 => (frame_raise (gle rfl hw) _ _ _ _)) _ _ _ _) frefl))); (focus (exact frefl))))

theorem frame_completeJob {w : Parts} (hw : Parts.faultReach.union w = w) x0 s :
    Fr stIs w s (completeJob x0 s) := by
  delta completeJob; exact (by extract_lets +onlyGivenNames -merge -useContext -underBinder v0; clear_value v0; exact (by split; (focus (exact (gite (frame_completeDowel (gle rfl hw) (by exact fun y1 y2 y3 y4 => (frame_raise (gle rfl hw) _ _ _ _)) _ _ _ _) frefl))); (focus (exact frefl))))

theorem frame_execJobFaultStop {w : Parts} (hw : Parts.faultReach.union w = w) x0 s :
    Fr nextIs w s (execJobFaultStop x0 s) := by
  delta execJobFaultStop; exact (gite (gnext (frame_faultStop (gle rfl hw) _ _)) gfault)

theorem frame_execJobComplete {w : Parts} (hw : Parts.faultReach.union w = w) x0 s :
    Fr nextIs w s (execJobComplete x0 s) := by
  delta execJobComplete; exact (gite (gnext (frame_completeJob (gle rfl hw) _ _)) gfault)

theorem frame_takeUp {w : Parts} (hw : { Parts.handReach with gfx := true }.union w = w) x0 s :
    Fr stIs w s (takeUp x0 s) := by
  delta takeUp; exact (by extract_lets +onlyGivenNames -merge -useContext -underBinder v0; clear_value v0; exact (by split <;> (exact (gite frefl (gite (gite (frame_beginRestore (gle rfl hw) _ _) (gite (frame_askStart (gle rfl hw) _ _) (frame_startJob (gle rfl hw) _ _))) (gfold frefl (by exact fun p1 _ hp1 => (by split; (focus (exact (gstep (frame_beginSwitch (gle rfl hw) _ _) hp1))); (focus (exact hp1))))))))))

theorem frame_execJobStart {w : Parts} (hw : { Parts.handReach with gfx := true }.union w = w) x0 s :
    Fr nextIs w s (execJobStart x0 s) := by
  delta execJobStart; exact (gite (gnext (frame_takeUp (gle rfl hw) _ _)) gfault)

theorem frame_endJob {w : Parts} (hw : Parts.handReach.union w = w) x0 s :
    Fr stIs w s (endJob x0 s) := by
  delta endJob; exact (by extract_lets +onlyGivenNames -merge -useContext -underBinder v0; clear_value v0; exact (gite frefl (gite (gstep (frame_kerfPass (gle rfl hw) _ _) (gstep (frame_dowelPut (gle rfl hw) _ _ _) (frame_sendCtl (gle rfl hw) _ _))) (gstep (frame_kerfPass (gle rfl hw) _ _) (frame_dowelPut (gle rfl hw) _ _ _)))))

theorem frame_execJobEnd {w : Parts} (hw : Parts.handReach.union w = w) x0 s :
    Fr nextIs w s (execJobEnd x0 s) := by
  delta execJobEnd; exact (gite (gnext (frame_endJob (gle rfl hw) _ _)) gfault)

theorem frame_execVoltageReturn {w : Parts} (hw : ({ safety := true } : Parts).union w = w) x0 s :
    Fr nextIs w s (execVoltageReturn x0 s) := by
  delta execVoltageReturn; exact (gite (gnext (gite (upd_safety frefl (gle rfl hw)) frefl)) gfault)

theorem frame_ageArm {w : Parts} (hw : ({ regs := true, safety := true } : Parts).union w = w) x0 s :
    Fr stIs w s (ageArm x0 s) := by
  delta ageArm; exact (by extract_lets +onlyGivenNames -merge -useContext -underBinder v0; have hv0 : Fr stIs w s v0 := (frame_regPut (gle rfl hw) _ _ _); clear_value v0; exact (upd_safety hv0 (gle rfl hw)))

theorem frame_phaseBoundary {w : Parts} (hw : ({ safety := true } : Parts).union w = w) s :
    Fr stIs w s (phaseBoundary s) := by
  delta phaseBoundary; exact (by extract_lets +onlyGivenNames -merge -useContext -underBinder v0; clear_value v0; exact (gite frefl (by extract_lets +onlyGivenNames -merge -useContext -underBinder v1; clear_value v1; exact (gite (upd_safety frefl (gle rfl hw)) (by extract_lets +onlyGivenNames -merge -useContext -underBinder v2; clear_value v2; exact (upd_safety frefl (gle rfl hw)))))))

theorem frame_clearPend {w : Parts} (hw : ({ safety := true } : Parts).union w = w) x0 s :
    Fr stIs w s (clearPend x0 s) := by
  delta clearPend; exact (frame_fsrcPut (gle rfl hw) _ _ _)

theorem frame_execFaultPhaseBoundary {w : Parts} (hw : ({ safety := true } : Parts).union w = w) s :
    Fr nextIs w s (execFaultPhaseBoundary s) := by
  delta execFaultPhaseBoundary; exact (gnext (frame_phaseBoundary (gle rfl hw) _))

theorem frame_releasePart {w : Parts} (hw : ({ safety := true } : Parts).union w = w) x0 s :
    Fr stIs w s (releasePart x0 s) := by
  delta releasePart; exact (gite frefl (upd_safety frefl (gle rfl hw)))

theorem frame_plumbSchedule {w : Parts} (hw : ({ bays := true, safety := true } : Parts).union w = w) x0 s :
    Fr stIs w s (plumbSchedule x0 s) := by
  delta plumbSchedule; exact (by split; (focus (exact (by split; (focus (exact (gite (frame_startPlumb (gle rfl hw) _ _ _) frefl))); (focus (exact frefl))))); (focus (exact frefl)))

theorem frame_execPlumbScheduledStart {w : Parts} (hw : ({ bays := true, safety := true } : Parts).union w = w) x0 s :
    Fr nextIs w s (execPlumbScheduledStart x0 s) := by
  delta execPlumbScheduledStart; exact (gite (gnext (frame_plumbSchedule (gle rfl hw) _ _)) gfault)

theorem frame_bootRun {w : Parts} (hw : ({ regs := true } : Parts).union w = w) s :
    Fr stIs w s (bootRun s) := by
  delta bootRun; exact (gite (frame_regSetFld (gle rfl hw) _ _ _ _ _) frefl)

theorem frame_gateStart {w : Parts} (hw : ({ bays := true, safety := true } : Parts).union w = w) x0 s :
    Fr stIs w s (gateStart x0 s) := by
  delta gateStart; exact (by extract_lets +onlyGivenNames -merge -useContext -underBinder v0; clear_value v0; exact (gite (gfold frefl (by exact fun p1 _ hp1 => (by split; (focus (exact (gite (gstep (frame_startPlumb (gle rfl hw) _ _ _) hp1) hp1))); (focus (exact hp1))))) frefl))

theorem frame_scribeInTest {w : Parts} (hw : ({ regs := true, safety := true } : Parts).union w = w) s :
    Fr stIs w s (scribeInTest s) := by
  delta scribeInTest; exact (gite (gstep (frame_regSetFld (gle rfl hw) _ _ _ _ _) (upd_safety frefl (gle rfl hw))) frefl)

theorem frame_execPlumbGatedStart {w : Parts} (hw : ({ bays := true, safety := true } : Parts).union w = w) x0 s :
    Fr nextIs w s (execPlumbGatedStart x0 s) := by
  delta execPlumbGatedStart; exact (gite (gnext (frame_gateStart (gle rfl hw) _ _)) gfault)

theorem frame_countRsvd {w : Parts} (hw : ({ regs := true } : Parts).union w = w) x0 s :
    Fr stIs w s (countRsvd x0 s) := by
  delta countRsvd; exact (gite (frame_cntInc (gle rfl hw) _ _) frefl)

theorem frame_setRun {w : Parts} (hw : ({ regs := true, safety := true } : Parts).union w = w) s :
    Fr stIs w s (setRun s) := by
  delta setRun; exact (gite frefl (by extract_lets +onlyGivenNames -merge -useContext -underBinder a0 v1; clear_value a0 v1; exact (gstep (frame_bootRun (gle rfl hw) _) (gstep (frame_scribeInTest (gle rfl hw) _) (gite (upd_safety frefl (gle rfl hw)) (upd_safety frefl (gle rfl hw)))))))

theorem frame_swRaise {w : Parts} (hw : Parts.faultReach.union w = w) x0 s :
    Fr stIs w s (swRaise x0 s) := by
  delta swRaise; exact (gstep (frame_raise (gle rfl hw) _ _ _ _) (frame_countRsvd (gle rfl hw) _ _))

theorem frame_kick {w : Parts} (hw : Parts.faultReach.union w = w) x0 x1 s :
    Fr stIs w s (kick x0 x1 s) := by
  delta kick; exact (gite frefl (gite (upd_safety frefl (gle rfl hw)) (frame_raise (gle rfl hw) _ _ _ _)))

theorem frame_plumbLate {w : Parts} (hw : { Parts.faultReach with part := true }.union w = w) x0 x1 s :
    Fr stIs w s (plumbLate x0 x1 s) := by
  delta plumbLate; exact (by extract_lets +onlyGivenNames -merge -useContext -underBinder v0; have hv0 : Fr stIs w s v0 := (frame_raise (gle rfl hw) _ _ _ _); clear_value v0; exact (upd_part hv0 (gle rfl hw)))

theorem frame_kickWrite {w : Parts} (hw : Parts.faultReach.union w = w) x0 x1 s :
    Fr stIs w s (kickWrite x0 x1 s) := by
  delta kickWrite; exact (frame_kick (gle rfl hw) _ _ _)

theorem frame_dinAgree {w : Parts} (hw : Parts.faultReach.union w = w) x0 x1 s :
    Fr stIs w s (dinAgree x0 x1 s) := by
  delta dinAgree; exact (by extract_lets +onlyGivenNames -merge -useContext -underBinder v0 a1 v2; clear_value v0 a1; have hv2 : Fr stIs w s v2 := (upd_safety frefl (gle rfl hw)); clear_value v2; exact (gite (gstep (frame_raise (gle rfl hw) _ _ _ _) hv2) hv2))

theorem frame_clockWindow {w : Parts} (hw : Parts.handReach.union w = w) x0 x1 s :
    Fr stIs w s (clockWindow x0 x1 s) := by
  delta clockWindow; exact (gite (upd_safety frefl (gle rfl hw)) (gite (gite (frame_bayDomain (gle rfl hw) _ _) (gite (frame_raise (gle rfl hw) _ _ _ _) (frame_raise (gle rfl hw) _ _ _ _))) frefl))

theorem frame_execPlumbOverdue {w : Parts} (hw : { Parts.faultReach with part := true }.union w = w) x0 s :
    Fr nextIs w s (execPlumbOverdue x0 s) := by
  delta execPlumbOverdue; exact (gite (by extract_lets +onlyGivenNames -merge -useContext -underBinder v0; clear_value v0; exact (gnext (gfold (upd_part frefl (gle rfl hw)) (by exact fun p1 _ hp1 => (gstep (frame_plumbLate (gle rfl hw) _ _ _) hp1))))) gfault)

theorem frame_dinDisagree {w : Parts} (hw : Parts.faultReach.union w = w) x0 s :
    Fr stIs w s (dinDisagree x0 s) := by
  delta dinDisagree; exact (by extract_lets +onlyGivenNames -merge -useContext -underBinder v0 v1 v2 a3 v4; clear_value v0 v1 v2 a3; have hv4 : Fr stIs w s v4 := (upd_safety frefl (gle rfl hw)); clear_value v4; exact (gite (gstep (frame_raise (gle rfl hw) _ _ _ _) hv4) hv4))

theorem frame_execLockstepMismatch {w : Parts} (hw : Parts.faultReach.union w = w) x0 s :
    Fr nextIs w s (execLockstepMismatch x0 s) := by
  delta execLockstepMismatch; exact (gite (gnext (frame_raise (gle rfl hw) _ _ _ _)) gfault)

theorem frame_execIslandBistStep {w : Parts} (hw : Parts.faultReach.union w = w) x0 s :
    Fr nextIs w s (execIslandBistStep x0 s) := by
  delta execIslandBistStep; exact (by extract_lets +onlyGivenNames -merge -useContext -underBinder a0 v1; clear_value a0; have hv1 : Fr stIs w s v1 := (upd_safety frefl (gle rfl hw)); clear_value v1; exact (gnext (gite (gstep (frame_raise (gle rfl hw) _ _ _ _) hv1) hv1)))

theorem frame_watchdog {w : Parts} (hw : Parts.faultReach.union w = w) s :
    Fr stIs w s (watchdog s) := by
  delta watchdog; exact (gite (gstep (frame_raise (gle rfl hw) _ _ _ _) (upd_safety frefl (gle rfl hw))) frefl)

theorem frame_railLevel {w : Parts} (hw : Parts.faultReach.union w = w) x0 x1 s :
    Fr stIs w s (railLevel x0 x1 s) := by
  delta railLevel; exact (gite (gstep (frame_raise (gle rfl hw) _ _ _ _) (gite (gstep (frame_pinsUpdate (gle rfl hw) _) (upd_safety frefl (gle rfl hw))) frefl)) frefl)

theorem frame_ageJudge {w : Parts} (hw : Parts.faultReach.union w = w) x0 x1 s :
    Fr stIs w s (ageJudge x0 x1 s) := by
  delta ageJudge; exact (by extract_lets +onlyGivenNames -merge -useContext -underBinder v0; have hv0 : Fr stIs w s v0 := (frame_ageArm (gle rfl hw) _ _); clear_value v0; exact (by split; (focus (exact (by extract_lets +onlyGivenNames -merge -useContext -underBinder v1 v2 v3; clear_value v1 v2; have hv3 : Fr stIs w s v3 := (gstep (frame_regPut (gle rfl hw) _ _ _) hv0); clear_value v3; exact (gite (gstep (frame_raise (gle rfl hw) _ _ _ _) hv3) hv3)))); (focus (exact (by extract_lets +onlyGivenNames -merge -useContext -underBinder v4 v5 v6; clear_value v4 v5; have hv6 : Fr stIs w s v6 := (gstep (frame_regPut (gle rfl hw) _ _ _) hv0); clear_value v6; exact (gite (gstep (frame_raise (gle rfl hw) _ _ _ _) hv6) hv6)))); (focus (exact (by extract_lets +onlyGivenNames -merge -useContext -underBinder v7 v8 v9; clear_value v7 v8; have hv9 : Fr stIs w s v9 := (gstep (frame_regPut (gle rfl hw) _ _ _) hv0); clear_value v9; exact (gite (gstep (frame_raise (gle rfl hw) _ _ _ _) hv9) hv9)))); (focus (exact (by extract_lets +onlyGivenNames -merge -useContext -underBinder v10 v11 v12; clear_value v10 v11; have hv12 : Fr stIs w s v12 := (gstep (frame_regPut (gle rfl hw) _ _ _) hv0); clear_value v12; exact (gite (gstep (frame_raise (gle rfl hw) _ _ _ _) hv12) hv12)))); (focus (exact (gstep (frame_raise (gle rfl hw) _ _ _ _) (gstep (frame_holeError (gle rfl hw) (by exact fun y13 y14 y15 y16 => (frame_raise (gle rfl hw) _ _ _ _)) _ _ _ _ _) hv0)))); (focus (exact (gstep (frame_raise (gle rfl hw) _ _ _ _) (gstep (frame_holeError (gle rfl hw) (by exact fun y17 y18 y19 y20 => (frame_raise (gle rfl hw) _ _ _ _)) _ _ _ _ _) hv0)))); (focus (exact (gstep (frame_raise (gle rfl hw) _ _ _ _) (gstep (frame_holeError (gle rfl hw) (by exact fun y21 y22 y23 y24 => (frame_raise (gle rfl hw) _ _ _ _)) _ _ _ _ _) hv0)))); (focus (exact (gstep (frame_raise (gle rfl hw) _ _ _ _) (gstep (frame_holeError (gle rfl hw) (by exact fun y25 y26 y27 y28 => (frame_raise (gle rfl hw) _ _ _ _)) _ _ _ _ _) hv0))))))

theorem frame_ageGap {w : Parts} (hw : Parts.faultReach.union w = w) x0 s :
    Fr stIs w s (ageGap x0 s) := by
  delta ageGap; exact (gite (gstep (frame_raise (gle rfl hw) _ _ _ _) (upd_safety frefl (gle rfl hw))) frefl)

theorem frame_thermOne {w : Parts} (hw : Parts.faultReach.union w = w) s x1 :
    Fr stIs w s (thermOne s x1) := by
  delta thermOne; exact (by extract_lets +onlyGivenNames -merge -useContext -underBinder v0 a1 v2; clear_value v0 a1; have hv2 : Fr stIs w s v2 := (upd_safety frefl (gle rfl hw)); clear_value v2; exact (gite (gstep (frame_raise (gle rfl hw) _ _ _ _) hv2) hv2))

theorem frame_periodLate {w : Parts} (hw : { Parts.faultReach with part := true }.union w = w) x0 s :
    Fr stIs w s (periodLate x0 s) := by
  delta periodLate; exact (by split; (focus (exact (by extract_lets +onlyGivenNames -merge -useContext -underBinder v0; clear_value v0; exact (gite (gstep (frame_raise (gle rfl hw) _ _ _ _) (upd_part frefl (gle rfl hw))) frefl)))); (focus (exact frefl)))

theorem frame_execClockMonitorWindow {w : Parts} (hw : Parts.handReach.union w = w) x0 x1 s :
    Fr nextIs w s (execClockMonitorWindow x0 x1 s) := by
  delta execClockMonitorWindow; exact (gite (gnext (frame_clockWindow (gle rfl hw) _ _ _)) gfault)

theorem frame_execVoltageExcursion {w : Parts} (hw : Parts.faultReach.union w = w) x0 x1 s :
    Fr nextIs w s (execVoltageExcursion x0 x1 s) := by
  delta execVoltageExcursion; exact (gite (gnext (frame_railLevel (gle rfl hw) _ _ _)) gfault)

theorem frame_execSafeWdog {w : Parts} (hw : Parts.faultReach.union w = w) s :
    Fr nextIs w s (execSafeWdog s) := by
  delta execSafeWdog; exact (gnext (frame_watchdog (gle rfl hw) _))

theorem frame_execPlumbPeriodOverdue {w : Parts} (hw : { Parts.faultReach with part := true }.union w = w) x0 s :
    Fr nextIs w s (execPlumbPeriodOverdue x0 s) := by
  delta execPlumbPeriodOverdue; exact (gite (gnext (frame_periodLate (gle rfl hw) _ _)) gfault)

theorem frame_thermSample {w : Parts} (hw : Parts.faultReach.union w = w) x0 s :
    Fr stIs w s (thermSample x0 s) := by
  delta thermSample; exact (by extract_lets +onlyGivenNames -merge -useContext -underBinder v0 v1 v2 a3 v4 v5; clear_value v0 v1 a3; have hv2 : Fr stIs w s v2 := (gfold frefl (by exact fun p6 _ hp6 => (gstep (frame_regPut (gle rfl hw) _ _ _) hp6))); clear_value v2; have hv4 : Fr stIs w s v4 := (upd_safety hv2 (gle rfl hw)); clear_value v4; have hv5 : Fr stIs w s v5 := (gfold hv4 (by exact fun p7 _ hp7 => (gstep (frame_thermOne (gle rfl hw) _ _) hp7))); clear_value v5; exact (gite (gstep (frame_regSetFld (gle rfl hw) _ _ _ _ _) hv5) hv5))

theorem frame_execDinSample {w : Parts} (hw : Parts.faultReach.union w = w) x0 x1 x2 s :
    Fr nextIs w s (execDinSample x0 x1 x2 s) := by
  delta execDinSample; exact (gite (gnext (gite (gite (frame_dinAgree (gle rfl hw) _ _ _) (frame_dinDisagree (gle rfl hw) _ _)) frefl)) gfault)

theorem frame_execAgeEvent {w : Parts} (hw : Parts.faultReach.union w = w) x0 s :
    Fr nextIs w s (execAgeEvent x0 s) := by
  delta execAgeEvent; exact (gite (gnext (by split; (focus (exact (gstep (frame_ageJudge (gle rfl hw) _ _ _) (upd_safety frefl (gle rfl hw))))); (focus (exact frefl)))) gfault)

theorem frame_execSafetySwraise {w : Parts} (hw : { Parts.faultReach with reply := true }.union w = w) x0 x1 s :
    Fr nextIs w s (execSafetySwraise x0 x1 s) := by
  delta execSafetySwraise; exact (gnext (frame_asInit (gle rfl hw) (by exact fun y0 => (frame_swRaise (gle rfl hw) _ _)) _ _ _ _))

theorem frame_execTemperatureSample {w : Parts} (hw : Parts.faultReach.union w = w) x0 s :
    Fr nextIs w s (execTemperatureSample x0 s) := by
  delta execTemperatureSample; exact (gite (gnext (frame_thermSample (gle rfl hw) _ _)) gfault)

theorem frame_execAgeGap {w : Parts} (hw : Parts.faultReach.union w = w) x0 s :
    Fr nextIs w s (execAgeGap x0 s) := by
  delta execAgeGap; exact (gite (gnext (frame_ageGap (gle rfl hw) _ _)) gfault)

theorem frame_execSafetySrcPendClear {w : Parts} (hw : { Parts.faultReach with reply := true }.union w = w) x0 x1 s :
    Fr nextIs w s (execSafetySrcPendClear x0 x1 s) := by
  delta execSafetySrcPendClear; exact (gite (gnext (frame_asInit (gle rfl hw) (by exact fun y0 => (gite frefl (frame_clearPend (gle rfl hw) _ _))) _ _ _ _)) gfault)

theorem frame_execSafetyCtrlRun {w : Parts} (hw : { Parts.faultReach with reply := true }.union w = w) x0 s :
    Fr nextIs w s (execSafetyCtrlRun x0 s) := by
  delta execSafetyCtrlRun; exact (gnext (frame_asInit (gle rfl hw) (by exact fun y0 => (gite (frame_setRun (gle rfl hw) _) frefl)) _ _ _ _))

theorem frame_execSafetyPstopRelease {w : Parts} (hw : { Parts.faultReach with reply := true }.union w = w) x0 x1 s :
    Fr nextIs w s (execSafetyPstopRelease x0 x1 s) := by
  delta execSafetyPstopRelease; exact (gite (gnext (frame_asInit (gle rfl hw) (by exact fun y0 => (frame_releasePart (gle rfl hw) _ _)) _ _ _ _)) gfault)

theorem frame_execSafetyKick {w : Parts} (hw : { Parts.faultReach with reply := true }.union w = w) x0 x1 s :
    Fr nextIs w s (execSafetyKick x0 x1 s) := by
  delta execSafetyKick; exact (gnext (frame_asInit (gle rfl hw) (by exact fun y0 => (frame_kickWrite (gle rfl hw) _ _ _)) _ _ _ _))

theorem frame_gateRelease {w : Parts} (hw : Parts.handReach.union w = w) x0 s :
    Fr stIs w s (gateRelease x0 s) := by
  delta gateRelease; exact (by extract_lets +onlyGivenNames -merge -useContext -underBinder v0; clear_value v0; exact (gite (gstep (frame_kerfPass (gle rfl hw) _ _) (gstep (frame_completeDowel (gle rfl hw) (by exact fun y1 y2 y3 y4 => (frame_raise (gle rfl hw) _ _ _ _)) _ _ _ _) (frame_dowelPut (gle rfl hw) _ _ _))) frefl))

theorem frame_execGatedRelease {w : Parts} (hw : Parts.handReach.union w = w) x0 s :
    Fr nextIs w s (execGatedRelease x0 s) := by
  delta execGatedRelease; exact (gite (gnext (frame_gateRelease (gle rfl hw) _ _)) gfault)

end Sys2Proof.Machine
end

