-- ==== Sys2Proof/Laws/FrameReset.lean ====
section
/-!
SUPPORT. The parts of the state that each operation may change: sealed commands, resets and the scribe.
-/

namespace Sys2Proof.Machine

theorem frame_supRead {w : Parts} (hw : ({ sealU := true } : Parts).union w = w) x0 s :
    Fr stIs w s (supRead x0 s) := by
  delta supRead; exact (by extract_lets +onlyGivenNames -merge -useContext -underBinder v0; clear_value v0; exact (upd_sealU frefl (gle rfl hw)))

theorem frame_execSupRead {w : Parts} (hw : ({ sealU := true } : Parts).union w = w) x0 s :
    Fr nextIs w s (execSupRead x0 s) := by
  delta execSupRead; exact (gnext (frame_supRead (gle rfl hw) _ _))

theorem frame_execIdentityReport {w : Parts} (hw : ({ regs := true, gw := true, sealU := true, freeCtr := true } : Parts).union w = w) s :
    Fr nextIs w s (execIdentityReport s) := by
  delta execIdentityReport; exact (gnext (frame_sealRun (gle rfl hw) (by exact fun y0 y1 => (frame_sealAnswer (gle rfl hw) _ _ _ _ _)) _ _))

theorem frame_execStatusQuery {w : Parts} (hw : ({ regs := true, gw := true, sealU := true, freeCtr := true } : Parts).union w = w) s :
    Fr nextIs w s (execStatusQuery s) := by
  delta execStatusQuery; exact (gnext (frame_sealRun (gle rfl hw) (by exact fun y0 y1 => (frame_sealAnswer (gle rfl hw) _ _ _ _ _)) _ _))

theorem frame_execResultQuery {w : Parts} (hw : ({ regs := true, gw := true, sealU := true, freeCtr := true } : Parts).union w = w) s :
    Fr nextIs w s (execResultQuery s) := by
  delta execResultQuery; exact (gnext (frame_sealRun (gle rfl hw) (by exact fun y0 y1 => (frame_sealAnswer (gle rfl hw) _ _ _ _ _)) _ _))

theorem frame_revokeDone {w : Parts} (hw : Parts.faultReach.union w = w) x0 s :
    Fr stIs w s (revokeDone x0 s) := by
  delta revokeDone; exact (by split; (focus (exact (by extract_lets +onlyGivenNames -merge -useContext -underBinder a0 v1; clear_value a0; have hv1 : Fr stIs w s v1 := (upd_sealU frefl (gle rfl hw)); clear_value v1; exact (gstep (frame_sealDone (gle rfl hw) _ _ _) (gstep (frame_regSetFld (gle rfl hw) _ _ _ _ _) hv1))))); (focus (exact frefl)))

theorem frame_gradeLock {w : Parts} (hw : Parts.faultReach.union w = w) x0 s :
    Fr stIs w s (gradeLock x0 s) := by
  delta gradeLock; exact (gite (frame_sealDone (gle rfl hw) _ _ _) (gite (frame_sealDone (gle rfl hw) _ _ _) (gite (frame_sealDone (gle rfl hw) _ _ _) (gstep (frame_sealDone (gle rfl hw) _ _ _) (frame_regSetFld (gle rfl hw) _ _ _ _ _)))))

theorem frame_burnDone {w : Parts} (hw : Parts.handReach.union w = w) x0 s :
    Fr stIs w s (burnDone x0 s) := by
  delta burnDone; exact (by split; (focus (exact frefl)); (focus (exact (by extract_lets +onlyGivenNames -merge -useContext -underBinder v0 v1; clear_value v0 v1; exact (gstep (frame_sealDone (gle rfl hw) _ _ _) (upd_repair frefl (gle rfl hw)))))))

theorem frame_supWrite {w : Parts} (hw : { Parts.faultReach with gw := true, freeCtr := true }.union w = w) x0 s :
    Fr stIs w s (supWrite x0 s) := by
  delta supWrite; exact (gite (frame_sealArrive (gle rfl hw) _ _) frefl)

theorem frame_faultClear {w : Parts} (hw : Parts.faultReach.union w = w) x0 s :
    Fr stIs w s (faultClear x0 s) := by
  delta faultClear; exact (by extract_lets +onlyGivenNames -merge -useContext -underBinder v0; clear_value v0; exact (gite (gstep (frame_sealDone (gle rfl hw) _ _ _) (gfold frefl (by exact fun p1 _ hp1 => (gite (gstep (frame_clearPend (gle rfl hw) _ _) hp1) hp1)))) (gite (gstep (frame_sealDone (gle rfl hw) _ _ _) (frame_clearPend (gle rfl hw) _ _)) (frame_sealDone (gle rfl hw) _ _ _))))

theorem frame_keyRevoke {w : Parts} (hw : Parts.faultReach.union w = w) x0 s :
    Fr stIs w s (keyRevoke x0 s) := by
  delta keyRevoke; exact (by extract_lets +onlyGivenNames -merge -useContext -underBinder v0 v1; clear_value v0 v1; exact (gite (frame_sealDone (gle rfl hw) _ _ _) (gite (frame_sealDone (gle rfl hw) _ _ _) (gite (frame_sealDone (gle rfl hw) _ _ _) (gite (frame_sealDone (gle rfl hw) _ _ _) (upd_sealU frefl (gle rfl hw)))))))

theorem frame_execKeyRevokeComplete {w : Parts} (hw : Parts.faultReach.union w = w) x0 s :
    Fr nextIs w s (execKeyRevokeComplete x0 s) := by
  delta execKeyRevokeComplete; exact (gite (gnext (frame_revokeDone (gle rfl hw) _ _)) gfault)

theorem frame_execSupWrite {w : Parts} (hw : { Parts.faultReach with gw := true, freeCtr := true }.union w = w) x0 s :
    Fr nextIs w s (execSupWrite x0 s) := by
  delta execSupWrite; exact (gnext (frame_supWrite (gle rfl hw) _ _))

theorem frame_safeExit {w : Parts} (hw : Parts.faultReach.union w = w) x0 s :
    Fr stIs w s (safeExit x0 s) := by
  delta safeExit; exact (gite (frame_sealDone (gle rfl hw) _ _ _) (gite (frame_sealDone (gle rfl hw) _ _ _) (by extract_lets +onlyGivenNames -merge -useContext -underBinder v0; clear_value v0; exact (gstep (frame_sealDone (gle rfl hw) _ _ _) (upd_safety frefl (gle rfl hw))))))

theorem frame_timeForce {w : Parts} (hw : { Parts.faultReach with tb := true }.union w = w) x0 s :
    Fr stIs w s (timeForce x0 s) := by
  delta timeForce; exact (by extract_lets +onlyGivenNames -merge -useContext -underBinder v0; clear_value v0; exact (gite (frame_sealDone (gle rfl hw) _ _ _) (gite (frame_sealDone (gle rfl hw) _ _ _) (upd_tb frefl (gle rfl hw)))))

theorem frame_execFaultClearCritical {w : Parts} (hw : Parts.faultReach.union w = w) s :
    Fr nextIs w s (execFaultClearCritical s) := by
  delta execFaultClearCritical; exact (gnext (frame_sealRun (gle rfl hw) (by exact fun y0 y1 => (frame_faultClear (gle rfl hw) _ _)) _ _))

theorem frame_sealSubmit {w : Parts} (hw : { Parts.faultReach with gw := true, freeCtr := true }.union w = w) x0 s :
    Fr stIs w s (sealSubmit x0 s) := by
  delta sealSubmit; exact (frame_tryWrite (gle rfl hw) (by exact fun y0 => (gite (frame_sealArrive (gle rfl hw) _ _) frefl)) _ _ _)

theorem frame_execSafeStateExit {w : Parts} (hw : Parts.faultReach.union w = w) s :
    Fr nextIs w s (execSafeStateExit s) := by
  delta execSafeStateExit; exact (gnext (frame_sealRun (gle rfl hw) (by exact fun y0 y1 => (frame_safeExit (gle rfl hw) _ _)) _ _))

theorem frame_execTimeForceStep {w : Parts} (hw : { Parts.faultReach with tb := true }.union w = w) s :
    Fr nextIs w s (execTimeForceStep s) := by
  delta execTimeForceStep; exact (gnext (frame_sealRun (gle rfl hw) (by exact fun y0 y1 => (frame_timeForce (gle rfl hw) _ _)) _ _))

theorem frame_sealConfig {w : Parts} (hw : Parts.faultReach.union w = w) x0 x1 s :
    Fr stIs w s (sealConfig x0 x1 s) := by
  delta sealConfig; exact (by extract_lets +onlyGivenNames -merge -useContext -underBinder v0 v1; clear_value v0 v1; exact (gite (frame_sealDone (gle rfl hw) _ _ _) (gite (frame_sealDone (gle rfl hw) _ _ _) (gstep (frame_configAccept (gle rfl hw) _ _ _ _ _) (frame_dowelMod (gle rfl hw) _ _ _)))))

theorem frame_repairCommit {w : Parts} (hw : Parts.handReach.union w = w) x0 s :
    Fr stIs w s (repairCommit x0 s) := by
  delta repairCommit; exact (by split; (focus (exact (frame_sealDone (gle rfl hw) _ _ _))); (focus (exact (upd_repair frefl (gle rfl hw)))))

theorem frame_execGradeLock {w : Parts} (hw : Parts.faultReach.union w = w) s :
    Fr nextIs w s (execGradeLock s) := by
  delta execGradeLock; exact (gnext (frame_sealRun (gle rfl hw) (by exact fun y0 y1 => (frame_gradeLock (gle rfl hw) _ _)) _ _))

theorem frame_execKeyRevoke {w : Parts} (hw : Parts.faultReach.union w = w) s :
    Fr nextIs w s (execKeyRevoke s) := by
  delta execKeyRevoke; exact (gnext (frame_sealRun (gle rfl hw) (by exact fun y0 y1 => (frame_keyRevoke (gle rfl hw) _ _)) _ _))

theorem frame_execPartitionConfigRegions {w : Parts} (hw : Parts.faultReach.union w = w) s :
    Fr nextIs w s (execPartitionConfigRegions s) := by
  delta execPartitionConfigRegions; exact (gnext (gite (frame_sealRun (gle rfl hw) (by exact fun y0 y1 => (frame_sealConfig (gle rfl hw) _ _ _)) _ _) frefl))

theorem frame_execRepairBurnComplete {w : Parts} (hw : Parts.handReach.union w = w) x0 s :
    Fr nextIs w s (execRepairBurnComplete x0 s) := by
  delta execRepairBurnComplete; exact (gnext (frame_burnDone (gle rfl hw) _ _))

theorem frame_sealTake {w : Parts} (hw : { Parts.faultReach with gw := true, freeCtr := true }.union w = w) s :
    Fr stIs w s (sealTake s) := by
  delta sealTake; exact (by split; (focus (exact (by split; (focus (exact (by extract_lets +onlyGivenNames -merge -useContext -underBinder v0; have hv0 : Fr stIs w s v0 := (frame_sealBufPut (gle rfl hw) _ _ _); clear_value v0; exact (gstep (frame_sealProcess (gle rfl hw) _ _) (upd_sealU hv0 (gle rfl hw)))))); (focus (exact frefl))))); (focus (exact frefl)))

theorem frame_execSealFrameTake {w : Parts} (hw : { Parts.faultReach with gw := true, freeCtr := true }.union w = w) s :
    Fr nextIs w s (execSealFrameTake s) := by
  delta execSealFrameTake; exact (gnext (frame_sealTake (gle rfl hw) _))

theorem frame_execRepairCommit {w : Parts} (hw : Parts.handReach.union w = w) s :
    Fr nextIs w s (execRepairCommit s) := by
  delta execRepairCommit; exact (gnext (gite (frame_sealRun (gle rfl hw) (by exact fun y0 y1 => (frame_repairCommit (gle rfl hw) _ _)) _ _) frefl))

theorem frame_execSealSwCtrl {w : Parts} (hw : { Parts.faultReach with gw := true, reply := true, freeCtr := true }.union w = w) x0 x1 s :
    Fr nextIs w s (execSealSwCtrl x0 x1 s) := by
  delta execSealSwCtrl; exact (gnext (frame_asInit (gle rfl hw) (by exact fun y0 => (frame_sealSubmit (gle rfl hw) _ _)) _ _ _ _))

theorem frame_execPartitionConfigWheels {w : Parts} (hw : Parts.faultReach.union w = w) s :
    Fr nextIs w s (execPartitionConfigWheels s) := by
  delta execPartitionConfigWheels; exact (gnext (gite (frame_sealRun (gle rfl hw) (by exact fun y0 y1 => (frame_sealConfig (gle rfl hw) _ _ _)) _ _) frefl))

theorem frame_execPartitionConfigRecord {w : Parts} (hw : Parts.faultReach.union w = w) s :
    Fr nextIs w s (execPartitionConfigRecord s) := by
  delta execPartitionConfigRecord; exact (gnext (gite (frame_sealRun (gle rfl hw) (by exact fun y0 y1 => (frame_sealConfig (gle rfl hw) _ _ _)) _ _) frefl))

theorem frame_flashWrite {w : Parts} (hw : ({ boot := true } : Parts).union w = w) x0 x1 s :
    Fr stIs w s (flashWrite x0 x1 s) := by
  delta flashWrite; exact (upd_boot frefl (gle rfl hw))

theorem frame_takeRecord {w : Parts} (hw : ({ boot := true } : Parts).union w = w) s :
    Fr stIs w s (takeRecord s) := by
  delta takeRecord; exact (by extract_lets +onlyGivenNames -merge -useContext -underBinder v0; clear_value v0; exact (upd_boot frefl (gle rfl hw)))

theorem frame_burnLife {w : Parts} (hw : ({ boot := true } : Parts).union w = w) x0 s :
    Fr stIs w s (burnLife x0 s) := by
  delta burnLife; exact (upd_boot frefl (gle rfl hw))

theorem frame_putMasked {w : Parts} (hw : ({ regs := true } : Parts).union w = w) x0 x1 x2 s :
    Fr stIs w s (putMasked x0 x1 x2 s) := by
  delta putMasked; exact (by extract_lets +onlyGivenNames -merge -useContext -underBinder v0; clear_value v0; exact (frame_regPut (gle rfl hw) _ _ _))

theorem frame_loadFuses {w : Parts} (hw : ({ regs := true } : Parts).union w = w) s :
    Fr stIs w s (loadFuses s) := by
  delta loadFuses; exact (gfold frefl (by exact fun p0 _ hp0 => (gstep (frame_putMasked (gle rfl hw) _ _ _ _) hp0)))

theorem frame_bootGo {w : Parts} (hw : ({ regs := true } : Parts).union w = w) x0 s :
    Fr stIs w s (bootGo x0 s) := by
  delta bootGo; exact (frame_regSetFld (gle rfl hw) _ _ _ _ _)

theorem frame_bootStop {w : Parts} (hw : ({ regs := true } : Parts).union w = w) x0 x1 s :
    Fr stIs w s (bootStop x0 x1 s) := by
  delta bootStop; exact (gstep (frame_regSetFld (gle rfl hw) _ _ _ _ _) (frame_bootGo (gle rfl hw) _ _))

theorem frame_reborn {w : Parts} (hw : { Parts.handReach with staging := true, latches := true, bayMap := true, jointers := true, jmap := true, part := true, tb := true, boot := true, intake := true, gfx := true, disp := true, gw := true, aplic := true, reply := true }.union w = w) x0 s :
    Fr stIs w s (reborn x0 s) := by
  delta reborn
  rintro _ rfl
  exact Within.mono hw ⟨rfl, fun _ => rfl⟩

theorem frame_drawEpoch {w : Parts} (hw : ({ regs := true, freeCtr := true } : Parts).union w = w) s :
    Fr stIs w s (drawEpoch s) := by
  delta drawEpoch; exact (by split; rename_i r0 r1 e2; have gr1 := gofeq e2 (frame_takeFree (gle rfl hw) _); have hr1 : Fr stIs w s r1 := gr1; exact (gstep (frame_regPut (gle rfl hw) _ _ _) hr1))

theorem frame_programFlash {w : Parts} (hw : ({ boot := true } : Parts).union w = w) x0 s :
    Fr stIs w s (programFlash x0 s) := by
  delta programFlash; exact (gfold frefl (by exact fun p0 _ hp0 => (gstep (frame_flashWrite (gle rfl hw) _ _ _) hp0)))

theorem frame_putKind {w : Parts} (hw : ({ regs := true } : Parts).union w = w) x0 s :
    Fr stIs w s (putKind x0 s) := by
  delta putKind; exact (frame_regPut (gle rfl hw) _ _ _)

theorem frame_putStraps {w : Parts} (hw : ({ regs := true } : Parts).union w = w) x0 x1 s :
    Fr stIs w s (putStraps x0 x1 s) := by
  delta putStraps; exact (gstep (frame_regSetFld (gle rfl hw) _ _ _ _ _) (frame_regPut (gle rfl hw) _ _ _))

theorem frame_appReset {w : Parts} (hw : ({ regs := true, staging := true, latches := true, imsic := true, aplic := true } : Parts).union w = w) s :
    Fr stIs w s (appReset s) := by
  delta appReset; exact (gstep (frame_regSetFld (gle rfl hw) _ _ _ _ _) (upd_staging_latches_imsic_aplic frefl (gle rfl hw)))

theorem frame_execRootPllLockLoss {w : Parts} (hw : ({ regs := true } : Parts).union w = w) s :
    Fr nextIs w s (execRootPllLockLoss s) := by
  delta execRootPllLockLoss; exact (gnext (frame_regSetFld (gle rfl hw) _ _ _ _ _))

theorem frame_coldReset {w : Parts} (hw : { Parts.handReach with staging := true, latches := true, bayMap := true, jointers := true, jmap := true, part := true, tb := true, boot := true, intake := true, gfx := true, disp := true, gw := true, aplic := true, reply := true }.union w = w) x0 x1 x2 x3 s :
    Fr stIs w s (coldReset x0 x1 x2 x3 s) := by
  delta coldReset; exact (gstep (frame_bootGo (gle rfl hw) _ _) (gstep (frame_putStraps (gle rfl hw) _ _ _) (gstep (frame_putKind (gle rfl hw) _ _) (gstep (frame_programFlash (gle rfl hw) _ _) (frame_reborn (gle rfl hw) _ _)))))

theorem frame_bootStep3 {w : Parts} (hw : ({ regs := true, boot := true, freeCtr := true } : Parts).union w = w) s :
    Fr stIs w s (bootStep3 s) := by
  delta bootStep3; exact (by extract_lets +onlyGivenNames -merge -useContext -underBinder v0; have hv0 : Fr stIs w s v0 := (gstep (frame_takeRecord (gle rfl hw) _) (frame_drawEpoch (gle rfl hw) _)); clear_value v0; exact (gite (gstep (frame_bootStop (gle rfl hw) _ _ _) hv0) (gstep (frame_bootGo (gle rfl hw) _ _) hv0)))

theorem frame_bootLocked {w : Parts} (hw : ({ regs := true, boot := true, freeCtr := true } : Parts).union w = w) s :
    Fr stIs w s (bootLocked s) := by
  delta bootLocked; exact (gstep (frame_bootStep3 (gle rfl hw) _) (gstep (frame_loadFuses (gle rfl hw) _) (frame_regSetFld (gle rfl hw) _ _ _ _ _)))

theorem frame_execRootPllLockTimeout {w : Parts} (hw : ({ regs := true } : Parts).union w = w) s :
    Fr nextIs w s (execRootPllLockTimeout s) := by
  delta execRootPllLockTimeout; exact (gnext (gite (frame_bootStop (gle rfl hw) _ _ _) frefl))

theorem frame_execPowerOnReset {w : Parts} (hw : { Parts.handReach with staging := true, latches := true, bayMap := true, jointers := true, jmap := true, part := true, tb := true, boot := true, intake := true, gfx := true, disp := true, gw := true, aplic := true, reply := true }.union w = w) x0 x1 x2 x3 s :
    Fr nextIs w s (execPowerOnReset x0 x1 x2 x3 s) := by
  delta execPowerOnReset; exact (gnext (frame_coldReset (gle rfl hw) _ _ _ _ _))

theorem frame_warmReset {w : Parts} (hw : { Parts.handReach with staging := true, latches := true, bayMap := true, jointers := true, jmap := true, part := true, tb := true, boot := true, intake := true, gfx := true, disp := true, gw := true, aplic := true, reply := true, freeCtr := true }.union w = w) x0 s :
    Fr stIs w s (warmReset x0 s) := by
  delta warmReset; exact (by extract_lets +onlyGivenNames -merge -useContext -underBinder a0 v1 v2 v3; have ha0 : Fr stIs w s a0 := (frame_reborn (gle rfl hw) _ _); clear_value a0; have hv1 : Fr stIs w s v1 := (upd_memf_safety ha0 (gle rfl hw)); clear_value v1; have hv2 : Fr stIs w s v2 := (gfold hv1 (by exact fun p4 _ hp4 => (gstep (frame_putMasked (gle rfl hw) _ _ _ _) hp4))); clear_value v2; have hv3 : Fr stIs w s v3 := (gstep (frame_regSetFld (gle rfl hw) _ _ _ _ _) (gstep (frame_putKind (gle rfl hw) _ _) hv2)); clear_value v3; exact (gite (gstep (frame_bootStep3 (gle rfl hw) _) hv3) (gstep (frame_bootGo (gle rfl hw) _ _) hv3)))

theorem frame_execRootPllLock {w : Parts} (hw : ({ regs := true, boot := true, freeCtr := true } : Parts).union w = w) s :
    Fr nextIs w s (execRootPllLock s) := by
  delta execRootPllLock; exact (gnext (gite (frame_bootLocked (gle rfl hw) _) (frame_regSetFld (gle rfl hw) _ _ _ _ _)))

theorem frame_execWrstNReset {w : Parts} (hw : { Parts.handReach with staging := true, latches := true, bayMap := true, jointers := true, jmap := true, part := true, tb := true, boot := true, intake := true, gfx := true, disp := true, gw := true, aplic := true, reply := true, freeCtr := true }.union w = w) s :
    Fr nextIs w s (execWrstNReset s) := by
  delta execWrstNReset; exact (gnext (frame_warmReset (gle rfl hw) _ _))

theorem frame_resetWrite {w : Parts} (hw : { Parts.handReach with staging := true, latches := true, bayMap := true, jointers := true, jmap := true, part := true, tb := true, boot := true, intake := true, gfx := true, disp := true, gw := true, aplic := true, reply := true, freeCtr := true }.union w = w) x0 s :
    Fr stIs w s (resetWrite x0 s) := by
  delta resetWrite; exact (frame_tryWrite (gle rfl hw) (by exact fun y0 => (gite frefl (gite (frame_warmReset (gle rfl hw) _ _) (gite (frame_appReset (gle rfl hw) _) frefl)))) _ _ _)

theorem frame_execCrpRstCtrlApp {w : Parts} (hw : { Parts.handReach with staging := true, latches := true, bayMap := true, jointers := true, jmap := true, part := true, tb := true, boot := true, intake := true, gfx := true, disp := true, gw := true, aplic := true, reply := true, freeCtr := true }.union w = w) x0 x1 s :
    Fr nextIs w s (execCrpRstCtrlApp x0 x1 s) := by
  delta execCrpRstCtrlApp; exact (gnext (frame_asInit (gle rfl hw) (by exact fun y0 => (frame_resetWrite (gle rfl hw) _ _)) _ _ _ _))

theorem frame_execCrpRstCtrlWarm {w : Parts} (hw : { Parts.handReach with staging := true, latches := true, bayMap := true, jointers := true, jmap := true, part := true, tb := true, boot := true, intake := true, gfx := true, disp := true, gw := true, aplic := true, reply := true, freeCtr := true }.union w = w) x0 x1 s :
    Fr nextIs w s (execCrpRstCtrlWarm x0 x1 s) := by
  delta execCrpRstCtrlWarm; exact (gnext (frame_asInit (gle rfl hw) (by exact fun y0 => (frame_resetWrite (gle rfl hw) _ _)) _ _ _ _))

theorem frame_freeRecord {w : Parts} (hw : ({ freeCtr := true } : Parts).union w = w) x0 s :
    Fr (via stIs) w s (freeRecord x0 s) := by
  induction x0 generalizing s with
  | zero => rw [freeRecord.eq_1]; exact (gmk frefl)
  | succ k ih => rw [freeRecord.eq_2]; exact (by split; rename_i r0 r1 e5; have gr1 := gofeq e5 (frame_takeFree (gle rfl hw) _); have hr1 : Fr stIs w s r1 := gr1; exact (by split; rename_i r2 r3 e4; have gr3 := gofeq e4 (gstep (ih _) hr1); have hr3 : Fr stIs w s r3 := gr3; exact (gmk hr3)))

theorem frame_jtagIr {w : Parts} (hw : ({ boot := true } : Parts).union w = w) x0 x1 s :
    Fr stIs w s (jtagIr x0 x1 s) := by
  delta jtagIr; exact (upd_boot frefl (gle rfl hw))

theorem frame_fuseProg {w : Parts} (hw : ({ boot := true, repair := true } : Parts).union w = w) x0 s :
    Fr stIs w s (fuseProg x0 s) := by
  delta fuseProg; exact (by split; (focus (exact (by split; (focus (exact (upd_boot frefl (gle rfl hw)))); (focus (exact frefl))))); (focus (exact (upd_repair frefl (gle rfl hw)))); (focus (exact (upd_repair frefl (gle rfl hw)))); (focus (exact (upd_repair frefl (gle rfl hw)))); (focus (exact (upd_repair frefl (gle rfl hw)))))

theorem frame_execSamplePreload {w : Parts} (hw : ({ boot := true } : Parts).union w = w) x0 x1 s :
    Fr nextIs w s (execSamplePreload x0 x1 s) := by
  delta execSamplePreload; exact (by extract_lets +onlyGivenNames -merge -useContext -underBinder v0; have hv0 : Fr stIs w s v0 := (frame_jtagIr (gle rfl hw) _ _ _); clear_value v0; exact (gnext (upd_boot hv0 (gle rfl hw))))

theorem frame_keyProg {w : Parts} (hw : ({ regs := true, boot := true, sealU := true } : Parts).union w = w) x0 x1 x2 x3 s :
    Fr stIs w s (keyProg x0 x1 x2 x3 s) := by
  delta keyProg; exact (gite (by extract_lets +onlyGivenNames -merge -useContext -underBinder v0; clear_value v0; exact (gite frefl (upd_boot frefl (gle rfl hw)))) (gite frefl (by extract_lets +onlyGivenNames -merge -useContext -underBinder a1 v2; clear_value a1; have hv2 : Fr stIs w s v2 := (upd_sealU frefl (gle rfl hw)); clear_value v2; exact (gstep (frame_putMasked (gle rfl hw) _ _ _ _) hv2))))

theorem frame_jtagBypass {w : Parts} (hw : ({ boot := true } : Parts).union w = w) s :
    Fr stIs w s (jtagBypass s) := by
  delta jtagBypass; exact (frame_jtagIr (gle rfl hw) _ _ _)

theorem frame_execIdcode {w : Parts} (hw : ({ boot := true, reply := true } : Parts).union w = w) s :
    Fr nextIs w s (execIdcode s) := by
  delta execIdcode; exact (gnext (by extract_lets +onlyGivenNames -merge -useContext -underBinder v0; have hv0 : Fr stIs w s v0 := (frame_jtagIr (gle rfl hw) _ _ _); clear_value v0; exact (upd_reply hv0 (gle rfl hw))))

theorem frame_jtagPrivate {w : Parts} (hw : ({ boot := true } : Parts).union w = w) {x2 : Sys2Proof.Machine.State → Sys2Proof.Machine.State} (hf2 : ∀ q0, Fr stIs w q0 (x2 q0)) x0 x1 s :
    Fr stIs w s (jtagPrivate x0 x1 x2 s) := by
  delta jtagPrivate; exact (by split; (focus (exact (gite (gstep (hf2 _) (frame_jtagIr (gle rfl hw) _ _ _)) (frame_jtagBypass (gle rfl hw) _)))); (focus (exact (frame_jtagBypass (gle rfl hw) _))))

theorem frame_execTapReset {w : Parts} (hw : ({ boot := true } : Parts).union w = w) s :
    Fr nextIs w s (execTapReset s) := by
  delta execTapReset; exact (gnext (frame_jtagIr (gle rfl hw) _ _ _))

theorem frame_scribePattern {w : Parts} (hw : ({ safety := true, boot := true } : Parts).union w = w) s :
    Fr stIs w s (scribePattern s) := by
  delta scribePattern; exact (gite (by extract_lets +onlyGivenNames -merge -useContext -underBinder v0; have hv0 : Fr stIs w s v0 := (frame_phaseBoundary (gle rfl hw) _); clear_value v0; exact (upd_safety_boot hv0 (gle rfl hw))) frefl)

theorem frame_execDebug {w : Parts} (hw : ({ boot := true } : Parts).union w = w) s :
    Fr nextIs w s (execDebug s) := by
  delta execDebug; exact (gnext (frame_jtagPrivate (gle rfl hw) (by exact fun y0 => frefl) _ _ _))

theorem frame_jtagPins {w : Parts} (hw : ({ boot := true } : Parts).union w = w) x0 x1 x2 s :
    Fr stIs w s (jtagPins x0 x1 x2 s) := by
  delta jtagPins; exact (gite (frame_jtagIr (gle rfl hw) _ _ _) (frame_jtagBypass (gle rfl hw) _))

theorem frame_execHighz {w : Parts} (hw : ({ boot := true } : Parts).union w = w) x0 s :
    Fr nextIs w s (execHighz x0 s) := by
  delta execHighz; exact (gnext (frame_jtagPins (gle rfl hw) _ _ _ _))

theorem frame_execExtest {w : Parts} (hw : ({ boot := true } : Parts).union w = w) x0 s :
    Fr nextIs w s (execExtest x0 s) := by
  delta execExtest; exact (gnext (frame_jtagPins (gle rfl hw) _ _ _ _))

theorem frame_execBypass {w : Parts} (hw : ({ boot := true } : Parts).union w = w) s :
    Fr nextIs w s (execBypass s) := by
  delta execBypass; exact (gnext (frame_jtagBypass (gle rfl hw) _))

theorem frame_execIslandLoad {w : Parts} (hw : ({ boot := true } : Parts).union w = w) x0 x1 s :
    Fr nextIs w s (execIslandLoad x0 x1 s) := by
  delta execIslandLoad; exact (gnext (frame_jtagPrivate (gle rfl hw) (by exact fun y0 => (upd_boot frefl (gle rfl hw))) _ _ _))

theorem frame_execLifecycle {w : Parts} (hw : ({ boot := true } : Parts).union w = w) x0 s :
    Fr nextIs w s (execLifecycle x0 s) := by
  delta execLifecycle; exact (gnext (frame_jtagPrivate (gle rfl hw) (by exact fun y0 => (gite (frame_burnLife (gle rfl hw) _ _) frefl)) _ _ _))

theorem frame_execFuseProg {w : Parts} (hw : ({ boot := true, repair := true } : Parts).union w = w) x0 s :
    Fr nextIs w s (execFuseProg x0 s) := by
  delta execFuseProg; exact (gite (gnext (frame_jtagPrivate (gle rfl hw) (by exact fun y0 => (frame_fuseProg (gle rfl hw) _ _)) _ _ _)) gfault)

theorem frame_execKeyProg {w : Parts} (hw : ({ regs := true, boot := true, sealU := true } : Parts).union w = w) x0 x1 x2 x3 s :
    Fr nextIs w s (execKeyProg x0 x1 x2 x3 s) := by
  delta execKeyProg; exact (gite (gnext (frame_jtagPrivate (gle rfl hw) (by exact fun y0 => (frame_keyProg (gle rfl hw) _ _ _ _ _)) _ _ _)) gfault)

theorem frame_execScribePatternStart {w : Parts} (hw : ({ safety := true, boot := true } : Parts).union w = w) s :
    Fr nextIs w s (execScribePatternStart s) := by
  delta execScribePatternStart; exact (gnext (frame_scribePattern (gle rfl hw) _))

theorem frame_execClamp {w : Parts} (hw : ({ boot := true } : Parts).union w = w) x0 s :
    Fr nextIs w s (execClamp x0 s) := by
  delta execClamp; exact (gnext (frame_jtagPins (gle rfl hw) _ _ _ _))

theorem frame_fwDone {w : Parts} (hw : { Parts.faultReach with boot := true, freeCtr := true }.union w = w) x0 s :
    Fr stIs w s (fwDone x0 s) := by
  delta fwDone; exact (by split; (focus (exact frefl)); (focus (exact (by extract_lets +onlyGivenNames -merge -useContext -underBinder v0 a1 v2; clear_value v0 a1; have hv2 : Fr stIs w s v2 := (upd_boot frefl (gle rfl hw)); clear_value v2; exact (gite (by extract_lets +onlyGivenNames -merge -useContext -underBinder v3 v4; clear_value v3; have hv4 : Fr stIs w s v4 := (gstep (frame_flashWrite (gle rfl hw) _ _ _) hv2); clear_value v4; exact (gstep (frame_sealDone (gle rfl hw) _ _ _) (upd_boot hv4 (gle rfl hw)))) (by split; rename_i r5 r6 e7; have gr6 := gofeq e7 (gstep (frame_freeRecord (gle rfl hw) _ _) hv2); have hr6 : Fr stIs w s r6 := gr6; exact (gstep (frame_sealDone (gle rfl hw) _ _ _) (gstep (frame_flashWrite (gle rfl hw) _ _ _) hr6))))))))

theorem frame_scribeEnable {w : Parts} (hw : { Parts.faultReach with boot := true }.union w = w) x0 s :
    Fr stIs w s (scribeEnable x0 s) := by
  delta scribeEnable; exact (gite (frame_sealDone (gle rfl hw) _ _ _) (by extract_lets +onlyGivenNames -merge -useContext -underBinder v0; have hv0 : Fr stIs w s v0 := (frame_raise (gle rfl hw) _ _ _ _); clear_value v0; exact (gite (gstep (frame_sealDone (gle rfl hw) _ _ _) hv0) (by extract_lets +onlyGivenNames -merge -useContext -underBinder a1 v2; clear_value a1; have hv2 : Fr stIs w s v2 := (upd_boot hv0 (gle rfl hw)); clear_value v2; exact (gite (upd_safety_boot hv2 (gle rfl hw)) hv2)))))

theorem frame_scribeDrivers {w : Parts} (hw : { Parts.faultReach with boot := true }.union w = w) s :
    Fr stIs w s (scribeDrivers s) := by
  delta scribeDrivers; exact (gite (gfold (gstep (frame_regSetFld (gle rfl hw) _ _ _ _ _) (upd_boot frefl (gle rfl hw))) (by exact fun p0 _ hp0 => (gstep (frame_sealDone (gle rfl hw) _ _ _) hp0))) frefl)

theorem frame_fwAccept {w : Parts} (hw : { Parts.faultReach with boot := true }.union w = w) x0 x1 s :
    Fr stIs w s (fwAccept x0 x1 s) := by
  delta fwAccept; exact (by extract_lets +onlyGivenNames -merge -useContext -underBinder v0; clear_value v0; exact (by split; (focus (exact (upd_boot frefl (gle rfl hw)))); (focus (exact (frame_sealDone (gle rfl hw) _ _ _)))))

theorem frame_execScribeDriverEnable {w : Parts} (hw : { Parts.faultReach with boot := true }.union w = w) s :
    Fr nextIs w s (execScribeDriverEnable s) := by
  delta execScribeDriverEnable; exact (gnext (frame_scribeDrivers (gle rfl hw) _))

theorem frame_execFirmwareAccept {w : Parts} (hw : { Parts.faultReach with boot := true }.union w = w) x0 s :
    Fr nextIs w s (execFirmwareAccept x0 s) := by
  delta execFirmwareAccept; exact (gnext (frame_sealRun (gle rfl hw) (by exact fun y0 y1 => (frame_fwAccept (gle rfl hw) _ _ _)) _ _))

theorem frame_execFirmwareAcceptDone {w : Parts} (hw : { Parts.faultReach with boot := true, freeCtr := true }.union w = w) x0 s :
    Fr nextIs w s (execFirmwareAcceptDone x0 s) := by
  delta execFirmwareAcceptDone; exact (gnext (frame_fwDone (gle rfl hw) _ _))

theorem frame_execScribeEnable {w : Parts} (hw : { Parts.faultReach with boot := true }.union w = w) s :
    Fr nextIs w s (execScribeEnable s) := by
  delta execScribeEnable; exact (gnext (frame_sealRun (gle rfl hw) (by exact fun y0 y1 => (frame_scribeEnable (gle rfl hw) _ _)) _ _))

end Sys2Proof.Machine
end

