-- ==== Sys2Proof/Laws/FrameIo.lean ====
section
/-!
SUPPORT. The parts of the state that each operation may change: girts, the gateway, the camera intake and clocks.
-/

namespace Sys2Proof.Machine

theorem frame_girtPut {w : Parts} (hw : ({ part := true } : Parts).union w = w) s x1 x2 x3 x4 :
    Fr stIs w s (girtPut s x1 x2 x3 x4) := by
  delta girtPut; exact (upd_part frefl (gle rfl hw))

theorem frame_allGirts {w : Parts} (hw : ({} : Parts).union w = w) {x0 : ℕ → ℕ → ℕ → Sys2Proof.Machine.State → Sys2Proof.Machine.State} (hf0 : ∀ q0 q1 q2 q3, Fr stIs w q3 (x0 q0 q1 q2 q3)) s :
    Fr stIs w s (allGirts x0 s) := by
  delta allGirts; exact (gfold frefl (by exact fun p0 _ hp0 => (gstep (hf0 _ _ _ _) hp0)))

theorem frame_nextSlot {w : Parts} (hw : ({ part := true } : Parts).union w = w) s :
    Fr stIs w s (nextSlot s) := by
  delta nextSlot; exact (upd_part frefl (gle rfl hw))

theorem frame_markActive {w : Parts} (hw : ({ part := true } : Parts).union w = w) x0 s x2 :
    Fr stIs w s (markActive x0 s x2) := by
  delta markActive; exact (frame_girtPut (gle rfl hw) _ _ _ _ _)

theorem frame_girtMiss {w : Parts} (hw : ({ regs := true, part := true, imsic := true } : Parts).union w = w) x0 x1 x2 s :
    Fr stIs w s (girtMiss x0 x1 x2 s) := by
  delta girtMiss; exact (by extract_lets +onlyGivenNames -merge -useContext -underBinder v0 v1; clear_value v0; have hv1 : Fr stIs w s v1 := (frame_cntInc (gle rfl hw) _ _); clear_value v1; exact (gite hv1 (by extract_lets +onlyGivenNames -merge -useContext -underBinder v2 v3; have hv2 : Fr stIs w s v2 := (gstep (frame_girtPut (gle rfl hw) _ _ _ _ _) hv1); clear_value v2; have hv3 : Fr stIs w s v3 := (gstep (frame_regPut (gle rfl hw) _ _ _) hv2); clear_value v3; exact (gite (gstep (frame_msi (gle rfl hw) _ _ _) hv3) hv3))))

theorem frame_forfeit {w : Parts} (hw : ({ regs := true, part := true } : Parts).union w = w) x0 x1 x2 s :
    Fr stIs w s (forfeit x0 x1 x2 s) := by
  delta forfeit; exact (by extract_lets +onlyGivenNames -merge -useContext -underBinder v0; clear_value v0; exact (gite (gstep (frame_cntInc (gle rfl hw) _ _) (frame_girtPut (gle rfl hw) _ _ _ _ _)) frefl))

theorem frame_endSlot {w : Parts} (hw : ({ regs := true, part := true, imsic := true } : Parts).union w = w) x0 x1 s :
    Fr stIs w s (endSlot x0 x1 s) := by
  delta endSlot; exact (by split; (focus (exact (gite (frame_girtMiss (gle rfl hw) _ _ _ _) (frame_girtPut (gle rfl hw) _ _ _ _ _)))); (focus (exact frefl)))

theorem frame_chargeReq {w : Parts} (hw : ({ regs := true, part := true } : Parts).union w = w) x0 x1 s :
    Fr stIs w s (chargeReq x0 x1 s) := by
  delta chargeReq; exact (by extract_lets +onlyGivenNames -merge -useContext -underBinder v0 v1 v2 v3 v4 v5; clear_value v0 v1 v2 v3; have hv4 : Fr stIs w s v4 := (frame_girtPut (gle rfl hw) _ _ _ _ _); clear_value v4; have hv5 : Fr stIs w s v5 := (gite (gstep (frame_cntInc (gle rfl hw) _ _) hv4) hv4); clear_value v5; exact (gstep (frame_forfeit (gle rfl hw) _ _ _ _) hv5))

theorem frame_windowGirt {w : Parts} (hw : ({ regs := true, part := true, imsic := true } : Parts).union w = w) x0 x1 x2 s :
    Fr stIs w s (windowGirt x0 x1 x2 s) := by
  delta windowGirt; exact (by extract_lets +onlyGivenNames -merge -useContext -underBinder v0 v1 v2 v3 v4; clear_value v0 v1 v2 v3; have hv4 : Fr stIs w s v4 := (frame_girtPut (gle rfl hw) _ _ _ _ _); clear_value v4; exact (gite (gstep (frame_girtMiss (gle rfl hw) _ _ _ _) hv4) hv4))

theorem frame_openSlot {w : Parts} (hw : ({ regs := true, part := true } : Parts).union w = w) x0 s :
    Fr stIs w s (openSlot x0 s) := by
  delta openSlot; exact (by split; (focus (exact (gstep (frame_forfeit (gle rfl hw) _ _ _ _) (frame_girtPut (gle rfl hw) _ _ _ _ _)))); (focus (exact frefl)))

theorem frame_grant {w : Parts} (hw : ({ regs := true, part := true } : Parts).union w = w) x0 x1 s :
    Fr stIs w s (grant x0 x1 s) := by
  delta grant; exact (by extract_lets +onlyGivenNames -merge -useContext -underBinder v0 v1; clear_value v0; have hv1 : Fr stIs w s v1 := (gfold frefl (by exact fun p2 _ hp2 => (gstep (frame_markActive (gle rfl hw) _ _ _) hp2))); clear_value v1; exact (by split; (focus (exact (by extract_lets +onlyGivenNames -merge -useContext -underBinder v3; have hv3 : Fr stIs w s v3 := (gstep (frame_chargeReq (gle rfl hw) _ _ _) hv1); clear_value v3; exact (upd_part hv3 (gle rfl hw))))); (focus (exact hv1))))

theorem frame_execGirtWindowStart {w : Parts} (hw : ({ regs := true, part := true, imsic := true } : Parts).union w = w) s :
    Fr nextIs w s (execGirtWindowStart s) := by
  delta execGirtWindowStart; exact (gnext (gite (gstep (frame_allGirts (gle rfl hw) (by exact fun y0 y1 y2 y3 => (frame_windowGirt (gle rfl hw) _ _ _ _)) _) (upd_part frefl (gle rfl hw))) frefl))

theorem frame_execGirtGrant {w : Parts} (hw : ({ regs := true, part := true } : Parts).union w = w) x0 x1 s :
    Fr nextIs w s (execGirtGrant x0 x1 s) := by
  delta execGirtGrant; exact (gite (gnext (frame_grant (gle rfl hw) _ _ _)) gfault)

theorem frame_slotBegins {w : Parts} (hw : { Parts.faultReach with part := true }.union w = w) s :
    Fr stIs w s (slotBegins s) := by
  delta slotBegins; exact (gstep (frame_openSlot (gle rfl hw) _ _) (gstep (frame_openSlot (gle rfl hw) _ _) (gite (frame_takeConfig (gle rfl hw) _ _) frefl)))

theorem frame_execWheelSlotStart {w : Parts} (hw : { Parts.faultReach with part := true }.union w = w) x0 x1 s :
    Fr nextIs w s (execWheelSlotStart x0 x1 s) := by
  delta execWheelSlotStart; exact (gnext (gite (gstep (frame_slotBegins (gle rfl hw) _) (gstep (frame_nextSlot (gle rfl hw) _) (gstep (frame_endSlot (gle rfl hw) _ _ _) (frame_endSlot (gle rfl hw) _ _ _)))) frefl))

theorem frame_rxPop {w : Parts} (hw : ({ gw := true, reply := true } : Parts).union w = w) x0 s :
    Fr stIs w s (rxPop x0 s) := by
  delta rxPop; exact (by split; (focus (exact (upd_reply frefl (gle rfl hw)))); (focus (exact (upd_gw_reply frefl (gle rfl hw)))))

theorem frame_tasPut {w : Parts} (hw : ({ gw := true } : Parts).union w = w) s x1 x2 :
    Fr stIs w s (tasPut s x1 x2) := by
  delta tasPut; exact (upd_gw frefl (gle rfl hw))

theorem frame_gateStep {w : Parts} (hw : ({ gw := true } : Parts).union w = w) x0 s :
    Fr stIs w s (gateStep x0 s) := by
  delta gateStep; exact (by extract_lets +onlyGivenNames -merge -useContext -underBinder v0 v1; clear_value v0 v1; exact (gite frefl (frame_tasPut (gle rfl hw) _ _ _)))

theorem frame_canSend {w : Parts} (hw : ({ regs := true, gw := true } : Parts).union w = w) x0 s :
    Fr stIs w s (canSend x0 s) := by
  delta canSend; exact (by split; (focus (exact frefl)); (focus (exact (by extract_lets +onlyGivenNames -merge -useContext -underBinder a0 v1; clear_value a0; have hv1 : Fr stIs w s v1 := (upd_gw frefl (gle rfl hw)); clear_value v1; exact (gstep (frame_regSetFld (gle rfl hw) _ _ _ _ _) hv1)))))

theorem frame_canError {w : Parts} (hw : ({ regs := true } : Parts).union w = w) x0 x1 x2 s :
    Fr stIs w s (canError x0 x1 x2 s) := by
  delta canError; exact (by extract_lets +onlyGivenNames -merge -useContext -underBinder v0; clear_value v0; exact (gite (by extract_lets +onlyGivenNames -merge -useContext -underBinder v1; clear_value v1; exact (gite (gstep (frame_regSetFld (gle rfl hw) _ _ _ _ _) (frame_regSetFld (gle rfl hw) _ _ _ _ _)) (frame_regSetFld (gle rfl hw) _ _ _ _ _))) (frame_regSetFld (gle rfl hw) _ _ _ _ _)))

theorem frame_takeOver {w : Parts} (hw : ({ regs := true, gw := true } : Parts).union w = w) x0 s :
    Fr stIs w s (takeOver x0 s) := by
  delta takeOver; exact (by extract_lets +onlyGivenNames -merge -useContext -underBinder v0; clear_value v0; exact (by split; (focus (exact frefl)); (focus (exact (gite frefl (gite (gstep (frame_regSetFld (gle rfl hw) _ _ _ _ _) (frame_tasPut (gle rfl hw) _ _ _)) (gite (gstep (frame_regSetFld (gle rfl hw) _ _ _ _ _) (frame_tasPut (gle rfl hw) _ _ _)) frefl)))))))

theorem frame_execGateEntryStart {w : Parts} (hw : ({ gw := true } : Parts).union w = w) x0 s :
    Fr nextIs w s (execGateEntryStart x0 s) := by
  delta execGateEntryStart; exact (gite (gnext (frame_gateStep (gle rfl hw) _ _)) gfault)

theorem frame_execCanBusError {w : Parts} (hw : ({ regs := true } : Parts).union w = w) x0 x1 x2 s :
    Fr nextIs w s (execCanBusError x0 x1 x2 s) := by
  delta execCanBusError; exact (gite (gnext (gite (frame_canError (gle rfl hw) _ _ _ _) frefl)) gfault)

theorem frame_execCanFrameTransmit {w : Parts} (hw : ({ regs := true, gw := true } : Parts).union w = w) x0 s :
    Fr nextIs w s (execCanFrameTransmit x0 s) := by
  delta execCanFrameTransmit; exact (gite (gnext (frame_canSend (gle rfl hw) _ _)) gfault)

theorem frame_canRecover {w : Parts} (hw : ({ regs := true } : Parts).union w = w) x0 s :
    Fr stIs w s (canRecover x0 s) := by
  delta canRecover; exact (by extract_lets +onlyGivenNames -merge -useContext -underBinder v0; clear_value v0; exact (gstep (frame_regSetFld (gle rfl hw) _ _ _ _ _) (gstep (frame_regSetFld (gle rfl hw) _ _ _ _ _) (frame_regSetFld (gle rfl hw) _ _ _ _ _))))

theorem frame_ruleCtrl {w : Parts} (hw : ({ regs := true, gw := true } : Parts).union w = w) x0 s :
    Fr stIs w s (ruleCtrl x0 s) := by
  delta ruleCtrl; exact (by extract_lets +onlyGivenNames -merge -useContext -underBinder v0; clear_value v0; exact (gite (frame_cntInc (gle rfl hw) _ _) (frame_tryWrite (gle rfl hw) (by exact fun y1 => (by extract_lets +onlyGivenNames -merge -useContext -underBinder v2; have hv2 : Fr stIs w y1 v2 := (frame_storeFields (gle rfl hw) _ _ _); clear_value v2; exact (gite hv2 (gite (gstep (frame_regSetFld (gle rfl hw) _ _ _ _ _) hv2) (by extract_lets +onlyGivenNames -merge -useContext -underBinder v3; have hv3 : Fr stIs w y1 v3 := (gstep (frame_regSetFld (gle rfl hw) _ _ _ _ _) hv2); clear_value v3; exact (upd_gw hv3 (gle rfl hw))))))) _ _ _)))

theorem frame_canReceived {w : Parts} (hw : ({ regs := true } : Parts).union w = w) x0 s :
    Fr stIs w s (canReceived x0 s) := by
  delta canReceived; exact (by extract_lets +onlyGivenNames -merge -useContext -underBinder v0; clear_value v0; exact (frame_regSetFld (gle rfl hw) _ _ _ _ _))

theorem frame_execPortLinkChange {w : Parts} (hw : ({ regs := true } : Parts).union w = w) x0 x1 s :
    Fr nextIs w s (execPortLinkChange x0 x1 s) := by
  delta execPortLinkChange; exact (gite (gnext (gite (frame_regSetFld (gle rfl hw) _ _ _ _ _) frefl)) gfault)

theorem frame_tasCtrl {w : Parts} (hw : ({ regs := true, gw := true } : Parts).union w = w) x0 x1 s :
    Fr stIs w s (tasCtrl x0 x1 s) := by
  delta tasCtrl; exact (by extract_lets +onlyGivenNames -merge -useContext -underBinder v0; clear_value v0; exact (frame_tryWrite (gle rfl hw) (by exact fun y1 => (by extract_lets +onlyGivenNames -merge -useContext -underBinder v2; have hv2 : Fr stIs w y1 v2 := (frame_storeFields (gle rfl hw) _ _ _); clear_value v2; exact (gite hv2 (by extract_lets +onlyGivenNames -merge -useContext -underBinder v3; clear_value v3; exact (gstep (frame_regSetFld (gle rfl hw) _ _ _ _ _) (gstep (frame_tasPut (gle rfl hw) _ _ _) hv2)))))) _ _ _))

theorem frame_execGateListTakeover {w : Parts} (hw : ({ regs := true, gw := true } : Parts).union w = w) x0 s :
    Fr nextIs w s (execGateListTakeover x0 s) := by
  delta execGateListTakeover; exact (gite (gnext (frame_takeOver (gle rfl hw) _ _)) gfault)

theorem frame_hostSend {w : Parts} (hw : ({ regs := true, staging := true, gw := true } : Parts).union w = w) x0 x1 x2 s :
    Fr stIs w s (hostSend x0 x1 x2 s) := by
  delta hostSend; exact (gite frefl (frame_tryWrite (gle rfl hw) (by exact fun y0 => (gite (frame_regSetFld (gle rfl hw) _ _ _ _ _) (by extract_lets +onlyGivenNames -merge -useContext -underBinder v1 v2 v3 v4; clear_value v1 v2; have hv3 : Fr stIs w y0 v3 := (frame_commitPair (gle rfl hw) _ _ _); clear_value v3; have hv4 : Fr stIs w y0 v4 := (upd_staging hv3 (gle rfl hw)); clear_value v4; exact (upd_gw hv4 (gle rfl hw))))) _ _ _))

theorem frame_execCanBusoffRecovery {w : Parts} (hw : ({ regs := true } : Parts).union w = w) x0 s :
    Fr nextIs w s (execCanBusoffRecovery x0 s) := by
  delta execCanBusoffRecovery; exact (gite (gnext (gite (frame_canRecover (gle rfl hw) _ _) frefl)) gfault)

theorem frame_egressSend {w : Parts} (hw : ({ regs := true, tb := true, gw := true } : Parts).union w = w) x0 s :
    Fr stIs w s (egressSend x0 s) := by
  delta egressSend; exact (by split; (focus (exact frefl)); (focus (exact (by split; (focus (exact frefl)); (focus (exact (gstep (frame_ptpStamp (gle rfl hw) _ _ _ _) (upd_gw frefl (gle rfl hw)))))))))

theorem frame_execEgressFrameSend {w : Parts} (hw : ({ regs := true, tb := true, gw := true } : Parts).union w = w) x0 s :
    Fr nextIs w s (execEgressFrameSend x0 s) := by
  delta execEgressFrameSend; exact (gite (gnext (frame_egressSend (gle rfl hw) _ _)) gfault)

theorem frame_ruleBad {w : Parts} (hw : Parts.faultReach.union w = w) x0 s :
    Fr stIs w s (ruleBad x0 s) := by
  delta ruleBad; exact (gstep (frame_raise (gle rfl hw) _ _ _ _) (gstep (frame_regSetFld (gle rfl hw) _ _ _ _ _) (frame_regSetFld (gle rfl hw) _ _ _ _ _)))

theorem frame_ruleCommit {w : Parts} (hw : { Parts.faultReach with gw := true }.union w = w) x0 s :
    Fr stIs w s (ruleCommit x0 s) := by
  delta ruleCommit; exact (by extract_lets +onlyGivenNames -merge -useContext -underBinder a0 v1; clear_value a0; have hv1 : Fr stIs w s v1 := (gstep (frame_regSetFld (gle rfl hw) _ _ _ _ _) (upd_gw frefl (gle rfl hw))); clear_value v1; exact (by split; (focus (rename_i m2 em2; have gm2 := gofeq em2 (gstep (frame_unitRead (gle rfl hw) _ _ _ _ _ _) hv1); have hm2 : Fr stIs w s m2 := gm2; exact hm2)); (focus (rename_i m3 em3; have gm3 := gofeq em3 (gstep (frame_unitRead (gle rfl hw) _ _ _ _ _ _) hv1); have hm3 : Fr stIs w s m3 := gm3; exact (gfold hm3 (by exact fun p4 _ hp4 => (by extract_lets +onlyGivenNames -merge -useContext -underBinder v5 a6 v7; clear_value v5 a6; have hv7 : Fr stIs w s v7 := (upd_gw hp4 (gle rfl hw)); clear_value v7; exact (gite hv7 (gstep (frame_ruleBad (gle rfl hw) _ _) hv7)))))))))

theorem frame_execTasCommit {w : Parts} (hw : { Parts.faultReach with gw := true, reply := true }.union w = w) x0 x1 x2 s :
    Fr nextIs w s (execTasCommit x0 x1 x2 s) := by
  delta execTasCommit; exact (gite (gnext (frame_asInit (gle rfl hw) (by exact fun y0 => (frame_tasCtrl (gle rfl hw) _ _ _)) _ _ _ _)) gfault)

theorem frame_execGwRxHeadRead {w : Parts} (hw : { Parts.faultReach with gw := true, reply := true }.union w = w) x0 x1 s :
    Fr nextIs w s (execGwRxHeadRead x0 x1 s) := by
  delta execGwRxHeadRead; exact (gite (gnext (frame_asInit (gle rfl hw) (by exact fun y0 => (frame_rxPop (gle rfl hw) _ _)) _ _ _ _)) gfault)

theorem frame_execGwTxCmd {w : Parts} (hw : { Parts.faultReach with staging := true, gw := true, reply := true }.union w = w) x0 x1 x2 s :
    Fr nextIs w s (execGwTxCmd x0 x1 x2 s) := by
  delta execGwTxCmd; exact (gite (gnext (frame_asInit (gle rfl hw) (by exact fun y0 => (frame_hostSend (gle rfl hw) _ _ _ _)) _ _ _ _)) gfault)

theorem frame_execGwRuleLoadGo {w : Parts} (hw : { Parts.faultReach with gw := true, reply := true }.union w = w) x0 x1 s :
    Fr nextIs w s (execGwRuleLoadGo x0 x1 s) := by
  delta execGwRuleLoadGo; exact (gnext (frame_asInit (gle rfl hw) (by exact fun y0 => (frame_ruleCtrl (gle rfl hw) _ _)) _ _ _ _))

theorem frame_execGwRuleLoadCommit {w : Parts} (hw : { Parts.faultReach with gw := true }.union w = w) s :
    Fr nextIs w s (execGwRuleLoadCommit s) := by
  delta execGwRuleLoadCommit; exact (gnext (by split; (focus (exact (frame_ruleCommit (gle rfl hw) _ _))); (focus (exact frefl))))

theorem frame_hostProcess {w : Parts} (hw : { Parts.faultReach with gw := true }.union w = w) x0 s :
    Fr stIs w s (hostProcess x0 s) := by
  delta hostProcess; exact (by split; (focus (exact frefl)); (focus (exact (by extract_lets +onlyGivenNames -merge -useContext -underBinder a0 v1; clear_value a0; have hv1 : Fr stIs w s v1 := (upd_gw frefl (gle rfl hw)); clear_value v1; exact (by split; (focus (rename_i m2 em2; have gm2 := gofeq em2 (gstep (frame_unitRead (gle rfl hw) _ _ _ _ _ _) hv1); have hm2 : Fr stIs w s m2 := gm2; exact (gstep (frame_gwHandle (gle rfl hw) _ _ _) hm2))); (focus (rename_i m3 em3; have gm3 := gofeq em3 (gstep (frame_unitRead (gle rfl hw) _ _ _ _ _ _) hv1); have hm3 : Fr stIs w s m3 := gm3; exact hm3)))))))

theorem frame_execHostFrameProcess {w : Parts} (hw : { Parts.faultReach with gw := true }.union w = w) x0 s :
    Fr nextIs w s (execHostFrameProcess x0 s) := by
  delta execHostFrameProcess; exact (gite (gnext (frame_hostProcess (gle rfl hw) _ _)) gfault)

theorem frame_execCanFrameReceive {w : Parts} (hw : { Parts.faultReach with gw := true }.union w = w) x0 x1 s :
    Fr nextIs w s (execCanFrameReceive x0 x1 s) := by
  delta execCanFrameReceive; exact (gite (gnext (gite (gstep (frame_gwHandle (gle rfl hw) _ _ _) (frame_canReceived (gle rfl hw) _ _)) frefl)) gfault)

theorem frame_ethReceive {w : Parts} (hw : { Parts.faultReach with tb := true, gw := true, freeCtr := true }.union w = w) x0 x1 s :
    Fr stIs w s (ethReceive x0 x1 s) := by
  delta ethReceive; exact (gite frefl (gite (frame_cntInc (gle rfl hw) _ _) (by extract_lets +onlyGivenNames -merge -useContext -underBinder v0; have hv0 : Fr stIs w s v0 := (frame_ptpStamp (gle rfl hw) _ _ _ _); clear_value v0; exact (by split; (focus (exact (gite (gstep (frame_sealArrive (gle rfl hw) _ _) hv0) hv0))); (focus (exact (gstep (frame_gwHandle (gle rfl hw) _ _ _) hv0)))))))

theorem frame_execEthernetFrameReceive {w : Parts} (hw : { Parts.faultReach with tb := true, gw := true, freeCtr := true }.union w = w) x0 x1 s :
    Fr nextIs w s (execEthernetFrameReceive x0 x1 s) := by
  delta execEthernetFrameReceive; exact (gite (gnext (frame_ethReceive (gle rfl hw) _ _ _)) gfault)

theorem frame_ctxPut {w : Parts} (hw : ({ intake := true } : Parts).union w = w) s x1 x2 :
    Fr stIs w s (ctxPut s x1 x2) := by
  delta ctxPut; exact (upd_intake frefl (gle rfl hw))

theorem frame_closeFrame {w : Parts} (hw : ({ intake := true } : Parts).union w = w) x0 x1 s :
    Fr stIs w s (closeFrame x0 x1 s) := by
  delta closeFrame; exact (by extract_lets +onlyGivenNames -merge -useContext -underBinder v0; clear_value v0; exact (by split; (focus (exact (frame_ctxPut (gle rfl hw) _ _ _))); (focus (exact frefl))))

theorem frame_opened {w : Parts} (hw : ({ intake := true } : Parts).union w = w) x0 x1 (s : Bool × State) :
    Fr stIs w s.2 (opened x0 x1 s) := by
  delta opened; exact frame_ctxPut (gle rfl hw) _ _ _

theorem frame_intakeWrite {w : Parts} (hw : Parts.faultReach.union w = w) x0 x1 x2 s :
    Fr (via stIs) w s (intakeWrite x0 x1 x2 s) := by
  delta intakeWrite; exact (frame_unitWrite (gle rfl hw) _ _ _ _ _ _)

theorem frame_handOver {w : Parts} (hw : { Parts.faultReach with intake := true }.union w = w) x0 x1 x2 x3 x4 s :
    Fr stIs w s (handOver x0 x1 x2 x3 x4 s) := by
  delta handOver; exact (by extract_lets +onlyGivenNames -merge -useContext -underBinder v0; clear_value v0; exact (by split; rename_i r1 r2 e8; have gr2 := gofeq e8 (gite (gmk frefl) (frame_intakeWrite (gle rfl hw) _ _ _ _)); have hr2 : Fr stIs w s r2 := gr2; exact (by extract_lets +onlyGivenNames -merge -useContext -underBinder v3 a4 v5 v6 v7; clear_value v3 a4; have hv5 : Fr stIs w s v5 := (gite (gstep (frame_ctxPut (gle rfl hw) _ _ _) hr2) hr2); clear_value v5; have hv6 : Fr stIs w s v6 := (gite (gstep (frame_pegSignal (gle rfl hw) _ _ _) hv5) hv5); clear_value v6; have hv7 : Fr stIs w s v7 := (gite (gstep (frame_msi (gle rfl hw) _ _ _) hv6) hv6); clear_value v7; exact (gite (gstep (frame_raise (gle rfl hw) _ _ _ _) hv7) hv7))))

theorem frame_openFrame {w : Parts} (hw : { Parts.faultReach with intake := true }.union w = w) x0 x1 x2 s :
    Fr stIs w s (openFrame x0 x1 x2 s) := by
  delta openFrame; exact gstep (frame_opened (gle rfl hw) _ _ _) (gsnd (frame_intakeWrite (gle rfl hw) _ _ _ _))

theorem frame_fillLines {w : Parts} (hw : Parts.faultReach.union w = w) x0 x1 x2 x3 s :
    Fr (via stIs) w s (fillLines x0 x1 x2 x3 s) := by
  induction x2 generalizing x0 x1 x3 s with
  | nil => rw [fillLines.eq_1]; exact (gmk frefl)
  | cons z l ih => rw [fillLines.eq_2]; exact (gite (gmk frefl) (by extract_lets +onlyGivenNames -merge -useContext -underBinder v0; clear_value v0; exact (by split; (focus (rename_i m1 em1; have gm1 := gofeq em1 (frame_intakeWrite (gle rfl hw) _ _ _ _); have hm1 : Fr stIs w s m1 := gm1; exact (by extract_lets +onlyGivenNames -merge -useContext -underBinder v2; clear_value v2; exact (gstep (ih _ _ _ _) hm1)))); (focus (rename_i m3 em3; have gm3 := gofeq em3 (frame_intakeWrite (gle rfl hw) _ _ _ _); have hm3 : Fr stIs w s m3 := gm3; exact (gmk hm3))))))

theorem frame_takeLine {w : Parts} (hw : { Parts.faultReach with intake := true, freeCtr := true }.union w = w) x0 x1 x2 s :
    Fr stIs w s (takeLine x0 x1 x2 s) := by
  delta takeLine; exact (by extract_lets +onlyGivenNames -merge -useContext -underBinder v0; clear_value v0; exact (by split; (focus (exact frefl)); (focus (exact (by extract_lets +onlyGivenNames -merge -useContext -underBinder v1 v2; clear_value v1 v2; exact (gite (frame_ctxPut (gle rfl hw) _ _ _) (gite (frame_ctxPut (gle rfl hw) _ _ _) (gite (frame_ctxPut (gle rfl hw) _ _ _) (by extract_lets +onlyGivenNames -merge -useContext -underBinder v3 v4; clear_value v3 v4; exact (by split; rename_i r5 r6 e13; have gr6 := gofeq e13 (frame_takeFree (gle rfl hw) _); have hr6 : Fr stIs w s r6 := gr6; exact (by extract_lets +onlyGivenNames -merge -useContext -underBinder v7 v8; clear_value v7 v8; exact (by split; rename_i r9 r10 e12; have gr10 := gofeq e12 (gstep (frame_intakeWrite (gle rfl hw) _ _ _ _) hr6); have hr10 : Fr stIs w s r10 := gr10; exact (by extract_lets +onlyGivenNames -merge -useContext -underBinder v11; clear_value v11; exact (gstep (frame_ctxPut (gle rfl hw) _ _ _) hr10))))))))))))))

theorem frame_finishFrame {w : Parts} (hw : { Parts.faultReach with intake := true, freeCtr := true }.union w = w) x0 s :
    Fr stIs w s (finishFrame x0 s) := by
  delta finishFrame; exact (by extract_lets +onlyGivenNames -merge -useContext -underBinder v0; clear_value v0; exact (by split; (focus (exact frefl)); (focus (exact (by split; rename_i r1 r2 e10; have gr2 := gofeq e10 (frame_takeFree (gle rfl hw) _); have hr2 : Fr stIs w s r2 := gr2; exact (by extract_lets +onlyGivenNames -merge -useContext -underBinder v3; clear_value v3; exact (by split; rename_i r4 r5 r6 e9; have gr6 := gofeq e9 (gstep (frame_fillLines (gle rfl hw) _ _ _ _ _) hr2); have hr6 : Fr stIs w s r6 := gr6; exact (by extract_lets +onlyGivenNames -merge -useContext -underBinder v7; clear_value v7; exact (by split <;> (exact (by extract_lets +onlyGivenNames -merge -useContext -underBinder v8; clear_value v8; exact (gstep (frame_handOver (gle rfl hw) _ _ _ _ _ _) (gstep (frame_ctxPut (gle rfl hw) _ _ _) hr6)))))))))))))

theorem frame_ctxDisable {w : Parts} (hw : ({ regs := true, intake := true } : Parts).union w = w) x0 s :
    Fr stIs w s (ctxDisable x0 s) := by
  delta ctxDisable; exact (gstep (frame_closeFrame (gle rfl hw) _ _ _) (frame_regPut (gle rfl hw) _ _ _))

theorem frame_takeEmbedded {w : Parts} (hw : ({ intake := true, freeCtr := true } : Parts).union w = w) x0 x1 s :
    Fr stIs w s (takeEmbedded x0 x1 s) := by
  delta takeEmbedded; exact (by extract_lets +onlyGivenNames -merge -useContext -underBinder v0; clear_value v0; exact (by split; (focus (exact (gite (by extract_lets +onlyGivenNames -merge -useContext -underBinder v1; clear_value v1; exact (by split; rename_i r2 r3 e5; have gr3 := gofeq e5 (frame_takeFree (gle rfl hw) _); have hr3 : Fr stIs w s r3 := gr3; exact (by extract_lets +onlyGivenNames -merge -useContext -underBinder v4; clear_value v4; exact (gstep (frame_ctxPut (gle rfl hw) _ _ _) hr3)))) frefl))); (focus (exact frefl))))

theorem frame_gapOne {w : Parts} (hw : ({ intake := true } : Parts).union w = w) x0 s :
    Fr stIs w s (gapOne x0 s) := by
  delta gapOne; exact (frame_ctxPut (gle rfl hw) _ _ _)

theorem frame_portStat {w : Parts} (hw : ({ regs := true } : Parts).union w = w) x0 x1 x2 s :
    Fr nextIs w s (portStat x0 x1 x2 s) := by
  delta portStat; exact (gite (gnext (gite (frame_regPut (gle rfl hw) _ _ _) frefl)) gfault)

theorem frame_execHsBurstEnd {w : Parts} (hw : ({ regs := true } : Parts).union w = w) x0 s :
    Fr nextIs w s (execHsBurstEnd x0 s) := by
  delta execHsBurstEnd; exact (frame_portStat (gle rfl hw) _ _ _ _)

theorem frame_execUlpsEntry {w : Parts} (hw : ({ regs := true } : Parts).union w = w) x0 s :
    Fr nextIs w s (execUlpsEntry x0 s) := by
  delta execUlpsEntry; exact (frame_portStat (gle rfl hw) _ _ _ _)

theorem frame_execDeskewSequence {w : Parts} (hw : ({ regs := true } : Parts).union w = w) x0 s :
    Fr nextIs w s (execDeskewSequence x0 s) := by
  delta execDeskewSequence; exact (frame_portStat (gle rfl hw) _ _ _ _)

theorem frame_frameTimeout {w : Parts} (hw : ({ intake := true } : Parts).union w = w) x0 s :
    Fr stIs w s (frameTimeout x0 s) := by
  delta frameTimeout; exact (by split; (focus (exact (by extract_lets +onlyGivenNames -merge -useContext -underBinder v0; clear_value v0; exact (gite (frame_closeFrame (gle rfl hw) _ _ _) frefl)))); (focus (exact frefl)))

theorem frame_execUlpsExit {w : Parts} (hw : ({ regs := true } : Parts).union w = w) x0 s :
    Fr nextIs w s (execUlpsExit x0 s) := by
  delta execUlpsExit; exact (frame_portStat (gle rfl hw) _ _ _ _)

theorem frame_execHsBurstStart {w : Parts} (hw : ({ regs := true } : Parts).union w = w) x0 s :
    Fr nextIs w s (execHsBurstStart x0 s) := by
  delta execHsBurstStart; exact (frame_portStat (gle rfl hw) _ _ _ _)

theorem frame_discardPacket {w : Parts} (hw : ({ regs := true } : Parts).union w = w) x0 s :
    Fr stIs w s (discardPacket x0 s) := by
  delta discardPacket; exact (frame_cntInc (gle rfl hw) _ _)

theorem frame_execCsiFrameTimeout {w : Parts} (hw : ({ intake := true } : Parts).union w = w) x0 s :
    Fr nextIs w s (execCsiFrameTimeout x0 s) := by
  delta execCsiFrameTimeout; exact (gite (gnext (frame_frameTimeout (gle rfl hw) _ _)) gfault)

theorem frame_execCsiFrameEnd {w : Parts} (hw : ({ regs := true, intake := true } : Parts).union w = w) x0 x1 x2 s :
    Fr nextIs w s (execCsiFrameEnd x0 x1 x2 s) := by
  delta execCsiFrameEnd; exact (gite (gnext (gite frefl (gite (frame_discardPacket (gle rfl hw) _ _) (gfold frefl (by exact fun p0 _ hp0 => (gstep (frame_closeFrame (gle rfl hw) _ _ _) hp0)))))) gfault)

theorem frame_execCsiEmbeddedPacket {w : Parts} (hw : ({ regs := true, intake := true, freeCtr := true } : Parts).union w = w) x0 x1 x2 x3 s :
    Fr nextIs w s (execCsiEmbeddedPacket x0 x1 x2 x3 s) := by
  delta execCsiEmbeddedPacket; exact (gite (gnext (gite frefl (by extract_lets +onlyGivenNames -merge -useContext -underBinder v0 v1 v2; clear_value v0 v1 v2; exact (gite (frame_discardPacket (gle rfl hw) _ _) (gfold frefl (by exact fun p3 _ hp3 => (gstep (frame_takeEmbedded (gle rfl hw) _ _ _) hp3))))))) gfault)

theorem frame_fsAt {w : Parts} (hw : { Parts.faultReach with intake := true }.union w = w) x0 x1 x2 s :
    Fr stIs w s (fsAt x0 x1 x2 s) := by
  delta fsAt; exact (by split; (focus (exact (gite (by extract_lets +onlyGivenNames -merge -useContext -underBinder v0; have hv0 : Fr stIs w s v0 := (frame_closeFrame (gle rfl hw) _ _ _); clear_value v0; exact (gite (gstep (frame_openFrame (gle rfl hw) _ _ _ _) hv0) (gstep (frame_gapOne (gle rfl hw) _ _) hv0))) (frame_gapOne (gle rfl hw) _ _)))); (focus (exact frefl)))

theorem frame_execCsiFrameStart {w : Parts} (hw : { Parts.faultReach with intake := true }.union w = w) x0 x1 x2 x3 s :
    Fr nextIs w s (execCsiFrameStart x0 x1 x2 x3 s) := by
  delta execCsiFrameStart; exact (gite (gnext (gite frefl (by extract_lets +onlyGivenNames -merge -useContext -underBinder v0; clear_value v0; exact (gite (gstep (frame_discardPacket (gle rfl hw) _ _) (gite frefl (gfold frefl (by exact fun p1 _ hp1 => (gstep (frame_gapOne (gle rfl hw) _ _) hp1))))) (by extract_lets +onlyGivenNames -merge -useContext -underBinder v2 v3 v4; clear_value v2 v4; have hv3 : Fr stIs w s v3 := (gite (frame_cntInc (gle rfl hw) _ _) frefl); clear_value v3; exact (gfold (gfold hv3 (by exact fun p5 _ hp5 => (gstep (frame_fsAt (gle rfl hw) _ _ _ _) hp5))) (by exact fun p6 _ hp6 => (gstep (frame_gapOne (gle rfl hw) _ _) hp6)))))))) gfault)

theorem frame_execIntakeCtxDisable {w : Parts} (hw : { Parts.faultReach with intake := true, reply := true }.union w = w) x0 x1 s :
    Fr nextIs w s (execIntakeCtxDisable x0 x1 s) := by
  delta execIntakeCtxDisable; exact (gite (gnext (frame_asInit (gle rfl hw) (by exact fun y0 => (gite frefl (frame_ctxDisable (gle rfl hw) _ _))) _ _ _ _)) gfault)

theorem frame_execCsiLongPacket {w : Parts} (hw : { Parts.faultReach with intake := true, freeCtr := true }.union w = w) x0 x1 x2 x3 x4 x5 s :
    Fr nextIs w s (execCsiLongPacket x0 x1 x2 x3 x4 x5 s) := by
  delta execCsiLongPacket; exact (gite (gnext (gite frefl (by extract_lets +onlyGivenNames -merge -useContext -underBinder v0; clear_value v0; exact (gite (frame_discardPacket (gle rfl hw) _ _) (by split; (focus (exact (by extract_lets +onlyGivenNames -merge -useContext -underBinder v1; have hv1 : Fr stIs w s v1 := (gite (frame_cntInc (gle rfl hw) _ _) frefl); clear_value v1; exact (gstep (frame_takeLine (gle rfl hw) _ _ _ _) (gite (gstep (frame_cntInc (gle rfl hw) _ _) hv1) hv1))))); (focus (exact (by split; (focus (exact (by extract_lets +onlyGivenNames -merge -useContext -underBinder v2; have hv2 : Fr stIs w s v2 := (gite frefl (frame_cntInc (gle rfl hw) _ _)); clear_value v2; exact (gite (gstep (frame_cntInc (gle rfl hw) _ _) hv2) hv2)))); (focus (exact (frame_discardPacket (gle rfl hw) _ _))))))))))) gfault)

theorem frame_execFrameCloseComplete {w : Parts} (hw : { Parts.faultReach with intake := true, freeCtr := true }.union w = w) x0 s :
    Fr nextIs w s (execFrameCloseComplete x0 s) := by
  delta execFrameCloseComplete; exact (gite (gnext (frame_finishFrame (gle rfl hw) _ _)) gfault)

theorem frame_limitPut {w : Parts} (hw : ({ regs := true } : Parts).union w = w) x0 s :
    Fr stIs w s (limitPut x0 s) := by
  delta limitPut; exact (frame_regSetFld (gle rfl hw) _ _ _ _ _)

theorem frame_execPixelPllLock {w : Parts} (hw : ({ regs := true } : Parts).union w = w) x0 s :
    Fr nextIs w s (execPixelPllLock x0 s) := by
  delta execPixelPllLock; exact (gite (gnext (frame_regSetFld (gle rfl hw) _ _ _ _ _)) gfault)

theorem frame_execBayClockGate {w : Parts} (hw : ({ bays := true } : Parts).union w = w) x0 s :
    Fr nextIs w s (execBayClockGate x0 s) := by
  delta execBayClockGate; exact (gite (gnext (gite (frame_bayMod (gle rfl hw) _ _ _) frefl)) gfault)

theorem frame_throttleFaster {w : Parts} (hw : ({ regs := true, safety := true } : Parts).union w = w) s :
    Fr stIs w s (throttleFaster s) := by
  delta throttleFaster; exact (gite (gstep (frame_limitPut (gle rfl hw) _ _) (upd_safety frefl (gle rfl hw))) frefl)

theorem frame_execPixelPllLockLoss {w : Parts} (hw : ({ regs := true } : Parts).union w = w) x0 s :
    Fr nextIs w s (execPixelPllLockLoss x0 s) := by
  delta execPixelPllLockLoss; exact (gite (gnext (frame_regSetFld (gle rfl hw) _ _ _ _ _)) gfault)

theorem frame_throttleSlower {w : Parts} (hw : ({ regs := true, boot := true } : Parts).union w = w) s :
    Fr stIs w s (throttleSlower s) := by
  delta throttleSlower; exact (by extract_lets +onlyGivenNames -merge -useContext -underBinder v0; clear_value v0; exact (gite (gstep (frame_limitPut (gle rfl hw) _ _) (upd_boot frefl (gle rfl hw))) frefl))

theorem frame_execThrottleStepFaster {w : Parts} (hw : ({ regs := true, safety := true } : Parts).union w = w) s :
    Fr nextIs w s (execThrottleStepFaster s) := by
  delta execThrottleStepFaster; exact (gnext (frame_throttleFaster (gle rfl hw) _))

theorem frame_clockStep {w : Parts} (hw : ({ regs := true, safety := true } : Parts).union w = w) s :
    Fr stIs w s (clockStep s) := by
  delta clockStep; exact (gite frefl (by extract_lets +onlyGivenNames -merge -useContext -underBinder v0; have hv0 : Fr stIs w s v0 := (gstep (frame_cntInc (gle rfl hw) _ _) (frame_regSetFld (gle rfl hw) _ _ _ _ _)); clear_value v0; exact (upd_safety hv0 (gle rfl hw))))

theorem frame_execBayClockStep {w : Parts} (hw : ({ regs := true, safety := true } : Parts).union w = w) s :
    Fr nextIs w s (execBayClockStep s) := by
  delta execBayClockStep; exact (gnext (frame_clockStep (gle rfl hw) _))

theorem frame_execThrottleStepSlower {w : Parts} (hw : ({ regs := true, boot := true } : Parts).union w = w) s :
    Fr nextIs w s (execThrottleStepSlower s) := by
  delta execThrottleStepSlower; exact (gnext (frame_throttleSlower (gle rfl hw) _))

theorem frame_bayClkWrite {w : Parts} (hw : ({ regs := true } : Parts).union w = w) x0 s :
    Fr stIs w s (bayClkWrite x0 s) := by
  delta bayClkWrite; exact (gite (frame_cntInc (gle rfl hw) _ _) (frame_fieldWrite (gle rfl hw) _ _ _))

theorem frame_pixFrac {w : Parts} (hw : ({ regs := true, boot := true } : Parts).union w = w) x0 x1 s :
    Fr stIs w s (pixFrac x0 x1 s) := by
  delta pixFrac; exact (gite (frame_cntInc (gle rfl hw) _ _) (by extract_lets +onlyGivenNames -merge -useContext -underBinder v0 v1; clear_value v1; have hv0 : Fr stIs w s v0 := (frame_fieldWrite (gle rfl hw) _ _ _); clear_value v0; exact (gstep (frame_regSetFld (gle rfl hw) _ _ _ _ _) (upd_boot hv0 (gle rfl hw)))))

theorem frame_execCrpBayClkReq {w : Parts} (hw : { Parts.faultReach with reply := true }.union w = w) x0 x1 s :
    Fr nextIs w s (execCrpBayClkReq x0 x1 s) := by
  delta execCrpBayClkReq; exact (gnext (frame_asInit (gle rfl hw) (by exact fun y0 => (frame_bayClkWrite (gle rfl hw) _ _)) _ _ _ _))

theorem frame_execCrpPixFrac {w : Parts} (hw : { Parts.faultReach with boot := true, reply := true }.union w = w) x0 x1 x2 s :
    Fr nextIs w s (execCrpPixFrac x0 x1 x2 s) := by
  delta execCrpPixFrac; exact (gite (gnext (frame_asInit (gle rfl hw) (by exact fun y0 => (frame_pixFrac (gle rfl hw) _ _ _)) _ _ _ _)) gfault)

end Sys2Proof.Machine
end

