-- ==== Sys2Proof/Laws/FrameRegs.lean ====
section
/-!
SUPPORT. The parts of the state that each operation may change: register space, the interrupt files and hart accesses.
-/

namespace Sys2Proof.Machine

theorem frame_readWord {w : Parts} (hw : ({ latches := true, freeCtr := true } : Parts).union w = w) x0 x1 s :
    Fr (via stIs) w s (readWord x0 x1 s) := by
  delta readWord; exact (gite (by split; rename_i r0 r1 e2; have gr1 := gofeq e2 (frame_takeFree (gle rfl hw) _); have hr1 : Fr stIs w s r1 := gr1; exact (gmk hr1)) (by split; (focus (exact (gmk (upd_latches frefl (gle rfl hw))))); (focus (exact (gmk frefl))); (focus (exact (gmk frefl)))))

theorem frame_replyPair {w : Parts} (hw : ({ reply := true } : Parts).union w = w) x0 (s : Word32 × State) :
    Fr stIs w s.2 (replyPair x0 s) := by
  delta replyPair; exact upd_reply frefl (gle rfl hw)

theorem frame_replyWords {w : Parts} (hw : ({ latches := true, reply := true, freeCtr := true } : Parts).union w = w) x0 x1 x2 (s : Word32 × State) :
    Fr stIs w s.2 (replyWords x0 x1 x2 s) := by
  delta replyWords; exact gite (upd_reply frefl (gle rfl hw)) (gstep (frame_replyPair (gle rfl hw) _ _) (gsnd (frame_readWord (gle rfl hw) _ _ _)))

theorem frame_actOr {w : Parts} (_ : ({} : Parts).union w = w) {x0 : Option (State → State)} {x1 : State → State}
    (hf0 : ∀ f, x0 = some f → ∀ y, Fr stIs w y (f y)) (hf1 : ∀ y, Fr stIs w y (x1 y)) s : Fr stIs w s (actOr x0 x1 s) := by
  cases x0 with
  | some f => exact hf0 f rfl s
  | none => exact hf1 s

theorem frame_readPlain {w : Parts} (hw : ({ latches := true, reply := true, freeCtr := true } : Parts).union w = w) x0 x1 x2 s :
    Fr stIs w s (readPlain x0 x1 x2 s) := by
  delta readPlain; exact gstep (frame_replyWords (gle rfl hw) _ _ _ _) (gsnd (frame_readWord (gle rfl hw) _ _ _))

theorem frame_readActs {w : Parts} (hw : ({ cmd := true, tb := true, gw := true, reply := true } : Parts).union w = w) x0 (s : State) :
    Fr (actAt s) w s (readActs x0) := by
  delta readActs; exact (by extract_lets +onlyGivenNames -merge -useContext -underBinder v0 v1 v2 v3; clear_value v0 v1 v2 v3; exact (by split; (focus (exact (gite (asome (by exact fun y4 => (by extract_lets +onlyGivenNames -merge -useContext -underBinder v5; have hv5 : Fr stIs w y4 v5 := (frame_ticketSeen (gle rfl hw) _ _); clear_value v5; exact (upd_reply hv5 (gle rfl hw))))) anone))); (focus (exact (gite (asome (by exact fun y6 => (frame_tsPop (gle rfl hw) _ _ _))) (gite (asome (by exact fun y7 => (frame_tsPop (gle rfl hw) _ _ _))) (gite (asome (by exact fun y8 => (frame_tcapPop (gle rfl hw) _ _))) anone))))); (focus (exact (gite (asome (by exact fun y9 => (frame_rxPop (gle rfl hw) _ _))) anone))); (focus (exact anone))))

theorem frame_readHere {w : Parts} (hw : ({ latches := true, cmd := true, tb := true, gw := true, reply := true, freeCtr := true } : Parts).union w = w) x0 x1 x2 s :
    Fr stIs w s (readHere x0 x1 x2 s) := by
  delta readHere
  exact frame_actOr rfl (fun f e y => gofact e (frame_readActs (gle rfl hw) _ _)) (fun y => frame_readPlain (gle rfl hw) _ _ _ _) _

theorem frame_accessError {w : Parts} (hw : { Parts.faultReach with reply := true }.union w = w) x0 x1 x2 s :
    Fr stIs w s (accessError x0 x1 x2 s) := by
  delta accessError; exact (by extract_lets +onlyGivenNames -merge -useContext -underBinder v0; have hv0 : Fr stIs w s v0 := (frame_holeError (gle rfl hw) (by exact fun y1 y2 y3 y4 => (frame_raise (gle rfl hw) _ _ _ _)) _ _ _ _ _); clear_value v0; exact (upd_reply hv0 (gle rfl hw)))

theorem frame_regRead {w : Parts} (hw : { Parts.faultReach with latches := true, tb := true, gw := true, reply := true, freeCtr := true }.union w = w) x0 x1 x2 s :
    Fr stIs w s (regRead x0 x1 x2 s) := by
  delta regRead; exact (gite (frame_accessError (gle rfl hw) _ _ _ _) (frame_asInit (gle rfl hw) (by exact fun y0 => (frame_readHere (gle rfl hw) _ _ _ _)) _ _ _ _))

theorem frame_stageWord {w : Parts} (hw : ({ staging := true } : Parts).union w = w) x0 x1 x2 s :
    Fr stIs w s (stageWord x0 x1 x2 s) := by
  delta stageWord; exact (upd_staging frefl (gle rfl hw))

theorem frame_filterWrite {w : Parts} (hw : ({ regs := true, gw := true } : Parts).union w = w) x0 x1 s :
    Fr stIs w s (filterWrite x0 x1 s) := by
  delta filterWrite; exact (frame_tryWrite (gle rfl hw) (by exact fun y0 => (by extract_lets +onlyGivenNames -merge -useContext -underBinder v1; clear_value v1; exact (gstep (frame_storeFields (gle rfl hw) _ _ _) (upd_gw frefl (gle rfl hw))))) _ _ _)

theorem frame_tpulseCfgWrite {w : Parts} (hw : ({ regs := true, tb := true } : Parts).union w = w) x0 x1 s :
    Fr stIs w s (tpulseCfgWrite x0 x1 s) := by
  delta tpulseCfgWrite; exact (by extract_lets +onlyGivenNames -merge -useContext -underBinder v0; clear_value v0; exact (frame_tryWrite (gle rfl hw) (by exact fun y1 => (gite (frame_storeFields (gle rfl hw) _ _ _) (by extract_lets +onlyGivenNames -merge -useContext -underBinder v2; have hv2 : Fr stIs w y1 v2 := (frame_storeFields (gle rfl hw) _ _ _); clear_value v2; exact (gite (gstep (frame_tpulseArm (gle rfl hw) _ _) hv2) hv2)))) _ _ _))

theorem frame_dinCfgWrite {w : Parts} (hw : ({ regs := true, safety := true } : Parts).union w = w) x0 x1 s :
    Fr stIs w s (dinCfgWrite x0 x1 s) := by
  delta dinCfgWrite; exact (frame_tryWrite (gle rfl hw) (by exact fun y0 => (by extract_lets +onlyGivenNames -merge -useContext -underBinder v1; clear_value v1; exact (gstep (frame_storeFields (gle rfl hw) _ _ _) (upd_safety frefl (gle rfl hw))))) _ _ _)

theorem frame_reserveWrite {w : Parts} (hw : ({ regs := true } : Parts).union w = w) s :
    Fr stIs w s (reserveWrite s) := by
  delta reserveWrite; exact (frame_cntInc (gle rfl hw) _ _)

theorem frame_pegWrites {w : Parts} (hw : ({ regs := true, bays := true, cmd := true, pegs := true, safety := true } : Parts).union w = w) x0 x1 x2 (s : State) :
    Fr (actAt s) w s (pegWrites x0 x1 x2) := by
  delta pegWrites; exact (by split; (focus (exact (asome (by exact fun y0 => (frame_pegSignal (gle rfl hw) _ _ _))))); (focus (exact (asome (by exact fun y1 => (frame_pegSignal (gle rfl hw) _ _ _))))); (focus (exact (asome (by exact fun y2 => (frame_pegSetTarget (gle rfl hw) _ _ _))))); (focus (exact (asome (by exact fun y3 => (frame_tryWrite (gle rfl hw) (by exact fun y4 => (gite (frame_pegClear (gle rfl hw) _ _) frefl)) _ _ _))))); (focus (exact anone)))

theorem frame_pairCommit {w : Parts} (hw : ({ regs := true, staging := true } : Parts).union w = w) x0 x1 x2 s :
    Fr stIs w s (pairCommit x0 x1 x2 s) := by
  delta pairCommit; exact (by extract_lets +onlyGivenNames -merge -useContext -underBinder v0; clear_value v0; exact (gite (frame_reserveWrite (gle rfl hw) _) (by extract_lets +onlyGivenNames -merge -useContext -underBinder v1; have hv1 : Fr stIs w s v1 := (gite (frame_cntInc (gle rfl hw) _ _) frefl); clear_value v1; exact (gstep (frame_commitPair (gle rfl hw) _ _ _) hv1))))

theorem frame_watchCfgWrite {w : Parts} (hw : ({ regs := true, disp := true } : Parts).union w = w) x0 x1 s :
    Fr stIs w s (watchCfgWrite x0 x1 s) := by
  delta watchCfgWrite; exact (by extract_lets +onlyGivenNames -merge -useContext -underBinder v0; clear_value v0; exact (frame_tryWrite (gle rfl hw) (by exact fun y1 => (by extract_lets +onlyGivenNames -merge -useContext -underBinder v2; have hv2 : Fr stIs w y1 v2 := (frame_storeFields (gle rfl hw) _ _ _); clear_value v2; exact (gite (upd_disp hv2 (gle rfl hw)) hv2))) _ _ _))

theorem frame_writePlain {w : Parts} (hw : ({ regs := true, staging := true } : Parts).union w = w) x0 x1 x2 s :
    Fr stIs w s (writePlain x0 x1 x2 s) := by
  delta writePlain; exact (by split; (focus (exact (frame_stageWord (gle rfl hw) _ _ _ _))); (focus (exact (frame_pairCommit (gle rfl hw) _ _ _ _))); (focus (exact (frame_fieldWrite (gle rfl hw) _ _ _))))

theorem frame_ctxCfgWrite {w : Parts} (hw : ({ regs := true, intake := true } : Parts).union w = w) x0 x1 s :
    Fr stIs w s (ctxCfgWrite x0 x1 s) := by
  delta ctxCfgWrite; exact (by extract_lets +onlyGivenNames -merge -useContext -underBinder v0; clear_value v0; exact (gite (frame_reserveWrite (gle rfl hw) _) (frame_tryWrite (gle rfl hw) (by exact fun y1 => (gite frefl (by extract_lets +onlyGivenNames -merge -useContext -underBinder v2; have hv2 : Fr stIs w y1 v2 := (frame_storeFields (gle rfl hw) _ _ _); clear_value v2; exact (gite (gstep (frame_ctxDisable (gle rfl hw) _ _) hv2) (gite (gstep (frame_ctxPut (gle rfl hw) _ _ _) hv2) hv2))))) _ _ _)))

theorem frame_dinStatWrite {w : Parts} (hw : ({ regs := true, safety := true } : Parts).union w = w) x0 x1 s :
    Fr stIs w s (dinStatWrite x0 x1 s) := by
  delta dinStatWrite; exact (frame_tryWrite (gle rfl hw) (by exact fun y0 => (by extract_lets +onlyGivenNames -merge -useContext -underBinder v1; clear_value v1; exact (upd_safety frefl (gle rfl hw)))) _ _ _)

theorem frame_pstopWrite {w : Parts} (hw : ({ regs := true, safety := true } : Parts).union w = w) x0 s :
    Fr stIs w s (pstopWrite x0 s) := by
  delta pstopWrite; exact (frame_tryWrite (gle rfl hw) (by exact fun y0 => (gfold frefl (by exact fun p1 _ hp1 => (gite (gstep (frame_releasePart (gle rfl hw) _ _) hp1) hp1)))) _ _ _)

theorem frame_timingWrite {w : Parts} (hw : ({ regs := true } : Parts).union w = w) x0 x1 x2 s :
    Fr stIs w s (timingWrite x0 x1 x2 s) := by
  delta timingWrite; exact (gite (frame_reserveWrite (gle rfl hw) _) (gite frefl (frame_fieldWrite (gle rfl hw) _ _ _)))

theorem frame_testedWrite {w : Parts} (hw : ({ regs := true } : Parts).union w = w) x0 x1 x2 s :
    Fr stIs w s (testedWrite x0 x1 x2 s) := by
  delta testedWrite; exact (gite (frame_fieldWrite (gle rfl hw) _ _ _) (frame_reserveWrite (gle rfl hw) _))

theorem frame_ageCfgWrite {w : Parts} (hw : ({ regs := true, safety := true } : Parts).union w = w) x0 x1 s :
    Fr stIs w s (ageCfgWrite x0 x1 s) := by
  delta ageCfgWrite; exact (by extract_lets +onlyGivenNames -merge -useContext -underBinder v0; clear_value v0; exact (frame_tryWrite (gle rfl hw) (by exact fun y1 => (by extract_lets +onlyGivenNames -merge -useContext -underBinder v2; have hv2 : Fr stIs w y1 v2 := (frame_storeFields (gle rfl hw) _ _ _); clear_value v2; exact (gite (gstep (frame_ageArm (gle rfl hw) _ _) hv2) hv2))) _ _ _))

theorem frame_srcWrite {w : Parts} (hw : ({ regs := true, safety := true } : Parts).union w = w) x0 x1 s :
    Fr stIs w s (srcWrite x0 x1 s) := by
  delta srcWrite; exact (frame_tryWrite (gle rfl hw) (by exact fun y0 => (gite (frame_clearPend (gle rfl hw) _ _) frefl)) _ _ _)

theorem frame_canCtrlWrite {w : Parts} (hw : ({ regs := true } : Parts).union w = w) x0 x1 s :
    Fr stIs w s (canCtrlWrite x0 x1 s) := by
  delta canCtrlWrite; exact (by extract_lets +onlyGivenNames -merge -useContext -underBinder v0; clear_value v0; exact (frame_tryWrite (gle rfl hw) (by exact fun y1 => (by extract_lets +onlyGivenNames -merge -useContext -underBinder v2; have hv2 : Fr stIs w y1 v2 := (frame_storeFields (gle rfl hw) _ _ _); clear_value v2; exact (gite (gstep (frame_canRecover (gle rfl hw) _ _) hv2) hv2))) _ _ _))

theorem frame_scribeWrites {w : Parts} (hw : ({ regs := true } : Parts).union w = w) x0 x1 (s : State) :
    Fr (actAt s) w s (scribeWrites x0 x1) := by
  delta scribeWrites; exact (gite (asome (by exact fun y0 => (frame_testedWrite (gle rfl hw) _ _ _ _))) (gite (asome (by exact fun y1 => (frame_testedWrite (gle rfl hw) _ _ _ _))) anone))

theorem frame_tbCtrlWrite {w : Parts} (hw : ({ regs := true, tb := true, imsic := true } : Parts).union w = w) x0 s :
    Fr stIs w s (tbCtrlWrite x0 s) := by
  delta tbCtrlWrite; exact (frame_tryWrite (gle rfl hw) (by exact fun y0 => (gite frefl (gstep (frame_selWrite (gle rfl hw) _ _) (frame_storeFields (gle rfl hw) _ _ _)))) _ _ _)

theorem frame_gwWrites {w : Parts} (hw : ({ regs := true, staging := true, gw := true } : Parts).union w = w) x0 x1 x2 (s : State) :
    Fr (actAt s) w s (gwWrites x0 x1 x2) := by
  delta gwWrites; exact (by extract_lets +onlyGivenNames -merge -useContext -underBinder v0 v1; clear_value v0 v1; exact (gite (asome (by exact fun y2 => (frame_ruleCtrl (gle rfl hw) _ _))) (gite (asome (by exact fun y3 => (frame_tasCtrl (gle rfl hw) _ _ _))) (gite (by split; (focus (exact (asome (by exact fun y4 => (frame_canCtrlWrite (gle rfl hw) _ _ _))))); (focus (exact (asome (by exact fun y5 => (frame_timingWrite (gle rfl hw) _ _ _ _))))); (focus (exact (asome (by exact fun y6 => (frame_timingWrite (gle rfl hw) _ _ _ _))))); (focus (exact anone))) (gite (asome (by exact fun y7 => (frame_filterWrite (gle rfl hw) _ _ _))) (gite (by split; (focus (exact (asome (by exact fun y8 => (frame_stageWord (gle rfl hw) _ _ _ _))))); (focus (exact (asome (by exact fun y9 => (frame_hostSend (gle rfl hw) _ _ _ _))))); (focus (exact anone))) anone))))))

theorem frame_watchWrites {w : Parts} (hw : ({ regs := true, disp := true } : Parts).union w = w) x0 x1 x2 (s : State) :
    Fr (actAt s) w s (watchWrites x0 x1 x2) := by
  delta watchWrites; exact (by split; (focus (exact (asome (by exact fun y0 => (frame_testedWrite (gle rfl hw) _ _ _ _))))); (focus (exact (asome (by exact fun y1 => (frame_testedWrite (gle rfl hw) _ _ _ _))))); (focus (exact (asome (by exact fun y2 => (frame_watchCfgWrite (gle rfl hw) _ _ _))))); (focus (exact anone)))

theorem frame_ctxWrites {w : Parts} (hw : ({ regs := true, intake := true } : Parts).union w = w) x0 x1 x2 (s : State) :
    Fr (actAt s) w s (ctxWrites x0 x1 x2) := by
  delta ctxWrites; exact (by split; (focus (exact (asome (by exact fun y0 => (frame_ctxCfgWrite (gle rfl hw) _ _ _))))); (focus (exact (asome (by exact fun y1 => (frame_testedWrite (gle rfl hw) _ _ _ _))))); (focus (exact (asome (by exact fun y2 => (frame_testedWrite (gle rfl hw) _ _ _ _))))); (focus (exact (asome (by exact fun y3 => (frame_testedWrite (gle rfl hw) _ _ _ _))))); (focus (exact (asome (by exact fun y4 => (frame_testedWrite (gle rfl hw) _ _ _ _))))); (focus (exact (asome (by exact fun y5 => (frame_testedWrite (gle rfl hw) _ _ _ _))))); (focus (exact anone)))

theorem frame_mailWrites {w : Parts} (hw : ({ regs := true } : Parts).union w = w) x0 x1 x2 (s : State) :
    Fr (actAt s) w s (mailWrites x0 x1 x2) := by
  delta mailWrites; exact (gite (asome (by exact fun y0 => (by split; (focus exact (frame_doorbell (gle rfl hw) _ _ _)); (focus exact (frame_tryWrite (gle rfl hw) (by exact fun y1 => frefl) _ _ _))))) (gite (asome (by exact fun y2 => (frame_tryWrite (gle rfl hw) (by exact fun y3 => frefl) _ _ _))) anone))

theorem frame_tpulseWrites {w : Parts} (hw : ({ regs := true, tb := true } : Parts).union w = w) x0 x1 x2 (s : State) :
    Fr (actAt s) w s (tpulseWrites x0 x1 x2) := by
  delta tpulseWrites; exact (by split; (focus (exact (asome (by exact fun y0 => (frame_tpulseCfgWrite (gle rfl hw) _ _ _))))); (focus (exact (asome (by exact fun y1 => (frame_testedWrite (gle rfl hw) _ _ _ _))))); (focus (exact (asome (by exact fun y2 => (frame_testedWrite (gle rfl hw) _ _ _ _))))); (focus (exact (asome (by exact fun y3 => (frame_testedWrite (gle rfl hw) _ _ _ _))))); (focus (exact anone)))

theorem frame_ctrlWrite {w : Parts} (hw : ({ regs := true, safety := true } : Parts).union w = w) x0 x1 s :
    Fr stIs w s (ctrlWrite x0 x1 s) := by
  delta ctrlWrite; exact (frame_tryWrite (gle rfl hw) (by exact fun y0 => (gite (frame_setRun (gle rfl hw) _) frefl)) _ _ _)

theorem frame_crpWrites {w : Parts} (hw : { Parts.handReach with staging := true, latches := true, bayMap := true, jointers := true, jmap := true, part := true, tb := true, boot := true, intake := true, gfx := true, disp := true, gw := true, aplic := true, reply := true, freeCtr := true }.union w = w) x0 x1 (s : State) :
    Fr (actAt s) w s (crpWrites x0 x1) := by
  delta crpWrites; exact (gite (asome (by exact fun y0 => (frame_bayClkWrite (gle rfl hw) _ _))) (gite (asome (by exact fun y1 => (frame_resetWrite (gle rfl hw) _ _))) (gite (asome (by exact fun y2 => (frame_testedWrite (gle rfl hw) _ _ _ _))) (gite (asome (by exact fun y3 => (frame_pixFrac (gle rfl hw) _ _ _))) anone))))

theorem frame_domSyncWrite {w : Parts} (hw : ({ regs := true, tb := true, imsic := true } : Parts).union w = w) x0 x1 s :
    Fr stIs w s (domSyncWrite x0 x1 s) := by
  delta domSyncWrite; exact (frame_tryWrite (gle rfl hw) (by exact fun y0 => (by extract_lets +onlyGivenNames -merge -useContext -underBinder v1; have hv1 : Fr stIs w y0 v1 := (gite (frame_domSync (gle rfl hw) _ _) frefl); clear_value v1; exact (gite (gstep (frame_domDrop (gle rfl hw) _ _) hv1) hv1))) _ _ _)

theorem frame_timeWrites {w : Parts} (hw : ({ regs := true, tb := true, imsic := true } : Parts).union w = w) x0 x1 (s : State) :
    Fr (actAt s) w s (timeWrites x0 x1) := by
  delta timeWrites; exact (by extract_lets +onlyGivenNames -merge -useContext -underBinder v0 v1; clear_value v0 v1; exact (gite (asome (by exact fun y2 => (frame_tbCtrlWrite (gle rfl hw) _ _))) (gite (by split; (focus (exact (asome (by exact fun y3 => (frame_testedWrite (gle rfl hw) _ _ _ _))))); (focus (exact (asome (by exact fun y4 => (frame_domPut (gle rfl hw) _ _ _))))); (focus (exact (asome (by exact fun y5 => (frame_domSyncWrite (gle rfl hw) _ _ _))))); (focus (exact anone))) (gite (frame_tpulseWrites (gle rfl hw) _ _ _ _) anone))))

theorem frame_safetyWrites {w : Parts} (hw : Parts.faultReach.union w = w) x0 x1 x2 (s : State) :
    Fr (actAt s) w s (safetyWrites x0 x1 x2) := by
  delta safetyWrites; exact (gite (asome (by exact fun y0 => (frame_ctrlWrite (gle rfl hw) _ _ _))) (gite (asome (by exact fun y1 => (frame_kickWrite (gle rfl hw) _ _ _))) (gite (asome (by exact fun y2 => (frame_pstopWrite (gle rfl hw) _ _))) (gite (asome (by exact fun y3 => (frame_swRaise (gle rfl hw) _ _))) (gite (asome (by exact fun y4 => (frame_dinCfgWrite (gle rfl hw) _ _ _))) (gite (asome (by exact fun y5 => (frame_dinStatWrite (gle rfl hw) _ _ _))) (gite (asome (by exact fun y6 => (frame_ageCfgWrite (gle rfl hw) _ _ _))) (gite (asome (by exact fun y7 => (frame_srcWrite (gle rfl hw) _ _ _))) anone))))))))

theorem frame_sealWrites {w : Parts} (hw : { Parts.faultReach with gw := true, freeCtr := true }.union w = w) x0 x1 (s : State) :
    Fr (actAt s) w s (sealWrites x0 x1) := by
  delta sealWrites; exact (gite (asome (by exact fun y0 => (frame_sealSubmit (gle rfl hw) _ _))) (gite (asome (by exact fun y1 => (upd_sealU frefl (gle rfl hw)))) anone))

theorem frame_dowelWrites {w : Parts} (hw : Parts.faultReach.union w = w) x0 x1 x2 x3 (s : State) :
    Fr (actAt s) w s (dowelWrites x0 x1 x2 x3) := by
  delta dowelWrites; exact (by split; (focus (exact (asome (by exact fun y0 => (frame_queryLatch (gle rfl hw) _ _ _ _))))); (focus (exact (asome (by exact fun y1 => (frame_cancelDowel (gle rfl hw) _ _ _))))); (focus (exact (asome (by exact fun y2 => (frame_releaseDowel (gle rfl hw) _ _ _))))); (focus (exact anone)))

theorem frame_submitHigh {w : Parts} (hw : { Parts.faultReach with staging := true }.union w = w) x0 x1 x2 s :
    Fr stIs w s (submitHigh x0 x1 x2 s) := by
  delta submitHigh; exact (frame_tryWrite (gle rfl hw) (by exact fun y0 => (by extract_lets +onlyGivenNames -merge -useContext -underBinder v1; clear_value v1; exact (gstep (frame_submitAt (gle rfl hw) _ _ _) (frame_commitPair (gle rfl hw) _ _ _)))) _ _ _)

theorem frame_writeActs {w : Parts} (hw : { Parts.handReach with staging := true, latches := true, bayMap := true, jointers := true, jmap := true, part := true, tb := true, boot := true, intake := true, gfx := true, disp := true, gw := true, aplic := true, reply := true, freeCtr := true }.union w = w) x0 x1 x2 (s : State) :
    Fr (actAt s) w s (writeActs x0 x1 x2) := by
  delta writeActs; exact (by extract_lets +onlyGivenNames -merge -useContext -underBinder v0 v1 v2 v3; clear_value v0 v1 v2 v3; exact (by split; (focus (exact (frame_crpWrites (gle rfl hw) _ _ _))); (focus (exact (gite (asome (by exact fun y4 => (frame_submitHigh (gle rfl hw) _ _ _ _))) anone))); (focus (exact (gite (frame_pegWrites (gle rfl hw) _ _ _ _) anone))); (focus (exact (gite (frame_dowelWrites (gle rfl hw) _ _ _ _ _) anone))); (focus (exact (frame_timeWrites (gle rfl hw) _ _ _))); (focus (exact (frame_safetyWrites (gle rfl hw) _ _ _ _))); (focus (exact (gite (frame_ctxWrites (gle rfl hw) _ _ _ _) anone))); (focus (exact (gite (frame_watchWrites (gle rfl hw) _ _ _ _) anone))); (focus (exact (frame_gwWrites (gle rfl hw) _ _ _ _))); (focus (exact (gite (frame_mailWrites (gle rfl hw) _ _ _ _) anone))); (focus (exact (frame_sealWrites (gle rfl hw) _ _ _))); (focus (exact (frame_scribeWrites (gle rfl hw) _ _ _))); (focus (exact anone))))

theorem frame_writeWord {w : Parts} (hw : { Parts.handReach with staging := true, latches := true, bayMap := true, jointers := true, jmap := true, part := true, tb := true, boot := true, intake := true, gfx := true, disp := true, gw := true, aplic := true, reply := true, freeCtr := true }.union w = w) x0 x1 x2 s :
    Fr stIs w s (writeWord x0 x1 x2 s) := by
  delta writeWord
  exact frame_actOr rfl (fun f e y => gofact e (frame_writeActs (gle rfl hw) _ _ _ _)) (fun y => frame_writePlain (gle rfl hw) _ _ _ _) _

theorem frame_writeHere {w : Parts} (hw : { Parts.handReach with staging := true, latches := true, bayMap := true, jointers := true, jmap := true, part := true, tb := true, boot := true, intake := true, gfx := true, disp := true, gw := true, aplic := true, reply := true, freeCtr := true }.union w = w) x0 x1 x2 x3 s :
    Fr stIs w s (writeHere x0 x1 x2 x3 s) := by
  delta writeHere; exact (by extract_lets +onlyGivenNames -merge -useContext -underBinder v0; clear_value v0; exact (gite (frame_writeWord (gle rfl hw) _ _ _ _) (gstep (frame_writeWord (gle rfl hw) _ _ _ _) (frame_writeWord (gle rfl hw) _ _ _ _))))

theorem frame_regWrite {w : Parts} (hw : { Parts.handReach with staging := true, latches := true, bayMap := true, jointers := true, jmap := true, part := true, tb := true, boot := true, intake := true, gfx := true, disp := true, gw := true, aplic := true, reply := true, freeCtr := true }.union w = w) x0 x1 x2 x3 s :
    Fr stIs w s (regWrite x0 x1 x2 x3 s) := by
  delta regWrite; exact (gite (frame_accessError (gle rfl hw) _ _ _ _) (gite frefl (frame_asInit (gle rfl hw) (by exact fun y0 => (frame_writeHere (gle rfl hw) _ _ _ _ _)) _ _ _ _)))

theorem frame_fileMsi {w : Parts} (hw : ({ imsic := true } : Parts).union w = w) x0 x1 x2 s :
    Fr stIs w s (fileMsi x0 x1 x2 s) := by
  delta fileMsi; exact (gite (upd_imsic frefl (gle rfl hw)) frefl)

theorem frame_apPut {w : Parts} (hw : ({ aplic := true } : Parts).union w = w) x0 x1 x2 s :
    Fr stIs w s (apPut x0 x1 x2 s) := by
  delta apPut; exact (upd_aplic frefl (gle rfl hw))

theorem frame_fileWrite {w : Parts} (hw : ({ imsic := true } : Parts).union w = w) x0 x1 x2 x3 s :
    Fr stIs w s (fileWrite x0 x1 x2 x3 s) := by
  delta fileWrite; exact (gite (frame_fileMsi (gle rfl hw) _ _ _ _) (gite (frame_fileMsi (gle rfl hw) _ _ _ _) frefl))

theorem frame_apBitPut {w : Parts} (hw : ({ aplic := true } : Parts).union w = w) x0 x1 x2 x3 s :
    Fr stIs w s (apBitPut x0 x1 x2 x3 s) := by
  delta apBitPut; exact (by extract_lets +onlyGivenNames -merge -useContext -underBinder v0; clear_value v0; exact (frame_apPut (gle rfl hw) _ _ _ _))

theorem frame_apSource {w : Parts} (hw : ({ aplic := true } : Parts).union w = w) x0 x1 x2 s :
    Fr stIs w s (apSource x0 x1 x2 s) := by
  delta apSource; exact (by extract_lets +onlyGivenNames -merge -useContext -underBinder a0 v1; clear_value a0 v1; exact (gite frefl (by extract_lets +onlyGivenNames -merge -useContext -underBinder v2 v3 v4; have hv2 : Fr stIs w s v2 := (frame_apPut (gle rfl hw) _ _ _ _); clear_value v2; have hv3 : ∀ q7 q8, Fr stIs w q8 (v3 q7 q8) := (by unfold v3; beta_reduce; exact (by exact fun y5 y6 => (gstep (frame_apBitPut (gle rfl hw) _ _ _ _ _) (frame_apBitPut (gle rfl hw) _ _ _ _ _)))); clear_value v3; have hv4 : Fr stIs w s v4 := (gite hv2 (gstep (hv3 _ _) hv2)); clear_value v4; exact (gite (gstep (hv3 _ _) (gstep (frame_apPut (gle rfl hw) _ _ _ _) hv4)) hv4))))

theorem frame_apSet {w : Parts} (hw : ({ aplic := true } : Parts).union w = w) x0 x1 x2 s x4 :
    Fr stIs w s (apSet x0 x1 x2 s x4) := by
  delta apSet; exact (by extract_lets +onlyGivenNames -merge -useContext -underBinder v0; clear_value v0; exact (gite frefl (frame_apBitPut (gle rfl hw) _ _ _ _ _)))

theorem frame_apSend {w : Parts} (hw : ({ imsic := true, aplic := true } : Parts).union w = w) x0 s x2 :
    Fr stIs w s (apSend x0 s x2) := by
  delta apSend; exact (gite (by extract_lets +onlyGivenNames -merge -useContext -underBinder v0; clear_value v0; exact (gstep (frame_fileMsi (gle rfl hw) _ _ _ _) (frame_apBitPut (gle rfl hw) _ _ _ _ _))) frefl)

theorem frame_apDeliver {w : Parts} (hw : ({ imsic := true, aplic := true } : Parts).union w = w) x0 s :
    Fr stIs w s (apDeliver x0 s) := by
  delta apDeliver; exact (gfold frefl (by exact fun p0 _ hp0 => (gstep (frame_apSend (gle rfl hw) _ _ _) hp0)))

theorem frame_apWord {w : Parts} (hw : ({ aplic := true } : Parts).union w = w) x0 x1 x2 x3 x4 s :
    Fr stIs w s (apWord x0 x1 x2 x3 x4 s) := by
  delta apWord; exact (gfold frefl (by exact fun p0 _ hp0 => (gite (gstep (frame_apSet (gle rfl hw) _ _ _ _ _) hp0) hp0)))

theorem frame_apWrite {w : Parts} (hw : ({ imsic := true, aplic := true } : Parts).union w = w) x0 x1 x2 s :
    Fr stIs w s (apWrite x0 x1 x2 s) := by
  delta apWrite; exact (gstep (frame_apDeliver (gle rfl hw) _ _) (gite (gite (frame_apPut (gle rfl hw) _ _ _ _) frefl) (gite (frame_apSource (gle rfl hw) _ _ _ _) (gite (frame_apWord (gle rfl hw) _ _ _ _ _ _) (gite (frame_apSet (gle rfl hw) _ _ _ _ _) (gite (frame_apWord (gle rfl hw) _ _ _ _ _ _) (gite (frame_apSet (gle rfl hw) _ _ _ _ _) (gite (frame_apWord (gle rfl hw) _ _ _ _ _ _) (gite (frame_apSet (gle rfl hw) _ _ _ _ _) (gite (frame_apWord (gle rfl hw) _ _ _ _ _ _) (gite (frame_apSet (gle rfl hw) _ _ _ _ _) (gite (frame_apSet (gle rfl hw) _ _ _ _ _) (gite (gstep (frame_fileMsi (gle rfl hw) _ _ _ _) (frame_apPut (gle rfl hw) _ _ _ _)) (gite (gite (frame_apPut (gle rfl hw) _ _ _ _) frefl) frefl))))))))))))))

theorem frame_replyWith {w : Parts} (hw : ({ reply := true } : Parts).union w = w) x0 s :
    Fr stIs w s (replyWith x0 s) := by
  delta replyWith; exact (upd_reply frefl (gle rfl hw))

theorem frame_hartIrq {w : Parts} (hw : ({ reply := true } : Parts).union w = w) {x4 : Sys2Proof.Machine.State → Sys2Proof.Machine.State} (hf4 : ∀ q0, Fr stIs w q0 (x4 q0)) x0 x1 x2 x3 s :
    Fr stIs w s (hartIrq x0 x1 x2 x3 x4 s) := by
  delta hartIrq; exact (gite (frame_replyWith (gle rfl hw) _ _) (by split; (focus (exact (hf4 _))); (focus (exact (frame_replyWith (gle rfl hw) _ _))); (focus (exact (frame_replyWith (gle rfl hw) _ _)))))

theorem frame_hartMem {w : Parts} (hw : ({ regs := true, mem := true, bays := true, waitWrites := true, twin := true, reply := true } : Parts).union w = w) x0 x1 x2 x3 s :
    Fr stIs w s (hartMem x0 x1 x2 x3 s) := by
  delta hartMem; exact (by split; (focus (exact (frame_devWrite (gle rfl hw) _ _ _))); (focus (exact (by split; rename_i r0 r1 e2; have gr1 := gofeq e2 (frame_farFetch (gle rfl hw) _ _); have hr1 : Fr stIs w s r1 := gr1; exact (gite (gstep (frame_farUse (gle rfl hw) _ _ _) (gstep (frame_replyWith (gle rfl hw) _ _) hr1)) hr1)))); (focus (exact (by split; rename_i r3 r4 e5; have gr4 := gofeq e5 (frame_farFetch (gle rfl hw) _ _); have hr4 : Fr stIs w s r4 := gr4; exact (gite (gstep (frame_farUse (gle rfl hw) _ _ _) (gstep (frame_replyWith (gle rfl hw) _ _) hr4)) hr4)))))

theorem frame_hartChecked {w : Parts} (hw : { Parts.faultReach with reply := true }.union w = w) x0 x1 x2 x3 x4 x5 s :
    Fr stIs w s (hartChecked x0 x1 x2 x3 x4 x5 s) := by
  delta hartChecked; exact (by split; (focus (rename_i m0 em0; have gm0 := gofeq em0 (frame_accessCheck (gle rfl hw) _ _ _ _ _ _); have hm0 : Fr stIs w s m0 := gm0; exact (gstep (frame_hartMem (gle rfl hw) _ _ _ _ _) hm0))); (focus (rename_i m1 _ em1; have gm1 := gofeq em1 (frame_accessCheck (gle rfl hw) _ _ _ _ _ _); have hm1 : Fr stIs w s m1 := gm1; exact (gstep (frame_replyWith (gle rfl hw) _ _) (gstep (frame_reportVerdict (gle rfl hw) (by exact fun y2 y3 y4 y5 => (frame_raise (gle rfl hw) _ _ _ _)) _ _ _ _ _ _ _) hm1)))))

theorem frame_execRegisterRead {w : Parts} (hw : { Parts.faultReach with latches := true, tb := true, gw := true, reply := true, freeCtr := true }.union w = w) x0 x1 x2 s :
    Fr nextIs w s (execRegisterRead x0 x1 x2 s) := by
  delta execRegisterRead; exact (gnext (by split; (focus (exact (frame_regRead (gle rfl hw) _ _ _ _))); (focus (exact (frame_accessError (gle rfl hw) _ _ _ _))); (focus (exact frefl)); (focus (exact frefl)); (focus (exact frefl)); (focus (exact frefl)); (focus (exact frefl)); (focus (exact frefl))))

theorem frame_execRegisterWrite {w : Parts} (hw : { Parts.handReach with staging := true, latches := true, bayMap := true, jointers := true, jmap := true, part := true, tb := true, boot := true, intake := true, gfx := true, disp := true, gw := true, aplic := true, reply := true, freeCtr := true }.union w = w) x0 x1 x2 x3 s :
    Fr nextIs w s (execRegisterWrite x0 x1 x2 x3 s) := by
  delta execRegisterWrite; exact (gnext (by split; (focus (exact (frame_regWrite (gle rfl hw) _ _ _ _ _))); (focus (exact (frame_accessError (gle rfl hw) _ _ _ _))); (focus (exact frefl)); (focus (exact frefl)); (focus (exact frefl)); (focus (exact frefl)); (focus (exact frefl)); (focus (exact frefl))))

theorem frame_hartAccess {w : Parts} (hw : { Parts.handReach with staging := true, latches := true, bayMap := true, jointers := true, jmap := true, part := true, tb := true, boot := true, intake := true, gfx := true, disp := true, gw := true, aplic := true, reply := true, freeCtr := true }.union w = w) x0 x1 x2 x3 x4 s :
    Fr stIs w s (hartAccess x0 x1 x2 x3 x4 s) := by
  delta hartAccess; exact (by split; (focus (exact (gite (frame_regWrite (gle rfl hw) _ _ _ _ _) (frame_regRead (gle rfl hw) _ _ _ _)))); (focus (exact (by extract_lets +onlyGivenNames -merge -useContext -underBinder v0; clear_value v0; exact (frame_hartIrq (gle rfl hw) (by exact fun y1 => (frame_apWrite (gle rfl hw) _ _ _ _)) _ _ _ _ _)))); (focus (exact (frame_hartIrq (gle rfl hw) (by exact fun y2 => (frame_fileWrite (gle rfl hw) _ _ _ _ _)) _ _ _ _ _))); (focus (exact (frame_accessError (gle rfl hw) _ _ _ _))); (focus (exact (by split; (focus (exact (frame_hartChecked (gle rfl hw) _ _ _ _ _ _ _))); (focus (exact (frame_replyWith (gle rfl hw) _ _)))))); (focus (exact (by split; (focus (exact (frame_hartChecked (gle rfl hw) _ _ _ _ _ _ _))); (focus (exact (frame_replyWith (gle rfl hw) _ _)))))); (focus (exact (by split; (focus (exact (frame_hartChecked (gle rfl hw) _ _ _ _ _ _ _))); (focus (exact (frame_replyWith (gle rfl hw) _ _)))))); (focus (exact (by split; (focus (exact (frame_hartChecked (gle rfl hw) _ _ _ _ _ _ _))); (focus (exact (frame_replyWith (gle rfl hw) _ _)))))))

theorem frame_execHartAccess {w : Parts} (hw : { Parts.handReach with staging := true, latches := true, bayMap := true, jointers := true, jmap := true, part := true, tb := true, boot := true, intake := true, gfx := true, disp := true, gw := true, aplic := true, reply := true, freeCtr := true }.union w = w) x0 x1 x2 x3 x4 s :
    Fr nextIs w s (execHartAccess x0 x1 x2 x3 x4 s) := by
  delta execHartAccess; exact (gite (gnext (frame_hartAccess (gle rfl hw) _ _ _ _ _ _)) gfault)

end Sys2Proof.Machine
end

