-- ==== Sys2Proof/Laws/FrameLink.lean ====
section
/-!
SUPPORT. The parts of the state that each operation may change: the truss link, the boot, control flow and graphics.
-/

namespace Sys2Proof.Machine

theorem frame_freshLink {w : Parts} (hw : ({ twin := true } : Parts).union w = w) s :
    Fr stIs w s (freshLink s) := by
  delta freshLink; exact (upd_twin frefl (gle rfl hw))

theorem frame_flitPop {w : Parts} (hw : ({ twin := true } : Parts).union w = w) {x1 : Sys2Proof.Flit → Sys2Proof.Machine.State → Sys2Proof.Machine.State} (hf1 : ∀ q0 q1, Fr stIs w q1 (x1 q0 q1)) x0 s :
    Fr stIs w s (flitPop x0 x1 s) := by
  delta flitPop; exact (by split; (focus (exact (gite (gstep (hf1 _ _) (upd_twin frefl (gle rfl hw))) frefl))); (focus (exact frefl)))

theorem frame_acked {w : Parts} (hw : ({ twin := true } : Parts).union w = w) x0 s :
    Fr stIs w s (acked x0 s) := by
  delta acked; exact (upd_twin frefl (gle rfl hw))

theorem frame_timeEcho {w : Parts} (hw : ({ regs := true } : Parts).union w = w) x0 s :
    Fr stIs w s (timeEcho x0 s) := by
  delta timeEcho; exact (by extract_lets +onlyGivenNames -merge -useContext -underBinder v0; clear_value v0; exact (frame_regPut (gle rfl hw) _ _ _))

theorem frame_takePart {w : Parts} (hw : ({ cmd := true, twin := true } : Parts).union w = w) x0 x1 x2 s :
    Fr stIs w s (takePart x0 x1 x2 s) := by
  delta takePart; exact (gite (frame_sendCtl (gle rfl hw) _ _) (gite frefl (frame_dowelPut (gle rfl hw) _ _ _)))

theorem frame_trainPut {w : Parts} (hw : ({ regs := true } : Parts).union w = w) x0 s :
    Fr stIs w s (trainPut x0 s) := by
  delta trainPut; exact (frame_regSetFld (gle rfl hw) _ _ _ _ _)

theorem frame_twinGo {w : Parts} (hw : ({ regs := true } : Parts).union w = w) x0 s :
    Fr stIs w s (twinGo x0 s) := by
  delta twinGo; exact (frame_regSetFld (gle rfl hw) _ _ _ _ _)

theorem frame_twinStep {w : Parts} (hw : ({ regs := true, tb := true, imsic := true } : Parts).union w = w) x0 s :
    Fr stIs w s (twinStep x0 s) := by
  delta twinStep; exact (gite frefl (gstep (frame_workStep (gle rfl hw) _ _) (by split; (focus (exact (upd_tb frefl (gle rfl hw)))); (focus (exact (frame_bridgePut (gle rfl hw) _ _))))))

theorem frame_resendAll {w : Parts} (hw : ({ regs := true, twin := true } : Parts).union w = w) s :
    Fr stIs w s (resendAll s) := by
  delta resendAll; exact (gstep (frame_cntAdd (gle rfl hw) _ _ _) (upd_twin frefl (gle rfl hw)))

theorem frame_followPut {w : Parts} (hw : ({ regs := true, tb := true, imsic := true } : Parts).union w = w) x0 s :
    Fr stIs w s (followPut x0 s) := by
  delta followPut; exact (by extract_lets +onlyGivenNames -merge -useContext -underBinder a0 v1; clear_value a0; have hv1 : Fr stIs w s v1 := (gite (gite frefl (upd_tb frefl (gle rfl hw))) (frame_leaveFollow (gle rfl hw) _ _)); clear_value v1; exact (gstep (frame_regSetFld (gle rfl hw) _ _ _ _ _) hv1))

theorem frame_standAlone {w : Parts} (hw : ({ regs := true } : Parts).union w = w) x0 s :
    Fr stIs w s (standAlone x0 s) := by
  delta standAlone; exact (gstep (frame_regSetFld (gle rfl hw) _ _ _ _ _) (frame_twinGo (gle rfl hw) _ _))

theorem frame_retrain {w : Parts} (hw : ({ regs := true, twin := true } : Parts).union w = w) s :
    Fr stIs w s (retrain s) := by
  delta retrain; exact (gstep (frame_trainPut (gle rfl hw) _ _) (upd_twin frefl (gle rfl hw)))

theorem frame_flitTake {w : Parts} (hw : ({ regs := true, twin := true } : Parts).union w = w) x0 s :
    Fr stIs w s (flitTake x0 s) := by
  delta flitTake; exact (gite (upd_twin frefl (gle rfl hw)) (gite (frame_cntInc (gle rfl hw) _ _) frefl))

theorem frame_startBoth {w : Parts} (hw : ({ cmd := true, twin := true } : Parts).union w = w) x0 s :
    Fr stIs w s (startBoth x0 s) := by
  delta startBoth; exact (by extract_lets +onlyGivenNames -merge -useContext -underBinder v0; clear_value v0; exact (gstep (frame_sendCtl (gle rfl hw) _ _) (frame_dowelMod (gle rfl hw) _ _ _)))

theorem frame_enterJoining {w : Parts} (hw : ({ regs := true, twin := true } : Parts).union w = w) s :
    Fr stIs w s (enterJoining s) := by
  delta enterJoining; exact (by extract_lets +onlyGivenNames -merge -useContext -underBinder v0; have hv0 : Fr stIs w s v0 := (frame_twinGo (gle rfl hw) _ _); clear_value v0; exact (upd_twin hv0 (gle rfl hw)))

theorem frame_joinPair {w : Parts} (hw : ({ regs := true, tb := true, twin := true, imsic := true } : Parts).union w = w) s :
    Fr stIs w s (joinPair s) := by
  delta joinPair; exact (by extract_lets +onlyGivenNames -merge -useContext -underBinder v0 v1 a2 a3 v4; clear_value v0 a2 a3; have hv1 : Fr stIs w s v1 := (gstep (frame_regSetFld (gle rfl hw) _ _ _ _ _) (gstep (frame_regSetFld (gle rfl hw) _ _ _ _ _) (frame_twinGo (gle rfl hw) _ _))); clear_value v1; have hv4 : Fr stIs w s v4 := (upd_tb_twin hv1 (gle rfl hw)); clear_value v4; exact (gite (gstep (frame_autoSwitch (gle rfl hw) _ _) hv4) hv4))

theorem frame_splitColls {w : Parts} (hw : Parts.faultReach.union w = w) s :
    Fr stIs w s (splitColls s) := by
  delta splitColls; exact (by extract_lets +onlyGivenNames -merge -useContext -underBinder v0; have hv0 : Fr stIs w s v0 := (gfold frefl (by exact fun p1 _ hp1 => (gstep (frame_completeDowel (gle rfl hw) (by exact fun y2 y3 y4 y5 => (frame_raise (gle rfl hw) _ _ _ _)) _ _ _ _) hp1))); clear_value v0; exact (upd_fc hv0 (gle rfl hw)))

theorem frame_timeSample {w : Parts} (hw : Parts.faultReach.union w = w) x0 s :
    Fr stIs w s (timeSample x0 s) := by
  delta timeSample; exact (by extract_lets +onlyGivenNames -merge -useContext -underBinder v0 v1 a2 v3; clear_value v1 a2; have hv0 : Fr stIs w s v0 := (frame_regPut (gle rfl hw) _ _ _); clear_value v0; have hv3 : Fr stIs w s v3 := (upd_twin hv0 (gle rfl hw)); clear_value v3; exact (gite (gstep (frame_raise (gle rfl hw) _ _ _ _) (gstep (frame_regSetFld (gle rfl hw) _ _ _ _ _) (upd_twin hv3 (gle rfl hw)))) (gite (gstep (frame_regSetFld (gle rfl hw) _ _ _ _ _) (upd_twin hv3 (gle rfl hw))) hv3)))

theorem frame_rejoinEnds {w : Parts} (hw : Parts.faultReach.union w = w) x0 s :
    Fr stIs w s (rejoinEnds x0 s) := by
  delta rejoinEnds; exact (by split; (focus (exact (gstep (frame_sealDone (gle rfl hw) _ _ _) (upd_twin frefl (gle rfl hw))))); (focus (exact frefl)))

theorem frame_timeSecond {w : Parts} (hw : { Parts.faultReach with tb := true }.union w = w) x0 s :
    Fr stIs w s (timeSecond x0 s) := by
  delta timeSecond; exact (by extract_lets +onlyGivenNames -merge -useContext -underBinder v0 v1 v2 v3 a4 v5 v6 v7; clear_value v0 v1 v3 a4; have hv2 : Fr stIs w s v2 := (frame_twinStep (gle rfl hw) _ _); clear_value v2; have hv5 : Fr stIs w s v5 := (gite (gstep (frame_twinStep (gle rfl hw) _ _) (upd_twin hv2 (gle rfl hw))) (gstep (frame_timeSample (gle rfl hw) _ _) hv2)); clear_value v5; have hv6 : Fr stIs w s v6 := (gstep (frame_followPut (gle rfl hw) _ _) hv5); clear_value v6; have hv7 : Fr stIs w s v7 := (gstep (frame_regPut (gle rfl hw) _ _ _) hv6); clear_value v7; exact (gstep (frame_sendFlit (gle rfl hw) _ _) hv7))

theorem frame_stopPart {w : Parts} (hw : Parts.faultReach.union w = w) x0 s :
    Fr stIs w s (stopPart x0 s) := by
  delta stopPart; exact (gstep (frame_endDowel (gle rfl hw) (by exact fun y0 y1 y2 y3 => (frame_raise (gle rfl hw) _ _ _ _)) _ _ _ _) (frame_dowelMod (gle rfl hw) _ _ _))

theorem frame_laneFault {w : Parts} (hw : Parts.faultReach.union w = w) x0 x1 s :
    Fr stIs w s (laneFault x0 x1 s) := by
  delta laneFault; exact (frame_raise (gle rfl hw) _ _ _ _)

theorem frame_linkDown {w : Parts} (hw : Parts.faultReach.union w = w) s :
    Fr stIs w s (linkDown s) := by
  delta linkDown; exact (by extract_lets +onlyGivenNames -merge -useContext -underBinder a0 v1; clear_value a0; have hv1 : Fr stIs w s v1 := (gstep (frame_laneFault (gle rfl hw) _ _ _) (upd_twin frefl (gle rfl hw))); clear_value v1; exact (by split; (focus (exact (gstep (frame_twinGo (gle rfl hw) _ _) (upd_twin hv1 (gle rfl hw))))); (focus (exact (gstep (frame_twinGo (gle rfl hw) _ _) (upd_twin hv1 (gle rfl hw))))); (focus (exact (gstep (frame_twinGo (gle rfl hw) _ _) (upd_twin hv1 (gle rfl hw))))); (focus (exact hv1))))

theorem frame_headerBad {w : Parts} (hw : Parts.faultReach.union w = w) s :
    Fr stIs w s (headerBad s) := by
  delta headerBad; exact (gstep (frame_laneFault (gle rfl hw) _ _ _) (gstep (frame_cntInc (gle rfl hw) _ _) (upd_twin frefl (gle rfl hw))))

theorem frame_laneRetire {w : Parts} (hw : Parts.handReach.union w = w) x0 s :
    Fr stIs w s (laneRetire x0 s) := by
  delta laneRetire; exact (by extract_lets +onlyGivenNames -merge -useContext -underBinder a0 v1; clear_value a0; have hv1 : Fr stIs w s v1 := (gstep (frame_addPending (gle rfl hw) _ _) (upd_twin frefl (gle rfl hw))); clear_value v1; exact (gstep (frame_retrain (gle rfl hw) _) (gstep (frame_laneFault (gle rfl hw) _ _ _) hv1)))

theorem frame_split {w : Parts} (hw : { Parts.faultReach with tb := true }.union w = w) x0 s :
    Fr stIs w s (split x0 s) := by
  delta split; exact (by extract_lets +onlyGivenNames -merge -useContext -underBinder v0 v1 v2 v3 a4 v5 v6 v7 v8 v9; clear_value v0 v1 v2 a4; have hv3 : Fr stIs w s v3 := (gstep (frame_raise (gle rfl hw) _ _ _ _) (frame_standAlone (gle rfl hw) _ _)); clear_value v3; have hv5 : Fr stIs w s v5 := (gstep (frame_cntAdd (gle rfl hw) _ _ _) (upd_twin hv3 (gle rfl hw))); clear_value v5; have hv6 : Fr stIs w s v6 := (gfold hv5 (by exact fun p10 _ hp10 => (gstep (frame_endDowel (gle rfl hw) (by exact fun y11 y12 y13 y14 => (frame_raise (gle rfl hw) _ _ _ _)) _ _ _ _) hp10))); clear_value v6; have hv7 : Fr stIs w s v7 := (gstep (frame_splitColls (gle rfl hw) _) (gfold hv6 (by exact fun p15 _ hp15 => (gstep (frame_stopPart (gle rfl hw) _ _) hp15)))); clear_value v7; have hv8 : Fr stIs w s v8 := (gfold hv7 (by exact fun p16 _ hp16 => (gite (gstep (frame_partitionStop (gle rfl hw) (by exact fun y17 y18 y19 y20 => (frame_raise (gle rfl hw) _ _ _ _)) _ _ _) hp16) hp16))); clear_value v8; have hv9 : Fr stIs w s v9 := (gite (gstep (frame_leaveFollow (gle rfl hw) _ _) hv8) hv8); clear_value v9; exact (gstep (frame_rejoinEnds (gle rfl hw) _ _) (gstep (frame_regSetFld (gle rfl hw) _ _ _ _ _) (gstep (frame_regSetFld (gle rfl hw) _ _ _ _ _) hv9))))

theorem frame_ctlTake {w : Parts} (hw : { Parts.faultReach with part := true, tb := true }.union w = w) x0 s :
    Fr stIs w s (ctlTake x0 s) := by
  delta ctlTake; exact (by split; (focus (exact (frame_takePart (gle rfl hw) _ _ _ _))); (focus (exact (gite (by extract_lets +onlyGivenNames -merge -useContext -underBinder v0; have hv0 : Fr stIs w s v0 := (frame_dowelMod (gle rfl hw) _ _ _); clear_value v0; exact (gite (gstep (frame_startBoth (gle rfl hw) _ _) hv0) hv0)) frefl))); (focus (exact (gite (frame_dowelMod (gle rfl hw) _ _ _) frefl))); (focus (exact (gite (frame_dowelMod (gle rfl hw) _ _ _) frefl))); (focus (exact (gite (frame_dowelMod (gle rfl hw) _ _ _) frefl))); (focus (exact (gite (frame_endDowel (gle rfl hw) (by exact fun y1 y2 y3 y4 => (frame_raise (gle rfl hw) _ _ _ _)) _ _ _ _) frefl))); (focus (exact (gite (frame_stopPart (gle rfl hw) _ _) frefl))); (focus (exact (gite (gite (frame_markHere (gle rfl hw) (by exact fun y5 y6 y7 y8 => (frame_raise (gle rfl hw) _ _ _ _)) _ _) frefl) (gite (frame_markHere (gle rfl hw) (by exact fun y9 y10 y11 y12 => (frame_raise (gle rfl hw) _ _ _ _)) _ _) frefl)))); (focus (exact (gite (frame_split (gle rfl hw) _ _) frefl))); (focus (exact (upd_twin frefl (gle rfl hw)))); (focus (exact (upd_twin frefl (gle rfl hw)))); (focus (exact (frame_applyForwarded (gle rfl hw) _ _))); (focus (exact (upd_twin frefl (gle rfl hw)))); (focus (exact (upd_twin frefl (gle rfl hw)))); (focus (exact (frame_collCtl (gle rfl hw) _ _))); (focus (exact (frame_collCtl (gle rfl hw) _ _))); (focus (exact (frame_collCtl (gle rfl hw) _ _))); (focus (exact (frame_collCtl (gle rfl hw) _ _))); (focus (exact (frame_collCtl (gle rfl hw) _ _))))

theorem frame_accordFails {w : Parts} (hw : Parts.faultReach.union w = w) x0 x1 s :
    Fr stIs w s (accordFails x0 x1 s) := by
  delta accordFails; exact (by extract_lets +onlyGivenNames -merge -useContext -underBinder v0 v1; have hv0 : Fr stIs w s v0 := (gite (frame_raise (gle rfl hw) _ _ _ _) (frame_raise (gle rfl hw) _ _ _ _)); clear_value v0; have hv1 : Fr stIs w s v1 := (gite (gstep (frame_twinGo (gle rfl hw) _ _) hv0) (gstep (frame_standAlone (gle rfl hw) _ _) hv0)); clear_value v1; exact (gstep (frame_rejoinEnds (gle rfl hw) _ _) hv1))

theorem frame_trainTest {w : Parts} (hw : Parts.faultReach.union w = w) x0 x1 s :
    Fr stIs w s (trainTest x0 x1 s) := by
  delta trainTest; exact (by split; (focus (exact (by extract_lets +onlyGivenNames -merge -useContext -underBinder v0 v1 a2 v3; clear_value a2; have hv0 : Fr stIs w s v0 := (frame_regSetFld (gle rfl hw) _ _ _ _ _); clear_value v0; have hv1 : Fr stIs w s v1 := (gstep (frame_regPut (gle rfl hw) _ _ _) hv0); clear_value v1; have hv3 : Fr stIs w s v3 := (upd_twin hv1 (gle rfl hw)); clear_value v3; exact (gite (gstep (frame_laneFault (gle rfl hw) _ _ _) hv3) hv3)))); (focus (exact (upd_twin frefl (gle rfl hw)))))

theorem frame_trainDone {w : Parts} (hw : Parts.faultReach.union w = w) s :
    Fr stIs w s (trainDone s) := by
  delta trainDone; exact (by split; (focus (exact (by extract_lets +onlyGivenNames -merge -useContext -underBinder a0 v1; clear_value a0; have hv1 : Fr stIs w s v1 := (gstep (frame_trainPut (gle rfl hw) _ _) (upd_twin frefl (gle rfl hw))); clear_value v1; exact (gite (gite (gstep (frame_twinGo (gle rfl hw) _ _) (gstep (frame_freshLink (gle rfl hw) _) (upd_twin hv1 (gle rfl hw)))) (gstep (frame_enterJoining (gle rfl hw) _) (gstep (frame_freshLink (gle rfl hw) _) hv1))) (gstep (frame_resendAll (gle rfl hw) _) hv1))))); (focus (exact (gite (frame_linkDown (gle rfl hw) _) (upd_twin frefl (gle rfl hw))))); (focus (exact frefl)))

theorem frame_flitArrive {w : Parts} (hw : Parts.faultReach.union w = w) x0 s :
    Fr stIs w s (flitArrive x0 s) := by
  delta flitArrive; exact (gite frefl (gite (frame_headerBad (gle rfl hw) _) (gite (frame_acked (gle rfl hw) _ _) (gite (gstep (frame_flitTake (gle rfl hw) _ _) (gstep (frame_acked (gle rfl hw) _ _) (upd_twin frefl (gle rfl hw)))) (upd_twin frefl (gle rfl hw))))))

theorem frame_accordBreaks {w : Parts} (hw : { Parts.faultReach with tb := true }.union w = w) x0 s :
    Fr stIs w s (accordBreaks x0 s) := by
  delta accordBreaks; exact (by split; (focus (exact frefl)); (focus (exact (gstep (frame_split (gle rfl hw) _ _) (frame_raise (gle rfl hw) _ _ _ _)))); (focus (exact (gstep (frame_split (gle rfl hw) _ _) (frame_raise (gle rfl hw) _ _ _ _)))); (focus (exact (gite (frame_split (gle rfl hw) _ _) (upd_twin frefl (gle rfl hw))))); (focus (exact (gite (frame_split (gle rfl hw) _ _) (upd_twin frefl (gle rfl hw))))))

theorem frame_accordTake {w : Parts} (hw : { Parts.faultReach with tb := true }.union w = w) x0 s :
    Fr stIs w s (accordTake x0 s) := by
  delta accordTake; exact (by extract_lets +onlyGivenNames -merge -useContext -underBinder a0 v1 v2 v3; clear_value a0 v2 v3; have hv1 : Fr stIs w s v1 := (gstep (frame_regPut (gle rfl hw) _ _ _) (upd_twin frefl (gle rfl hw))); clear_value v1; exact (by split; (focus (exact (gite (gstep (frame_accordFails (gle rfl hw) _ _ _) hv1) (gite (gstep (frame_accordBreaks (gle rfl hw) _ _) hv1) hv1)))); (focus (exact (by extract_lets +onlyGivenNames -merge -useContext -underBinder a4 v5; clear_value a4; have hv5 : Fr stIs w s v5 := (gite (gstep (frame_joinPair (gle rfl hw) _) hv1) (upd_twin hv1 (gle rfl hw))); clear_value v5; exact (gite (gstep (frame_rejoinEnds (gle rfl hw) _ _) hv5) hv5))))))

theorem frame_dropJointer {w : Parts} (hw : ({ repair := true } : Parts).union w = w) x0 s x2 :
    Fr stIs w s (dropJointer x0 s x2) := by
  delta dropJointer; exact (upd_repair frefl (gle rfl hw))

theorem frame_withTables {w : Parts} (hw : ({ part := true } : Parts).union w = w) x0 s :
    Fr stIs w s (withTables x0 s) := by
  delta withTables; exact (by extract_lets +onlyGivenNames -merge -useContext -underBinder v0; clear_value v0; exact (upd_part frefl (gle rfl hw)))

theorem frame_dropBank {w : Parts} (hw : ({ repair := true } : Parts).union w = w) x0 s x2 :
    Fr stIs w s (dropBank x0 s x2) := by
  delta dropBank; exact (upd_repair frefl (gle rfl hw))

theorem frame_dropBay {w : Parts} (hw : ({ repair := true } : Parts).union w = w) x0 s x2 :
    Fr stIs w s (dropBay x0 s x2) := by
  delta dropBay; exact (upd_repair frefl (gle rfl hw))

theorem frame_useRows {w : Parts} (hw : ({ repair := true } : Parts).union w = w) x0 x1 x2 s :
    Fr stIs w s (useRows x0 x1 x2 s) := by
  delta useRows; exact (by extract_lets +onlyGivenNames -merge -useContext -underBinder v0; clear_value v0; exact (gite (upd_repair frefl (gle rfl hw)) (gite (frame_dropBay (gle rfl hw) _ _ _) (gite (frame_dropBank (gle rfl hw) _ _ _) frefl))))

theorem frame_bootTables {w : Parts} (hw : ({ part := true } : Parts).union w = w) x0 s :
    Fr stIs w s (bootTables x0 s) := by
  delta bootTables; exact (gfold (frame_withTables (gle rfl hw) _ _) (by exact fun p0 _ hp0 => (gstep (frame_beatPut (gle rfl hw) _ _ _) hp0)))

theorem frame_logFence {w : Parts} (hw : ({ regs := true } : Parts).union w = w) x0 s x2 :
    Fr stIs w s (logFence x0 s x2) := by
  delta logFence; exact (by extract_lets +onlyGivenNames -merge -useContext -underBinder v0; clear_value v0; exact (by split; (focus (exact (gite frefl (frame_regPut (gle rfl hw) _ _ _)))); (focus (exact frefl))))

theorem frame_bootRoutes {w : Parts} (hw : ({ regs := true } : Parts).union w = w) x0 s :
    Fr stIs w s (bootRoutes x0 s) := by
  delta bootRoutes; exact (gfold frefl (by exact fun p0 _ hp0 => (gstep (frame_regPut (gle rfl hw) _ _ _) hp0)))

theorem frame_bootLife {w : Parts} (hw : ({ regs := true, boot := true } : Parts).union w = w) x0 s :
    Fr stIs w s (bootLife x0 s) := by
  delta bootLife; exact (by split; (focus (exact (gite frefl (gstep (frame_regSetFld (gle rfl hw) _ _ _ _ _) (frame_burnLife (gle rfl hw) _ _))))); (focus (exact frefl)))

theorem frame_loadImages {w : Parts} (hw : ({ regs := true, boot := true } : Parts).union w = w) x0 x1 x2 s :
    Fr stIs w s (loadImages x0 x1 x2 s) := by
  delta loadImages; exact (by extract_lets +onlyGivenNames -merge -useContext -underBinder v0 v1 v2; clear_value v0; have hv1 : Fr stIs w s v1 := (gstep (frame_regSetFld (gle rfl hw) _ _ _ _ _) (frame_regSetFld (gle rfl hw) _ _ _ _ _)); clear_value v1; have hv2 : Fr stIs w s v2 := (gstep (frame_regPut (gle rfl hw) _ _ _) (gstep (frame_regPut (gle rfl hw) _ _ _) hv1)); clear_value v2; exact (upd_boot hv2 (gle rfl hw)))

theorem frame_bootTwin {w : Parts} (hw : ({ regs := true, twin := true } : Parts).union w = w) x0 s :
    Fr stIs w s (bootTwin x0 s) := by
  delta bootTwin; exact (by extract_lets +onlyGivenNames -merge -useContext -underBinder v0 a1 v2; clear_value a1; have hv0 : Fr stIs w s v0 := (gstep (frame_regSetFld (gle rfl hw) _ _ _ _ _) (frame_regSetFld (gle rfl hw) _ _ _ _ _)); clear_value v0; have hv2 : Fr stIs w s v2 := (upd_twin hv0 (gle rfl hw)); clear_value v2; exact (gite (gstep (frame_trainPut (gle rfl hw) _ _) (gstep (frame_twinGo (gle rfl hw) _ _) hv2)) hv2))

theorem frame_execAppHartRelease {w : Parts} (hw : ({ regs := true, boot := true } : Parts).union w = w) s :
    Fr nextIs w s (execAppHartRelease s) := by
  delta execAppHartRelease; exact (gnext (gite (by extract_lets +onlyGivenNames -merge -useContext -underBinder v0; have hv0 : Fr stIs w s v0 := (frame_regSetFld (gle rfl hw) _ _ _ _ _); clear_value v0; exact (upd_boot hv0 (gle rfl hw))) frefl))

theorem frame_loadApp {w : Parts} (hw : ({ regs := true, mem := true, boot := true } : Parts).union w = w) x0 s :
    Fr stIs w s (loadApp x0 s) := by
  delta loadApp; exact (by extract_lets +onlyGivenNames -merge -useContext -underBinder v0 v1; clear_value v0; have hv1 : Fr stIs w s v1 := (gstep (frame_memWrite (gle rfl hw) _ _ _) (frame_regSetFld (gle rfl hw) _ _ _ _ _)); clear_value v1; exact (upd_boot hv1 (gle rfl hw)))

theorem frame_putMap {w : Parts} (hw : ({ regs := true, bays := true, bayMap := true, jmap := true, part := true } : Parts).union w = w) x0 s :
    Fr stIs w s (putMap x0 s) := by
  delta putMap; exact (by extract_lets +onlyGivenNames -merge -useContext -underBinder v0 v1 v2 a3 v4 v5 v6 v7 v8; clear_value v0 v1 v2 a3 v7; have hv4 : Fr stIs w s v4 := (upd_bayMap_jmap_part frefl (gle rfl hw)); clear_value v4; have hv5 : Fr stIs w s v5 := (gfold hv4 (by exact fun p9 _ hp9 => (gstep (frame_bayMod (gle rfl hw) _ _ _) hp9))); clear_value v5; have hv6 : Fr stIs w s v6 := (gstep (frame_regSetFld (gle rfl hw) _ _ _ _ _) (gstep (frame_regSetFld (gle rfl hw) _ _ _ _ _) hv5)); clear_value v6; have hv8 : Fr stIs w s v8 := (gstep (frame_regPut (gle rfl hw) _ _ _) hv6); clear_value v8; exact (gstep (frame_putDigest (gle rfl hw) _) (gfold hv8 (by exact fun p10 _ hp10 => (gstep (frame_logFence (gle rfl hw) _ _ _) hp10)))))

theorem frame_execFabricControllerStart {w : Parts} (hw : ({ regs := true } : Parts).union w = w) s :
    Fr nextIs w s (execFabricControllerStart s) := by
  delta execFabricControllerStart; exact (gnext (gite (gstep (frame_bootRun (gle rfl hw) _) (gstep (frame_bootGo (gle rfl hw) _ _) (frame_regSetFld (gle rfl hw) _ _ _ _ _))) frefl))

theorem frame_bayBist {w : Parts} (hw : ({ regs := true, safety := true, repair := true } : Parts).union w = w) x0 x1 s :
    Fr stIs w s (bayBist x0 x1 s) := by
  delta bayBist; exact (by extract_lets +onlyGivenNames -merge -useContext -underBinder v0 a1 v2 v3 v4; clear_value v0 a1 v4; have hv2 : Fr stIs w s v2 := (upd_safety frefl (gle rfl hw)); clear_value v2; have hv3 : Fr stIs w s v3 := (gfold hv2 (by exact fun p5 _ hp5 => (gstep (frame_dropBay (gle rfl hw) _ _ _) hp5))); clear_value v3; exact (gstep (frame_bootGo (gle rfl hw) _ _) (gfold hv3 (by exact fun p6 _ hp6 => (gstep (frame_dropJointer (gle rfl hw) _ _ _) hp6)))))

theorem frame_execBayBistDone {w : Parts} (hw : ({ regs := true, safety := true, repair := true } : Parts).union w = w) x0 x1 s :
    Fr nextIs w s (execBayBistDone x0 x1 s) := by
  delta execBayBistDone; exact (gnext (gite (frame_bayBist (gle rfl hw) _ _ _) frefl))

theorem frame_bootStep5 {w : Parts} (hw : ({ regs := true } : Parts).union w = w) s :
    Fr stIs w s (bootStep5 s) := by
  delta bootStep5; exact (gite (frame_bootGo (gle rfl hw) _ _) frefl)

theorem frame_execAppImageVerified {w : Parts} (hw : ({ regs := true, mem := true, boot := true } : Parts).union w = w) x0 s :
    Fr nextIs w s (execAppImageVerified x0 s) := by
  delta execAppImageVerified; exact (gnext (gite (gite (frame_bootStop (gle rfl hw) _ _ _) (by split; (focus (exact (gstep (frame_bootRun (gle rfl hw) _) (frame_loadApp (gle rfl hw) _ _)))); (focus (exact (frame_bootStop (gle rfl hw) _ _ _))))) frefl))

theorem frame_matchDram {w : Parts} (hw : ({ regs := true, boot := true } : Parts).union w = w) s :
    Fr stIs w s (matchDram s) := by
  delta matchDram; exact (by split; (focus (exact (gite (upd_boot frefl (gle rfl hw)) (frame_bootStop (gle rfl hw) _ _ _)))); (focus (exact frefl)))

theorem frame_execBootImagesVerified {w : Parts} (hw : ({ regs := true, boot := true } : Parts).union w = w) x0 x1 s :
    Fr nextIs w s (execBootImagesVerified x0 x1 s) := by
  delta execBootImagesVerified; exact (gnext (gite (gite (frame_bootStop (gle rfl hw) _ _ _) (by split; (focus (exact (gstep (frame_bootStep5 (gle rfl hw) _) (gstep (frame_matchDram (gle rfl hw) _) (frame_loadImages (gle rfl hw) _ _ _ _))))); (focus (exact (frame_bootStop (gle rfl hw) _ _ _))))) frefl))

theorem frame_execDramTrainingDone {w : Parts} (hw : ({ regs := true, boot := true } : Parts).union w = w) x0 x1 s :
    Fr nextIs w s (execDramTrainingDone x0 x1 s) := by
  delta execDramTrainingDone; exact (gnext (gite (gite (gstep (frame_bootStep5 (gle rfl hw) _) (gstep (frame_matchDram (gle rfl hw) _) (upd_boot frefl (gle rfl hw)))) (frame_bootStop (gle rfl hw) _ _ _)) frefl))

theorem frame_applyEntry {w : Parts} (hw : Parts.handReach.union w = w) s x1 :
    Fr stIs w s (applyEntry s x1) := by
  delta applyEntry; exact (by extract_lets +onlyGivenNames -merge -useContext -underBinder v0; clear_value v0; exact (gite frefl (gite (frame_raise (gle rfl hw) _ _ _ _) (by split; (focus (exact (frame_dropBay (gle rfl hw) _ _ _))); (focus (exact (frame_dropJointer (gle rfl hw) _ _ _))); (focus (exact (frame_dropBank (gle rfl hw) _ _ _))); (focus (exact (frame_useRows (gle rfl hw) _ _ _ _))); (focus (exact (upd_twin frefl (gle rfl hw)))); (focus (exact frefl))))))

theorem frame_memoryBist {w : Parts} (hw : { Parts.handReach with boot := true }.union w = w) x0 x1 s :
    Fr stIs w s (memoryBist x0 x1 s) := by
  delta memoryBist; exact (by extract_lets +onlyGivenNames -merge -useContext -underBinder v0 v1 v2 v3; clear_value v0; have hv1 : Fr stIs w s v1 := (upd_repair frefl (gle rfl hw)); clear_value v1; have hv2 : Fr stIs w s v2 := (gfold (gfold hv1 (by exact fun p4 _ hp4 => (gstep (frame_applyEntry (gle rfl hw) _ _) hp4))) (by exact fun p5 _ hp5 => (gstep (frame_useRows (gle rfl hw) _ _ _ _) hp5))); clear_value v2; have hv3 : Fr stIs w s v3 := (gfold hv2 (by exact fun p6 _ hp6 => (gstep (frame_dropBay (gle rfl hw) _ _ _) hp6))); clear_value v3; exact (upd_boot hv3 (gle rfl hw)))

theorem frame_execMemoryBistDone {w : Parts} (hw : { Parts.handReach with boot := true }.union w = w) x0 x1 s :
    Fr nextIs w s (execMemoryBistDone x0 x1 s) := by
  delta execMemoryBistDone; exact (gnext (gite (gstep (frame_bootStep5 (gle rfl hw) _) (frame_memoryBist (gle rfl hw) _ _ _)) frefl))

theorem frame_bootEarly {w : Parts} (hw : { Parts.handReach with staging := true, latches := true, bayMap := true, jointers := true, jmap := true, part := true, tb := true, boot := true, intake := true, gfx := true, disp := true, gw := true, aplic := true, reply := true, freeCtr := true }.union w = w) x0 s :
    Fr stIs w s (bootEarly x0 s) := by
  delta bootEarly; exact (gfold frefl (by exact fun p0 _ hp0 => (gstep (frame_regWrite (gle rfl hw) _ _ _ _ _) hp0)))

theorem frame_bootStep6 {w : Parts} (hw : { Parts.handReach with staging := true, latches := true, bayMap := true, jointers := true, jmap := true, part := true, tb := true, boot := true, intake := true, gfx := true, disp := true, gw := true, aplic := true, reply := true, freeCtr := true }.union w = w) s :
    Fr stIs w s (bootStep6 s) := by
  delta bootStep6; exact (by split; (focus (exact (gstep (frame_bootStop (gle rfl hw) _ _ _) (frame_raise (gle rfl hw) _ _ _ _)))); (focus (exact (by extract_lets +onlyGivenNames -merge -useContext -underBinder v0; have hv0 : Fr stIs w s v0 := (frame_putMap (gle rfl hw) _ _); clear_value v0; exact (by split; (focus (exact (gite (gstep (frame_bootGo (gle rfl hw) _ _) (gstep (frame_bootEarly (gle rfl hw) _ _) (gstep (frame_bootLife (gle rfl hw) _ _) (gstep (frame_regSetFld (gle rfl hw) _ _ _ _ _) (gstep (frame_bootTwin (gle rfl hw) _ _) (gstep (frame_bootRoutes (gle rfl hw) _ _) (gstep (frame_bootTables (gle rfl hw) _ _) hv0))))))) (gstep (frame_bootStop (gle rfl hw) _ _ _) hv0)))); (focus (exact (gstep (frame_bootStop (gle rfl hw) _ _ _) hv0))))))))

theorem frame_execBootMapAndGrade {w : Parts} (hw : { Parts.handReach with staging := true, latches := true, bayMap := true, jointers := true, jmap := true, part := true, tb := true, boot := true, intake := true, gfx := true, disp := true, gw := true, aplic := true, reply := true, freeCtr := true }.union w = w) s :
    Fr nextIs w s (execBootMapAndGrade s) := by
  delta execBootMapAndGrade; exact (gnext (gite (frame_bootStep6 (gle rfl hw) _) frefl))

theorem frame_execFence {w : Parts} (hw : Parts.handReach.union w = w) x0 x1 s :
    Fr nextIs w s (execFence x0 x1 s) := by
  delta execFence; exact (frame_issue (gle rfl hw) (by exact fun y0 => (gite frefl (frame_advance (gle rfl hw) _ _))) _ _ _ _)

theorem frame_execNop {w : Parts} (hw : Parts.handReach.union w = w) x0 x1 s :
    Fr nextIs w s (execNop x0 x1 s) := by
  delta execNop; exact (frame_issue (gle rfl hw) (by exact fun y0 => (frame_advance (gle rfl hw) _ _)) _ _ _ _)

theorem frame_execWaitq {w : Parts} (hw : Parts.handReach.union w = w) x0 x1 s :
    Fr nextIs w s (execWaitq x0 x1 s) := by
  delta execWaitq; exact (frame_issue (gle rfl hw) (by exact fun y0 => (by extract_lets +onlyGivenNames -merge -useContext -underBinder v1; clear_value v1; exact (gite frefl (frame_advance (gle rfl hw) _ _)))) _ _ _ _)

theorem frame_execEnd {w : Parts} (hw : Parts.handReach.union w = w) x0 x1 s :
    Fr nextIs w s (execEnd x0 x1 s) := by
  delta execEnd; exact (frame_issue (gle rfl hw) (by exact fun y0 => (gstep (frame_settle (gle rfl hw) _ _) (frame_handMod (gle rfl hw) _ _ _))) _ _ _ _)

theorem frame_execTrap {w : Parts} (hw : Parts.handReach.union w = w) x0 x1 s :
    Fr nextIs w s (execTrap x0 x1 s) := by
  delta execTrap; exact (frame_issue (gle rfl hw) (by exact fun y0 => (frame_preciseFault (gle rfl hw) _ _ _)) _ _ _ _)

theorem frame_execBra {w : Parts} (hw : Parts.handReach.union w = w) x0 x1 s :
    Fr nextIs w s (execBra x0 x1 s) := by
  delta execBra; exact (frame_issue (gle rfl hw) (by exact fun y0 => (frame_branch (gle rfl hw) _ _ _ _ _)) _ _ _ _)

theorem frame_execJr {w : Parts} (hw : Parts.handReach.union w = w) x0 x1 s :
    Fr nextIs w s (execJr x0 x1 s) := by
  delta execJr; exact (frame_issue (gle rfl hw) (by exact fun y0 => (by extract_lets +onlyGivenNames -merge -useContext -underBinder v1 v2; clear_value v1 v2; exact (gite (frame_preciseFault (gle rfl hw) _ _ _) (frame_goTo (gle rfl hw) _ _ _ _)))) _ _ _ _)

theorem frame_execJal {w : Parts} (hw : Parts.handReach.union w = w) x0 x1 s :
    Fr nextIs w s (execJal x0 x1 s) := by
  delta execJal; exact (frame_issue (gle rfl hw) (by exact fun y0 => (frame_branch (gle rfl hw) _ _ _ _ _)) _ _ _ _)

theorem frame_execLoop {w : Parts} (hw : Parts.handReach.union w = w) x0 x1 s :
    Fr nextIs w s (execLoop x0 x1 s) := by
  delta execLoop; exact (frame_issue (gle rfl hw) (by exact fun y0 => (by extract_lets +onlyGivenNames -merge -useContext -underBinder v1; clear_value v1; exact (gite (frame_advance (gle rfl hw) _ _) (frame_branch (gle rfl hw) _ _ _ _ _)))) _ _ _ _)

theorem frame_condBranch {w : Parts} (hw : Parts.handReach.union w = w) x0 x1 x2 s :
    Fr stIs w s (condBranch x0 x1 x2 s) := by
  delta condBranch; exact (frame_branch (gle rfl hw) _ _ _ _ _)

theorem frame_execBgeu {w : Parts} (hw : Parts.handReach.union w = w) x0 x1 s :
    Fr nextIs w s (execBgeu x0 x1 s) := by
  delta execBgeu; exact (frame_issue (gle rfl hw) (by exact fun y0 => (frame_condBranch (gle rfl hw) _ _ _ _)) _ _ _ _)

theorem frame_execBne {w : Parts} (hw : Parts.handReach.union w = w) x0 x1 s :
    Fr nextIs w s (execBne x0 x1 s) := by
  delta execBne; exact (frame_issue (gle rfl hw) (by exact fun y0 => (frame_condBranch (gle rfl hw) _ _ _ _)) _ _ _ _)

theorem frame_execBeq {w : Parts} (hw : Parts.handReach.union w = w) x0 x1 s :
    Fr nextIs w s (execBeq x0 x1 s) := by
  delta execBeq; exact (frame_issue (gle rfl hw) (by exact fun y0 => (frame_condBranch (gle rfl hw) _ _ _ _)) _ _ _ _)

theorem frame_execBlt {w : Parts} (hw : Parts.handReach.union w = w) x0 x1 s :
    Fr nextIs w s (execBlt x0 x1 s) := by
  delta execBlt; exact (frame_issue (gle rfl hw) (by exact fun y0 => (frame_condBranch (gle rfl hw) _ _ _ _)) _ _ _ _)

theorem frame_execBge {w : Parts} (hw : Parts.handReach.union w = w) x0 x1 s :
    Fr nextIs w s (execBge x0 x1 s) := by
  delta execBge; exact (frame_issue (gle rfl hw) (by exact fun y0 => (frame_condBranch (gle rfl hw) _ _ _ _)) _ _ _ _)

theorem frame_execBltu {w : Parts} (hw : Parts.handReach.union w = w) x0 x1 s :
    Fr nextIs w s (execBltu x0 x1 s) := by
  delta execBltu; exact (frame_issue (gle rfl hw) (by exact fun y0 => (frame_condBranch (gle rfl hw) _ _ _ _)) _ _ _ _)

theorem frame_freeBytesG {w : Parts} (hw : ({ freeCtr := true } : Parts).union w = w) x0 s :
    Fr (via stIs) w s (freeBytesG x0 s) := by
  delta freeBytesG; exact (gmk (upd_freeCtr frefl (gle rfl hw)))

theorem frame_mboxWrite {w : Parts} (hw : ({ regs := true, bays := true } : Parts).union w = w) x0 x1 x2 x3 s :
    Fr stIs w s (mboxWrite x0 x1 x2 x3 s) := by
  delta mboxWrite; exact (by split; (focus (exact (frame_storeWrite (gle rfl hw) _ _ _ _))); (focus (exact frefl)))

theorem frame_handPacket {w : Parts} (hw : ({ regs := true, bays := true, cmd := true, pegs := true, safety := true, gfx := true } : Parts).union w = w) x0 x1 x2 x3 x4 x5 s :
    Fr stIs w s (handPacket x0 x1 x2 x3 x4 x5 s) := by
  delta handPacket; exact (by extract_lets +onlyGivenNames -merge -useContext -underBinder v0 v1 a2 v3; clear_value v0 a2; have hv1 : Fr stIs w s v1 := (gfold frefl (by exact fun p4 _ hp4 => (gstep (frame_mboxWrite (gle rfl hw) _ _ _ _ _) hp4))); clear_value v1; have hv3 : Fr stIs w s v3 := (upd_gfx hv1 (gle rfl hw)); clear_value v3; exact (gstep (frame_pegSignal (gle rfl hw) _ _ _) hv3))

theorem frame_scramble {w : Parts} (hw : ({ regs := true, mem := true, bays := true, waitWrites := true, twin := true, freeCtr := true } : Parts).union w = w) x0 x1 s :
    Fr stIs w s (scramble x0 x1 s) := by
  delta scramble; exact (by split; rename_i r0 r1 e2; have gr1 := gofeq e2 (frame_freeBytesG (gle rfl hw) _ _); have hr1 : Fr stIs w s r1 := gr1; exact (gstep (frame_devWrite (gle rfl hw) _ _ _) hr1))

theorem frame_gfxFail {w : Parts} (hw : Parts.faultReach.union w = w) x0 s :
    Fr stIs w s (gfxFail x0 s) := by
  delta gfxFail; exact (by split; (focus (exact (frame_stopJob (gle rfl hw) (by exact fun y0 y1 y2 y3 => (frame_raise (gle rfl hw) _ _ _ _)) _ _ _ _))); (focus (exact frefl)))

theorem frame_gfxWrite {w : Parts} (hw : Parts.faultReach.union w = w) x0 x1 s :
    Fr (via stIs) w s (gfxWrite x0 x1 s) := by
  delta gfxWrite; exact (frame_unitWrite (gle rfl hw) _ _ _ _ _ _)

theorem frame_gfxRead {w : Parts} (hw : Parts.faultReach.union w = w) x0 x1 s :
    Fr (via stIs) w s (gfxRead x0 x1 s) := by
  delta gfxRead; exact (frame_unitRead (gle rfl hw) _ _ _ _ _ _)

theorem frame_readDraw {w : Parts} (hw : { Parts.faultReach with gfx := true }.union w = w) s :
    Fr (via stIs) w s (readDraw s) := by
  delta readDraw; exact (by split; (focus (rename_i m0 em0; have gm0 := gofeq em0 (frame_gfxRead (gle rfl hw) _ _ _); have hm0 : Fr stIs w s m0 := gm0; exact (gmk hm0))); (focus (rename_i m1 em1; have gm1 := gofeq em1 (frame_gfxRead (gle rfl hw) _ _ _); have hm1 : Fr stIs w s m1 := gm1; exact (gite (gmk hm1) (by split; (focus (rename_i m2 em2; have gm2 := gofeq em2 (gstep (frame_gfxRead (gle rfl hw) _ _ _) hm1); have hm2 : Fr stIs w s m2 := gm2; exact (gmk hm2))); (focus (rename_i m3 em3; have gm3 := gofeq em3 (gstep (frame_gfxRead (gle rfl hw) _ _ _) hm1); have hm3 : Fr stIs w s m3 := gm3; exact (gite (gmk hm3) (gmk (upd_gfx hm3 (gle rfl hw)))))))))))

theorem frame_writeRows {w : Parts} (hw : Parts.faultReach.union w = w) x0 x1 x2 x3 x4 x5 s :
    Fr (via stIs) w s (writeRows x0 x1 x2 x3 x4 x5 s) := by
  induction x5 generalizing x0 x1 x2 x3 x4 s with
  | nil => rw [writeRows.eq_1]; exact (gmk frefl)
  | cons z l ih => rw [writeRows.eq_2]; exact (by split; (focus (rename_i m0 em0; have gm0 := gofeq em0 (frame_gfxWrite (gle rfl hw) _ _ _); have hm0 : Fr stIs w s m0 := gm0; exact (gstep (ih _ _ _ _ _ _) hm0))); (focus (rename_i m1 em1; have gm1 := gofeq em1 (frame_gfxWrite (gle rfl hw) _ _ _); have hm1 : Fr stIs w s m1 := gm1; exact (gmk hm1))))

theorem frame_loadRows {w : Parts} (hw : Parts.faultReach.union w = w) x0 x1 x2 x3 x4 x5 x6 s :
    Fr (via stIs) w s (loadRows x0 x1 x2 x3 x4 x5 x6 s) := by
  induction x5 generalizing x0 x1 x2 x3 x4 x6 s with
  | nil => rw [loadRows.eq_1]; exact (gmk frefl)
  | cons z l ih => rw [loadRows.eq_2]; exact (by split; (focus (rename_i m0 em0; have gm0 := gofeq em0 (frame_gfxRead (gle rfl hw) _ _ _); have hm0 : Fr stIs w s m0 := gm0; exact (gmk hm0))); (focus (rename_i m1 em1; have gm1 := gofeq em1 (frame_gfxRead (gle rfl hw) _ _ _); have hm1 : Fr stIs w s m1 := gm1; exact (gstep (ih _ _ _ _ _ _ _) hm1))))

theorem frame_vertexNo {w : Parts} (hw : Parts.faultReach.union w = w) x0 s :
    Fr (via stIs) w s (vertexNo x0 s) := by
  delta vertexNo; exact (by extract_lets +onlyGivenNames -merge -useContext -underBinder v0 v1; clear_value v0 v1; exact (gite (gmk frefl) (by extract_lets +onlyGivenNames -merge -useContext -underBinder v2; clear_value v2; exact (by split; (focus (rename_i m3 em3; have gm3 := gofeq em3 (frame_gfxRead (gle rfl hw) _ _ _); have hm3 : Fr stIs w s m3 := gm3; exact (gmk hm3))); (focus (rename_i m4 em4; have gm4 := gofeq em4 (frame_gfxRead (gle rfl hw) _ _ _); have hm4 : Fr stIs w s m4 := gm4; exact (gmk hm4)))))))

theorem frame_readAttr {w : Parts} (hw : Parts.faultReach.union w = w) x0 x1 s :
    Fr (via stIs) w s (readAttr x0 x1 s) := by
  delta readAttr; exact (by extract_lets +onlyGivenNames -merge -useContext -underBinder v0 v1 v2 v3 v4; clear_value v0 v1 v2 v3 v4; exact (gite (gmk frefl) (by extract_lets +onlyGivenNames -merge -useContext -underBinder v5 v6; clear_value v5 v6; exact (by split; (focus (rename_i m7 em7; have gm7 := gofeq em7 (frame_gfxRead (gle rfl hw) _ _ _); have hm7 : Fr stIs w s m7 := gm7; exact (gmk hm7))); (focus (rename_i m8 em8; have gm8 := gofeq em8 (frame_gfxRead (gle rfl hw) _ _ _); have hm8 : Fr stIs w s m8 := gm8; exact (by extract_lets +onlyGivenNames -merge -useContext -underBinder v9; clear_value v9; exact (gmk hm8))))))))

theorem frame_startTile {w : Parts} (hw : { Parts.faultReach with freeCtr := true }.union w = w) x0 s :
    Fr (via stIs) w s (startTile x0 s) := by
  delta startTile; exact (by extract_lets +onlyGivenNames -merge -useContext -underBinder v0; clear_value v0; exact (by split <;> (exact (by extract_lets +onlyGivenNames -merge -useContext -underBinder v1; clear_value v1; exact (by split; rename_i r2 r3 e13; have gr3 := gofeq e13 (frame_takeFree (gle rfl hw) _); have hr3 : Fr stIs w s r3 := gr3; exact (by extract_lets +onlyGivenNames -merge -useContext -underBinder v4 v5 v6 v7 v8 v9; clear_value v4 v5 v6 v7 v8 v9; exact (by split; rename_i r10 r11 e12; have gr11 := gofeq e12 (gite (gstep (frame_loadRows (gle rfl hw) _ _ _ _ _ _ _ _) hr3) (gmk hr3)); have hr11 : Fr stIs w s r11 := gr11; exact (by split; (focus (exact (gmk hr11))); (focus (exact (gite (gstep (frame_loadRows (gle rfl hw) _ _ _ _ _ _ _ _) hr11) (gmk hr11))))))))))))

theorem frame_readAttrs {w : Parts} (hw : Parts.faultReach.union w = w) x0 x1 x2 s :
    Fr (via stIs) w s (readAttrs x0 x1 x2 s) := by
  induction x1 generalizing x0 x2 s with
  | nil => rw [readAttrs.eq_1]; exact (gmk frefl)
  | cons z l ih => rw [readAttrs.eq_2]; exact (by split; (focus (rename_i m0 em0; have gm0 := gofeq em0 (frame_readAttr (gle rfl hw) _ _ _); have hm0 : Fr stIs w s m0 := gm0; exact (gstep (ih _ _ _) hm0))); (focus (rename_i m1 em1; have gm1 := gofeq em1 (frame_readAttr (gle rfl hw) _ _ _); have hm1 : Fr stIs w s m1 := gm1; exact (gmk hm1))))

theorem frame_beginTile {w : Parts} (hw : { Parts.faultReach with gfx := true, freeCtr := true }.union w = w) x0 s :
    Fr stIs w s (beginTile x0 s) := by
  delta beginTile; exact (by split; (focus (rename_i m0 em0; have gm0 := gofeq em0 (frame_startTile (gle rfl hw) _ _); have hm0 : Fr stIs w s m0 := gm0; exact (upd_gfx hm0 (gle rfl hw)))); (focus (rename_i m1 em1; have gm1 := gofeq em1 (frame_startTile (gle rfl hw) _ _); have hm1 : Fr stIs w s m1 := gm1; exact (gstep (frame_gfxFail (gle rfl hw) _ _) hm1))))

theorem frame_readVerts {w : Parts} (hw : Parts.faultReach.union w = w) x0 x1 s :
    Fr (via stIs) w s (readVerts x0 x1 s) := by
  induction x0 generalizing x1 s with
  | nil => rw [readVerts.eq_1]; exact (gmk frefl)
  | cons z l ih => rw [readVerts.eq_2]; exact (by split; (focus (rename_i m0 em0; have gm0 := gofeq em0 (frame_vertexNo (gle rfl hw) _ _); have hm0 : Fr stIs w s m0 := gm0; exact (gmk hm0))); (focus (rename_i m1 em1; have gm1 := gofeq em1 (frame_vertexNo (gle rfl hw) _ _); have hm1 : Fr stIs w s m1 := gm1; exact (by split; (focus (rename_i m2 em2; have gm2 := gofeq em2 (gstep (frame_readAttrs (gle rfl hw) _ _ _ _) hm1); have hm2 : Fr stIs w s m2 := gm2; exact (gstep (ih _ _) hm2))); (focus (rename_i m3 em3; have gm3 := gofeq em3 (gstep (frame_readAttrs (gle rfl hw) _ _ _ _) hm1); have hm3 : Fr stIs w s m3 := gm3; exact (gmk hm3)))))))

theorem frame_startFillerBay {w : Parts} (hw : ({ bays := true } : Parts).union w = w) x0 x1 s :
    Fr stIs w s (startFillerBay x0 x1 s) := by
  delta startFillerBay; exact (by extract_lets +onlyGivenNames -merge -useContext -underBinder v0; clear_value v0; exact (by split; (focus (exact (frame_bayMod (gle rfl hw) _ _ _))); (focus (exact frefl))))

theorem frame_retireFragment {w : Parts} (hw : ({ gfx := true } : Parts).union w = w) s :
    Fr stIs w s (retireFragment s) := by
  delta retireFragment; exact (by split; (focus (exact (by split; (focus (exact (by extract_lets +onlyGivenNames -merge -useContext -underBinder v0; clear_value v0; exact (upd_gfx frefl (gle rfl hw))))); (focus (exact frefl))))); (focus (exact frefl)))

theorem frame_execGfxFragmentRetire {w : Parts} (hw : ({ gfx := true } : Parts).union w = w) s :
    Fr nextIs w s (execGfxFragmentRetire s) := by
  delta execGfxFragmentRetire; exact (gnext (frame_retireFragment (gle rfl hw) _))

theorem frame_startFiller {w : Parts} (hw : ({ bays := true, cmd := true } : Parts).union w = w) x0 s :
    Fr stIs w s (startFiller x0 s) := by
  delta startFiller; exact (gfold (frame_dowelMod (gle rfl hw) _ _ _) (by exact fun p0 _ hp0 => (gstep (frame_startFillerBay (gle rfl hw) _ _ _) hp0)))

theorem frame_takeFragments {w : Parts} (hw : ({ regs := true, gfx := true } : Parts).union w = w) x0 x1 s :
    Fr stIs w s (takeFragments x0 x1 s) := by
  delta takeFragments; exact (by extract_lets +onlyGivenNames -merge -useContext -underBinder v0 v1 v2; clear_value v0 v1 v2; exact (gstep (frame_cntAdd (gle rfl hw) _ _ _) (upd_gfx frefl (gle rfl hw))))

theorem frame_execFillerJobStart {w : Parts} (hw : ({ bays := true, cmd := true } : Parts).union w = w) x0 s :
    Fr nextIs w s (execFillerJobStart x0 s) := by
  delta execFillerJobStart; exact (gite (gnext (gite (frame_startFiller (gle rfl hw) _ _) frefl)) gfault)

theorem frame_issueFragments {w : Parts} (hw : ({ regs := true, bays := true, cmd := true, pegs := true, safety := true, gfx := true } : Parts).union w = w) x0 x1 x2 s :
    Fr stIs w s (issueFragments x0 x1 x2 s) := by
  delta issueFragments; exact (by extract_lets +onlyGivenNames -merge -useContext -underBinder v0 v1; clear_value v0 v1; exact (by split; (focus (exact frefl)); (focus (exact (gite frefl (by split; (focus (exact frefl)); (focus (exact (by extract_lets +onlyGivenNames -merge -useContext -underBinder v2 v3 a4 v5; clear_value v2 v3 a4; have hv5 : Fr stIs w s v5 := (upd_gfx frefl (gle rfl hw)); clear_value v5; exact (gstep (frame_handPacket (gle rfl hw) _ _ _ _ _ _ _) hv5))))))))))

theorem frame_sigEntry {w : Parts} (hw : Parts.faultReach.union w = w) x0 s :
    Fr (via stIs) w s (sigEntry x0 s) := by
  delta sigEntry; exact (gite (gmk frefl) (by split; (focus (rename_i m0 em0; have gm0 := gofeq em0 (frame_gfxRead (gle rfl hw) _ _ _); have hm0 : Fr stIs w s m0 := gm0; exact (gmk hm0))); (focus (rename_i m1 em1; have gm1 := gofeq em1 (frame_gfxRead (gle rfl hw) _ _ _); have hm1 : Fr stIs w s m1 := gm1; exact (gmk hm1)))))

theorem frame_bindJob {w : Parts} (hw : { Parts.faultReach with gfx := true, freeCtr := true }.union w = w) x0 s :
    Fr stIs w s (bindJob x0 s) := by
  delta bindJob; exact (by extract_lets +onlyGivenNames -merge -useContext -underBinder v0 v1 v2; clear_value v0 v1 v2; exact (by split; rename_i r3 r4 e9; have gr4 := gofeq e9 (frame_gfxRead (gle rfl hw) _ _ _); have hr4 : Fr stIs w s r4 := gr4; exact (by extract_lets +onlyGivenNames -merge -useContext -underBinder v5; have hv5 : Fr stIs w s v5 := (upd_gfx hr4 (gle rfl hw)); clear_value v5; exact (gite (gstep (frame_gfxFail (gle rfl hw) _ _) hv5) (by extract_lets +onlyGivenNames -merge -useContext -underBinder v6; have hv6 : Fr stIs w s v6 := (gfold hv5 (by exact fun p7 _ hp7 => (gite (gstep (frame_pegSignal (gle rfl hw) _ _ _) hp7) hp7))); clear_value v6; exact (gite (gstep (frame_gfxFail (gle rfl hw) _ _) hv6) (gite (gstep (frame_gfxFail (gle rfl hw) _ _) hv6) (gite (gstep (frame_gfxFail (gle rfl hw) _ _) hv6) (gstep (frame_scramble (gle rfl hw) _ _ _) (gfold hv6 (by exact fun p8 _ hp8 => (gstep (frame_mboxWrite (gle rfl hw) _ _ _ _ _) hp8))))))))))))

theorem frame_writeDepth {w : Parts} (hw : { Parts.faultReach with freeCtr := true }.union w = w) x0 s :
    Fr (via stIs) w s (writeDepth x0 s) := by
  delta writeDepth; exact (gite (gmk frefl) (by split <;> (exact (by split; rename_i r0 r1 e2; have gr1 := gofeq e2 (frame_takeFree (gle rfl hw) _); have hr1 : Fr stIs w s r1 := gr1; exact (gstep (frame_writeRows (gle rfl hw) _ _ _ _ _ _ _) hr1)))))

theorem frame_writeTile {w : Parts} (hw : Parts.faultReach.union w = w) x0 x1 s :
    Fr (optIs stIs) w s (writeTile x0 x1 s) := by
  delta writeTile; exact (by split <;> (exact (by split; (focus (rename_i m0 em0; have gm0 := gofeq em0 (frame_writeRows (gle rfl hw) _ _ _ _ _ _ _); have hm0 : Fr stIs w s m0 := gm0; exact gnone)); (focus (rename_i m1 em1; have gm1 := gofeq em1 (frame_writeRows (gle rfl hw) _ _ _ _ _ _ _); have hm1 : Fr stIs w s m1 := gm1; exact (by extract_lets +onlyGivenNames -merge -useContext -underBinder v2; have hv2 : Fr stIs w s v2 := (gstep (frame_cntInc (gle rfl hw) _ _) hm1); clear_value v2; exact (gite (gsome hv2) (by split; (focus (rename_i m3 em3; have gm3 := gofeq em3 (gstep (frame_gfxWrite (gle rfl hw) _ _ _) hv2); have hm3 : Fr stIs w s m3 := gm3; exact (gsome hm3))); (focus (rename_i m4 em4; have gm4 := gofeq em4 (gstep (frame_gfxWrite (gle rfl hw) _ _ _) hv2); have hm4 : Fr stIs w s m4 := gm4; exact gnone))))))))))

theorem frame_execGfxBind {w : Parts} (hw : { Parts.faultReach with gfx := true, freeCtr := true }.union w = w) x0 s :
    Fr nextIs w s (execGfxBind x0 s) := by
  delta execGfxBind; exact (gite (gnext (gite (frame_bindJob (gle rfl hw) _ _) frefl)) gfault)

theorem frame_finishTile {w : Parts} (hw : { Parts.faultReach with gfx := true, freeCtr := true }.union w = w) x0 s :
    Fr stIs w s (finishTile x0 s) := by
  delta finishTile; exact (by split <;> (exact (by extract_lets +onlyGivenNames -merge -useContext -underBinder v0 v1; clear_value v0 v1; exact (by split; (focus (rename_i m2 em2; have gm2 := gofeq em2 (frame_sigEntry (gle rfl hw) _ _); have hm2 : Fr stIs w s m2 := gm2; exact (gstep (frame_gfxFail (gle rfl hw) _ _) hm2))); (focus (rename_i m3 em3; have gm3 := gofeq em3 (frame_sigEntry (gle rfl hw) _ _); have hm3 : Fr stIs w s m3 := gm3; exact (by extract_lets +onlyGivenNames -merge -useContext -underBinder v4 v5; clear_value v5; have hv4 : Fr stIs w s v4 := (gite (gstep (frame_cntInc (gle rfl hw) _ _) hm3) hm3); clear_value v4; exact (by split; (focus (exact (gstep (frame_gfxFail (gle rfl hw) _ _) hv4))); (focus (rename_i m6 em6; have hm6 : Fr stIs w s m6 := gofopt em6 (gite (gstep (frame_writeTile (gle rfl hw) _ _ _) hv4) (gsome (gstep (frame_cntInc (gle rfl hw) _ _) hv4))); exact (by split; (focus (rename_i m7 em7; have gm7 := gofeq em7 (gstep (frame_writeDepth (gle rfl hw) _ _) hm6); have hm7 : Fr stIs w s m7 := gm7; exact (gstep (frame_gfxFail (gle rfl hw) _ _) hm7))); (focus (rename_i m8 em8; have gm8 := gofeq em8 (gstep (frame_writeDepth (gle rfl hw) _ _) hm6); have hm8 : Fr stIs w s m8 := gm8; exact (gite (gstep (frame_beginTile (gle rfl hw) _ _) hm8) (upd_gfx hm8 (gle rfl hw))))))))))))))))

theorem frame_issueVertices {w : Parts} (hw : { Parts.faultReach with gfx := true }.union w = w) x0 x1 s :
    Fr stIs w s (issueVertices x0 x1 s) := by
  delta issueVertices; exact (by extract_lets +onlyGivenNames -merge -useContext -underBinder v0 v1; clear_value v0 v1; exact (by split; (focus (rename_i m2 em2; have gm2 := gofeq em2 (frame_readVerts (gle rfl hw) _ _ _); have hm2 : Fr stIs w s m2 := gm2; exact (gstep (frame_gfxFail (gle rfl hw) _ _) hm2))); (focus (rename_i m3 em3; have gm3 := gofeq em3 (frame_readVerts (gle rfl hw) _ _ _); have hm3 : Fr stIs w s m3 := gm3; exact (by extract_lets +onlyGivenNames -merge -useContext -underBinder a4 v5; clear_value a4; have hv5 : Fr stIs w s v5 := (upd_gfx hm3 (gle rfl hw)); clear_value v5; exact (gstep (frame_handPacket (gle rfl hw) _ _ _ _ _ _ _) hv5))))))

theorem frame_finishDraw {w : Parts} (hw : { Parts.faultReach with gfx := true, freeCtr := true }.union w = w) s :
    Fr stIs w s (finishDraw s) := by
  delta finishDraw; exact (by extract_lets +onlyGivenNames -merge -useContext -underBinder v0 v1 v2 v3; clear_value v0 v1 v2 v3; exact (gite (frame_gfxFail (gle rfl hw) _ _) (by split; (focus (rename_i m4 em4; have gm4 := gofeq em4 (frame_unitCheck (gle rfl hw) _ _ _ _ _ _); have hm4 : Fr stIs w s m4 := gm4; exact (gstep (frame_gfxFail (gle rfl hw) _ _) hm4))); (focus (rename_i m5 em5; have gm5 := gofeq em5 (frame_unitCheck (gle rfl hw) _ _ _ _ _ _); have hm5 : Fr stIs w s m5 := gm5; exact (by extract_lets +onlyGivenNames -merge -useContext -underBinder a6 v7; clear_value a6; have hv7 : Fr stIs w s v7 := (gstep (frame_scramble (gle rfl hw) _ _ _) (upd_gfx hm5 (gle rfl hw))); clear_value v7; exact (gite hv7 (gstep (frame_beginTile (gle rfl hw) _ _) (upd_gfx hv7 (gle rfl hw))))))))))

theorem frame_tileWriteout {w : Parts} (hw : { Parts.faultReach with gfx := true, freeCtr := true }.union w = w) s :
    Fr stIs w s (tileWriteout s) := by
  delta tileWriteout; exact (by split; (focus (exact (by extract_lets +onlyGivenNames -merge -useContext -underBinder v0; clear_value v0; exact (gite (frame_finishTile (gle rfl hw) _ _) (upd_gfx frefl (gle rfl hw)))))); (focus (exact frefl)))

theorem frame_packetIssue {w : Parts} (hw : { Parts.faultReach with gfx := true }.union w = w) s :
    Fr stIs w s (packetIssue s) := by
  delta packetIssue; exact (by split; (focus (exact frefl)); (focus (exact (gite frefl (by split; (focus (exact (by split; rename_i r0 r1 e2; have gr1 := gofeq e2 (gite (frame_readDraw (gle rfl hw) _) (gmk frefl)); have hr1 : Fr stIs w s r1 := gr1; exact (gite (gstep (frame_gfxFail (gle rfl hw) _ _) hr1) (gite hr1 (by split; (focus (exact (gstep (frame_issueVertices (gle rfl hw) _ _ _) hr1))); (focus (exact hr1)))))))); (focus (exact (by split; (focus (exact frefl)); (focus (exact (by extract_lets +onlyGivenNames -merge -useContext -underBinder v3 a4 v5; clear_value v3 a4; have hv5 : Fr stIs w s v5 := (upd_gfx frefl (gle rfl hw)); clear_value v5; exact (by split; (focus (exact (gstep (frame_issueFragments (gle rfl hw) _ _ _ _) hv5))); (focus (exact hv5))))))))); (focus (exact (by split; (focus (exact (gstep (frame_handPacket (gle rfl hw) _ _ _ _ _ _ _) (upd_gfx frefl (gle rfl hw))))); (focus (exact frefl))))))))))

theorem frame_takeVertices {w : Parts} (hw : { Parts.faultReach with gfx := true, freeCtr := true }.union w = w) x0 x1 s :
    Fr stIs w s (takeVertices x0 x1 s) := by
  delta takeVertices; exact (by extract_lets +onlyGivenNames -merge -useContext -underBinder v0 a1 v2; clear_value v0 a1; have hv2 : Fr stIs w s v2 := (upd_gfx frefl (gle rfl hw)); clear_value v2; exact (gite (gstep (frame_finishDraw (gle rfl hw) _) hv2) hv2))

theorem frame_execGfxTileWriteout {w : Parts} (hw : { Parts.faultReach with gfx := true, freeCtr := true }.union w = w) s :
    Fr nextIs w s (execGfxTileWriteout s) := by
  delta execGfxTileWriteout; exact (gnext (frame_tileWriteout (gle rfl hw) _))

theorem frame_execGfxPacketIssue {w : Parts} (hw : { Parts.faultReach with gfx := true }.union w = w) s :
    Fr nextIs w s (execGfxPacketIssue s) := by
  delta execGfxPacketIssue; exact (gnext (frame_packetIssue (gle rfl hw) _))

theorem frame_packetReturn {w : Parts} (hw : { Parts.faultReach with gfx := true, freeCtr := true }.union w = w) x0 s :
    Fr stIs w s (packetReturn x0 s) := by
  delta packetReturn; exact (by split; (focus (exact frefl)); (focus (exact (by split; (focus (exact frefl)); (focus (exact (gite frefl (by extract_lets +onlyGivenNames -merge -useContext -underBinder a0 v1; clear_value a0; have hv1 : Fr stIs w s v1 := (upd_gfx frefl (gle rfl hw)); clear_value v1; exact (gite (gstep (frame_takeVertices (gle rfl hw) _ _ _) hv1) (gite (gstep (frame_takeFragments (gle rfl hw) _ _ _) hv1) hv1))))))))))

theorem frame_execGfxPacketReturn {w : Parts} (hw : { Parts.faultReach with gfx := true, freeCtr := true }.union w = w) x0 s :
    Fr nextIs w s (execGfxPacketReturn x0 s) := by
  delta execGfxPacketReturn; exact (gite (gnext (frame_packetReturn (gle rfl hw) _ _)) gfault)

end Sys2Proof.Machine
end

