-- ==== Sys2Proof/Laws/FrameExec.lean ====
section
/-!
SUPPORT. The parts of the state that each operation may change: the remaining commands, and with them every command.
-/

namespace Sys2Proof.Machine

theorem frame_gfxForget {w : Parts} (hw : ({ gfx := true } : Parts).union w = w) x0 s :
    Fr stIs w s (gfxForget x0 s) := by
  delta gfxForget; exact (by extract_lets +onlyGivenNames -merge -useContext -underBinder v0; clear_value v0; exact (gite (upd_gfx frefl (gle rfl hw)) (upd_gfx frefl (gle rfl hw))))

theorem frame_restorePeg {w : Parts} (hw : ({ pegs := true } : Parts).union w = w) s x1 :
    Fr stIs w s (restorePeg s x1) := by
  delta restorePeg; exact (by extract_lets +onlyGivenNames -merge -useContext -underBinder v0; clear_value v0; exact (gite frefl (frame_pegPut (gle rfl hw) _ _ _)))

theorem frame_askAgain {w : Parts} (hw : ({ cmd := true, twin := true } : Parts).union w = w) x0 s :
    Fr stIs w s (askAgain x0 s) := by
  delta askAgain; exact (by extract_lets +onlyGivenNames -merge -useContext -underBinder v0; have hv0 : Fr stIs w s v0 := (frame_dowelMod (gle rfl hw) _ _ _); clear_value v0; exact (gite (gstep (frame_sendCtl (gle rfl hw) _ _) hv0) (gite (gstep (frame_startBoth (gle rfl hw) _ _) hv0) hv0)))

theorem frame_replayJob {w : Parts} (hw : ({ regs := true, bays := true, cmd := true, pegs := true, fc := true, gfx := true, twin := true } : Parts).union w = w) x0 s :
    Fr stIs w s (replayJob x0 s) := by
  delta replayJob; exact (by extract_lets +onlyGivenNames -merge -useContext -underBinder v0 v1 v2; clear_value v0; have hv1 : Fr stIs w s v1 := (gstep (frame_judgeAll (gle rfl hw) _) (gfold frefl (by exact fun p3 _ hp3 => (gstep (frame_restorePeg (gle rfl hw) _ _) hp3)))); clear_value v1; have hv2 : Fr stIs w s v2 := (gstep (frame_gfxForget (gle rfl hw) _ _) (gstep (frame_collReruns (gle rfl hw) _ _) (gstep (frame_dowelPut (gle rfl hw) _ _ _) hv1))); clear_value v2; exact (gite (gstep (frame_askAgain (gle rfl hw) _ _) hv2) (gite (gstep (frame_startFiller (gle rfl hw) _ _) hv2) (gstep (frame_startJob (gle rfl hw) _ _) hv2))))

theorem frame_execJobReplay {w : Parts} (hw : ({ regs := true, bays := true, cmd := true, pegs := true, fc := true, gfx := true, twin := true } : Parts).union w = w) x0 s :
    Fr nextIs w s (execJobReplay x0 s) := by
  delta execJobReplay; exact (gite (gnext (gite (frame_replayJob (gle rfl hw) _ _) frefl)) gfault)

theorem frame_poisonedDowel {w : Parts} (hw : Parts.faultReach.union w = w) x0 s :
    Fr stIs w s (poisonedDowel x0 s) := by
  delta poisonedDowel; exact (gite (frame_completeDowel (gle rfl hw) (by exact fun y0 y1 y2 y3 => (frame_raise (gle rfl hw) _ _ _ _)) _ _ _ _) frefl)

theorem frame_execPegWaitRelease {w : Parts} (hw : Parts.handReach.union w = w) x0 s :
    Fr nextIs w s (execPegWaitRelease x0 s) := by
  delta execPegWaitRelease; exact (by split; (focus (exact (gite (gnext (frame_releaseWait (gle rfl hw) _ _)) gfault))); (focus (exact (gnext (frame_poisonedDowel (gle rfl hw) _ _)))); (focus (exact (gnext (frame_collPoisoned (gle rfl hw) _ _)))))

theorem frame_execPopc {w : Parts} (hw : Parts.handReach.union w = w) x0 x1 s :
    Fr nextIs w s (execPopc x0 x1 s) := by
  delta execPopc; exact (frame_issue (gle rfl hw) (by exact fun y0 => (frame_regStep (gle rfl hw) _ _ _)) _ _ _ _)

theorem frame_execRori {w : Parts} (hw : Parts.handReach.union w = w) x0 x1 s :
    Fr nextIs w s (execRori x0 x1 s) := by
  delta execRori; exact (frame_issue (gle rfl hw) (by exact fun y0 => (frame_regStep (gle rfl hw) _ _ _)) _ _ _ _)

theorem frame_execSra {w : Parts} (hw : Parts.handReach.union w = w) x0 x1 s :
    Fr nextIs w s (execSra x0 x1 s) := by
  delta execSra; exact (frame_issue (gle rfl hw) (by exact fun y0 => (frame_regStep (gle rfl hw) _ _ _)) _ _ _ _)

theorem frame_execSrai {w : Parts} (hw : Parts.handReach.union w = w) x0 x1 s :
    Fr nextIs w s (execSrai x0 x1 s) := by
  delta execSrai; exact (frame_issue (gle rfl hw) (by exact fun y0 => (frame_regStep (gle rfl hw) _ _ _)) _ _ _ _)

theorem frame_execStok {w : Parts} (hw : Parts.handReach.union w = w) x0 x1 s :
    Fr nextIs w s (execStok x0 x1 s) := by
  delta execStok; exact (frame_issue (gle rfl hw) (by exact fun y0 => (frame_regStep (gle rfl hw) _ _ _)) _ _ _ _)

theorem frame_execMulhu {w : Parts} (hw : Parts.handReach.union w = w) x0 x1 s :
    Fr nextIs w s (execMulhu x0 x1 s) := by
  delta execMulhu; exact (frame_issue (gle rfl hw) (by exact fun y0 => (frame_regStep (gle rfl hw) _ _ _)) _ _ _ _)

theorem frame_execSlli {w : Parts} (hw : Parts.handReach.union w = w) x0 x1 s :
    Fr nextIs w s (execSlli x0 x1 s) := by
  delta execSlli; exact (frame_issue (gle rfl hw) (by exact fun y0 => (frame_regStep (gle rfl hw) _ _ _)) _ _ _ _)

theorem frame_execAddi {w : Parts} (hw : Parts.handReach.union w = w) x0 x1 s :
    Fr nextIs w s (execAddi x0 x1 s) := by
  delta execAddi; exact (frame_issue (gle rfl hw) (by exact fun y0 => (frame_regStep (gle rfl hw) _ _ _)) _ _ _ _)

theorem frame_execSeq {w : Parts} (hw : Parts.handReach.union w = w) x0 x1 s :
    Fr nextIs w s (execSeq x0 x1 s) := by
  delta execSeq; exact (frame_issue (gle rfl hw) (by exact fun y0 => (frame_regStep (gle rfl hw) _ _ _)) _ _ _ _)

theorem frame_execIns {w : Parts} (hw : Parts.handReach.union w = w) x0 x1 s :
    Fr nextIs w s (execIns x0 x1 s) := by
  delta execIns; exact (frame_issue (gle rfl hw) (by exact fun y0 => (frame_regStep (gle rfl hw) _ _ _)) _ _ _ _)

theorem frame_execXori {w : Parts} (hw : Parts.handReach.union w = w) x0 x1 s :
    Fr nextIs w s (execXori x0 x1 s) := by
  delta execXori; exact (frame_issue (gle rfl hw) (by exact fun y0 => (frame_regStep (gle rfl hw) _ _ _)) _ _ _ _)

theorem frame_execSne {w : Parts} (hw : Parts.handReach.union w = w) x0 x1 s :
    Fr nextIs w s (execSne x0 x1 s) := by
  delta execSne; exact (frame_issue (gle rfl hw) (by exact fun y0 => (frame_regStep (gle rfl hw) _ _ _)) _ _ _ _)

theorem frame_execSub {w : Parts} (hw : Parts.handReach.union w = w) x0 x1 s :
    Fr nextIs w s (execSub x0 x1 s) := by
  delta execSub; exact (frame_issue (gle rfl hw) (by exact fun y0 => (frame_regStep (gle rfl hw) _ _ _)) _ _ _ _)

theorem frame_execDiv {w : Parts} (hw : Parts.handReach.union w = w) x0 x1 s :
    Fr nextIs w s (execDiv x0 x1 s) := by
  delta execDiv; exact (frame_issue (gle rfl hw) (by exact fun y0 => (frame_regStep (gle rfl hw) _ _ _)) _ _ _ _)

theorem frame_execSrli {w : Parts} (hw : Parts.handReach.union w = w) x0 x1 s :
    Fr nextIs w s (execSrli x0 x1 s) := by
  delta execSrli; exact (frame_issue (gle rfl hw) (by exact fun y0 => (frame_regStep (gle rfl hw) _ _ _)) _ _ _ _)

theorem frame_execMinu {w : Parts} (hw : Parts.handReach.union w = w) x0 x1 s :
    Fr nextIs w s (execMinu x0 x1 s) := by
  delta execMinu; exact (frame_issue (gle rfl hw) (by exact fun y0 => (frame_regStep (gle rfl hw) _ _ _)) _ _ _ _)

theorem frame_execVins {w : Parts} (hw : Parts.handReach.union w = w) x0 x1 s :
    Fr nextIs w s (execVins x0 x1 s) := by
  delta execVins; exact (frame_issue (gle rfl hw) (by exact fun y0 => (frame_regStep (gle rfl hw) _ _ _)) _ _ _ _)

theorem frame_execCtz {w : Parts} (hw : Parts.handReach.union w = w) x0 x1 s :
    Fr nextIs w s (execCtz x0 x1 s) := by
  delta execCtz; exact (frame_issue (gle rfl hw) (by exact fun y0 => (frame_regStep (gle rfl hw) _ _ _)) _ _ _ _)

theorem frame_execKtosh {w : Parts} (hw : Parts.handReach.union w = w) x0 x1 s :
    Fr nextIs w s (execKtosh x0 x1 s) := by
  delta execKtosh; exact (frame_issue (gle rfl hw) (by exact fun y0 => (frame_regStep (gle rfl hw) _ _ _)) _ _ _ _)

theorem frame_execAdd {w : Parts} (hw : Parts.handReach.union w = w) x0 x1 s :
    Fr nextIs w s (execAdd x0 x1 s) := by
  delta execAdd; exact (frame_issue (gle rfl hw) (by exact fun y0 => (frame_regStep (gle rfl hw) _ _ _)) _ _ _ _)

theorem frame_execExtu {w : Parts} (hw : Parts.handReach.union w = w) x0 x1 s :
    Fr nextIs w s (execExtu x0 x1 s) := by
  delta execExtu; exact (frame_issue (gle rfl hw) (by exact fun y0 => (frame_regStep (gle rfl hw) _ _ _)) _ _ _ _)

theorem frame_execAnd {w : Parts} (hw : Parts.handReach.union w = w) x0 x1 s :
    Fr nextIs w s (execAnd x0 x1 s) := by
  delta execAnd; exact (frame_issue (gle rfl hw) (by exact fun y0 => (frame_regStep (gle rfl hw) _ _ _)) _ _ _ _)

theorem frame_execAndi {w : Parts} (hw : Parts.handReach.union w = w) x0 x1 s :
    Fr nextIs w s (execAndi x0 x1 s) := by
  delta execAndi; exact (frame_issue (gle rfl hw) (by exact fun y0 => (frame_regStep (gle rfl hw) _ _ _)) _ _ _ _)

theorem frame_execMul {w : Parts} (hw : Parts.handReach.union w = w) x0 x1 s :
    Fr nextIs w s (execMul x0 x1 s) := by
  delta execMul; exact (frame_issue (gle rfl hw) (by exact fun y0 => (frame_regStep (gle rfl hw) _ _ _)) _ _ _ _)

theorem frame_execRem {w : Parts} (hw : Parts.handReach.union w = w) x0 x1 s :
    Fr nextIs w s (execRem x0 x1 s) := by
  delta execRem; exact (frame_issue (gle rfl hw) (by exact fun y0 => (frame_regStep (gle rfl hw) _ _ _)) _ _ _ _)

theorem frame_execSlt {w : Parts} (hw : Parts.handReach.union w = w) x0 x1 s :
    Fr nextIs w s (execSlt x0 x1 s) := by
  delta execSlt; exact (frame_issue (gle rfl hw) (by exact fun y0 => (frame_regStep (gle rfl hw) _ _ _)) _ _ _ _)

theorem frame_execLi {w : Parts} (hw : Parts.handReach.union w = w) x0 x1 s :
    Fr nextIs w s (execLi x0 x1 s) := by
  delta execLi; exact (frame_issue (gle rfl hw) (by exact fun y0 => (frame_regStep (gle rfl hw) _ _ _)) _ _ _ _)

theorem frame_execSltu {w : Parts} (hw : Parts.handReach.union w = w) x0 x1 s :
    Fr nextIs w s (execSltu x0 x1 s) := by
  delta execSltu; exact (frame_issue (gle rfl hw) (by exact fun y0 => (frame_regStep (gle rfl hw) _ _ _)) _ _ _ _)

theorem frame_execClz {w : Parts} (hw : Parts.handReach.union w = w) x0 x1 s :
    Fr nextIs w s (execClz x0 x1 s) := by
  delta execClz; exact (frame_issue (gle rfl hw) (by exact fun y0 => (frame_regStep (gle rfl hw) _ _ _)) _ _ _ _)

theorem frame_execMulh {w : Parts} (hw : Parts.handReach.union w = w) x0 x1 s :
    Fr nextIs w s (execMulh x0 x1 s) := by
  delta execMulh; exact (frame_issue (gle rfl hw) (by exact fun y0 => (frame_regStep (gle rfl hw) _ _ _)) _ _ _ _)

theorem frame_execSll {w : Parts} (hw : Parts.handReach.union w = w) x0 x1 s :
    Fr nextIs w s (execSll x0 x1 s) := by
  delta execSll; exact (frame_issue (gle rfl hw) (by exact fun y0 => (frame_regStep (gle rfl hw) _ _ _)) _ _ _ _)

theorem frame_execRor {w : Parts} (hw : Parts.handReach.union w = w) x0 x1 s :
    Fr nextIs w s (execRor x0 x1 s) := by
  delta execRor; exact (frame_issue (gle rfl hw) (by exact fun y0 => (frame_regStep (gle rfl hw) _ _ _)) _ _ _ _)

theorem frame_execDivu {w : Parts} (hw : Parts.handReach.union w = w) x0 x1 s :
    Fr nextIs w s (execDivu x0 x1 s) := by
  delta execDivu; exact (frame_issue (gle rfl hw) (by exact fun y0 => (frame_regStep (gle rfl hw) _ _ _)) _ _ _ _)

theorem frame_execMaxu {w : Parts} (hw : Parts.handReach.union w = w) x0 x1 s :
    Fr nextIs w s (execMaxu x0 x1 s) := by
  delta execMaxu; exact (frame_issue (gle rfl hw) (by exact fun y0 => (frame_regStep (gle rfl hw) _ _ _)) _ _ _ _)

theorem frame_execSel {w : Parts} (hw : Parts.handReach.union w = w) x0 x1 s :
    Fr nextIs w s (execSel x0 x1 s) := by
  delta execSel; exact (frame_issue (gle rfl hw) (by exact fun y0 => (frame_regStep (gle rfl hw) _ _ _)) _ _ _ _)

theorem frame_execAndn {w : Parts} (hw : Parts.handReach.union w = w) x0 x1 s :
    Fr nextIs w s (execAndn x0 x1 s) := by
  delta execAndn; exact (frame_issue (gle rfl hw) (by exact fun y0 => (frame_regStep (gle rfl hw) _ _ _)) _ _ _ _)

theorem frame_execXor {w : Parts} (hw : Parts.handReach.union w = w) x0 x1 s :
    Fr nextIs w s (execXor x0 x1 s) := by
  delta execXor; exact (frame_issue (gle rfl hw) (by exact fun y0 => (frame_regStep (gle rfl hw) _ _ _)) _ _ _ _)

theorem frame_execSrl {w : Parts} (hw : Parts.handReach.union w = w) x0 x1 s :
    Fr nextIs w s (execSrl x0 x1 s) := by
  delta execSrl; exact (frame_issue (gle rfl hw) (by exact fun y0 => (frame_regStep (gle rfl hw) _ _ _)) _ _ _ _)

theorem frame_execRemu {w : Parts} (hw : Parts.handReach.union w = w) x0 x1 s :
    Fr nextIs w s (execRemu x0 x1 s) := by
  delta execRemu; exact (frame_issue (gle rfl hw) (by exact fun y0 => (frame_regStep (gle rfl hw) _ _ _)) _ _ _ _)

theorem frame_execKtos {w : Parts} (hw : Parts.handReach.union w = w) x0 x1 s :
    Fr nextIs w s (execKtos x0 x1 s) := by
  delta execKtos; exact (frame_issue (gle rfl hw) (by exact fun y0 => (frame_regStep (gle rfl hw) _ _ _)) _ _ _ _)

theorem frame_execMax {w : Parts} (hw : Parts.handReach.union w = w) x0 x1 s :
    Fr nextIs w s (execMax x0 x1 s) := by
  delta execMax; exact (frame_issue (gle rfl hw) (by exact fun y0 => (frame_regStep (gle rfl hw) _ _ _)) _ _ _ _)

theorem frame_execOri {w : Parts} (hw : Parts.handReach.union w = w) x0 x1 s :
    Fr nextIs w s (execOri x0 x1 s) := by
  delta execOri; exact (frame_issue (gle rfl hw) (by exact fun y0 => (frame_regStep (gle rfl hw) _ _ _)) _ _ _ _)

theorem frame_execOr {w : Parts} (hw : Parts.handReach.union w = w) x0 x1 s :
    Fr nextIs w s (execOr x0 x1 s) := by
  delta execOr; exact (frame_issue (gle rfl hw) (by exact fun y0 => (frame_regStep (gle rfl hw) _ _ _)) _ _ _ _)

theorem frame_execVext {w : Parts} (hw : Parts.handReach.union w = w) x0 x1 s :
    Fr nextIs w s (execVext x0 x1 s) := by
  delta execVext; exact (frame_issue (gle rfl hw) (by exact fun y0 => (frame_regStep (gle rfl hw) _ _ _)) _ _ _ _)

theorem frame_execMin {w : Parts} (hw : Parts.handReach.union w = w) x0 x1 s :
    Fr nextIs w s (execMin x0 x1 s) := by
  delta execMin; exact (frame_issue (gle rfl hw) (by exact fun y0 => (frame_regStep (gle rfl hw) _ _ _)) _ _ _ _)

theorem frame_execExts {w : Parts} (hw : Parts.handReach.union w = w) x0 x1 s :
    Fr nextIs w s (execExts x0 x1 s) := by
  delta execExts; exact (frame_issue (gle rfl hw) (by exact fun y0 => (frame_regStep (gle rfl hw) _ _ _)) _ _ _ _)

theorem frame_accordSend {w : Parts} (hw : ({ twin := true } : Parts).union w = w) s :
    Fr stIs w s (accordSend s) := by
  delta accordSend; exact (by extract_lets +onlyGivenNames -merge -useContext -underBinder v0; have hv0 : Fr stIs w s v0 := (frame_sendFlit (gle rfl hw) _ _); clear_value v0; exact (upd_twin hv0 (gle rfl hw)))

theorem frame_execAccordSend {w : Parts} (hw : ({ twin := true } : Parts).union w = w) s :
    Fr nextIs w s (execAccordSend s) := by
  delta execAccordSend; exact (gnext (gite (frame_accordSend (gle rfl hw) _) frefl))

theorem frame_readTake {w : Parts} (hw : ({ twin := true } : Parts).union w = w) x0 s :
    Fr stIs w s (readTake x0 s) := by
  delta readTake; exact (by extract_lets +onlyGivenNames -merge -useContext -underBinder v0; clear_value v0; exact (frame_sendFlit (gle rfl hw) _ _))

theorem frame_timeSend {w : Parts} (hw : ({ tb := true, twin := true } : Parts).union w = w) s :
    Fr stIs w s (timeSend s) := by
  delta timeSend; exact (by extract_lets +onlyGivenNames -merge -useContext -underBinder v0 v1; clear_value v0; have hv1 : Fr stIs w s v1 := (frame_sendFlit (gle rfl hw) _ _); clear_value v1; exact (upd_tb_twin hv1 (gle rfl hw)))

theorem frame_rdataTake {w : Parts} (hw : ({ twin := true } : Parts).union w = w) x0 s :
    Fr stIs w s (rdataTake x0 s) := by
  delta rdataTake; exact (by split; (focus (exact (upd_twin frefl (gle rfl hw)))); (focus (exact frefl)))

theorem frame_beatSend {w : Parts} (hw : ({ twin := true } : Parts).union w = w) s :
    Fr stIs w s (beatSend s) := by
  delta beatSend; exact (by extract_lets +onlyGivenNames -merge -useContext -underBinder v0 v1; clear_value v0; have hv1 : Fr stIs w s v1 := (frame_sendFlit (gle rfl hw) _ _); clear_value v1; exact (upd_twin hv1 (gle rfl hw)))

theorem frame_execFlitRead {w : Parts} (hw : ({ twin := true } : Parts).union w = w) s :
    Fr nextIs w s (execFlitRead s) := by
  delta execFlitRead; exact (gnext (gite frefl (frame_flitPop (gle rfl hw) (by exact fun y0 y1 => (frame_readTake (gle rfl hw) _ _)) _ _)))

theorem frame_beatTake {w : Parts} (hw : ({ regs := true, twin := true } : Parts).union w = w) x0 s :
    Fr stIs w s (beatTake x0 s) := by
  delta beatTake; exact (by extract_lets +onlyGivenNames -merge -useContext -underBinder v0; have hv0 : Fr stIs w s v0 := (gstep (frame_regPut (gle rfl hw) _ _ _) (frame_regPut (gle rfl hw) _ _ _)); clear_value v0; exact (upd_twin hv0 (gle rfl hw)))

theorem frame_execTimeFlitSend {w : Parts} (hw : ({ tb := true, twin := true } : Parts).union w = w) s :
    Fr nextIs w s (execTimeFlitSend s) := by
  delta execTimeFlitSend; exact (gnext (gite (frame_timeSend (gle rfl hw) _) frefl))

theorem frame_execHeartbeatSend {w : Parts} (hw : ({ twin := true } : Parts).union w = w) s :
    Fr nextIs w s (execHeartbeatSend s) := by
  delta execHeartbeatSend; exact (gnext (gite (frame_beatSend (gle rfl hw) _) frefl))

theorem frame_execFlitRdata {w : Parts} (hw : ({ twin := true } : Parts).union w = w) s :
    Fr nextIs w s (execFlitRdata s) := by
  delta execFlitRdata; exact (gnext (frame_flitPop (gle rfl hw) (by exact fun y0 y1 => (frame_rdataTake (gle rfl hw) _ _)) _ _))

theorem frame_execHeartbeatReceive {w : Parts} (hw : ({ regs := true, twin := true } : Parts).union w = w) s :
    Fr nextIs w s (execHeartbeatReceive s) := by
  delta execHeartbeatReceive; exact (gnext (frame_flitPop (gle rfl hw) (by exact fun y0 y1 => (frame_beatTake (gle rfl hw) _ _)) _ _))

theorem frame_writeTake {w : Parts} (hw : ({ regs := true, mem := true, bays := true, waitWrites := true, cmd := true, pegs := true, safety := true, twin := true } : Parts).union w = w) x0 s :
    Fr stIs w s (writeTake x0 s) := by
  delta writeTake; exact (by extract_lets +onlyGivenNames -merge -useContext -underBinder v0; have hv0 : Fr stIs w s v0 := (by unfold v0; exact (by split; (focus (exact (frame_devWrite (gle rfl hw) _ _ _))); (focus (exact frefl)))); clear_value v0; exact (gite (gstep (frame_pegSignal (gle rfl hw) _ _ _) hv0) hv0))

theorem frame_retryLimit {w : Parts} (hw : ({ regs := true, twin := true } : Parts).union w = w) s :
    Fr stIs w s (retryLimit s) := by
  delta retryLimit; exact (by split; (focus (exact frefl)); (focus (exact (gite (gstep (frame_retrain (gle rfl hw) _) (gstep (frame_cntAdd (gle rfl hw) _ _ _) (upd_twin frefl (gle rfl hw)))) frefl))))

theorem frame_execFlitWrite {w : Parts} (hw : ({ regs := true, mem := true, bays := true, waitWrites := true, cmd := true, pegs := true, safety := true, twin := true } : Parts).union w = w) s :
    Fr nextIs w s (execFlitWrite s) := by
  delta execFlitWrite; exact (gnext (frame_flitPop (gle rfl hw) (by exact fun y0 y1 => (frame_writeTake (gle rfl hw) _ _)) _ _))

theorem frame_spanStart {w : Parts} (hw : ({ regs := true, bays := true, cmd := true, gfx := true } : Parts).union w = w) x0 s :
    Fr stIs w s (spanStart x0 s) := by
  delta spanStart; exact (by extract_lets +onlyGivenNames -merge -useContext -underBinder v0; clear_value v0; exact (by split; (focus (exact (gite (gstep (frame_startJob (gle rfl hw) _ _) (frame_dowelPut (gle rfl hw) _ _ _)) frefl))); (focus (exact frefl))))

theorem frame_rejoin {w : Parts} (hw : ({ regs := true, twin := true } : Parts).union w = w) x0 s :
    Fr stIs w s (rejoin x0 s) := by
  delta rejoin; exact (by extract_lets +onlyGivenNames -merge -useContext -underBinder v0; have hv0 : Fr stIs w s v0 := (gstep (frame_enterJoining (gle rfl hw) _) (frame_regSetFld (gle rfl hw) _ _ _ _ _)); clear_value v0; exact (upd_twin hv0 (gle rfl hw)))

theorem frame_execFlitRetryLimit {w : Parts} (hw : ({ regs := true, twin := true } : Parts).union w = w) s :
    Fr nextIs w s (execFlitRetryLimit s) := by
  delta execFlitRetryLimit; exact (gnext (frame_retryLimit (gle rfl hw) _))

theorem frame_execSpanningJobStart {w : Parts} (hw : ({ regs := true, bays := true, cmd := true, gfx := true } : Parts).union w = w) x0 s :
    Fr nextIs w s (execSpanningJobStart x0 s) := by
  delta execSpanningJobStart; exact (gite (gnext (frame_spanStart (gle rfl hw) _ _)) gfault)

theorem frame_rejoinTimeout {w : Parts} (hw : Parts.faultReach.union w = w) s :
    Fr stIs w s (rejoinTimeout s) := by
  delta rejoinTimeout; exact (by split; (focus (exact (gite (gstep (frame_rejoinEnds (gle rfl hw) _ _) (gite (upd_twin frefl (gle rfl hw)) (frame_standAlone (gle rfl hw) _ _))) frefl))); (focus (exact frefl)))

theorem frame_override {w : Parts} (hw : Parts.faultReach.union w = w) {x1 : SealCmd → Sys2Proof.Machine.State → Sys2Proof.Machine.State} (hf1 : ∀ q0 q1, Fr stIs w q1 (x1 q0 q1)) x0 x2 s :
    Fr stIs w s (override x0 x1 x2 s) := by
  delta override; exact (by extract_lets +onlyGivenNames -merge -useContext -underBinder v0; clear_value v0; exact (gite (frame_sealDone (gle rfl hw) _ _ _) (gite (frame_sealDone (gle rfl hw) _ _ _) (gite (frame_sealDone (gle rfl hw) _ _ _) (hf1 _ _)))))

theorem frame_execAccordOverrideRejoin {w : Parts} (hw : Parts.faultReach.union w = w) s :
    Fr nextIs w s (execAccordOverrideRejoin s) := by
  delta execAccordOverrideRejoin; exact (gnext (gite frefl (frame_sealRun (gle rfl hw) (by exact fun y0 y1 => (frame_override (gle rfl hw) (by exact fun y2 y3 => (frame_rejoin (gle rfl hw) _ _)) _ _ _)) _ _)))

theorem frame_execTrussLaneRetire {w : Parts} (hw : Parts.handReach.union w = w) x0 s :
    Fr nextIs w s (execTrussLaneRetire x0 s) := by
  delta execTrussLaneRetire; exact (gite (gnext (gite (frame_laneRetire (gle rfl hw) _ _) frefl)) gfault)

theorem frame_leavePair {w : Parts} (hw : { Parts.faultReach with tb := true }.union w = w) x0 s :
    Fr stIs w s (leavePair x0 s) := by
  delta leavePair; exact (gstep (frame_sealDone (gle rfl hw) _ _ _) (gstep (frame_split (gle rfl hw) _ _) (frame_sendCtl (gle rfl hw) _ _)))

theorem frame_execHeartbeatLoss {w : Parts} (hw : { Parts.faultReach with tb := true }.union w = w) s :
    Fr nextIs w s (execHeartbeatLoss s) := by
  delta execHeartbeatLoss; exact (gnext (gite (frame_split (gle rfl hw) _ _) frefl))

theorem frame_execTimeFlitReceive {w : Parts} (hw : { Parts.faultReach with tb := true }.union w = w) s :
    Fr nextIs w s (execTimeFlitReceive s) := by
  delta execTimeFlitReceive; exact (gnext (frame_flitPop (gle rfl hw) (by exact fun y0 y1 => (gite (frame_timeSecond (gle rfl hw) _ _) (frame_timeEcho (gle rfl hw) _ _))) _ _))

theorem frame_nakTake {w : Parts} (hw : Parts.faultReach.union w = w) x0 s :
    Fr stIs w s (nakTake x0 s) := by
  delta nakTake; exact (gite frefl (gite (frame_headerBad (gle rfl hw) _) (by extract_lets +onlyGivenNames -merge -useContext -underBinder v0; have hv0 : Fr stIs w s v0 := (frame_acked (gle rfl hw) _ _); clear_value v0; exact (gstep (frame_cntAdd (gle rfl hw) _ _ _) (upd_twin hv0 (gle rfl hw))))))

theorem frame_execFlitControl {w : Parts} (hw : { Parts.faultReach with part := true, tb := true }.union w = w) s :
    Fr nextIs w s (execFlitControl s) := by
  delta execFlitControl; exact (gnext (frame_flitPop (gle rfl hw) (by exact fun y0 y1 => (by split; (focus (exact (frame_ctlTake (gle rfl hw) _ _))); (focus (exact frefl)))) _ _))

theorem frame_execFlitReceive {w : Parts} (hw : Parts.faultReach.union w = w) x0 s :
    Fr nextIs w s (execFlitReceive x0 s) := by
  delta execFlitReceive; exact (gnext (frame_flitArrive (gle rfl hw) _ _))

theorem frame_execRejoinTimeout {w : Parts} (hw : Parts.faultReach.union w = w) s :
    Fr nextIs w s (execRejoinTimeout s) := by
  delta execRejoinTimeout; exact (gnext (frame_rejoinTimeout (gle rfl hw) _))

theorem frame_execTrussTrainingComplete {w : Parts} (hw : Parts.faultReach.union w = w) s :
    Fr nextIs w s (execTrussTrainingComplete s) := by
  delta execTrussTrainingComplete; exact (gnext (gite (frame_trainDone (gle rfl hw) _) frefl))

theorem frame_execAccordOverrideLeave {w : Parts} (hw : { Parts.faultReach with tb := true }.union w = w) s :
    Fr nextIs w s (execAccordOverrideLeave s) := by
  delta execAccordOverrideLeave; exact (gnext (gite (frame_sealRun (gle rfl hw) (by exact fun y0 y1 => (frame_override (gle rfl hw) (by exact fun y2 y3 => (frame_leavePair (gle rfl hw) _ _)) _ _ _)) _ _) frefl))

theorem frame_execFlitNak {w : Parts} (hw : Parts.faultReach.union w = w) x0 s :
    Fr nextIs w s (execFlitNak x0 s) := by
  delta execFlitNak; exact (gnext (frame_nakTake (gle rfl hw) _ _))

theorem frame_execAccordReceive {w : Parts} (hw : { Parts.faultReach with tb := true }.union w = w) s :
    Fr nextIs w s (execAccordReceive s) := by
  delta execAccordReceive; exact (gnext (frame_flitPop (gle rfl hw) (by exact fun y0 y1 => (by extract_lets +onlyGivenNames -merge -useContext -underBinder v2; clear_value v2; exact (gite (frame_accordTake (gle rfl hw) _ _) (gstep (frame_raise (gle rfl hw) _ _ _ _) (frame_cntInc (gle rfl hw) _ _))))) _ _))

theorem frame_execTrussTraining {w : Parts} (hw : Parts.faultReach.union w = w) x0 x1 s :
    Fr nextIs w s (execTrussTraining x0 x1 s) := by
  delta execTrussTraining; exact (gnext (gite (frame_trainTest (gle rfl hw) _ _ _) frefl))

theorem frame_execVcvt {w : Parts} (hw : Parts.handReach.union w = w) x0 x1 s :
    Fr nextIs w s (execVcvt x0 x1 s) := by
  delta execVcvt; exact (frame_issue (gle rfl hw) (by exact fun y0 => (frame_regStep (gle rfl hw) _ _ _)) _ _ _ _)

theorem frame_execVrmin {w : Parts} (hw : Parts.handReach.union w = w) x0 x1 s :
    Fr nextIs w s (execVrmin x0 x1 s) := by
  delta execVrmin; exact (frame_issue (gle rfl hw) (by exact fun y0 => (frame_regStep (gle rfl hw) _ _ _)) _ _ _ _)

theorem frame_execViadd {w : Parts} (hw : Parts.handReach.union w = w) x0 x1 s :
    Fr nextIs w s (execViadd x0 x1 s) := by
  delta execViadd; exact (frame_issue (gle rfl hw) (by exact fun y0 => (frame_regStep (gle rfl hw) _ _ _)) _ _ _ _)

theorem frame_execVimin {w : Parts} (hw : Parts.handReach.union w = w) x0 x1 s :
    Fr nextIs w s (execVimin x0 x1 s) := by
  delta execVimin; exact (frame_issue (gle rfl hw) (by exact fun y0 => (frame_regStep (gle rfl hw) _ _ _)) _ _ _ _)

theorem frame_execVrsum {w : Parts} (hw : Parts.handReach.union w = w) x0 x1 s :
    Fr nextIs w s (execVrsum x0 x1 s) := by
  delta execVrsum; exact (frame_issue (gle rfl hw) (by exact fun y0 => (frame_regStep (gle rfl hw) _ _ _)) _ _ _ _)

theorem frame_execKand {w : Parts} (hw : Parts.handReach.union w = w) x0 x1 s :
    Fr nextIs w s (execKand x0 x1 s) := by
  delta execKand; exact (frame_issue (gle rfl hw) (by exact fun y0 => (frame_regStep (gle rfl hw) _ _ _)) _ _ _ _)

theorem frame_execVand {w : Parts} (hw : Parts.handReach.union w = w) x0 x1 s :
    Fr nextIs w s (execVand x0 x1 s) := by
  delta execVand; exact (frame_issue (gle rfl hw) (by exact fun y0 => (frame_regStep (gle rfl hw) _ _ _)) _ _ _ _)

theorem frame_execVcne {w : Parts} (hw : Parts.handReach.union w = w) x0 x1 s :
    Fr nextIs w s (execVcne x0 x1 s) := by
  delta execVcne; exact (frame_issue (gle rfl hw) (by exact fun y0 => (frame_regStep (gle rfl hw) _ _ _)) _ _ _ _)

theorem frame_execVsll {w : Parts} (hw : Parts.handReach.union w = w) x0 x1 s :
    Fr nextIs w s (execVsll x0 x1 s) := by
  delta execVsll; exact (frame_issue (gle rfl hw) (by exact fun y0 => (frame_regStep (gle rfl hw) _ _ _)) _ _ _ _)

theorem frame_execVor {w : Parts} (hw : Parts.handReach.union w = w) x0 x1 s :
    Fr nextIs w s (execVor x0 x1 s) := by
  delta execVor; exact (frame_issue (gle rfl hw) (by exact fun y0 => (frame_regStep (gle rfl hw) _ _ _)) _ _ _ _)

theorem frame_execVcle {w : Parts} (hw : Parts.handReach.union w = w) x0 x1 s :
    Fr nextIs w s (execVcle x0 x1 s) := by
  delta execVcle; exact (frame_issue (gle rfl hw) (by exact fun y0 => (frame_regStep (gle rfl hw) _ _ _)) _ _ _ _)

theorem frame_execVimax {w : Parts} (hw : Parts.handReach.union w = w) x0 x1 s :
    Fr nextIs w s (execVimax x0 x1 s) := by
  delta execVimax; exact (frame_issue (gle rfl hw) (by exact fun y0 => (frame_regStep (gle rfl hw) _ _ _)) _ _ _ _)

theorem frame_execVneg {w : Parts} (hw : Parts.handReach.union w = w) x0 x1 s :
    Fr nextIs w s (execVneg x0 x1 s) := by
  delta execVneg; exact (frame_issue (gle rfl hw) (by exact fun y0 => (frame_regStep (gle rfl hw) _ _ _)) _ _ _ _)

theorem frame_execVfms {w : Parts} (hw : Parts.handReach.union w = w) x0 x1 s :
    Fr nextIs w s (execVfms x0 x1 s) := by
  delta execVfms; exact (frame_issue (gle rfl hw) (by exact fun y0 => (frame_regStep (gle rfl hw) _ _ _)) _ _ _ _)

theorem frame_execVabs {w : Parts} (hw : Parts.handReach.union w = w) x0 x1 s :
    Fr nextIs w s (execVabs x0 x1 s) := by
  delta execVabs; exact (frame_issue (gle rfl hw) (by exact fun y0 => (frame_regStep (gle rfl hw) _ _ _)) _ _ _ _)

theorem frame_execVfma {w : Parts} (hw : Parts.handReach.union w = w) x0 x1 s :
    Fr nextIs w s (execVfma x0 x1 s) := by
  delta execVfma; exact (frame_issue (gle rfl hw) (by exact fun y0 => (frame_regStep (gle rfl hw) _ _ _)) _ _ _ _)

theorem frame_execVcgt {w : Parts} (hw : Parts.handReach.union w = w) x0 x1 s :
    Fr nextIs w s (execVcgt x0 x1 s) := by
  delta execVcgt; exact (frame_issue (gle rfl hw) (by exact fun y0 => (frame_regStep (gle rfl hw) _ _ _)) _ _ _ _)

theorem frame_execVsrl {w : Parts} (hw : Parts.handReach.union w = w) x0 x1 s :
    Fr nextIs w s (execVsrl x0 x1 s) := by
  delta execVsrl; exact (frame_issue (gle rfl hw) (by exact fun y0 => (frame_regStep (gle rfl hw) _ _ _)) _ _ _ _)

theorem frame_execVfnma {w : Parts} (hw : Parts.handReach.union w = w) x0 x1 s :
    Fr nextIs w s (execVfnma x0 x1 s) := by
  delta execVfnma; exact (frame_issue (gle rfl hw) (by exact fun y0 => (frame_regStep (gle rfl hw) _ _ _)) _ _ _ _)

theorem frame_execVdiv {w : Parts} (hw : Parts.handReach.union w = w) x0 x1 s :
    Fr nextIs w s (execVdiv x0 x1 s) := by
  delta execVdiv; exact (frame_issue (gle rfl hw) (by exact fun y0 => (frame_regStep (gle rfl hw) _ _ _)) _ _ _ _)

theorem frame_execVadd {w : Parts} (hw : Parts.handReach.union w = w) x0 x1 s :
    Fr nextIs w s (execVadd x0 x1 s) := by
  delta execVadd; exact (frame_issue (gle rfl hw) (by exact fun y0 => (frame_regStep (gle rfl hw) _ _ _)) _ _ _ _)

theorem frame_execVperm {w : Parts} (hw : Parts.handReach.union w = w) x0 x1 s :
    Fr nextIs w s (execVperm x0 x1 s) := by
  delta execVperm; exact (frame_issue (gle rfl hw) (by exact fun y0 => (frame_regStep (gle rfl hw) _ _ _)) _ _ _ _)

theorem frame_execKnot {w : Parts} (hw : Parts.handReach.union w = w) x0 x1 s :
    Fr nextIs w s (execKnot x0 x1 s) := by
  delta execKnot; exact (frame_issue (gle rfl hw) (by exact fun y0 => (frame_regStep (gle rfl hw) _ _ _)) _ _ _ _)

theorem frame_execVsub {w : Parts} (hw : Parts.handReach.union w = w) x0 x1 s :
    Fr nextIs w s (execVsub x0 x1 s) := by
  delta execVsub; exact (frame_issue (gle rfl hw) (by exact fun y0 => (frame_regStep (gle rfl hw) _ _ _)) _ _ _ _)

theorem frame_execVxor {w : Parts} (hw : Parts.handReach.union w = w) x0 x1 s :
    Fr nextIs w s (execVxor x0 x1 s) := by
  delta execVxor; exact (frame_issue (gle rfl hw) (by exact fun y0 => (frame_regStep (gle rfl hw) _ _ _)) _ _ _ _)

theorem frame_execVmul {w : Parts} (hw : Parts.handReach.union w = w) x0 x1 s :
    Fr nextIs w s (execVmul x0 x1 s) := by
  delta execVmul; exact (frame_issue (gle rfl hw) (by exact fun y0 => (frame_regStep (gle rfl hw) _ _ _)) _ _ _ _)

theorem frame_execVmin {w : Parts} (hw : Parts.handReach.union w = w) x0 x1 s :
    Fr nextIs w s (execVmin x0 x1 s) := by
  delta execVmin; exact (frame_issue (gle rfl hw) (by exact fun y0 => (frame_regStep (gle rfl hw) _ _ _)) _ _ _ _)

theorem frame_execVclt {w : Parts} (hw : Parts.handReach.union w = w) x0 x1 s :
    Fr nextIs w s (execVclt x0 x1 s) := by
  delta execVclt; exact (frame_issue (gle rfl hw) (by exact fun y0 => (frame_regStep (gle rfl hw) _ _ _)) _ _ _ _)

theorem frame_execVmov {w : Parts} (hw : Parts.handReach.union w = w) x0 x1 s :
    Fr nextIs w s (execVmov x0 x1 s) := by
  delta execVmov; exact (frame_issue (gle rfl hw) (by exact fun y0 => (frame_regStep (gle rfl hw) _ _ _)) _ _ _ _)

theorem frame_execVsqrt {w : Parts} (hw : Parts.handReach.union w = w) x0 x1 s :
    Fr nextIs w s (execVsqrt x0 x1 s) := by
  delta execVsqrt; exact (frame_issue (gle rfl hw) (by exact fun y0 => (frame_regStep (gle rfl hw) _ _ _)) _ _ _ _)

theorem frame_execVfnms {w : Parts} (hw : Parts.handReach.union w = w) x0 x1 s :
    Fr nextIs w s (execVfnms x0 x1 s) := by
  delta execVfnms; exact (frame_issue (gle rfl hw) (by exact fun y0 => (frame_regStep (gle rfl hw) _ _ _)) _ _ _ _)

theorem frame_execKxor {w : Parts} (hw : Parts.handReach.union w = w) x0 x1 s :
    Fr nextIs w s (execKxor x0 x1 s) := by
  delta execKxor; exact (frame_issue (gle rfl hw) (by exact fun y0 => (frame_regStep (gle rfl hw) _ _ _)) _ _ _ _)

theorem frame_execVcge {w : Parts} (hw : Parts.handReach.union w = w) x0 x1 s :
    Fr nextIs w s (execVcge x0 x1 s) := by
  delta execVcge; exact (frame_issue (gle rfl hw) (by exact fun y0 => (frame_regStep (gle rfl hw) _ _ _)) _ _ _ _)

theorem frame_execKor {w : Parts} (hw : Parts.handReach.union w = w) x0 x1 s :
    Fr nextIs w s (execKor x0 x1 s) := by
  delta execKor; exact (frame_issue (gle rfl hw) (by exact fun y0 => (frame_regStep (gle rfl hw) _ _ _)) _ _ _ _)

theorem frame_execKpop {w : Parts} (hw : Parts.handReach.union w = w) x0 x1 s :
    Fr nextIs w s (execKpop x0 x1 s) := by
  delta execKpop; exact (frame_issue (gle rfl hw) (by exact fun y0 => (frame_regStep (gle rfl hw) _ _ _)) _ _ _ _)

theorem frame_execVimul {w : Parts} (hw : Parts.handReach.union w = w) x0 x1 s :
    Fr nextIs w s (execVimul x0 x1 s) := by
  delta execVimul; exact (frame_issue (gle rfl hw) (by exact fun y0 => (frame_regStep (gle rfl hw) _ _ _)) _ _ _ _)

theorem frame_execVceq {w : Parts} (hw : Parts.handReach.union w = w) x0 x1 s :
    Fr nextIs w s (execVceq x0 x1 s) := by
  delta execVceq; exact (frame_issue (gle rfl hw) (by exact fun y0 => (frame_regStep (gle rfl hw) _ _ _)) _ _ _ _)

theorem frame_execVsel {w : Parts} (hw : Parts.handReach.union w = w) x0 x1 s :
    Fr nextIs w s (execVsel x0 x1 s) := by
  delta execVsel; exact (frame_issue (gle rfl hw) (by exact fun y0 => (frame_regStep (gle rfl hw) _ _ _)) _ _ _ _)

theorem frame_execVisub {w : Parts} (hw : Parts.handReach.union w = w) x0 x1 s :
    Fr nextIs w s (execVisub x0 x1 s) := by
  delta execVisub; exact (frame_issue (gle rfl hw) (by exact fun y0 => (frame_regStep (gle rfl hw) _ _ _)) _ _ _ _)

theorem frame_execVsra {w : Parts} (hw : Parts.handReach.union w = w) x0 x1 s :
    Fr nextIs w s (execVsra x0 x1 s) := by
  delta execVsra; exact (frame_issue (gle rfl hw) (by exact fun y0 => (frame_regStep (gle rfl hw) _ _ _)) _ _ _ _)

theorem frame_execVrisum {w : Parts} (hw : Parts.handReach.union w = w) x0 x1 s :
    Fr nextIs w s (execVrisum x0 x1 s) := by
  delta execVrisum; exact (frame_issue (gle rfl hw) (by exact fun y0 => (frame_regStep (gle rfl hw) _ _ _)) _ _ _ _)

theorem frame_execVrmax {w : Parts} (hw : Parts.handReach.union w = w) x0 x1 s :
    Fr nextIs w s (execVrmax x0 x1 s) := by
  delta execVrmax; exact (frame_issue (gle rfl hw) (by exact fun y0 => (frame_regStep (gle rfl hw) _ _ _)) _ _ _ _)

theorem frame_execVbcast {w : Parts} (hw : Parts.handReach.union w = w) x0 x1 s :
    Fr nextIs w s (execVbcast x0 x1 s) := by
  delta execVbcast; exact (frame_issue (gle rfl hw) (by exact fun y0 => (frame_regStep (gle rfl hw) _ _ _)) _ _ _ _)

theorem frame_execVmax {w : Parts} (hw : Parts.handReach.union w = w) x0 x1 s :
    Fr nextIs w s (execVmax x0 x1 s) := by
  delta execVmax; exact (frame_issue (gle rfl hw) (by exact fun y0 => (frame_regStep (gle rfl hw) _ _ _)) _ _ _ _)

end Sys2Proof.Machine
end

