-- ==== Sys2Proof/Laws/State.lean ====
section
/-!
SUPPORT. Laws of the updates of State: which field each update writes, one lemma per field that it leaves as it was, and what
a register, a bay, a hand context, a dowel slot, a peg and a byte of memory read after it.
-/

namespace Sys2Proof.Machine

@[simp] theorem regPut_staging (s : State) (a : Addr) (v : Word32) : (regPut s a v).staging = s.staging := rfl
@[simp] theorem regPut_latches (s : State) (a : Addr) (v : Word32) : (regPut s a v).latches = s.latches := rfl
@[simp] theorem regPut_mem (s : State) (a : Addr) (v : Word32) : (regPut s a v).mem = s.mem := rfl
@[simp] theorem regPut_bays (s : State) (a : Addr) (v : Word32) : (regPut s a v).bays = s.bays := rfl
@[simp] theorem regPut_waitWrites (s : State) (a : Addr) (v : Word32) : (regPut s a v).waitWrites = s.waitWrites := rfl
@[simp] theorem regPut_bayMap (s : State) (a : Addr) (v : Word32) : (regPut s a v).bayMap = s.bayMap := rfl
@[simp] theorem regPut_jointers (s : State) (a : Addr) (v : Word32) : (regPut s a v).jointers = s.jointers := rfl
@[simp] theorem regPut_jmap (s : State) (a : Addr) (v : Word32) : (regPut s a v).jmap = s.jmap := rfl
@[simp] theorem regPut_cmd (s : State) (a : Addr) (v : Word32) : (regPut s a v).cmd = s.cmd := rfl
@[simp] theorem regPut_pegs (s : State) (a : Addr) (v : Word32) : (regPut s a v).pegs = s.pegs := rfl
@[simp] theorem regPut_part (s : State) (a : Addr) (v : Word32) : (regPut s a v).part = s.part := rfl
@[simp] theorem regPut_tb (s : State) (a : Addr) (v : Word32) : (regPut s a v).tb = s.tb := rfl
@[simp] theorem regPut_safety (s : State) (a : Addr) (v : Word32) : (regPut s a v).safety = s.safety := rfl
@[simp] theorem regPut_boot (s : State) (a : Addr) (v : Word32) : (regPut s a v).boot = s.boot := rfl
@[simp] theorem regPut_repair (s : State) (a : Addr) (v : Word32) : (regPut s a v).repair = s.repair := rfl
@[simp] theorem regPut_fc (s : State) (a : Addr) (v : Word32) : (regPut s a v).fc = s.fc := rfl
@[simp] theorem regPut_intake (s : State) (a : Addr) (v : Word32) : (regPut s a v).intake = s.intake := rfl
@[simp] theorem regPut_gfx (s : State) (a : Addr) (v : Word32) : (regPut s a v).gfx = s.gfx := rfl
@[simp] theorem regPut_disp (s : State) (a : Addr) (v : Word32) : (regPut s a v).disp = s.disp := rfl
@[simp] theorem regPut_gw (s : State) (a : Addr) (v : Word32) : (regPut s a v).gw = s.gw := rfl
@[simp] theorem regPut_sealU (s : State) (a : Addr) (v : Word32) : (regPut s a v).sealU = s.sealU := rfl
@[simp] theorem regPut_twin (s : State) (a : Addr) (v : Word32) : (regPut s a v).twin = s.twin := rfl
@[simp] theorem regPut_imsic (s : State) (a : Addr) (v : Word32) : (regPut s a v).imsic = s.imsic := rfl
@[simp] theorem regPut_aplic (s : State) (a : Addr) (v : Word32) : (regPut s a v).aplic = s.aplic := rfl
@[simp] theorem regPut_plumbRom (s : State) (a : Addr) (v : Word32) : (regPut s a v).plumbRom = s.plumbRom := rfl
@[simp] theorem regPut_golden (s : State) (a : Addr) (v : Word32) : (regPut s a v).golden = s.golden := rfl
@[simp] theorem regPut_reply (s : State) (a : Addr) (v : Word32) : (regPut s a v).reply = s.reply := rfl
@[simp] theorem regPut_freeCtr (s : State) (a : Addr) (v : Word32) : (regPut s a v).freeCtr = s.freeCtr := rfl
@[simp] theorem regPut_pending (s : State) (a : Addr) (v : Word32) : (regPut s a v).pending = s.pending := rfl

@[simp] theorem regSetFld_staging (s : State) (a : Addr) (lo len v : Nat) : (regSetFld s a lo len v).staging = s.staging := rfl
@[simp] theorem regSetFld_latches (s : State) (a : Addr) (lo len v : Nat) : (regSetFld s a lo len v).latches = s.latches := rfl
@[simp] theorem regSetFld_mem (s : State) (a : Addr) (lo len v : Nat) : (regSetFld s a lo len v).mem = s.mem := rfl
@[simp] theorem regSetFld_bays (s : State) (a : Addr) (lo len v : Nat) : (regSetFld s a lo len v).bays = s.bays := rfl
@[simp] theorem regSetFld_waitWrites (s : State) (a : Addr) (lo len v : Nat) : (regSetFld s a lo len v).waitWrites = s.waitWrites := rfl
@[simp] theorem regSetFld_bayMap (s : State) (a : Addr) (lo len v : Nat) : (regSetFld s a lo len v).bayMap = s.bayMap := rfl
@[simp] theorem regSetFld_jointers (s : State) (a : Addr) (lo len v : Nat) : (regSetFld s a lo len v).jointers = s.jointers := rfl
@[simp] theorem regSetFld_jmap (s : State) (a : Addr) (lo len v : Nat) : (regSetFld s a lo len v).jmap = s.jmap := rfl
@[simp] theorem regSetFld_cmd (s : State) (a : Addr) (lo len v : Nat) : (regSetFld s a lo len v).cmd = s.cmd := rfl
@[simp] theorem regSetFld_pegs (s : State) (a : Addr) (lo len v : Nat) : (regSetFld s a lo len v).pegs = s.pegs := rfl
@[simp] theorem regSetFld_part (s : State) (a : Addr) (lo len v : Nat) : (regSetFld s a lo len v).part = s.part := rfl
@[simp] theorem regSetFld_tb (s : State) (a : Addr) (lo len v : Nat) : (regSetFld s a lo len v).tb = s.tb := rfl
@[simp] theorem regSetFld_safety (s : State) (a : Addr) (lo len v : Nat) : (regSetFld s a lo len v).safety = s.safety := rfl
@[simp] theorem regSetFld_boot (s : State) (a : Addr) (lo len v : Nat) : (regSetFld s a lo len v).boot = s.boot := rfl
@[simp] theorem regSetFld_repair (s : State) (a : Addr) (lo len v : Nat) : (regSetFld s a lo len v).repair = s.repair := rfl
@[simp] theorem regSetFld_fc (s : State) (a : Addr) (lo len v : Nat) : (regSetFld s a lo len v).fc = s.fc := rfl
@[simp] theorem regSetFld_intake (s : State) (a : Addr) (lo len v : Nat) : (regSetFld s a lo len v).intake = s.intake := rfl
@[simp] theorem regSetFld_gfx (s : State) (a : Addr) (lo len v : Nat) : (regSetFld s a lo len v).gfx = s.gfx := rfl
@[simp] theorem regSetFld_disp (s : State) (a : Addr) (lo len v : Nat) : (regSetFld s a lo len v).disp = s.disp := rfl
@[simp] theorem regSetFld_gw (s : State) (a : Addr) (lo len v : Nat) : (regSetFld s a lo len v).gw = s.gw := rfl
@[simp] theorem regSetFld_sealU (s : State) (a : Addr) (lo len v : Nat) : (regSetFld s a lo len v).sealU = s.sealU := rfl
@[simp] theorem regSetFld_twin (s : State) (a : Addr) (lo len v : Nat) : (regSetFld s a lo len v).twin = s.twin := rfl
@[simp] theorem regSetFld_imsic (s : State) (a : Addr) (lo len v : Nat) : (regSetFld s a lo len v).imsic = s.imsic := rfl
@[simp] theorem regSetFld_aplic (s : State) (a : Addr) (lo len v : Nat) : (regSetFld s a lo len v).aplic = s.aplic := rfl
@[simp] theorem regSetFld_plumbRom (s : State) (a : Addr) (lo len v : Nat) : (regSetFld s a lo len v).plumbRom = s.plumbRom := rfl
@[simp] theorem regSetFld_golden (s : State) (a : Addr) (lo len v : Nat) : (regSetFld s a lo len v).golden = s.golden := rfl
@[simp] theorem regSetFld_reply (s : State) (a : Addr) (lo len v : Nat) : (regSetFld s a lo len v).reply = s.reply := rfl
@[simp] theorem regSetFld_freeCtr (s : State) (a : Addr) (lo len v : Nat) : (regSetFld s a lo len v).freeCtr = s.freeCtr := rfl
@[simp] theorem regSetFld_pending (s : State) (a : Addr) (lo len v : Nat) : (regSetFld s a lo len v).pending = s.pending := rfl

@[simp] theorem pairPut_staging (s : State) (a : Addr) (v : Nat) : (pairPut s a v).staging = s.staging := rfl
@[simp] theorem pairPut_latches (s : State) (a : Addr) (v : Nat) : (pairPut s a v).latches = s.latches := rfl
@[simp] theorem pairPut_mem (s : State) (a : Addr) (v : Nat) : (pairPut s a v).mem = s.mem := rfl
@[simp] theorem pairPut_bays (s : State) (a : Addr) (v : Nat) : (pairPut s a v).bays = s.bays := rfl
@[simp] theorem pairPut_waitWrites (s : State) (a : Addr) (v : Nat) : (pairPut s a v).waitWrites = s.waitWrites := rfl
@[simp] theorem pairPut_bayMap (s : State) (a : Addr) (v : Nat) : (pairPut s a v).bayMap = s.bayMap := rfl
@[simp] theorem pairPut_jointers (s : State) (a : Addr) (v : Nat) : (pairPut s a v).jointers = s.jointers := rfl
@[simp] theorem pairPut_jmap (s : State) (a : Addr) (v : Nat) : (pairPut s a v).jmap = s.jmap := rfl
@[simp] theorem pairPut_cmd (s : State) (a : Addr) (v : Nat) : (pairPut s a v).cmd = s.cmd := rfl
@[simp] theorem pairPut_pegs (s : State) (a : Addr) (v : Nat) : (pairPut s a v).pegs = s.pegs := rfl
@[simp] theorem pairPut_part (s : State) (a : Addr) (v : Nat) : (pairPut s a v).part = s.part := rfl
@[simp] theorem pairPut_tb (s : State) (a : Addr) (v : Nat) : (pairPut s a v).tb = s.tb := rfl
@[simp] theorem pairPut_safety (s : State) (a : Addr) (v : Nat) : (pairPut s a v).safety = s.safety := rfl
@[simp] theorem pairPut_boot (s : State) (a : Addr) (v : Nat) : (pairPut s a v).boot = s.boot := rfl
@[simp] theorem pairPut_repair (s : State) (a : Addr) (v : Nat) : (pairPut s a v).repair = s.repair := rfl
@[simp] theorem pairPut_fc (s : State) (a : Addr) (v : Nat) : (pairPut s a v).fc = s.fc := rfl
@[simp] theorem pairPut_intake (s : State) (a : Addr) (v : Nat) : (pairPut s a v).intake = s.intake := rfl
@[simp] theorem pairPut_gfx (s : State) (a : Addr) (v : Nat) : (pairPut s a v).gfx = s.gfx := rfl
@[simp] theorem pairPut_disp (s : State) (a : Addr) (v : Nat) : (pairPut s a v).disp = s.disp := rfl
@[simp] theorem pairPut_gw (s : State) (a : Addr) (v : Nat) : (pairPut s a v).gw = s.gw := rfl
@[simp] theorem pairPut_sealU (s : State) (a : Addr) (v : Nat) : (pairPut s a v).sealU = s.sealU := rfl
@[simp] theorem pairPut_twin (s : State) (a : Addr) (v : Nat) : (pairPut s a v).twin = s.twin := rfl
@[simp] theorem pairPut_imsic (s : State) (a : Addr) (v : Nat) : (pairPut s a v).imsic = s.imsic := rfl
@[simp] theorem pairPut_aplic (s : State) (a : Addr) (v : Nat) : (pairPut s a v).aplic = s.aplic := rfl
@[simp] theorem pairPut_plumbRom (s : State) (a : Addr) (v : Nat) : (pairPut s a v).plumbRom = s.plumbRom := rfl
@[simp] theorem pairPut_golden (s : State) (a : Addr) (v : Nat) : (pairPut s a v).golden = s.golden := rfl
@[simp] theorem pairPut_reply (s : State) (a : Addr) (v : Nat) : (pairPut s a v).reply = s.reply := rfl
@[simp] theorem pairPut_freeCtr (s : State) (a : Addr) (v : Nat) : (pairPut s a v).freeCtr = s.freeCtr := rfl
@[simp] theorem pairPut_pending (s : State) (a : Addr) (v : Nat) : (pairPut s a v).pending = s.pending := rfl

@[simp] theorem cntAdd_staging (s : State) (a : Addr) (n : Nat) : (cntAdd s a n).staging = s.staging := rfl
@[simp] theorem cntAdd_latches (s : State) (a : Addr) (n : Nat) : (cntAdd s a n).latches = s.latches := rfl
@[simp] theorem cntAdd_mem (s : State) (a : Addr) (n : Nat) : (cntAdd s a n).mem = s.mem := rfl
@[simp] theorem cntAdd_bays (s : State) (a : Addr) (n : Nat) : (cntAdd s a n).bays = s.bays := rfl
@[simp] theorem cntAdd_waitWrites (s : State) (a : Addr) (n : Nat) : (cntAdd s a n).waitWrites = s.waitWrites := rfl
@[simp] theorem cntAdd_bayMap (s : State) (a : Addr) (n : Nat) : (cntAdd s a n).bayMap = s.bayMap := rfl
@[simp] theorem cntAdd_jointers (s : State) (a : Addr) (n : Nat) : (cntAdd s a n).jointers = s.jointers := rfl
@[simp] theorem cntAdd_jmap (s : State) (a : Addr) (n : Nat) : (cntAdd s a n).jmap = s.jmap := rfl
@[simp] theorem cntAdd_cmd (s : State) (a : Addr) (n : Nat) : (cntAdd s a n).cmd = s.cmd := rfl
@[simp] theorem cntAdd_pegs (s : State) (a : Addr) (n : Nat) : (cntAdd s a n).pegs = s.pegs := rfl
@[simp] theorem cntAdd_part (s : State) (a : Addr) (n : Nat) : (cntAdd s a n).part = s.part := rfl
@[simp] theorem cntAdd_tb (s : State) (a : Addr) (n : Nat) : (cntAdd s a n).tb = s.tb := rfl
@[simp] theorem cntAdd_safety (s : State) (a : Addr) (n : Nat) : (cntAdd s a n).safety = s.safety := rfl
@[simp] theorem cntAdd_boot (s : State) (a : Addr) (n : Nat) : (cntAdd s a n).boot = s.boot := rfl
@[simp] theorem cntAdd_repair (s : State) (a : Addr) (n : Nat) : (cntAdd s a n).repair = s.repair := rfl
@[simp] theorem cntAdd_fc (s : State) (a : Addr) (n : Nat) : (cntAdd s a n).fc = s.fc := rfl
@[simp] theorem cntAdd_intake (s : State) (a : Addr) (n : Nat) : (cntAdd s a n).intake = s.intake := rfl
@[simp] theorem cntAdd_gfx (s : State) (a : Addr) (n : Nat) : (cntAdd s a n).gfx = s.gfx := rfl
@[simp] theorem cntAdd_disp (s : State) (a : Addr) (n : Nat) : (cntAdd s a n).disp = s.disp := rfl
@[simp] theorem cntAdd_gw (s : State) (a : Addr) (n : Nat) : (cntAdd s a n).gw = s.gw := rfl
@[simp] theorem cntAdd_sealU (s : State) (a : Addr) (n : Nat) : (cntAdd s a n).sealU = s.sealU := rfl
@[simp] theorem cntAdd_twin (s : State) (a : Addr) (n : Nat) : (cntAdd s a n).twin = s.twin := rfl
@[simp] theorem cntAdd_imsic (s : State) (a : Addr) (n : Nat) : (cntAdd s a n).imsic = s.imsic := rfl
@[simp] theorem cntAdd_aplic (s : State) (a : Addr) (n : Nat) : (cntAdd s a n).aplic = s.aplic := rfl
@[simp] theorem cntAdd_plumbRom (s : State) (a : Addr) (n : Nat) : (cntAdd s a n).plumbRom = s.plumbRom := rfl
@[simp] theorem cntAdd_golden (s : State) (a : Addr) (n : Nat) : (cntAdd s a n).golden = s.golden := rfl
@[simp] theorem cntAdd_reply (s : State) (a : Addr) (n : Nat) : (cntAdd s a n).reply = s.reply := rfl
@[simp] theorem cntAdd_freeCtr (s : State) (a : Addr) (n : Nat) : (cntAdd s a n).freeCtr = s.freeCtr := rfl
@[simp] theorem cntAdd_pending (s : State) (a : Addr) (n : Nat) : (cntAdd s a n).pending = s.pending := rfl

@[simp] theorem cntInc_staging (s : State) (a : Addr) : (cntInc s a).staging = s.staging := rfl
@[simp] theorem cntInc_latches (s : State) (a : Addr) : (cntInc s a).latches = s.latches := rfl
@[simp] theorem cntInc_mem (s : State) (a : Addr) : (cntInc s a).mem = s.mem := rfl
@[simp] theorem cntInc_bays (s : State) (a : Addr) : (cntInc s a).bays = s.bays := rfl
@[simp] theorem cntInc_waitWrites (s : State) (a : Addr) : (cntInc s a).waitWrites = s.waitWrites := rfl
@[simp] theorem cntInc_bayMap (s : State) (a : Addr) : (cntInc s a).bayMap = s.bayMap := rfl
@[simp] theorem cntInc_jointers (s : State) (a : Addr) : (cntInc s a).jointers = s.jointers := rfl
@[simp] theorem cntInc_jmap (s : State) (a : Addr) : (cntInc s a).jmap = s.jmap := rfl
@[simp] theorem cntInc_cmd (s : State) (a : Addr) : (cntInc s a).cmd = s.cmd := rfl
@[simp] theorem cntInc_pegs (s : State) (a : Addr) : (cntInc s a).pegs = s.pegs := rfl
@[simp] theorem cntInc_part (s : State) (a : Addr) : (cntInc s a).part = s.part := rfl
@[simp] theorem cntInc_tb (s : State) (a : Addr) : (cntInc s a).tb = s.tb := rfl
@[simp] theorem cntInc_safety (s : State) (a : Addr) : (cntInc s a).safety = s.safety := rfl
@[simp] theorem cntInc_boot (s : State) (a : Addr) : (cntInc s a).boot = s.boot := rfl
@[simp] theorem cntInc_repair (s : State) (a : Addr) : (cntInc s a).repair = s.repair := rfl
@[simp] theorem cntInc_fc (s : State) (a : Addr) : (cntInc s a).fc = s.fc := rfl
@[simp] theorem cntInc_intake (s : State) (a : Addr) : (cntInc s a).intake = s.intake := rfl
@[simp] theorem cntInc_gfx (s : State) (a : Addr) : (cntInc s a).gfx = s.gfx := rfl
@[simp] theorem cntInc_disp (s : State) (a : Addr) : (cntInc s a).disp = s.disp := rfl
@[simp] theorem cntInc_gw (s : State) (a : Addr) : (cntInc s a).gw = s.gw := rfl
@[simp] theorem cntInc_sealU (s : State) (a : Addr) : (cntInc s a).sealU = s.sealU := rfl
@[simp] theorem cntInc_twin (s : State) (a : Addr) : (cntInc s a).twin = s.twin := rfl
@[simp] theorem cntInc_imsic (s : State) (a : Addr) : (cntInc s a).imsic = s.imsic := rfl
@[simp] theorem cntInc_aplic (s : State) (a : Addr) : (cntInc s a).aplic = s.aplic := rfl
@[simp] theorem cntInc_plumbRom (s : State) (a : Addr) : (cntInc s a).plumbRom = s.plumbRom := rfl
@[simp] theorem cntInc_golden (s : State) (a : Addr) : (cntInc s a).golden = s.golden := rfl
@[simp] theorem cntInc_reply (s : State) (a : Addr) : (cntInc s a).reply = s.reply := rfl
@[simp] theorem cntInc_freeCtr (s : State) (a : Addr) : (cntInc s a).freeCtr = s.freeCtr := rfl
@[simp] theorem cntInc_pending (s : State) (a : Addr) : (cntInc s a).pending = s.pending := rfl

@[simp] theorem bayPut_regs (s : State) (pb : Nat) (b : Bay) : (bayPut s pb b).regs = s.regs := rfl
@[simp] theorem bayPut_staging (s : State) (pb : Nat) (b : Bay) : (bayPut s pb b).staging = s.staging := rfl
@[simp] theorem bayPut_latches (s : State) (pb : Nat) (b : Bay) : (bayPut s pb b).latches = s.latches := rfl
@[simp] theorem bayPut_mem (s : State) (pb : Nat) (b : Bay) : (bayPut s pb b).mem = s.mem := rfl
@[simp] theorem bayPut_waitWrites (s : State) (pb : Nat) (b : Bay) : (bayPut s pb b).waitWrites = s.waitWrites := rfl
@[simp] theorem bayPut_bayMap (s : State) (pb : Nat) (b : Bay) : (bayPut s pb b).bayMap = s.bayMap := rfl
@[simp] theorem bayPut_jointers (s : State) (pb : Nat) (b : Bay) : (bayPut s pb b).jointers = s.jointers := rfl
@[simp] theorem bayPut_jmap (s : State) (pb : Nat) (b : Bay) : (bayPut s pb b).jmap = s.jmap := rfl
@[simp] theorem bayPut_cmd (s : State) (pb : Nat) (b : Bay) : (bayPut s pb b).cmd = s.cmd := rfl
@[simp] theorem bayPut_pegs (s : State) (pb : Nat) (b : Bay) : (bayPut s pb b).pegs = s.pegs := rfl
@[simp] theorem bayPut_part (s : State) (pb : Nat) (b : Bay) : (bayPut s pb b).part = s.part := rfl
@[simp] theorem bayPut_tb (s : State) (pb : Nat) (b : Bay) : (bayPut s pb b).tb = s.tb := rfl
@[simp] theorem bayPut_safety (s : State) (pb : Nat) (b : Bay) : (bayPut s pb b).safety = s.safety := rfl
@[simp] theorem bayPut_boot (s : State) (pb : Nat) (b : Bay) : (bayPut s pb b).boot = s.boot := rfl
@[simp] theorem bayPut_repair (s : State) (pb : Nat) (b : Bay) : (bayPut s pb b).repair = s.repair := rfl
@[simp] theorem bayPut_fc (s : State) (pb : Nat) (b : Bay) : (bayPut s pb b).fc = s.fc := rfl
@[simp] theorem bayPut_intake (s : State) (pb : Nat) (b : Bay) : (bayPut s pb b).intake = s.intake := rfl
@[simp] theorem bayPut_gfx (s : State) (pb : Nat) (b : Bay) : (bayPut s pb b).gfx = s.gfx := rfl
@[simp] theorem bayPut_disp (s : State) (pb : Nat) (b : Bay) : (bayPut s pb b).disp = s.disp := rfl
@[simp] theorem bayPut_gw (s : State) (pb : Nat) (b : Bay) : (bayPut s pb b).gw = s.gw := rfl
@[simp] theorem bayPut_sealU (s : State) (pb : Nat) (b : Bay) : (bayPut s pb b).sealU = s.sealU := rfl
@[simp] theorem bayPut_twin (s : State) (pb : Nat) (b : Bay) : (bayPut s pb b).twin = s.twin := rfl
@[simp] theorem bayPut_imsic (s : State) (pb : Nat) (b : Bay) : (bayPut s pb b).imsic = s.imsic := rfl
@[simp] theorem bayPut_aplic (s : State) (pb : Nat) (b : Bay) : (bayPut s pb b).aplic = s.aplic := rfl
@[simp] theorem bayPut_plumbRom (s : State) (pb : Nat) (b : Bay) : (bayPut s pb b).plumbRom = s.plumbRom := rfl
@[simp] theorem bayPut_golden (s : State) (pb : Nat) (b : Bay) : (bayPut s pb b).golden = s.golden := rfl
@[simp] theorem bayPut_reply (s : State) (pb : Nat) (b : Bay) : (bayPut s pb b).reply = s.reply := rfl
@[simp] theorem bayPut_freeCtr (s : State) (pb : Nat) (b : Bay) : (bayPut s pb b).freeCtr = s.freeCtr := rfl
@[simp] theorem bayPut_pending (s : State) (pb : Nat) (b : Bay) : (bayPut s pb b).pending = s.pending := rfl

@[simp] theorem bayMod_regs (s : State) (pb : Nat) (f : Bay → Bay) : (bayMod s pb f).regs = s.regs := rfl
@[simp] theorem bayMod_staging (s : State) (pb : Nat) (f : Bay → Bay) : (bayMod s pb f).staging = s.staging := rfl
@[simp] theorem bayMod_latches (s : State) (pb : Nat) (f : Bay → Bay) : (bayMod s pb f).latches = s.latches := rfl
@[simp] theorem bayMod_mem (s : State) (pb : Nat) (f : Bay → Bay) : (bayMod s pb f).mem = s.mem := rfl
@[simp] theorem bayMod_waitWrites (s : State) (pb : Nat) (f : Bay → Bay) : (bayMod s pb f).waitWrites = s.waitWrites := rfl
@[simp] theorem bayMod_bayMap (s : State) (pb : Nat) (f : Bay → Bay) : (bayMod s pb f).bayMap = s.bayMap := rfl
@[simp] theorem bayMod_jointers (s : State) (pb : Nat) (f : Bay → Bay) : (bayMod s pb f).jointers = s.jointers := rfl
@[simp] theorem bayMod_jmap (s : State) (pb : Nat) (f : Bay → Bay) : (bayMod s pb f).jmap = s.jmap := rfl
@[simp] theorem bayMod_cmd (s : State) (pb : Nat) (f : Bay → Bay) : (bayMod s pb f).cmd = s.cmd := rfl
@[simp] theorem bayMod_pegs (s : State) (pb : Nat) (f : Bay → Bay) : (bayMod s pb f).pegs = s.pegs := rfl
@[simp] theorem bayMod_part (s : State) (pb : Nat) (f : Bay → Bay) : (bayMod s pb f).part = s.part := rfl
@[simp] theorem bayMod_tb (s : State) (pb : Nat) (f : Bay → Bay) : (bayMod s pb f).tb = s.tb := rfl
@[simp] theorem bayMod_safety (s : State) (pb : Nat) (f : Bay → Bay) : (bayMod s pb f).safety = s.safety := rfl
@[simp] theorem bayMod_boot (s : State) (pb : Nat) (f : Bay → Bay) : (bayMod s pb f).boot = s.boot := rfl
@[simp] theorem bayMod_repair (s : State) (pb : Nat) (f : Bay → Bay) : (bayMod s pb f).repair = s.repair := rfl
@[simp] theorem bayMod_fc (s : State) (pb : Nat) (f : Bay → Bay) : (bayMod s pb f).fc = s.fc := rfl
@[simp] theorem bayMod_intake (s : State) (pb : Nat) (f : Bay → Bay) : (bayMod s pb f).intake = s.intake := rfl
@[simp] theorem bayMod_gfx (s : State) (pb : Nat) (f : Bay → Bay) : (bayMod s pb f).gfx = s.gfx := rfl
@[simp] theorem bayMod_disp (s : State) (pb : Nat) (f : Bay → Bay) : (bayMod s pb f).disp = s.disp := rfl
@[simp] theorem bayMod_gw (s : State) (pb : Nat) (f : Bay → Bay) : (bayMod s pb f).gw = s.gw := rfl
@[simp] theorem bayMod_sealU (s : State) (pb : Nat) (f : Bay → Bay) : (bayMod s pb f).sealU = s.sealU := rfl
@[simp] theorem bayMod_twin (s : State) (pb : Nat) (f : Bay → Bay) : (bayMod s pb f).twin = s.twin := rfl
@[simp] theorem bayMod_imsic (s : State) (pb : Nat) (f : Bay → Bay) : (bayMod s pb f).imsic = s.imsic := rfl
@[simp] theorem bayMod_aplic (s : State) (pb : Nat) (f : Bay → Bay) : (bayMod s pb f).aplic = s.aplic := rfl
@[simp] theorem bayMod_plumbRom (s : State) (pb : Nat) (f : Bay → Bay) : (bayMod s pb f).plumbRom = s.plumbRom := rfl
@[simp] theorem bayMod_golden (s : State) (pb : Nat) (f : Bay → Bay) : (bayMod s pb f).golden = s.golden := rfl
@[simp] theorem bayMod_reply (s : State) (pb : Nat) (f : Bay → Bay) : (bayMod s pb f).reply = s.reply := rfl
@[simp] theorem bayMod_freeCtr (s : State) (pb : Nat) (f : Bay → Bay) : (bayMod s pb f).freeCtr = s.freeCtr := rfl
@[simp] theorem bayMod_pending (s : State) (pb : Nat) (f : Bay → Bay) : (bayMod s pb f).pending = s.pending := rfl

@[simp] theorem handMod_regs (s : State) (h : Hand) (f : HandCtx → HandCtx) : (handMod s h f).regs = s.regs := rfl
@[simp] theorem handMod_staging (s : State) (h : Hand) (f : HandCtx → HandCtx) : (handMod s h f).staging = s.staging := rfl
@[simp] theorem handMod_latches (s : State) (h : Hand) (f : HandCtx → HandCtx) : (handMod s h f).latches = s.latches := rfl
@[simp] theorem handMod_mem (s : State) (h : Hand) (f : HandCtx → HandCtx) : (handMod s h f).mem = s.mem := rfl
@[simp] theorem handMod_waitWrites (s : State) (h : Hand) (f : HandCtx → HandCtx) : (handMod s h f).waitWrites = s.waitWrites := rfl
@[simp] theorem handMod_bayMap (s : State) (h : Hand) (f : HandCtx → HandCtx) : (handMod s h f).bayMap = s.bayMap := rfl
@[simp] theorem handMod_jointers (s : State) (h : Hand) (f : HandCtx → HandCtx) : (handMod s h f).jointers = s.jointers := rfl
@[simp] theorem handMod_jmap (s : State) (h : Hand) (f : HandCtx → HandCtx) : (handMod s h f).jmap = s.jmap := rfl
@[simp] theorem handMod_cmd (s : State) (h : Hand) (f : HandCtx → HandCtx) : (handMod s h f).cmd = s.cmd := rfl
@[simp] theorem handMod_pegs (s : State) (h : Hand) (f : HandCtx → HandCtx) : (handMod s h f).pegs = s.pegs := rfl
@[simp] theorem handMod_part (s : State) (h : Hand) (f : HandCtx → HandCtx) : (handMod s h f).part = s.part := rfl
@[simp] theorem handMod_tb (s : State) (h : Hand) (f : HandCtx → HandCtx) : (handMod s h f).tb = s.tb := rfl
@[simp] theorem handMod_safety (s : State) (h : Hand) (f : HandCtx → HandCtx) : (handMod s h f).safety = s.safety := rfl
@[simp] theorem handMod_boot (s : State) (h : Hand) (f : HandCtx → HandCtx) : (handMod s h f).boot = s.boot := rfl
@[simp] theorem handMod_repair (s : State) (h : Hand) (f : HandCtx → HandCtx) : (handMod s h f).repair = s.repair := rfl
@[simp] theorem handMod_fc (s : State) (h : Hand) (f : HandCtx → HandCtx) : (handMod s h f).fc = s.fc := rfl
@[simp] theorem handMod_intake (s : State) (h : Hand) (f : HandCtx → HandCtx) : (handMod s h f).intake = s.intake := rfl
@[simp] theorem handMod_gfx (s : State) (h : Hand) (f : HandCtx → HandCtx) : (handMod s h f).gfx = s.gfx := rfl
@[simp] theorem handMod_disp (s : State) (h : Hand) (f : HandCtx → HandCtx) : (handMod s h f).disp = s.disp := rfl
@[simp] theorem handMod_gw (s : State) (h : Hand) (f : HandCtx → HandCtx) : (handMod s h f).gw = s.gw := rfl
@[simp] theorem handMod_sealU (s : State) (h : Hand) (f : HandCtx → HandCtx) : (handMod s h f).sealU = s.sealU := rfl
@[simp] theorem handMod_twin (s : State) (h : Hand) (f : HandCtx → HandCtx) : (handMod s h f).twin = s.twin := rfl
@[simp] theorem handMod_imsic (s : State) (h : Hand) (f : HandCtx → HandCtx) : (handMod s h f).imsic = s.imsic := rfl
@[simp] theorem handMod_aplic (s : State) (h : Hand) (f : HandCtx → HandCtx) : (handMod s h f).aplic = s.aplic := rfl
@[simp] theorem handMod_plumbRom (s : State) (h : Hand) (f : HandCtx → HandCtx) : (handMod s h f).plumbRom = s.plumbRom := rfl
@[simp] theorem handMod_golden (s : State) (h : Hand) (f : HandCtx → HandCtx) : (handMod s h f).golden = s.golden := rfl
@[simp] theorem handMod_reply (s : State) (h : Hand) (f : HandCtx → HandCtx) : (handMod s h f).reply = s.reply := rfl
@[simp] theorem handMod_freeCtr (s : State) (h : Hand) (f : HandCtx → HandCtx) : (handMod s h f).freeCtr = s.freeCtr := rfl
@[simp] theorem handMod_pending (s : State) (h : Hand) (f : HandCtx → HandCtx) : (handMod s h f).pending = s.pending := rfl

@[simp] theorem memPutByte_regs (s : State) (a : Addr) (b : Byte) : (memPutByte s a b).regs = s.regs := rfl
@[simp] theorem memPutByte_staging (s : State) (a : Addr) (b : Byte) : (memPutByte s a b).staging = s.staging := rfl
@[simp] theorem memPutByte_latches (s : State) (a : Addr) (b : Byte) : (memPutByte s a b).latches = s.latches := rfl
@[simp] theorem memPutByte_bays (s : State) (a : Addr) (b : Byte) : (memPutByte s a b).bays = s.bays := rfl
@[simp] theorem memPutByte_waitWrites (s : State) (a : Addr) (b : Byte) : (memPutByte s a b).waitWrites = s.waitWrites := rfl
@[simp] theorem memPutByte_bayMap (s : State) (a : Addr) (b : Byte) : (memPutByte s a b).bayMap = s.bayMap := rfl
@[simp] theorem memPutByte_jointers (s : State) (a : Addr) (b : Byte) : (memPutByte s a b).jointers = s.jointers := rfl
@[simp] theorem memPutByte_jmap (s : State) (a : Addr) (b : Byte) : (memPutByte s a b).jmap = s.jmap := rfl
@[simp] theorem memPutByte_cmd (s : State) (a : Addr) (b : Byte) : (memPutByte s a b).cmd = s.cmd := rfl
@[simp] theorem memPutByte_pegs (s : State) (a : Addr) (b : Byte) : (memPutByte s a b).pegs = s.pegs := rfl
@[simp] theorem memPutByte_part (s : State) (a : Addr) (b : Byte) : (memPutByte s a b).part = s.part := rfl
@[simp] theorem memPutByte_tb (s : State) (a : Addr) (b : Byte) : (memPutByte s a b).tb = s.tb := rfl
@[simp] theorem memPutByte_safety (s : State) (a : Addr) (b : Byte) : (memPutByte s a b).safety = s.safety := rfl
@[simp] theorem memPutByte_boot (s : State) (a : Addr) (b : Byte) : (memPutByte s a b).boot = s.boot := rfl
@[simp] theorem memPutByte_repair (s : State) (a : Addr) (b : Byte) : (memPutByte s a b).repair = s.repair := rfl
@[simp] theorem memPutByte_fc (s : State) (a : Addr) (b : Byte) : (memPutByte s a b).fc = s.fc := rfl
@[simp] theorem memPutByte_intake (s : State) (a : Addr) (b : Byte) : (memPutByte s a b).intake = s.intake := rfl
@[simp] theorem memPutByte_gfx (s : State) (a : Addr) (b : Byte) : (memPutByte s a b).gfx = s.gfx := rfl
@[simp] theorem memPutByte_disp (s : State) (a : Addr) (b : Byte) : (memPutByte s a b).disp = s.disp := rfl
@[simp] theorem memPutByte_gw (s : State) (a : Addr) (b : Byte) : (memPutByte s a b).gw = s.gw := rfl
@[simp] theorem memPutByte_sealU (s : State) (a : Addr) (b : Byte) : (memPutByte s a b).sealU = s.sealU := rfl
@[simp] theorem memPutByte_twin (s : State) (a : Addr) (b : Byte) : (memPutByte s a b).twin = s.twin := rfl
@[simp] theorem memPutByte_imsic (s : State) (a : Addr) (b : Byte) : (memPutByte s a b).imsic = s.imsic := rfl
@[simp] theorem memPutByte_aplic (s : State) (a : Addr) (b : Byte) : (memPutByte s a b).aplic = s.aplic := rfl
@[simp] theorem memPutByte_plumbRom (s : State) (a : Addr) (b : Byte) : (memPutByte s a b).plumbRom = s.plumbRom := rfl
@[simp] theorem memPutByte_golden (s : State) (a : Addr) (b : Byte) : (memPutByte s a b).golden = s.golden := rfl
@[simp] theorem memPutByte_reply (s : State) (a : Addr) (b : Byte) : (memPutByte s a b).reply = s.reply := rfl
@[simp] theorem memPutByte_freeCtr (s : State) (a : Addr) (b : Byte) : (memPutByte s a b).freeCtr = s.freeCtr := rfl
@[simp] theorem memPutByte_pending (s : State) (a : Addr) (b : Byte) : (memPutByte s a b).pending = s.pending := rfl

@[simp] theorem memWrite_regs (s : State) (a : Addr) (l : List Byte) : (memWrite s a l).regs = s.regs := rfl
@[simp] theorem memWrite_staging (s : State) (a : Addr) (l : List Byte) : (memWrite s a l).staging = s.staging := rfl
@[simp] theorem memWrite_latches (s : State) (a : Addr) (l : List Byte) : (memWrite s a l).latches = s.latches := rfl
@[simp] theorem memWrite_bays (s : State) (a : Addr) (l : List Byte) : (memWrite s a l).bays = s.bays := rfl
@[simp] theorem memWrite_waitWrites (s : State) (a : Addr) (l : List Byte) : (memWrite s a l).waitWrites = s.waitWrites := rfl
@[simp] theorem memWrite_bayMap (s : State) (a : Addr) (l : List Byte) : (memWrite s a l).bayMap = s.bayMap := rfl
@[simp] theorem memWrite_jointers (s : State) (a : Addr) (l : List Byte) : (memWrite s a l).jointers = s.jointers := rfl
@[simp] theorem memWrite_jmap (s : State) (a : Addr) (l : List Byte) : (memWrite s a l).jmap = s.jmap := rfl
@[simp] theorem memWrite_cmd (s : State) (a : Addr) (l : List Byte) : (memWrite s a l).cmd = s.cmd := rfl
@[simp] theorem memWrite_pegs (s : State) (a : Addr) (l : List Byte) : (memWrite s a l).pegs = s.pegs := rfl
@[simp] theorem memWrite_part (s : State) (a : Addr) (l : List Byte) : (memWrite s a l).part = s.part := rfl
@[simp] theorem memWrite_tb (s : State) (a : Addr) (l : List Byte) : (memWrite s a l).tb = s.tb := rfl
@[simp] theorem memWrite_safety (s : State) (a : Addr) (l : List Byte) : (memWrite s a l).safety = s.safety := rfl
@[simp] theorem memWrite_boot (s : State) (a : Addr) (l : List Byte) : (memWrite s a l).boot = s.boot := rfl
@[simp] theorem memWrite_repair (s : State) (a : Addr) (l : List Byte) : (memWrite s a l).repair = s.repair := rfl
@[simp] theorem memWrite_fc (s : State) (a : Addr) (l : List Byte) : (memWrite s a l).fc = s.fc := rfl
@[simp] theorem memWrite_intake (s : State) (a : Addr) (l : List Byte) : (memWrite s a l).intake = s.intake := rfl
@[simp] theorem memWrite_gfx (s : State) (a : Addr) (l : List Byte) : (memWrite s a l).gfx = s.gfx := rfl
@[simp] theorem memWrite_disp (s : State) (a : Addr) (l : List Byte) : (memWrite s a l).disp = s.disp := rfl
@[simp] theorem memWrite_gw (s : State) (a : Addr) (l : List Byte) : (memWrite s a l).gw = s.gw := rfl
@[simp] theorem memWrite_sealU (s : State) (a : Addr) (l : List Byte) : (memWrite s a l).sealU = s.sealU := rfl
@[simp] theorem memWrite_twin (s : State) (a : Addr) (l : List Byte) : (memWrite s a l).twin = s.twin := rfl
@[simp] theorem memWrite_imsic (s : State) (a : Addr) (l : List Byte) : (memWrite s a l).imsic = s.imsic := rfl
@[simp] theorem memWrite_aplic (s : State) (a : Addr) (l : List Byte) : (memWrite s a l).aplic = s.aplic := rfl
@[simp] theorem memWrite_plumbRom (s : State) (a : Addr) (l : List Byte) : (memWrite s a l).plumbRom = s.plumbRom := rfl
@[simp] theorem memWrite_golden (s : State) (a : Addr) (l : List Byte) : (memWrite s a l).golden = s.golden := rfl
@[simp] theorem memWrite_reply (s : State) (a : Addr) (l : List Byte) : (memWrite s a l).reply = s.reply := rfl
@[simp] theorem memWrite_freeCtr (s : State) (a : Addr) (l : List Byte) : (memWrite s a l).freeCtr = s.freeCtr := rfl
@[simp] theorem memWrite_pending (s : State) (a : Addr) (l : List Byte) : (memWrite s a l).pending = s.pending := rfl

@[simp] theorem dowelPut_regs (s : State) (slot : Nat) (d : Dowel) : (dowelPut s slot d).regs = s.regs := rfl
@[simp] theorem dowelPut_staging (s : State) (slot : Nat) (d : Dowel) : (dowelPut s slot d).staging = s.staging := rfl
@[simp] theorem dowelPut_latches (s : State) (slot : Nat) (d : Dowel) : (dowelPut s slot d).latches = s.latches := rfl
@[simp] theorem dowelPut_mem (s : State) (slot : Nat) (d : Dowel) : (dowelPut s slot d).mem = s.mem := rfl
@[simp] theorem dowelPut_bays (s : State) (slot : Nat) (d : Dowel) : (dowelPut s slot d).bays = s.bays := rfl
@[simp] theorem dowelPut_waitWrites (s : State) (slot : Nat) (d : Dowel) : (dowelPut s slot d).waitWrites = s.waitWrites := rfl
@[simp] theorem dowelPut_bayMap (s : State) (slot : Nat) (d : Dowel) : (dowelPut s slot d).bayMap = s.bayMap := rfl
@[simp] theorem dowelPut_jointers (s : State) (slot : Nat) (d : Dowel) : (dowelPut s slot d).jointers = s.jointers := rfl
@[simp] theorem dowelPut_jmap (s : State) (slot : Nat) (d : Dowel) : (dowelPut s slot d).jmap = s.jmap := rfl
@[simp] theorem dowelPut_pegs (s : State) (slot : Nat) (d : Dowel) : (dowelPut s slot d).pegs = s.pegs := rfl
@[simp] theorem dowelPut_part (s : State) (slot : Nat) (d : Dowel) : (dowelPut s slot d).part = s.part := rfl
@[simp] theorem dowelPut_tb (s : State) (slot : Nat) (d : Dowel) : (dowelPut s slot d).tb = s.tb := rfl
@[simp] theorem dowelPut_safety (s : State) (slot : Nat) (d : Dowel) : (dowelPut s slot d).safety = s.safety := rfl
@[simp] theorem dowelPut_boot (s : State) (slot : Nat) (d : Dowel) : (dowelPut s slot d).boot = s.boot := rfl
@[simp] theorem dowelPut_repair (s : State) (slot : Nat) (d : Dowel) : (dowelPut s slot d).repair = s.repair := rfl
@[simp] theorem dowelPut_fc (s : State) (slot : Nat) (d : Dowel) : (dowelPut s slot d).fc = s.fc := rfl
@[simp] theorem dowelPut_intake (s : State) (slot : Nat) (d : Dowel) : (dowelPut s slot d).intake = s.intake := rfl
@[simp] theorem dowelPut_gfx (s : State) (slot : Nat) (d : Dowel) : (dowelPut s slot d).gfx = s.gfx := rfl
@[simp] theorem dowelPut_disp (s : State) (slot : Nat) (d : Dowel) : (dowelPut s slot d).disp = s.disp := rfl
@[simp] theorem dowelPut_gw (s : State) (slot : Nat) (d : Dowel) : (dowelPut s slot d).gw = s.gw := rfl
@[simp] theorem dowelPut_sealU (s : State) (slot : Nat) (d : Dowel) : (dowelPut s slot d).sealU = s.sealU := rfl
@[simp] theorem dowelPut_twin (s : State) (slot : Nat) (d : Dowel) : (dowelPut s slot d).twin = s.twin := rfl
@[simp] theorem dowelPut_imsic (s : State) (slot : Nat) (d : Dowel) : (dowelPut s slot d).imsic = s.imsic := rfl
@[simp] theorem dowelPut_aplic (s : State) (slot : Nat) (d : Dowel) : (dowelPut s slot d).aplic = s.aplic := rfl
@[simp] theorem dowelPut_plumbRom (s : State) (slot : Nat) (d : Dowel) : (dowelPut s slot d).plumbRom = s.plumbRom := rfl
@[simp] theorem dowelPut_golden (s : State) (slot : Nat) (d : Dowel) : (dowelPut s slot d).golden = s.golden := rfl
@[simp] theorem dowelPut_reply (s : State) (slot : Nat) (d : Dowel) : (dowelPut s slot d).reply = s.reply := rfl
@[simp] theorem dowelPut_freeCtr (s : State) (slot : Nat) (d : Dowel) : (dowelPut s slot d).freeCtr = s.freeCtr := rfl
@[simp] theorem dowelPut_pending (s : State) (slot : Nat) (d : Dowel) : (dowelPut s slot d).pending = s.pending := rfl

@[simp] theorem dowelMod_regs (s : State) (slot : Nat) (f : Dowel → Dowel) : (dowelMod s slot f).regs = s.regs := rfl
@[simp] theorem dowelMod_staging (s : State) (slot : Nat) (f : Dowel → Dowel) : (dowelMod s slot f).staging = s.staging := rfl
@[simp] theorem dowelMod_latches (s : State) (slot : Nat) (f : Dowel → Dowel) : (dowelMod s slot f).latches = s.latches := rfl
@[simp] theorem dowelMod_mem (s : State) (slot : Nat) (f : Dowel → Dowel) : (dowelMod s slot f).mem = s.mem := rfl
@[simp] theorem dowelMod_bays (s : State) (slot : Nat) (f : Dowel → Dowel) : (dowelMod s slot f).bays = s.bays := rfl
@[simp] theorem dowelMod_waitWrites (s : State) (slot : Nat) (f : Dowel → Dowel) : (dowelMod s slot f).waitWrites = s.waitWrites := rfl
@[simp] theorem dowelMod_bayMap (s : State) (slot : Nat) (f : Dowel → Dowel) : (dowelMod s slot f).bayMap = s.bayMap := rfl
@[simp] theorem dowelMod_jointers (s : State) (slot : Nat) (f : Dowel → Dowel) : (dowelMod s slot f).jointers = s.jointers := rfl
@[simp] theorem dowelMod_jmap (s : State) (slot : Nat) (f : Dowel → Dowel) : (dowelMod s slot f).jmap = s.jmap := rfl
@[simp] theorem dowelMod_pegs (s : State) (slot : Nat) (f : Dowel → Dowel) : (dowelMod s slot f).pegs = s.pegs := rfl
@[simp] theorem dowelMod_part (s : State) (slot : Nat) (f : Dowel → Dowel) : (dowelMod s slot f).part = s.part := rfl
@[simp] theorem dowelMod_tb (s : State) (slot : Nat) (f : Dowel → Dowel) : (dowelMod s slot f).tb = s.tb := rfl
@[simp] theorem dowelMod_safety (s : State) (slot : Nat) (f : Dowel → Dowel) : (dowelMod s slot f).safety = s.safety := rfl
@[simp] theorem dowelMod_boot (s : State) (slot : Nat) (f : Dowel → Dowel) : (dowelMod s slot f).boot = s.boot := rfl
@[simp] theorem dowelMod_repair (s : State) (slot : Nat) (f : Dowel → Dowel) : (dowelMod s slot f).repair = s.repair := rfl
@[simp] theorem dowelMod_fc (s : State) (slot : Nat) (f : Dowel → Dowel) : (dowelMod s slot f).fc = s.fc := rfl
@[simp] theorem dowelMod_intake (s : State) (slot : Nat) (f : Dowel → Dowel) : (dowelMod s slot f).intake = s.intake := rfl
@[simp] theorem dowelMod_gfx (s : State) (slot : Nat) (f : Dowel → Dowel) : (dowelMod s slot f).gfx = s.gfx := rfl
@[simp] theorem dowelMod_disp (s : State) (slot : Nat) (f : Dowel → Dowel) : (dowelMod s slot f).disp = s.disp := rfl
@[simp] theorem dowelMod_gw (s : State) (slot : Nat) (f : Dowel → Dowel) : (dowelMod s slot f).gw = s.gw := rfl
@[simp] theorem dowelMod_sealU (s : State) (slot : Nat) (f : Dowel → Dowel) : (dowelMod s slot f).sealU = s.sealU := rfl
@[simp] theorem dowelMod_twin (s : State) (slot : Nat) (f : Dowel → Dowel) : (dowelMod s slot f).twin = s.twin := rfl
@[simp] theorem dowelMod_imsic (s : State) (slot : Nat) (f : Dowel → Dowel) : (dowelMod s slot f).imsic = s.imsic := rfl
@[simp] theorem dowelMod_aplic (s : State) (slot : Nat) (f : Dowel → Dowel) : (dowelMod s slot f).aplic = s.aplic := rfl
@[simp] theorem dowelMod_plumbRom (s : State) (slot : Nat) (f : Dowel → Dowel) : (dowelMod s slot f).plumbRom = s.plumbRom := rfl
@[simp] theorem dowelMod_golden (s : State) (slot : Nat) (f : Dowel → Dowel) : (dowelMod s slot f).golden = s.golden := rfl
@[simp] theorem dowelMod_reply (s : State) (slot : Nat) (f : Dowel → Dowel) : (dowelMod s slot f).reply = s.reply := rfl
@[simp] theorem dowelMod_freeCtr (s : State) (slot : Nat) (f : Dowel → Dowel) : (dowelMod s slot f).freeCtr = s.freeCtr := rfl
@[simp] theorem dowelMod_pending (s : State) (slot : Nat) (f : Dowel → Dowel) : (dowelMod s slot f).pending = s.pending := rfl

@[simp] theorem pegPut_regs (s : State) (n : Nat) (p : Peg) : (pegPut s n p).regs = s.regs := rfl
@[simp] theorem pegPut_staging (s : State) (n : Nat) (p : Peg) : (pegPut s n p).staging = s.staging := rfl
@[simp] theorem pegPut_latches (s : State) (n : Nat) (p : Peg) : (pegPut s n p).latches = s.latches := rfl
@[simp] theorem pegPut_mem (s : State) (n : Nat) (p : Peg) : (pegPut s n p).mem = s.mem := rfl
@[simp] theorem pegPut_bays (s : State) (n : Nat) (p : Peg) : (pegPut s n p).bays = s.bays := rfl
@[simp] theorem pegPut_waitWrites (s : State) (n : Nat) (p : Peg) : (pegPut s n p).waitWrites = s.waitWrites := rfl
@[simp] theorem pegPut_bayMap (s : State) (n : Nat) (p : Peg) : (pegPut s n p).bayMap = s.bayMap := rfl
@[simp] theorem pegPut_jointers (s : State) (n : Nat) (p : Peg) : (pegPut s n p).jointers = s.jointers := rfl
@[simp] theorem pegPut_jmap (s : State) (n : Nat) (p : Peg) : (pegPut s n p).jmap = s.jmap := rfl
@[simp] theorem pegPut_cmd (s : State) (n : Nat) (p : Peg) : (pegPut s n p).cmd = s.cmd := rfl
@[simp] theorem pegPut_part (s : State) (n : Nat) (p : Peg) : (pegPut s n p).part = s.part := rfl
@[simp] theorem pegPut_tb (s : State) (n : Nat) (p : Peg) : (pegPut s n p).tb = s.tb := rfl
@[simp] theorem pegPut_safety (s : State) (n : Nat) (p : Peg) : (pegPut s n p).safety = s.safety := rfl
@[simp] theorem pegPut_boot (s : State) (n : Nat) (p : Peg) : (pegPut s n p).boot = s.boot := rfl
@[simp] theorem pegPut_repair (s : State) (n : Nat) (p : Peg) : (pegPut s n p).repair = s.repair := rfl
@[simp] theorem pegPut_fc (s : State) (n : Nat) (p : Peg) : (pegPut s n p).fc = s.fc := rfl
@[simp] theorem pegPut_intake (s : State) (n : Nat) (p : Peg) : (pegPut s n p).intake = s.intake := rfl
@[simp] theorem pegPut_gfx (s : State) (n : Nat) (p : Peg) : (pegPut s n p).gfx = s.gfx := rfl
@[simp] theorem pegPut_disp (s : State) (n : Nat) (p : Peg) : (pegPut s n p).disp = s.disp := rfl
@[simp] theorem pegPut_gw (s : State) (n : Nat) (p : Peg) : (pegPut s n p).gw = s.gw := rfl
@[simp] theorem pegPut_sealU (s : State) (n : Nat) (p : Peg) : (pegPut s n p).sealU = s.sealU := rfl
@[simp] theorem pegPut_twin (s : State) (n : Nat) (p : Peg) : (pegPut s n p).twin = s.twin := rfl
@[simp] theorem pegPut_imsic (s : State) (n : Nat) (p : Peg) : (pegPut s n p).imsic = s.imsic := rfl
@[simp] theorem pegPut_aplic (s : State) (n : Nat) (p : Peg) : (pegPut s n p).aplic = s.aplic := rfl
@[simp] theorem pegPut_plumbRom (s : State) (n : Nat) (p : Peg) : (pegPut s n p).plumbRom = s.plumbRom := rfl
@[simp] theorem pegPut_golden (s : State) (n : Nat) (p : Peg) : (pegPut s n p).golden = s.golden := rfl
@[simp] theorem pegPut_reply (s : State) (n : Nat) (p : Peg) : (pegPut s n p).reply = s.reply := rfl
@[simp] theorem pegPut_freeCtr (s : State) (n : Nat) (p : Peg) : (pegPut s n p).freeCtr = s.freeCtr := rfl
@[simp] theorem pegPut_pending (s : State) (n : Nat) (p : Peg) : (pegPut s n p).pending = s.pending := rfl

@[simp] theorem updPut_regs (s : State) (r : Nat) (u : Upd) : (updPut s r u).regs = s.regs := rfl
@[simp] theorem updPut_staging (s : State) (r : Nat) (u : Upd) : (updPut s r u).staging = s.staging := rfl
@[simp] theorem updPut_latches (s : State) (r : Nat) (u : Upd) : (updPut s r u).latches = s.latches := rfl
@[simp] theorem updPut_mem (s : State) (r : Nat) (u : Upd) : (updPut s r u).mem = s.mem := rfl
@[simp] theorem updPut_bays (s : State) (r : Nat) (u : Upd) : (updPut s r u).bays = s.bays := rfl
@[simp] theorem updPut_waitWrites (s : State) (r : Nat) (u : Upd) : (updPut s r u).waitWrites = s.waitWrites := rfl
@[simp] theorem updPut_bayMap (s : State) (r : Nat) (u : Upd) : (updPut s r u).bayMap = s.bayMap := rfl
@[simp] theorem updPut_jointers (s : State) (r : Nat) (u : Upd) : (updPut s r u).jointers = s.jointers := rfl
@[simp] theorem updPut_jmap (s : State) (r : Nat) (u : Upd) : (updPut s r u).jmap = s.jmap := rfl
@[simp] theorem updPut_pegs (s : State) (r : Nat) (u : Upd) : (updPut s r u).pegs = s.pegs := rfl
@[simp] theorem updPut_part (s : State) (r : Nat) (u : Upd) : (updPut s r u).part = s.part := rfl
@[simp] theorem updPut_tb (s : State) (r : Nat) (u : Upd) : (updPut s r u).tb = s.tb := rfl
@[simp] theorem updPut_safety (s : State) (r : Nat) (u : Upd) : (updPut s r u).safety = s.safety := rfl
@[simp] theorem updPut_boot (s : State) (r : Nat) (u : Upd) : (updPut s r u).boot = s.boot := rfl
@[simp] theorem updPut_repair (s : State) (r : Nat) (u : Upd) : (updPut s r u).repair = s.repair := rfl
@[simp] theorem updPut_fc (s : State) (r : Nat) (u : Upd) : (updPut s r u).fc = s.fc := rfl
@[simp] theorem updPut_intake (s : State) (r : Nat) (u : Upd) : (updPut s r u).intake = s.intake := rfl
@[simp] theorem updPut_gfx (s : State) (r : Nat) (u : Upd) : (updPut s r u).gfx = s.gfx := rfl
@[simp] theorem updPut_disp (s : State) (r : Nat) (u : Upd) : (updPut s r u).disp = s.disp := rfl
@[simp] theorem updPut_gw (s : State) (r : Nat) (u : Upd) : (updPut s r u).gw = s.gw := rfl
@[simp] theorem updPut_sealU (s : State) (r : Nat) (u : Upd) : (updPut s r u).sealU = s.sealU := rfl
@[simp] theorem updPut_twin (s : State) (r : Nat) (u : Upd) : (updPut s r u).twin = s.twin := rfl
@[simp] theorem updPut_imsic (s : State) (r : Nat) (u : Upd) : (updPut s r u).imsic = s.imsic := rfl
@[simp] theorem updPut_aplic (s : State) (r : Nat) (u : Upd) : (updPut s r u).aplic = s.aplic := rfl
@[simp] theorem updPut_plumbRom (s : State) (r : Nat) (u : Upd) : (updPut s r u).plumbRom = s.plumbRom := rfl
@[simp] theorem updPut_golden (s : State) (r : Nat) (u : Upd) : (updPut s r u).golden = s.golden := rfl
@[simp] theorem updPut_reply (s : State) (r : Nat) (u : Upd) : (updPut s r u).reply = s.reply := rfl
@[simp] theorem updPut_freeCtr (s : State) (r : Nat) (u : Upd) : (updPut s r u).freeCtr = s.freeCtr := rfl
@[simp] theorem updPut_pending (s : State) (r : Nat) (u : Upd) : (updPut s r u).pending = s.pending := rfl

@[simp] theorem replyWith_regs (v : Option Word64) (s : State) : (replyWith v s).regs = s.regs := rfl
@[simp] theorem replyWith_staging (v : Option Word64) (s : State) : (replyWith v s).staging = s.staging := rfl
@[simp] theorem replyWith_latches (v : Option Word64) (s : State) : (replyWith v s).latches = s.latches := rfl
@[simp] theorem replyWith_mem (v : Option Word64) (s : State) : (replyWith v s).mem = s.mem := rfl
@[simp] theorem replyWith_bays (v : Option Word64) (s : State) : (replyWith v s).bays = s.bays := rfl
@[simp] theorem replyWith_waitWrites (v : Option Word64) (s : State) : (replyWith v s).waitWrites = s.waitWrites := rfl
@[simp] theorem replyWith_bayMap (v : Option Word64) (s : State) : (replyWith v s).bayMap = s.bayMap := rfl
@[simp] theorem replyWith_jointers (v : Option Word64) (s : State) : (replyWith v s).jointers = s.jointers := rfl
@[simp] theorem replyWith_jmap (v : Option Word64) (s : State) : (replyWith v s).jmap = s.jmap := rfl
@[simp] theorem replyWith_cmd (v : Option Word64) (s : State) : (replyWith v s).cmd = s.cmd := rfl
@[simp] theorem replyWith_pegs (v : Option Word64) (s : State) : (replyWith v s).pegs = s.pegs := rfl
@[simp] theorem replyWith_part (v : Option Word64) (s : State) : (replyWith v s).part = s.part := rfl
@[simp] theorem replyWith_tb (v : Option Word64) (s : State) : (replyWith v s).tb = s.tb := rfl
@[simp] theorem replyWith_safety (v : Option Word64) (s : State) : (replyWith v s).safety = s.safety := rfl
@[simp] theorem replyWith_boot (v : Option Word64) (s : State) : (replyWith v s).boot = s.boot := rfl
@[simp] theorem replyWith_repair (v : Option Word64) (s : State) : (replyWith v s).repair = s.repair := rfl
@[simp] theorem replyWith_fc (v : Option Word64) (s : State) : (replyWith v s).fc = s.fc := rfl
@[simp] theorem replyWith_intake (v : Option Word64) (s : State) : (replyWith v s).intake = s.intake := rfl
@[simp] theorem replyWith_gfx (v : Option Word64) (s : State) : (replyWith v s).gfx = s.gfx := rfl
@[simp] theorem replyWith_disp (v : Option Word64) (s : State) : (replyWith v s).disp = s.disp := rfl
@[simp] theorem replyWith_gw (v : Option Word64) (s : State) : (replyWith v s).gw = s.gw := rfl
@[simp] theorem replyWith_sealU (v : Option Word64) (s : State) : (replyWith v s).sealU = s.sealU := rfl
@[simp] theorem replyWith_twin (v : Option Word64) (s : State) : (replyWith v s).twin = s.twin := rfl
@[simp] theorem replyWith_imsic (v : Option Word64) (s : State) : (replyWith v s).imsic = s.imsic := rfl
@[simp] theorem replyWith_aplic (v : Option Word64) (s : State) : (replyWith v s).aplic = s.aplic := rfl
@[simp] theorem replyWith_plumbRom (v : Option Word64) (s : State) : (replyWith v s).plumbRom = s.plumbRom := rfl
@[simp] theorem replyWith_golden (v : Option Word64) (s : State) : (replyWith v s).golden = s.golden := rfl
@[simp] theorem replyWith_freeCtr (v : Option Word64) (s : State) : (replyWith v s).freeCtr = s.freeCtr := rfl
@[simp] theorem replyWith_pending (v : Option Word64) (s : State) : (replyWith v s).pending = s.pending := rfl

/-! What is read after an update. -/

@[simp] theorem regGet_regPut (s : State) (a b : Addr) (v : Word32) : regGet (regPut s a v) b = if b = a then v else regGet s b := by
  unfold regGet regPut
  by_cases h : b = a
  · subst h
    simp
  · simp only [tabPut]
    split
    · simp [tabGet_erase, h]
    · simp [tabGet_insert, h]

@[simp] theorem regGet_bayPut (s : State) (pb : Nat) (b : Bay) (a : Addr) : regGet (bayPut s pb b) a = regGet s a := rfl
@[simp] theorem regGet_dowelPut (s : State) (k : Nat) (d : Dowel) (a : Addr) : regGet (dowelPut s k d) a = regGet s a := rfl
@[simp] theorem regGet_pegPut (s : State) (n : Nat) (p : Peg) (a : Addr) : regGet (pegPut s n p) a = regGet s a := rfl

@[simp] theorem bayGet_bayPut (s : State) (pb q : Nat) (b : Bay) : bayGet (bayPut s pb b) q = if q = pb then b else bayGet s q := by
  simp [bayGet, bayPut]

@[simp] theorem bayGet_bayMod (s : State) (pb q : Nat) (f : Bay → Bay) :
    bayGet (bayMod s pb f) q = if q = pb then f (bayGet s pb) else bayGet s q := by
  simp [bayMod]

@[simp] theorem bayGet_regPut (s : State) (a : Addr) (v : Word32) (q : Nat) : bayGet (regPut s a v) q = bayGet s q := rfl
@[simp] theorem bayGet_dowelPut (s : State) (k : Nat) (d : Dowel) (q : Nat) : bayGet (dowelPut s k d) q = bayGet s q := rfl
@[simp] theorem bayGet_pegPut (s : State) (n : Nat) (p : Peg) (q : Nat) : bayGet (pegPut s n p) q = bayGet s q := rfl

@[simp] theorem handOf_setHand (b : Bay) (f g : Bool) (c : HandCtx) :
    handOf (b.setHand f c) g = if g = f then c else handOf b g := by
  cases f <;> cases g <;> rfl

@[simp] theorem handGet_handMod (s : State) (h k : Hand) (f : HandCtx → HandCtx) :
    handGet (handMod s h f) k = if k = h then f (handGet s h) else handGet s k := by
  obtain ⟨p, x⟩ := h
  obtain ⟨q, y⟩ := k
  simp only [handGet, handMod, bayGet_bayMod, Hand.mk.injEq]
  by_cases hq : q = p
  · subst hq
    simp [handOf_setHand]
  · simp [hq]

@[simp] theorem dowelGet_dowelPut (s : State) (k j : Nat) (d : Dowel) :
    dowelGet (dowelPut s k d) j = if j = k then d else dowelGet s j := by
  simp [dowelGet, dowelPut]

@[simp] theorem dowelGet_dowelMod (s : State) (k j : Nat) (f : Dowel → Dowel) :
    dowelGet (dowelMod s k f) j = if j = k then f (dowelGet s k) else dowelGet s j := by
  simp [dowelMod]

@[simp] theorem pegGet_pegPut (s : State) (n m : Nat) (p : Peg) : pegGet (pegPut s n p) m = if m = n then p else pegGet s m := by
  simp [pegGet, pegPut]

/-- A write of memory reads back, and other addresses read what they read. -/
theorem memByte_memWrite (s : State) (a : Nat) (l : List Byte) (x : Nat) :
    memByte (memWrite s a l) x = if a ≤ x ∧ x < a + l.length then l.getD (x - a) 0 else memByte s x := by
  exact tabGet_putBytes s.mem a l x

end Sys2Proof.Machine
end

