-- ==== Sys2Proof/Laws/Issue.lean ====
section
/-!
SUPPORT. Laws of issue (R205) and of the register files: what `issue` answers for an instruction that can issue, and what each
register reads after a write.
-/

namespace Sys2Proof.Machine

/-! The register files. -/

theorem getS_setS (r : HandRegs) (i j : Nat) (x : Word64) :
    (r.setS i x).getS j = if j = i then (if i = 0 then 0 else x) else r.getS j := by
  unfold HandRegs.setS HandRegs.getS
  by_cases hi : i = 0 <;> by_cases hj : j = 0 <;> by_cases hij : j = i <;> simp_all

theorem setS_rest (r : HandRegs) (i : Nat) (x : Word64) : { r.setS i x with s := r.s } = r := by
  unfold HandRegs.setS; split <;> rfl

theorem getV_setV (r : HandRegs) (i j : Nat) (x : Vec) : (r.setV i x).getV j = if j = i then x else r.getV j := by
  simp [HandRegs.setV, HandRegs.getV]

theorem getK_setK (r : HandRegs) (i j : Nat) (x : Mask) : (r.setK i x).getK j = if j = i then x else r.getK j := by
  simp [HandRegs.setK, HandRegs.getK]

theorem getD_setD (r : HandRegs) (i j : Nat) (x : Desc) : (r.setD i x).getD j = if j = i then x else r.getD j := by
  simp [HandRegs.setD, HandRegs.getD]

theorem wroteS_setS (r : HandRegs) (i : Nat) (x : Word64) : WroteS r (r.setS i x) i x where
  value := by simp [getS_setS]
  others j hj := by simp [getS_setS, hj]
  rest := setS_rest r i x

theorem wroteD_setD (r : HandRegs) (i : Nat) (x : Desc) : WroteD r (r.setD i x) i x where
  value := by simp [getD_setD]
  others j hj := by simp [getD_setD, hj]
  rest := rfl

@[simp] theorem or_none (f : FFlags) : f.or {} = f := by cases f; simp [FFlags.or]

theorem wroteK_setK (r : HandRegs) (i : Nat) (x : Mask) : WroteK r (r.setK i x) i (fun k => x.getLsbD k) {} where
  bits k _ := by simp [getK_setK]
  others j hj := by simp [getK_setK, hj]
  flags := by simp [HandRegs.setK]
  rest := rfl

/-! Lanes. -/

theorem packLanes_nfld (w : Nat) (l : List Nat) (k : Nat) (hk : k < l.length) :
    packLanes w l / 2 ^ (k * w) % 2 ^ w = l[k] % 2 ^ w := by
  induction l generalizing k with
  | nil => simp at hk
  | cons x t ih =>
    have hp : 0 < 2 ^ w := Nat.two_pow_pos w
    cases k with
    | zero => simp [packLanes]
    | succ k =>
      have hk' : k < t.length := by simpa using hk
      have h1 : (x % 2 ^ w + 2 ^ w * packLanes w t) / 2 ^ w = packLanes w t := by
        rw [Nat.add_mul_div_left _ _ hp, Nat.div_eq_of_lt (Nat.mod_lt _ hp), Nat.zero_add]
      simp only [packLanes, List.getElem_cons_succ]
      rw [← ih k hk', Nat.succ_mul, Nat.add_comm (k * w), Nat.pow_add, ← Nat.div_div_eq_div_mul, h1]

/-- A lane of a vector built from its lanes is that lane, cut to the lane width. -/
theorem lane_ofLanes (w : Nat) (l : List Nat) (k : Nat) (hk : k < l.length) (hw : w * l.length ≤ 512) :
    lane (ofLanes w l) w k = l[k] % 2 ^ w := by
  have hkw : k * w + w ≤ 512 := by
    have : (k + 1) * w ≤ l.length * w := Nat.mul_le_mul_right w hk
    nlinarith
  unfold lane ofLanes nfld
  rw [BitVec.toNat_ofNat, ← packLanes_nfld w l k hk, Nat.shiftRight_eq_div_pow]
  have e : (2 : Nat) ^ 512 = 2 ^ (k * w) * 2 ^ (512 - k * w) := by rw [← Nat.pow_add]; congr 1; omega
  rw [e, Nat.mod_mul_right_div_self]
  exact Nat.mod_mod_of_dvd _ (Nat.pow_dvd_pow 2 (by omega))

theorem width_laneCount (f : Fmt) : f.width * laneCount f.width ≤ 512 := by cases f <;> decide

theorem lane_lt (v : Vec) (w i : Nat) : lane v w i < 2 ^ w := Nat.mod_lt _ (Nat.two_pow_pos w)

theorem wroteV_setV (r : HandRegs) (i : Nat) (f : Fmt) (g : Nat → Nat) (hg : ∀ k, g k < 2 ^ f.width) :
    WroteV r (r.setV i (ofLanes f.width ((List.range (laneCount f.width)).map g))) i f.width g {} where
  lanes k hk := by
    simp only [getV_setV, if_true]
    rw [lane_ofLanes _ _ _ (by simpa using hk) (by simpa using width_laneCount f)]
    simp [Nat.mod_eq_of_lt (hg k)]
  others j hj := by simp [getV_setV, hj]
  flags := by simp [HandRegs.setV]
  rest := rfl

/-- Writing the lanes that take part leaves the result there and the old bits elsewhere (R219). -/
theorem wroteV_writeLanes (word : Word64) (f : Fmt) (g : Nat → Nat) (r : HandRegs) :
    WroteV r (writeLanes word f.width g r) (R3.rd word) f.width (laneOr word r f.width g) {} where
  lanes k hk := by
    simp only [writeLanes, getV_setV, if_true]
    rw [lane_ofLanes _ _ _ (by simpa using hk) (by simpa using width_laneCount f)]
    simp only [List.getElem_map, List.getElem_range, laneOr]
    split
    · rfl
    · exact Nat.mod_eq_of_lt (lane_lt _ _ _)
  others j hj := by simp [writeLanes, getV_setV, hj]
  flags := by simp [writeLanes, HandRegs.setV]
  rest := rfl

theorem foldl_if_filter {β : Type} (l : List Nat) (p : Nat → Bool) (f : β → Nat → β) (z : β) :
    l.foldl (fun acc i => if p i = true then f acc i else acc) z = (l.filter p).foldl f z := by
  induction l generalizing z with
  | nil => rfl
  | cons i t ih => by_cases h : p i = true <;> simp [h, ih]

/-- The same with flags: each lane that takes part raises its own (R160, R219). -/
theorem wroteV_writeFLanes (word : Word64) (f : Fmt) (g : Nat → FRes) (r : HandRegs) :
    WroteV r (writeFLanes word f.width g r) (R3.rd word) f.width (laneOr word r f.width (fun i => (g i).bits))
      (laneFlags (laneCount f.width) (active word r) (fun i => (g i).flags)) where
  lanes := (wroteV_writeLanes word f (fun i => (g i).bits) r).lanes
  others := (wroteV_writeLanes word f (fun i => (g i).bits) r).others
  flags := by
    simp only [writeFLanes, HandRegs.raise, laneFlags, foldl_if_filter]
    rfl
  rest := rfl

/-! Issue. -/

/-- An instruction that can issue has its effect. -/
theorem issue_eq {s : State} {h : Hand} {o : Op} {w : Word64} (hc : CanIssue s h o w) (eff : State → State) :
    issue o h w s eff = .next (eff s) := by
  simp [issue, hc.bay, hc.next, hc.legal]

theorem canIssue_op {s : State} {h : Hand} {o : Op} {w : Word64} (hc : CanIssue s h o w) : issuesAs w = o := by
  have := hc.next; simp [issuable] at this; exact this.2

/-- The word of an instruction that can issue has no ILLEGAL cause of its own. -/
theorem canIssue_illegalSub {s : State} {h : Hand} {o : Op} {w : Word64} (hc : CanIssue s h o w) :
    illegalSub w (decide ((handGet s h).progid = 0xFFFF)) ((handGet s h).regs.getS (SY.ra w)) = none := by
  have := hc.legal
  unfold illegalOf at this
  split at this
  · cases this
  · assumption

/-- It encodes its operation. -/
theorem canIssue_opOf {s : State} {h : Hand} {o : Op} {w : Word64} (hc : CanIssue s h o w) : opOf w = some o := by
  have h1 := canIssue_illegalSub hc
  have h2 := canIssue_op hc
  unfold illegalSub at h1
  unfold issuesAs at h2
  split at h1
  · cases h1
  · split at h1
    · cases h1
    · rename_i o' ho; rw [ho] at h2 ⊢; exact congrArg some h2

/-- It has no reserved value and no format code that it does not accept. -/
theorem canIssue_fields {s : State} {h : Hand} {o : Op} {w : Word64} (hc : CanIssue s h o w) :
    specialReserved o w = false ∧ ∃ r, o.row = some r ∧ formatBad o r.lf w = false := by
  have h1 := canIssue_illegalSub hc
  unfold illegalSub at h1
  rw [canIssue_opOf hc] at h1
  split at h1
  · cases h1
  · cases hr : o.row with
    | none => simp [hr] at h1
    | some r =>
      simp only [hr] at h1
      revert h1
      generalize (if r.major ≥ 24 ∧ r.major ≤ 29 then mxUsed o w
        else if 40 ≤ r.major ∧ r.major ≤ 42 then jointerUsed o w else r.used) = u
      intro h1
      refine ⟨?_, r, rfl, ?_⟩
      · by_contra hx
        simp at hx
        simp [hx] at h1
        split_ifs at h1
      · by_contra hx
        simp at hx
        simp [hx] at h1
        split_ifs at h1

/-- An instruction whose effect is on its register files alone. -/
theorem issue_regStep {s : State} {h : Hand} {o : Op} {w : Word64} (hc : CanIssue s h o w) (f : HandRegs → HandRegs) :
    issue o h w s (regStep h f) = .next (afterRegs s h (f (handGet s h).regs)) := by
  rw [issue_eq hc]; rfl

theorem advance_eq (s : State) (h : Hand) : advance h s = afterRegs s h (handGet s h).regs := rfl

end Sys2Proof.Machine
end

