-- ==== Sys2Proof/WellFormed.lean ====
section
/-!
DEFINITION. When a command is well-formed: every unit that it names is one that the device has, and a Penyca word is of the instruction
whose row the command is. A command that is not well-formed is one that nothing in the device can send (R42, and the counts of the
chapters).
-/

namespace Sys2Proof

open Machine in
/-- A Penyca word issues as `o` (R205), in a context of PB0–PB35. -/
def named (o : Op) (h : Hand) (w : Word64) : Bool := decide (h.pb < 36) && decide (issuesAs w = o)

open Machine in
/-- The command is well-formed. -/
def Instr.wellFormed (i : Instr) : Bool :=
  match i with
  | .registerWrite _ _ _ _ => true
  | .hartAccess hart _ _ size _ => decide (hart < 12 ∧ 1 ≤ size ∧ size ≤ 8)
  | .panelFetch h _ => decide (h.pb < 36)
  | .jobFaultStop slot => decide (slot < 131072)
  | .add h w => named .add h w
  | .sub h w => named .sub h w
  | .and h w => named .and h w
  | .or h w => named .or h w
  | .xor h w => named .xor h w
  | .andn h w => named .andn h w
  | .min h w => named .min h w
  | .max h w => named .max h w
  | .minu h w => named .minu h w
  | .maxu h w => named .maxu h w
  | .addi h w => named .addi h w
  | .andi h w => named .andi h w
  | .ori h w => named .ori h w
  | .xori h w => named .xori h w
  | .li h w => named .li h w
  | .sll h w => named .sll h w
  | .srl h w => named .srl h w
  | .sra h w => named .sra h w
  | .ror h w => named .ror h w
  | .slli h w => named .slli h w
  | .srli h w => named .srli h w
  | .srai h w => named .srai h w
  | .rori h w => named .rori h w
  | .extu h w => named .extu h w
  | .exts h w => named .exts h w
  | .ins h w => named .ins h w
  | .mul h w => named .mul h w
  | .mulh h w => named .mulh h w
  | .mulhu h w => named .mulhu h w
  | .div h w => named .div h w
  | .divu h w => named .divu h w
  | .rem h w => named .rem h w
  | .remu h w => named .remu h w
  | .seq h w => named .seq h w
  | .sne h w => named .sne h w
  | .slt h w => named .slt h w
  | .sltu h w => named .sltu h w
  | .sel h w => named .sel h w
  | .vext h w => named .vext h w
  | .vins h w => named .vins h w
  | .ktos h w => named .ktos h w
  | .ktosh h w => named .ktosh h w
  | .stok h w => named .stok h w
  | .popc h w => named .popc h w
  | .clz h w => named .clz h w
  | .ctz h w => named .ctz h w
  | .beq h w => named .beq h w
  | .bne h w => named .bne h w
  | .blt h w => named .blt h w
  | .bge h w => named .bge h w
  | .bltu h w => named .bltu h w
  | .bgeu h w => named .bgeu h w
  | .bra h w => named .bra h w
  | .jal h w => named .jal h w
  | .jr h w => named .jr h w
  | .loop h w => named .loop h w
  | .waitq h w => named .waitq h w
  | .fence h w => named .fence h w
  | .trap h w => named .trap h w
  | .endP h w => named .endP h w
  | .nop h w => named .nop h w
  | .vadd h w => named .vadd h w
  | .vsub h w => named .vsub h w
  | .vmul h w => named .vmul h w
  | .vmin h w => named .vmin h w
  | .vmax h w => named .vmax h w
  | .vdiv h w => named .vdiv h w
  | .vsqrt h w => named .vsqrt h w
  | .vabs h w => named .vabs h w
  | .vneg h w => named .vneg h w
  | .vfma h w => named .vfma h w
  | .vfms h w => named .vfms h w
  | .vfnma h w => named .vfnma h w
  | .vfnms h w => named .vfnms h w
  | .vceq h w => named .vceq h w
  | .vcne h w => named .vcne h w
  | .vclt h w => named .vclt h w
  | .vcle h w => named .vcle h w
  | .vcgt h w => named .vcgt h w
  | .vcge h w => named .vcge h w
  | .vcvt h w => named .vcvt h w
  | .viadd h w => named .viadd h w
  | .visub h w => named .visub h w
  | .vimul h w => named .vimul h w
  | .vimin h w => named .vimin h w
  | .vimax h w => named .vimax h w
  | .vand h w => named .vand h w
  | .vor h w => named .vor h w
  | .vxor h w => named .vxor h w
  | .vsll h w => named .vsll h w
  | .vsrl h w => named .vsrl h w
  | .vsra h w => named .vsra h w
  | .vbcast h w => named .vbcast h w
  | .vperm h w => named .vperm h w
  | .vsel h w => named .vsel h w
  | .vmov h w => named .vmov h w
  | .kand h w => named .kand h w
  | .kor h w => named .kor h w
  | .kxor h w => named .kxor h w
  | .knot h w => named .knot h w
  | .kpop h w => named .kpop h w
  | .vrsum h w => named .vrsum h w
  | .vrmax h w => named .vrmax h w
  | .vrmin h w => named .vrmin h w
  | .vrisum h w => named .vrisum h w
  | .mloadw h w => named .mloadw h w
  | .mloadwComplete pb _ => decide (pb < 36)
  | .mstream h w => named .mstream h w
  | .mstreamComplete pb _ => decide (pb < 36)
  | .mdrain h w => named .mdrain h w
  | .mclear h w => named .mclear h w
  | .mxferStore h w => named .mxferStore h w
  | .mxferAdd h w => named .mxferAdd h w
  | .mxferLoad h w => named .mxferLoad h w
  | .mstat h w => named .mstat h w
  | .ld h w => named .ld h w
  | .lds h w => named .lds h w
  | .st h w => named .st h w
  | .vld h w => named .vld h w
  | .vst h w => named .vst h w
  | .copy h w => named .copy h w
  | .scopy h w => named .scopy h w
  | .dld h w => named .dld h w
  | .dst h w => named .dst h w
  | .pref h w => named .pref h w
  | .dmaTransferComplete pb _ => decide (pb < 36)
  | .jgather h w => named .jgather h w
  | .jscato h w => named .jscato h w
  | .jscatu h w => named .jscatu h w
  | .jsegpack h w => named .jsegpack h w
  | .jcompact h w => named .jcompact h w
  | .jsort h w => named .jsort h w
  | .jhparto h w => named .jhparto h w
  | .jhpartu h w => named .jhpartu h w
  | .jisect h w => named .jisect h w
  | .jtopk h w => named .jtopk h w
  | .jstat h w => named .jstat h w
  | .jwait h w => named .jwait h w
  | .jointerCommandComplete pb _ => decide (pb < 36)
  | .padd h w => named .padd h w
  | .pset h w => named .pset h w
  | .parrive h w => named .parrive h w
  | .pwait h w => named .pwait h w
  | .pwany h w => named .pwany h w
  | .pegWaitRelease w => (match w with | .hand h => decide (h.pb < 36) | .slot _ | .coll _ => true)
  | .tread h w => named .tread h w
  | .twait h w => named .twait h w
  | .twaitReached h => decide (h.pb < 36)
  | .pcount h w => named .pcount h w
  | .ptarget h w => named .ptarget h w
  | .pstamp h w => named .pstamp h w
  | .mfsr h w => named .mfsr h w
  | .mtsr h w => named .mtsr h w
  | .plbfold h w => named .plbfold h w
  | .plbgold h w => named .plbgold h w
  | .plbdone h w => named .plbdone h w
  | .submitJob _ window _ => decide (window < 64)
  | .submitBatch _ window _ => decide (window < 64)
  | .submitRegionSwap _ window _ => decide (window < 64)
  | .submitPlaneFlip _ window _ => decide (window < 64)
  | .ticketRead _ window => decide (window < 64)
  | .batchChildFetch _ => true
  | .jobStart slot => decide (slot < 131072)
  | .jobEnd slot => decide (slot < 131072)
  | .jobComplete slot => decide (slot < 131072)
  | .dowelQuery _ part _ => decide (part < 8)
  | .dowelCancel _ part _ => decide (part < 8)
  | .dowelRelease _ part _ => decide (part < 8)
  | .pegCountWrite _ peg _ => decide (peg < 2048)
  | .pegAddWrite _ peg _ => decide (peg < 2048)
  | .pegStatusClear _ peg => decide (peg < 2048)
  | .regionUpdateTakeEffect region => decide (region < 280)
  | .regionSwapApply part group => decide (part < 8 ∧ 1 ≤ group ∧ group < 16)
  | .partitionConfigRecord => true
  | .partitionConfigRegions => true
  | .partitionConfigWheels => true
  | .partitionConfigApply region => decide (region < 8)
  | .partCheck => true
  | .tableScan => true
  | .resourceZeroingDone granule n => decide (n < if granule then 96 else 64)
  | .partCtrlLock _ part => decide (part < 8)
  | .beatStart part => decide (part < 8)
  | .kerfEntryStart part => decide (part < 8)
  | .kerfDrainComplete pb => decide (pb < 36)
  | .kerfOverrun pb => decide (pb < 36)
  | .saveComplete pb => decide (pb < 36)
  | .restoreComplete pb => decide (pb < 36)
  | .girtWindowStart => true
  | .wheelSlotStart _ _ => true
  | .girtGrant target reqs => decide (target < 80) && reqs.all (fun r => decide (r.part < 8) && decide (r.cls < 8))
  | .bayFence pb _ => decide (pb < 36)
  | .bayHang pb => decide (pb < 36)
  | .bayDomainFault pb => decide (pb < 36)
  | .retirementPoint lb => decide (lb < 64)
  | .jobReplay slot => decide (slot < 131072)
  | .sparePeriodicPlumb pb => decide (pb < 36)
  | .jointerHang pj => decide (pj < 9)
  | .patrolRowTest loft unit _ => decide (unit < if loft then 49 else 36)
  | .plumbScheduledStart pb => decide (pb < 36)
  | .plumbGatedStart slot => decide (slot < 65536)
  | .gatedRelease slot => decide (slot < 65536)
  | .plumbOverdue part => decide (part < 8)
  | .plumbPeriodOverdue lb => decide (lb < 64)
  | .ageEvent a => decide (a < 64)
  | .ageGap a => decide (a < 64)
  | .dinSample n _ _ => decide (n < 4)
  | .clockMonitorWindow src _ => decide ((0x004 ≤ src ∧ src ≤ 0x00E) ∨ (0x020 ≤ src ∧ src ≤ 0x043))
  | .voltageExcursion src _ => decide (0x010 ≤ src ∧ src ≤ 0x018)
  | .temperatureSample t => decide (t.length = 16)
  | .lockstepMismatch pair => decide (pair < 2)
  | .islandBistStep _ => true
  | .safetyKick _ _ => true
  | .safeWdog => true
  | .faultPhaseBoundary => true
  | .safetyCtrlRun _ => true
  | .safetyPstopRelease _ part => decide (part < 8)
  | .safetySwraise _ _ => true
  | .safetySrcPendClear _ src => decide (src < 512)
  | .faultClearCritical => true
  | .safeStateExit => true
  | .tbDomainLoss d => decide (d < 2)
  | .tbDomSync _ d => decide (d < 2)
  | .tbDomDrop _ d => decide (d < 2)
  | .tbCtrlSel _ d => decide (d < 2)
  | .tbDomStep _ d _ => decide (d < 2)
  | .unsealedStepApply d => decide (d < 2)
  | .timeForceStep => true
  | .forceStepApply => true
  | .bridgeDecayStep => true
  | .wrap => true
  | .half => true
  | .tbTsRecordPop _ port _ => decide (port < 4)
  | .tcapEdge n _ => decide (n < 16)
  | .tcapHeadRead _ n => decide (n < 16)
  | .tcapAged n => decide (n < 16)
  | .tpulseArm _ n => decide (n < 8)
  | .tpulseFire n => decide (n < 8)
  | .tpulseWidthEnd n => decide (n < 8)
  | .csiFrameStart port _ _ _ => decide (port < 4)
  | .csiFrameEnd port _ _ => decide (port < 4)
  | .csiLongPacket port _ _ _ _ _ => decide (port < 4)
  | .csiEmbeddedPacket port _ _ _ => decide (port < 4)
  | .csiFrameTimeout n => decide (n < 16)
  | .intakeCtxDisable _ n => decide (n < 16)
  | .frameCloseComplete n => decide (n < 16)
  | .gfxBind slot => decide (slot < 65536)
  | .gfxPacketIssue => true
  | .gfxPacketReturn rank => decide (rank < 64)
  | .gfxFragmentRetire => true
  | .gfxTileWriteout => true
  | .fillerJobStart slot => decide (slot < 65536)
  | .verticalBlanking pipe => decide (pipe < 4)
  | .displayLineUnderrun pipe _ _ => decide (pipe < 4)
  | .outputWatchSignature pipe => decide (pipe < 4)
  | .outputWatchMissing pipe => decide (pipe < 4)
  | .dispAuxGo _ pipe _ => decide (pipe < 4)
  | .auxTransactionDone pipe _ _ => decide (pipe < 4)
  | .hpdEvent pipe _ _ => decide (pipe < 4)
  | .ethernetFrameReceive port _ => decide (port < 5)
  | .canFrameReceive k _ => decide (k < 8)
  | .gwTxCmd _ p _ => decide (p < 8)
  | .hostFrameProcess p => decide (p < 8)
  | .gwRxHeadRead _ p => decide (p < 8)
  | .gwRuleLoadGo _ _ => true
  | .gwRuleLoadCommit => true
  | .egressFrameSend port => decide (port < 5)
  | .gateEntryStart port => decide (port < 4)
  | .tasCommit _ port _ => decide (port < 4)
  | .gateListTakeover port => decide (port < 4)
  | .canFrameTransmit k => decide (k < 8)
  | .canBusoffRecovery k => decide (k < 8)
  | .supWrite _ => true
  | .supRead _ => true
  | .sealSwCtrl _ _ => true
  | .sealFrameTake => true
  | .repairCommit => true
  | .repairBurnComplete _ => true
  | .scribeEnable => true
  | .scribePatternStart => true
  | .scribeDriverEnable => true
  | .firmwareAccept _ => true
  | .keyRevoke => true
  | .accordOverrideRejoin => true
  | .accordOverrideLeave => true
  | .gradeLock => true
  | .identityReport => true
  | .statusQuery => true
  | .resultQuery => true
  | .trussTraining _ _ => true
  | .trussTrainingComplete => true
  | .trussLaneRetire lane => decide (lane < 18)
  | .flitReceive _ => true
  | .flitNak _ => true
  | .flitWrite => true
  | .flitRead => true
  | .flitRdata => true
  | .flitControl => true
  | .flitRetryLimit => true
  | .accordSend => true
  | .accordReceive => true
  | .heartbeatSend => true
  | .heartbeatReceive => true
  | .heartbeatLoss => true
  | .timeFlitSend => true
  | .timeFlitReceive => true
  | .spanningJobStart slot => decide (slot < 131072)
  | .mailboxDoorbell _ m _ => decide (m ≤ 16 ∧ m % 2 = 0)
  | .mailboxRequestTake m => decide (m ≤ 16 ∧ m % 2 = 0)
  | .fwVersion m => decide (m ≤ 16 ∧ m % 2 = 0)
  | .collCreate m => decide (m ≤ 16 ∧ m % 2 = 0)
  | .pegSignal m => decide (m ≤ 16 ∧ m % 2 = 0)
  | .messagePost m => decide (m ≤ 16 ∧ m % 2 = 0)
  | .plumbStatus m => decide (m ≤ 16 ∧ m % 2 = 0)
  | .repairList m => decide (m ≤ 16 ∧ m % 2 = 0)
  | .collContributionTake _ _ => true
  | .collResultWrite _ => true
  | .collComplete _ => true
  | .crpBayClkReq _ _ => true
  | .bayClockStep => true
  | .throttleStepSlower => true
  | .throttleStepFaster => true
  | .crpPixFrac _ i _ => decide (i < 4)
  | .pixelPllLock i => decide (i < 4)
  | .powerOnReset _ _ _ _ => true
  | .wrstNReset => true
  | .crpRstCtrlWarm _ _ => true
  | .crpRstCtrlApp _ _ => true
  | .rootPllLock => true
  | .memoryBistDone _ _ => true
  | .dramTrainingDone _ _ => true
  | .bootImagesVerified _ _ => true
  | .appImageVerified _ => true
  | .bayBistDone _ _ => true
  | .bootMapAndGrade => true
  | .fabricControllerStart => true
  | .appHartRelease => true
  | .bayClockGate pb => decide (pb < 36)
  | .extest _ => true
  | .idcode => true
  | .samplePreload _ _ => true
  | .clamp _ => true
  | .highz _ => true
  | .fuseProg i => fuseItemOk i
  | .keyProg image k _ _ => decide (k < if image then 4 else 8)
  | .islandLoad _ _ => true
  | .debug => true
  | .lifecycle _ => true
  | .bypass => true
  | .tapReset => true
  | .registerRead _ _ _ => true
  | .mdrainComplete pb _ => decide (pb < 36)
  | .mxferComplete pb _ => decide (pb < 36)
  | .mclearComplete pb _ => decide (pb < 36)
  | .keyRevokeComplete k => decide (k < 8)
  | .firmwareAcceptDone _ => true
  | .rejoinTimeout => true
  | .rootPllLockTimeout => true
  | .rootPllLockLoss => true
  | .pixelPllLockLoss i => decide (i < 4)
  | .voltageReturn src => decide (0x010 ≤ src ∧ src ≤ 0x018)
  | .canBusError k _ _ => decide (k < 8)
  | .portLinkChange port _ => decide (port < 5)
  | .ulpsEntry port => decide (port < 4)
  | .ulpsExit port => decide (port < 4)
  | .deskewSequence port => decide (port < 4)
  | .hsBurstStart port => decide (port < 4)
  | .hsBurstEnd port => decide (port < 4)

end Sys2Proof
end

