-- ==== Sys2Proof/Tests/Slice0.lean ====
section
/-!
SUPPORT. Tests: which commands are well-formed, small runs of one step, and for each statement with hypotheses a concrete state
and operands that meet them.
-/

namespace Sys2Proof.Tests

set_option Elab.async false

open Sys2Proof.Machine

/-! ## States -/

/-- A Penyca word by chapter 5's formats: major opcode, FN, and other fields by their lowest bit. -/
def word (major fn : Nat) (fields : List (Nat × Nat)) : Word64 :=
  BitVec.ofNat 64 (fields.foldl (fun a f => a + f.2 * 2 ^ f.1) (major * 2 ^ 58 + fn * 2 ^ 52))

/-- The main context of PB0. -/
def pb0 : Hand := { pb := 0 }

/-- The bytes of a list at an address, as memory lists them. -/
def cells (a : Addr) (l : List Byte) : List Host.Cell :=
  (((List.range l.length).zip l).filter (fun e => decide (e.2 ≠ 0))).map (fun e => (a + e.1, e.2))

/-- A list of `n` bytes that holds little-endian values, each given by its offset, its number of bytes and itself; the rest 0. -/
def bytesOf (n : Nat) (l : List (Nat × Nat × Nat)) : List Byte :=
  (List.range n).map (fun i => match l.find? (fun e => decide (e.1 ≤ i ∧ i < e.1 + e.2.1)) with
    | some e => BitVec.ofNat 8 (e.2.2 / 256 ^ (i - e.1))
    | none => 0)

/-- `crcRun`, with each remainder a number before the next byte is taken: the form that the kernel evaluates on long lists. -/
def crcFast : Nat → List Byte → Nat
  | c, [] => c
  | 0, b :: t => crcFast (crcByte 0#32 b).toNat t
  | c + 1, b :: t => crcFast (crcByte (BitVec.ofNat 32 (c + 1)) b).toNat t

theorem crcRun_toNat (l : List Byte) : ∀ c : Word32, (crcRun c l).toNat = crcFast c.toNat l := by
  induction l with
  | nil => intro c; simp [crcRun, crcFast]
  | cons b t ih =>
    intro c
    rw [crcRun, ih]
    obtain ⟨n, hn⟩ : ∃ n, c.toNat = n := ⟨_, rfl⟩
    have hc : c = BitVec.ofNat 32 n := by rw [← hn, BitVec.ofNat_toNat, BitVec.setWidth_eq]
    rw [hn]
    cases n with
    | zero => rw [crcFast, hc]
    | succ k => rw [crcFast, hc]

theorem checkOk_fast (l : List Byte) : checkOk l = (decide (4 ≤ l.length) &&
    decide (leVal (l.drop (l.length - 4)) = crcFast 0xFFFFFFFF (l.take (l.length - 4)) ^^^ 0xFFFFFFFF)) := by
  simp [checkOk, crc32c, crcRun_toNat]

/-- The bytes with their check word. -/
def checked (l : List Byte) : List Byte := l ++ leBytes 4 (crcFast 0xFFFFFFFF l ^^^ 0xFFFFFFFF)

/-- Partition 1 owns LB0–LB3, LB33, granule 0, windows 3 and 4, age channel 5, pegs 64–127 and 16 dowels, hart 1, the graphics front end, camera
context 0, planes 0 and 6, TCAP0 and TPULSE0; its beat is 1,000 µs with two kerf entries of 10 µs. -/
def record1 : Tab Byte :=
  [(768, 0x0F), (772, 0x02), (776, 0x01), (792, 0x18), (800, 0x20), (808, 0x01), (810, 0x01), (812, 0x10), (816, 0xE8), (817, 0x03), (824, 0x02),
   (825, 0x10), (826, 0x01), (828, 0x41), (832, 0x01), (834, 0x01), (836, 0x03), (837, 0x02), (840, 0x10), (848, 0x10), (852, 0x11),
   (912, 0x05), (914, 0x01), (915, 0x80)]

/-- One region that grants reads and writes of DRAM and of everything below 64 GiB to every class. -/
def regions1 : Tab Byte := [(8, 0xFF), (9, 0xFF), (10, 0xFF), (12, 0x83), (13, 0xFF)]

/-- A bay that runs the job of slot 1. -/
def bay0 : Bay :=
  { st := .running, main := { active := true, pc := 0x1000, progid := 7, handle := 0x10001, nbays := 1, part := 1 } }

/-- PB0 holds LB0, which runs a job of partition 1 from an instruction word. -/
def running (w : Word64) (r : HandRegs := {}) : State :=
  { bayMap := [(0, 1)]
    boot := { dramBytes := 0x100000000 }
    part := { table := record1, tableHeld := true, regions := [(1, regions1)], regionsHeld := [(1, true)] }
    bays := [(0, { bay0 with
      cache := [(0x1000, leBytes 8 w.toNat ++ List.replicate 56 0)]
      main := { bay0.main with regs := r } })]
    cmd := { slots := [(1, { gen := 1, st := .running, part := 1 })] } }

/-- The same bay in a plumb run. -/
def plumbing (w : Word64) : State :=
  { bayMap := [(0, 1)]
    bays := [(0, { st := .plumb, cache := [(0, leBytes 8 w.toNat ++ List.replicate 56 0)], main := { active := true, progid := 0xFFFF } })] }

/-- A word of every scalar instruction, written out from the opcode map and the class tables of chapter 6. -/
def scalarWords : List (Op × Word64) :=
  [(.add, word 0x00 0 [(47, 3), (42, 1), (37, 2)]), (.sub, word 0x00 1 [(47, 3), (42, 1), (37, 2)]),
   (.and, word 0x00 2 [(47, 3), (42, 1), (37, 2)]), (.or, word 0x00 3 [(47, 3), (42, 1), (37, 2)]),
   (.xor, word 0x00 4 [(47, 3), (42, 1), (37, 2)]), (.andn, word 0x00 5 [(47, 3), (42, 1), (37, 2)]),
   (.min, word 0x00 6 [(47, 3), (42, 1), (37, 2)]), (.max, word 0x00 7 [(47, 3), (42, 1), (37, 2)]),
   (.minu, word 0x00 8 [(47, 3), (42, 1), (37, 2)]), (.maxu, word 0x00 9 [(47, 3), (42, 1), (37, 2)]),
   (.addi, word 0x01 0 [(47, 3), (42, 1), (0, 0xFFFFFFFF)]), (.andi, word 0x01 2 [(47, 3), (42, 1), (0, 15)]),
   (.ori, word 0x01 3 [(47, 3), (42, 1), (0, 15)]), (.xori, word 0x01 4 [(47, 3), (42, 1), (0, 15)]),
   (.li, word 0x02 0 [(53, 3), (0, 0xFFFFFFFFFFFF)]),
   (.sll, word 0x03 0 [(47, 3), (42, 1), (37, 2)]), (.srl, word 0x03 1 [(47, 3), (42, 1), (37, 2)]),
   (.sra, word 0x03 2 [(47, 3), (42, 1), (37, 2)]), (.ror, word 0x03 3 [(47, 3), (42, 1), (37, 2)]),
   (.slli, word 0x03 0x20 [(47, 3), (42, 1), (0, 63)]), (.srli, word 0x03 0x21 [(47, 3), (42, 1), (0, 63)]),
   (.srai, word 0x03 0x22 [(47, 3), (42, 1), (0, 63)]), (.rori, word 0x03 0x23 [(47, 3), (42, 1), (0, 63)]),
   (.extu, word 0x03 0x24 [(47, 3), (42, 1), (0, 8), (8, 55)]), (.exts, word 0x03 0x25 [(47, 3), (42, 1), (0, 8), (8, 55)]),
   (.ins, word 0x03 0x26 [(47, 3), (42, 1), (0, 8), (8, 55)]),
   (.mul, word 0x04 0 [(47, 3), (42, 1), (37, 2)]), (.mulh, word 0x04 1 [(47, 3), (42, 1), (37, 2)]),
   (.mulhu, word 0x04 2 [(47, 3), (42, 1), (37, 2)]), (.div, word 0x04 8 [(47, 3), (42, 1), (37, 2)]),
   (.divu, word 0x04 9 [(47, 3), (42, 1), (37, 2)]), (.rem, word 0x04 0xA [(47, 3), (42, 1), (37, 2)]),
   (.remu, word 0x04 0xB [(47, 3), (42, 1), (37, 2)]),
   (.seq, word 0x05 0 [(47, 3), (42, 1), (37, 2)]), (.sne, word 0x05 1 [(47, 3), (42, 1), (37, 2)]),
   (.slt, word 0x05 2 [(47, 3), (42, 1), (37, 2)]), (.sltu, word 0x05 3 [(47, 3), (42, 1), (37, 2)]),
   (.sel, word 0x05 8 [(47, 3), (42, 1), (37, 2), (32, 4)]),
   (.vext, word 0x06 0 [(47, 3), (42, 1), (37, 2), (24, 2)]), (.vins, word 0x06 1 [(47, 3), (42, 1), (37, 2), (24, 2)]),
   (.ktos, word 0x06 2 [(47, 3), (42, 1)]), (.ktosh, word 0x06 3 [(47, 3), (42, 1)]), (.stok, word 0x06 4 [(47, 3), (42, 1), (37, 2)]),
   (.popc, word 0x07 0 [(47, 3), (42, 1)]), (.clz, word 0x07 1 [(47, 3), (42, 1)]), (.ctz, word 0x07 2 [(47, 3), (42, 1)]),
   (.kpop, word 0x16 4 [(47, 3), (42, 1), (24, 2)])]

/-- A word of every control, peg, time and special-register instruction. -/
def controlWords : List (Op × Word64) :=
  [(.beq, word 0x08 0 [(42, 1), (37, 2), (0, 9)]), (.bne, word 0x08 1 [(42, 1), (37, 2), (0, 9)]),
   (.blt, word 0x08 2 [(42, 1), (37, 2), (0, 9)]), (.bge, word 0x08 3 [(42, 1), (37, 2), (0, 9)]),
   (.bltu, word 0x08 4 [(42, 1), (37, 2), (0, 9)]), (.bgeu, word 0x08 5 [(42, 1), (37, 2), (0, 9)]), (.bra, word 0x08 6 [(0, 0xFFFFFFF8)]),
   (.jal, word 0x09 0 [(47, 3), (0, 9)]), (.jr, word 0x09 1 [(47, 3), (42, 1)]), (.loop, word 0x0A 0 [(47, 3), (0, 9)]),
   (.waitq, word 0x0B 0 [(0, 7)]), (.fence, word 0x0C 0 []), (.trap, word 0x0D 0 [(0, 0x5A)]), (.endP, word 0x0E 0 []), (.nop, word 0x0F 0 []),
   (.padd, word 0x2C 0 [(47, 3), (25, 70), (42, 2)]), (.pset, word 0x2C 1 [(47, 3), (36, 1), (37, 1), (20, 1), (0, 5)]),
   (.parrive, word 0x2C 2 [(47, 3), (25, 70)]), (.pwait, word 0x2D 0 [(47, 3), (25, 70), (20, 1), (0, 5)]),
   (.pwany, word 0x2D 1 [(47, 3), (25, 70), (21, 15), (20, 1), (0, 5)]), (.tread, word 0x2E 0 [(47, 3)]), (.twait, word 0x2E 1 [(42, 1)]),
   (.pcount, word 0x2F 0 [(47, 3), (25, 70)]), (.ptarget, word 0x2F 1 [(47, 3), (25, 70)]), (.pstamp, word 0x2F 2 [(47, 3), (25, 70)]),
   (.mfsr, word 0x30 0 [(47, 3), (32, 10)]), (.mtsr, word 0x30 1 [(42, 1)]),
   (.mstat, word 0x1D 0 [(19, 3)]), (.jstat, word 0x2B 0 [(35, 3)]), (.jwait, word 0x2B 1 [(0, 31)])]

/-- A word of every vector, mask and reduction instruction. -/
def vectorWords : List (Op × Word64) :=
  let r3 := [(47, 3), (42, 1), (37, 2)]
  let fp := r3 ++ [(31, 1), (28, 2), (24, 9), (22, 3)]
  [(.vadd, word 0x10 0 fp), (.vsub, word 0x10 1 fp), (.vmul, word 0x10 2 fp), (.vmin, word 0x10 3 fp), (.vmax, word 0x10 4 fp),
   (.vdiv, word 0x10 5 fp), (.vsqrt, word 0x10 6 [(47, 3), (42, 1), (24, 9)]), (.vabs, word 0x10 7 [(47, 3), (42, 1), (24, 9)]),
   (.vneg, word 0x10 8 [(47, 3), (42, 1), (24, 9)]), (.vfma, word 0x11 0 fp), (.vfms, word 0x11 1 fp), (.vfnma, word 0x11 2 fp),
   (.vfnms, word 0x11 3 fp), (.vceq, word 0x12 0 fp), (.vcne, word 0x12 1 fp), (.vclt, word 0x12 2 fp), (.vcle, word 0x12 3 fp),
   (.vcgt, word 0x12 4 fp), (.vcge, word 0x12 5 fp), (.vcvt, word 0x13 0 [(47, 3), (42, 1), (24, 6), (17, 9)]),
   (.viadd, word 0x14 0 (r3 ++ [(24, 1), (21, 1)])), (.visub, word 0x14 1 (r3 ++ [(24, 1)])), (.vimul, word 0x14 2 (r3 ++ [(24, 1)])),
   (.vimin, word 0x14 3 (r3 ++ [(24, 1)])), (.vimax, word 0x14 4 (r3 ++ [(24, 1)])), (.vand, word 0x14 5 (r3 ++ [(24, 1)])),
   (.vor, word 0x14 6 (r3 ++ [(24, 1)])), (.vxor, word 0x14 7 (r3 ++ [(24, 1)])), (.vsll, word 0x14 8 (r3 ++ [(24, 1)])),
   (.vsrl, word 0x14 9 (r3 ++ [(24, 1)])), (.vsra, word 0x14 0xA (r3 ++ [(24, 1)])),
   (.vbcast, word 0x15 0 [(47, 3), (42, 1), (24, 1)]), (.vperm, word 0x15 1 (r3 ++ [(24, 1)])),
   (.vsel, word 0x15 2 (r3 ++ [(31, 1), (24, 1)])), (.vmov, word 0x15 3 [(47, 3), (42, 1), (24, 1)]),
   (.kand, word 0x16 0 r3), (.kor, word 0x16 1 r3), (.kxor, word 0x16 2 r3), (.knot, word 0x16 3 [(47, 3), (42, 1)]),
   (.vrsum, word 0x17 0 [(47, 3), (42, 1), (24, 9)]), (.vrmax, word 0x17 1 [(47, 3), (42, 1), (24, 9)]),
   (.vrmin, word 0x17 2 [(47, 3), (42, 1), (24, 9)]), (.vrisum, word 0x17 3 [(47, 3), (42, 1), (24, 1)])]

/-- A word of every queued instruction and of every load and store. -/
def memoryWords : List (Op × Word64) :=
  let q := [(48, 0), (44, 1), (40, 2)]
  [(.mloadw, word 0x18 0 [(44, 1), (36, 1)]), (.mstream, word 0x19 0 [(44, 1), (40, 2)]), (.mdrain, word 0x1A 0 [(54, 1), (40, 2), (36, 9), (27, 1)]),
   (.mclear, word 0x1B 0 [(40, 2)]), (.mxferStore, word 0x1C 0 [(40, 2)]), (.mxferAdd, word 0x1C 0 [(40, 2), (28, 1)]),
   (.mxferLoad, word 0x1C 0 [(40, 2), (28, 2)]),
   (.ld, word 0x20 0 [(47, 3), (42, 1), (39, 3)]), (.lds, word 0x20 1 [(47, 3), (42, 1)]), (.st, word 0x21 0 [(47, 3), (42, 1), (39, 2)]),
   (.vld, word 0x22 0 [(47, 3), (42, 1), (39, 6)]), (.vst, word 0x23 0 [(47, 3), (42, 1), (39, 4)]),
   (.copy, word 0x24 0 [(35, 1), (30, 2), (0, 1)]), (.scopy, word 0x25 0 [(48, 0), (44, 1)]), (.dld, word 0x26 0 [(47, 3), (42, 1)]),
   (.dst, word 0x26 1 [(47, 3), (42, 1)]), (.pref, word 0x27 0 [(48, 0), (44, 1)]),
   (.jgather, word 0x28 0 q), (.jscato, word 0x28 1 q), (.jscatu, word 0x28 2 q), (.jsegpack, word 0x29 0 q), (.jcompact, word 0x29 1 q),
   (.jsort, word 0x2A 0 (q ++ [(9, 31)])), (.jhparto, word 0x2A 1 (q ++ [(1, 3)])), (.jhpartu, word 0x2A 2 (q ++ [(1, 3)])),
   (.jisect, word 0x2A 3 q), (.jtopk, word 0x2A 4 [(48, 0), (40, 2)])]

/-- A word of every plumb-only instruction. -/
def plumbWords : List (Op × Word64) :=
  [(.plbfold, word 0x30 0x10 [(42, 1)]), (.plbgold, word 0x30 0x11 [(47, 3), (0, 0xFFF)]), (.plbdone, word 0x30 0x12 [])]

/-- An instruction that is next, and legal, may issue. -/
theorem canIssue_of {s : State} {h : Hand} {o : Op} {w : Word64} (hb : h.pb < bayCount)
    (he : (issuable s h o w && decide (illegalOf h o (handGet s h) w = none)) = true) : CanIssue s h o w :=
  ⟨hb, (Bool.and_eq_true_iff.mp he).1, of_decide_eq_true (Bool.and_eq_true_iff.mp he).2⟩

/-- The same for each word of a list, in the state that `f` makes of it. -/
theorem canIssue_each {l : List (Op × Word64)} {f : Word64 → State}
    (he : l.all (fun x => issuable (f x.2) pb0 x.1 x.2 && decide (illegalOf pb0 x.1 (handGet (f x.2) pb0) x.2 = none)) = true) :
    ∀ x ∈ l, CanIssue (f x.2) pb0 x.1 x.2 :=
  fun x hx => canIssue_of (by decide) (List.all_eq_true.mp he x hx)

theorem test_scalar_words_issue : ∀ x ∈ scalarWords, CanIssue (running x.2) pb0 x.1 x.2 := canIssue_each (f := running) (by decide +kernel)

theorem test_control_words_issue : ∀ x ∈ controlWords, CanIssue (running x.2) pb0 x.1 x.2 := canIssue_each (f := running) (by decide +kernel)

theorem test_vector_words_issue : ∀ x ∈ vectorWords, CanIssue (running x.2) pb0 x.1 x.2 := canIssue_each (f := running) (by decide +kernel)

theorem test_memory_words_issue : ∀ x ∈ memoryWords, CanIssue (running x.2) pb0 x.1 x.2 := canIssue_each (f := running) (by decide +kernel)

theorem test_plumb_words_issue : ∀ x ∈ plumbWords, CanIssue (plumbing x.2) pb0 x.1 x.2 := canIssue_each (f := plumbing) (by decide +kernel)

/-! ## Penyca: states that meet the hypotheses of the statements -/

/-- An instruction that may issue, as a truth value. -/
def issues (s : State) (h : Hand) (o : Op) (w : Word64) : Bool :=
  decide (h.pb < bayCount) && issuable s h o w && decide (illegalOf h o (handGet s h) w = none)

theorem canIssue_of_issues {s : State} {h : Hand} {o : Op} {w : Word64} (he : issues s h o w = true) : CanIssue s h o w := by
  simp only [issues, Bool.and_eq_true, decide_eq_true_eq] at he
  exact ⟨he.1.1, he.1.2, he.2⟩

/-- The job of `running` with its program position moved to slot 0 of the panel at `pc`. -/
def runningAt (pc : Addr) (w : Word64) (r : HandRegs := {}) : State :=
  bayMod (running w r) 0 (fun b => { b with cache := [(pc, leBytes 8 w.toNat ++ List.replicate 56 0)], main := { b.main with pc := pc } })

/-- BRANCH: taken, not taken and out of range, for every condition (R178, R180). -/
theorem test_branch_hypotheses :
    (∀ x ∈ ([(.beq, 0, 5, 5, 6), (.bne, 1, 5, 6, 5), (.blt, 2, 0x8000000000000000, 0, 0x8000000000000000), (.bge, 3, 5, 5, 6),
        (.bltu, 4, 5, 6, 5), (.bgeu, 5, 6, 6, 7)] : List (Op × Nat × Nat × Nat × Nat)),
      (∀ off ∈ ([9, 0xFFFFFFF8] : List Nat),
        issues (running (word 8 x.2.1 [(42, 1), (37, 2), (0, off)]) { s := [(1, x.2.2.1), (2, x.2.2.2.1)] }) pb0 x.1
          (word 8 x.2.1 [(42, 1), (37, 2), (0, off)]) = true) ∧
      issues (runningAt 0 (word 8 x.2.1 [(0, 0xFFFFFFFF)])) pb0 x.1 (word 8 x.2.1 [(0, 0xFFFFFFFF)]) = true) ∧
    ((0 : Int) / 8 + (-1) < 0) := by decide +kernel

/-- JAL, JR with a good target and with each bad one, and LOOP with each value of its counter (R179, R224, R225). -/
theorem test_jump_and_loop_hypotheses :
    (∀ off ∈ ([9, 0xFFFFFFF9] : List Nat), issues (running (word 9 0 [(47, 3), (0, off)])) pb0 .jal (word 9 0 [(47, 3), (0, off)]) = true) ∧
    (∀ x ∈ ([0x2008, 0xFFFFFFFFFFC0, 2 ^ 48, 4, 0x1038] : List Nat),
      issues (running (word 9 1 [(47, 3), (42, 1)]) { s := [(1, BitVec.ofNat 64 x)] }) pb0 .jr (word 9 1 [(47, 3), (42, 1)]) = true) ∧
    (∀ x ∈ ([1, 2, 0xFFFFFFFFFFFFFFFF] : List Nat),
      issues (running (word 0xA 0 [(47, 3), (0, 9)]) { s := [(3, BitVec.ofNat 64 x)] }) pb0 .loop (word 0xA 0 [(47, 3), (0, 9)]) = true) ∧
    issues (running (word 0xA 0 [(0, 9)])) pb0 .loop (word 0xA 0 [(0, 9)]) = true ∧
    issues (runningAt 0 (word 9 0 [(47, 3), (0, 0xFFFFFFFF)])) pb0 .jal (word 9 0 [(47, 3), (0, 0xFFFFFFFF)]) = true ∧
    issues (running (word 9 1 [(42, 1)]) { s := [(1, 0xFFFFFFFFFFC8)] }) pb0 .jr (word 9 1 [(42, 1)]) = true ∧
    issues (runningAt 0 (word 0xA 0 [(47, 3), (0, 0xFFFFFFFF)]) { s := [(3, 2)] }) pb0 .loop (word 0xA 0 [(47, 3), (0, 0xFFFFFFFF)]) = true ∧
    issues (plumbing (word 8 6 [(0, 0x7FFFFFFF)])) pb0 .bra (word 8 6 [(0, 0x7FFFFFFF)]) = true ∧
    (bayGet (plumbing 0) 0).st = .plumb := by decide +kernel

/-- A COPY of 64 bytes, with s[1] the source and s[2] the destination. -/
def copyWord : Word64 := word 0x24 0 [(35, 1), (30, 2), (0, 1)]

/-- The own window of LB0 and the window of LB1. -/
def win0 : Nat := 0x001010000000
def win1 : Nat := 0x001010200000

/-- A queue entry of a word, started, with its descriptors and scalar operands. -/
def entry (w : Word64) (ds : List Desc := []) (ra rb : Nat := 0) : QEntry :=
  { seq := 7, word := w, started := true, part := 1, ra := BitVec.ofNat 64 ra, rb := BitVec.ofNat 64 rb
    descs := ((List.range ds.length).zip ds).filter (fun e => decide (e.2 ≠ 0)) }

/-- A stream descriptor (R182). -/
def desc (base stride rows rowLen fmt : Nat) : Desc :=
  BitVec.ofNat 192 (base + stride * 2 ^ 64 + rows * 2 ^ 96 + rowLen * 2 ^ 128 + fmt * 2 ^ 152)

/-- WAITQ and FENCE with their queues clear and not (R192, R193). -/
theorem test_wait_and_fence_hypotheses :
    let q := fun (w : Word64) (e : QEntry) => bayMod (running w) 0 (fun b => { b with dmaQ := [e] })
    let wq := word 0xB 0 [(0, 7)]
    let fe := word 0xC 0 []
    issues (running wq) pb0 .waitq wq = true ∧ issues (q wq (entry copyWord)) pb0 .waitq wq = true ∧
    ((bayGet (q wq (entry copyWord)) 0).dmaQ ≠ []) ∧
    issues (q fe (entry copyWord [] win1 win0)) pb0 .fence fe = true ∧
    (entry copyWord [] win1 win0).writesBeyond (ownNum (q fe (entry copyWord [] win1 win0)) 0) = false ∧
    issues (q fe (entry copyWord [] win0 win1)) pb0 .fence fe = true ∧
    (entry copyWord [] win0 win1).writesBeyond (ownNum (q fe (entry copyWord [] win0 win1)) 0) = true := by decide +kernel

/-- VCVT narrowing and widening, its last segment (R227). -/
theorem test_convert_hypotheses :
    let narrow := word 0x13 1 [(47, 3), (42, 1), (24, 6), (17, 9)]
    let widen := word 0x13 3 [(47, 3), (42, 1), (24, 9), (17, 1)]
    issues (running narrow) pb0 .vcvt narrow = true ∧ (R3.fmt narrow).width < (R3.srcFmt narrow).width ∧
    issues (running widen) pb0 .vcvt widen = true ∧ (R3.srcFmt widen).width ≤ (R3.fmt widen).width := by decide +kernel

/-- Numbers that a format represents (R146). -/
theorem test_representable_hypotheses :
    ∀ x ∈ ([(.fp32, 0x00000001), (.fp32, 0x7F7FFFFF), (.fp16, 0x7C00), (.bf16, 0x8000), (.e4m3, 0x7E), (.e5m2, 0x7B)] : List (Fmt × Nat)),
      x.1.isInt = false ∧ x.1 ≠ .bf16x ∧ x.2 < 2 ^ x.1.width ∧ (x.1.decode x.2).isNaN = false := by decide +kernel

/-- One row of an INT8 stream, of zeros but for its first two bytes. -/
def row32 (a b : Byte) : List Byte := a :: b :: List.replicate 126 0

/-- The completion of each matrix instruction, with the entry at the front of the queue (R77, R81, R234). The stream has no row: rows
that stay in range are the next test's. -/
theorem test_matrix_completion_hypotheses :
    let q := fun (e : QEntry) => bayMod (running 0) 0 (fun b => { b with matrixQ := [e] })
    let run := fun (o : Op) (w : Word64) (d : Desc) => let e := entry w [d]
      (runningEntry (q e) 0 .matrix 7 = some e ∧ issuesAs w = o : Bool)
    let d8 := desc win0 128 0 128 6
    run .mloadw (word 0x18 0 [(44, 1), (36, 1)]) (desc win0 128 128 128 1) = true ∧
    ownOff 0 (Desc.base (desc win0 128 128 128 1)) (Desc.extent (desc win0 128 128 128 1)) = some 0 ∧
    run .mstream (word 0x19 0 [(44, 1), (40, 2), (36, 6)]) d8 = true ∧
    (let e := entry (word 0x19 0 [(44, 1), (40, 2), (36, 6)]) [d8]
     MX.line e.word = false ∧ ∀ k, k < 128 → (((List.range (Desc.rows d8)).map (descRow (q e) 0 d8)).foldl (fun c row =>
       addRow sillInRange (MX.format e.word) row (slotTiles (bayGet (q e) 0) e.word) k c) { sill := sillGet (q e) 0 2 k }).failed = false) ∧
    runningEntry (q { entry (word 0x19 0 []) with stale := true }) 0 .matrix 7 = some { entry (word 0x19 0 []) with stale := true } ∧
    run .mclear (word 0x1B 0 [(40, 2)]) 0 = true ∧ run .mxferLoad (word 0x1C 0 [(40, 2), (28, 2)]) (desc win0 80 128 80 0) = true ∧
    run .mdrain (word 0x1A 0 [(40, 2), (36, 9), (27, 1)]) (desc win0 512 1 512 9) = true ∧
    ownOff 0 win0 (drainRowBytes .fp32) = some 0 := by decide +kernel

/-- Two rows added in either order stay in range (R232). -/
theorem test_exact_stream_hypotheses :
    let tiles := [List.replicate 128 (3 : Byte)]
    let rows := [row32 1 2, row32 0xFF 5]
    (rows.foldl (fun c row => addRow sillInRange .int8 row tiles 0 c) {}).failed = false ∧
    (rows.reverse.foldl (fun c row => addRow sillInRange .int8 row tiles 0 c) {}).failed = false := by decide +kernel

/-- Descriptors of a bay's program, by the register they are in. -/
def descRegs (l : List (Nat × Desc)) : HandRegs := { d := l }

/-- Queued instructions that pass their checks, one of each queue and kind: nothing fails, the bay is untouched by the check (R185). -/
theorem test_queued_issue_hypotheses :
    let ok := fun (k : QKind) (o : Op) (w : Word64) (r : HandRegs) (f : State → List Nat × State) =>
      let s := running w r
      (issues s pb0 o w && decide (((bayGet s 0).queue k).length < k.depth) && decide ((f s).1 = []) &&
        decide (bayGet (f s).2 0 = bayGet s 0) : Bool)
    let r2 : HandRegs := { s := [(1, BitVec.ofNat 64 (win0 + 0x400)), (2, BitVec.ofNat 64 (win0 + 0x800))] }
    let list := fun (b : Nat) => desc (win0 + b) 4 2 4 3
    let r3 : HandRegs := { s := [(2, BitVec.ofNat 64 (win0 + 0x2000))], d := [(0, list 0), (1, list 0x100), (2, desc (win0 + 0x200) 4 128 4 3)] }
    let wl := word 0x18 0 [(44, 1), (36, 1)]
    let dr := word 0x1A 0 [(40, 2), (36, 9), (27, 1)]
    let xf := fun m => word 0x1C 0 [(40, 2), (28, m)]
    let cl := word 0x1B 0 [(40, 2)]
    let cp := copyWord
    let sc := word 0x25 0 [(48, 0), (44, 1)]
    let jg := word 0x28 0 [(48, 0), (44, 1), (40, 2)]
    let js := word 0x2A 0 [(48, 0), (40, 2), (9, 31), (3, 1)]
    let jt := word 0x2A 4 [(48, 0), (40, 2), (30, 2), (2, 1)]
    ok .matrix .mloadw wl (descRegs [(0, desc win0 128 128 128 1)]) (fun s => (mloadwCodes s pb0 wl, s)) = true ∧
    ok .matrix .mdrain dr (descRegs [(0, desc win0 512 1 512 9)]) (fun s => (mdrainCodes s pb0 dr 0, s)) = true ∧
    ok .matrix .mclear cl {} (fun s => (mclearCodes s pb0 cl, s)) = true ∧
    (∀ x ∈ ([(.mxferStore, 0), (.mxferAdd, 1), (.mxferLoad, 2)] : List (Op × Nat)),
      ok .matrix x.1 (xf x.2) (descRegs [(0, desc win0 80 128 80 0)]) (fun s => (mxferCodes x.1 s pb0 (xf x.2), s)) = true) ∧
    ok .dma .copy cp r2 (fun s => copyCheck pb0 cp (win0 + 0x400) (win0 + 0x800) s) = true ∧
    ok .dma .scopy sc (descRegs [(0, desc win0 64 2 32 0), (1, desc (win0 + 0x1000) 64 2 32 0)]) (scopyCheck false pb0 sc) = true ∧
    ok .jointer .jgather jg r3 (jointerCodes .jgather pb0 jg 0) = true ∧ ok .jointer .jsort js r3 (jointerCodes .jsort pb0 js 0) = true ∧
    ok .jointer .jtopk jt r3 (jointerCodes .jtopk pb0 jt (win0 + 0x2000)) = true := by decide +kernel

/-- A stream whose slot is loaded passes its checks; a queued instruction with a bad descriptor fails one; a full queue (R184, R185). -/
theorem test_queued_stall_and_fault_hypotheses :
    let st := word 0x19 0 [(44, 1), (40, 2), (36, 1)]
    let s := bayMod (running st (descRegs [(0, desc win0 128 2 128 1)])) 0
      (fun b => { b with slots := [(1, { loaded := true, src := 0x4000, tile := [1] })] })
    let cp := copyWord
    let full := bayMod (running cp) 0 (fun b => { b with dmaQ := List.replicate 16 (entry cp) })
    (issues s pb0 .mstream st = true ∧ mstreamCodes s pb0 st 0 = []) ∧
    (issues (running st) pb0 .mstream st = true ∧ mstreamCodes (running st) pb0 st 0 ≠ []) ∧
    (issues (running cp) pb0 .copy cp = true ∧ (copyCheck pb0 cp 0 0 (running cp)).1 ≠ []) ∧
    (issues full pb0 .copy cp = true ∧ QKind.depth .dma ≤ ((bayGet full 0).queue .dma).length) := by decide +kernel

/-- A COPY that completes, and a jointer command that ends without a fault (R195, R259). -/
theorem test_completion_hypotheses :
    let e := entry copyWord [] (win0 + 0x400) (win0 + 0x800)
    let s := bayMod (running 0) 0 (fun b => { b with dmaQ := [e] })
    let j := entry (word 0x2A 0 [(48, 0), (40, 1), (9, 31), (3, 1)]) [desc win0 4 2 4 3, desc (win0 + 0x200) 4 2 4 3]
    let u := bayMod (running 0) 0 (fun b => { b with jointerQ := [j], store := [(0, 9), (4, 3)] })
    runningEntry s 0 .dma 7 = some e ∧ issuesAs e.word = .copy ∧ pbLogical s 0 = some 0 ∧ Q.pe e.word = false ∧
    ownOff 0 e.ra.toNat (64 * Q.opt e.word) = some 0x400 ∧ ownOff 0 e.rb.toNat (64 * Q.opt e.word) = some 0x800 ∧
    runningEntry u 0 .jointer 7 = some j ∧ rowsWait u 0 (jointerRanges u 0 7) = false ∧ (runJointer pb0 j u).2 = none := by decide +kernel

/-- Loads and stores of the own store at its two ends, and a misaligned one (R191). -/
theorem test_load_store_hypotheses :
    (∀ x ∈ ([(.ld, word 0x20 0 [(47, 3), (42, 1), (39, 3)], 8, 8, false), (.lds, word 0x20 1 [(47, 3), (42, 1)], 1, 1, false),
        (.vld, word 0x22 0 [(47, 3), (42, 1), (39, 6)], 64, 64, false), (.dld, word 0x26 0 [(47, 3), (42, 1)], 24, 8, false),
        (.st, word 0x21 0 [(47, 3), (42, 1), (39, 2)], 4, 4, true), (.vst, word 0x23 0 [(47, 3), (42, 1), (39, 4)], 16, 16, true),
        (.dst, word 0x26 1 [(47, 3), (42, 1)], 24, 8, true)] : List (Op × Word64 × Nat × Nat × Bool)),
      ∀ off ∈ ([0, storeSize - 64] : List Nat),
        let s := running x.2.1 { s := [(1, BitVec.ofNat 64 (win0 + off))] }
        let a := ((handGet s pb0).regs.getS (MEM.ra x.2.1) + (x.2.1.extractLsb' 0 32).signExtend 64).toNat
        issues s pb0 x.1 x.2.1 = true ∧ ownOff (ownNum s 0) a x.2.2.1 = some off ∧ a % x.2.2.2.1 = 0 ∧ storeFloor s pb0 ≤ off ∧
          storeBusy s 0 off x.2.2.1 x.2.2.2.2 = false) ∧
    (∀ x ∈ ([(.ld, word 0x20 0 [(42, 1), (39, 1)], 2), (.lds, word 0x20 1 [(42, 1), (39, 1)], 2), (.st, word 0x21 0 [(42, 1), (39, 2)], 4),
        (.vld, word 0x22 0 [(42, 1), (39, 4)], 16), (.vst, word 0x23 0 [(42, 1), (39, 4)], 16)] : List (Op × Word64 × Nat)),
      let s := running x.2.1 { s := [(1, BitVec.ofNat 64 (win0 + 1))] }
      issues s pb0 x.1 x.2.1 = true ∧ ownOff (ownNum s 0) (win0 + 1) x.2.2 = some 1 ∧ (win0 + 1) % x.2.2 ≠ 0) := by decide +kernel

/-- Peg signals and waits in the partition's range and outside it, satisfied and not (R240, R244, R245). -/
theorem test_peg_hypotheses :
    let st := fun (w : Word64) (p : Peg) => ({ running w with pegs := [(70, p)] } : State)
    let pa := word 0x2C 0 [(47, 3), (25, 70), (20, 1), (0, 2)]
    let ps := word 0x2C 1 [(47, 3), (25, 70), (20, 1), (0, 2)]
    let pw := word 0x2D 0 [(47, 3), (25, 70), (20, 1), (0, 5)]
    let py := word 0x2D 1 [(47, 3), (25, 64), (21, 15), (20, 1), (0, 5)]
    let pr := word 0x2C 2 [(47, 3), (25, 70)]
    (∀ x ∈ ([(.padd, pa), (.pset, ps)] : List (Op × Word64)), ∀ p ∈ ([{ count := 0xFFFFFFFF }, { poison := true }] : List Peg),
      issues (st x.2 p) pb0 x.1 x.2 = true ∧ ownsPeg (st x.2 p) 1 (pgPeg x.2 {}) = true ∧ writesPending (st x.2 p) 0 = false) ∧
    (∀ x ∈ ([(.padd, 0x2C, 0), (.pset, 0x2C, 1), (.parrive, 0x2C, 2), (.pwait, 0x2D, 0), (.pcount, 0x2F, 0), (.ptarget, 0x2F, 1),
        (.pstamp, 0x2F, 2)] : List (Op × Nat × Nat)), ∀ n ∈ ([63, 128] : List Nat),
      let w := word x.2.1 x.2.2 [(47, 3), (25, n)]
      issues (running w) pb0 x.1 w = true ∧ ownsPeg (running w) 1 n = false) ∧
    (∀ c ∈ ([4, 5] : List Nat), issues (st pw { count := BitVec.ofNat 32 c }) pb0 .pwait pw = true ∧ issues (st py { count := BitVec.ofNat 32 c }) pb0 .pwany py = true) ∧
    (∀ k, k ≤ 15 → ownsPeg (running py) 1 (64 + k) = true) ∧
    (∀ c ∈ ([0, 2] : List Nat), issues (st pr { count := BitVec.ofNat 32 c, target := 2 }) pb0 .parrive pr = true ∧
      (handGet (st pr {}) pb0).arrived = false) ∧
    (handGet (handMod (running 0) pb0 (fun c => { c with wait := .released 3 5 false })) pb0).wait = .released 3 5 false ∧
    (handGet (handMod (running 0) pb0 (fun c => { c with wait := .poisoned })) pb0).wait = .poisoned := by decide +kernel

/-- TWAIT behind, at and ahead of working time, a context that waits for it, and the special registers (R241, R208). -/
theorem test_time_hypotheses :
    let tw := word 0x2E 1 [(42, 1)]
    let at_ := fun (x : Nat) (y : Nat) => ({ running tw { s := [(1, BitVec.ofNat 64 x)] } with tb := { a := { time := y } } } : State)
    let rel := fun (x y : Nat) => (x + 2 ^ 32 - workTime (at_ x y) % 2 ^ 32) % 2 ^ 32
    (∀ x ∈ ([(5, 5), (4, 5), (0xFFFFFFFF, 0x7FFFFFFE)] : List (Nat × Nat)), issues (at_ x.1 x.2) pb0 .twait tw = true) ∧
    (5 : Nat) = workTime (at_ 5 5) % 2 ^ 32 ∧ 2 ^ 31 < rel 4 5 ∧ 0 < rel 6 5 ∧ rel 6 5 < 2 ^ 31 ∧ rel 0x7FFFFFFF 0 < 2 ^ 31 ∧
    reached (workTime (at_ 0 7)) 7 = true ∧
    (∀ sr, sr ≤ 10 → let w := word 0x30 0 [(47, 3), (32, sr)]; issues (running w) pb0 .mfsr w = true ∧ flagsBusy (running w) pb0 = false) ∧
    (let w := word 0x30 1 [(42, 1)]; issues (running w { s := [(1, 0x13F)] }) pb0 .mtsr w = true) := by decide +kernel

/-- PLBDONE with the golden signature and with another (R242). -/
theorem test_plumb_hypotheses :
    let w := word 0x30 0x12 []
    let s := plumbing w
    let u := regPut s Reg.SAFETY_PLUMB_GOLD 5
    issues s pb0 .plbdone w = true ∧ issues u pb0 .plbdone w = true ∧ pbLogical s 0 = some 0 ∧ s.waitWrites = [] ∧
    (handGet s pb0).plumbSig.toNat = pairGet (pairPut s (Reg.BAY_PLUMBSIG 0) 0) Reg.SAFETY_PLUMB_GOLD ∧
    (handGet u pb0).plumbSig.toNat ≠ pairGet (pairPut u (Reg.BAY_PLUMBSIG 0) 0) Reg.SAFETY_PLUMB_GOLD := by decide +kernel

/-- A panel of the plumb ROM that is good, and one that fails each check (R171–R173). -/
theorem test_panel_hypotheses :
    let panel := fun (res id : Nat) => let l := List.replicate 56 (0 : Byte)
      l ++ leBytes 2 res ++ leBytes 2 id ++ leBytes 4 (crc32c (l ++ leBytes 8 0)).toNat
    let s := fun (p : List Byte) => ({ plumbing 0 with
      bays := [(0, { st := .plumb, main := { active := true, progid := 0xFFFF } })], plumbRom := putBytes [] 0 p } : State)
    let rd := fun (p : List Byte) => (List.range 64).map (fun k => tabGet 0 (s p).plumbRom k)
    let good := fun (p : List Byte) => (leAt (rd p) 60 4 = (crc32c ((rd p).take 56 ++ leBytes 8 0)).toNat : Bool)
    issuing (bayGet (s (panel 0 0xFFFF)) 0) (handGet (s (panel 0 0xFFFF)) pb0) = true ∧ good (panel 0 0xFFFF) = true ∧
    leAt (rd (panel 0 0xFFFF)) 58 2 = 0xFFFF ∧ good (1 :: (panel 0 0xFFFF).drop 1) = false ∧
    good (panel 1 0xFFFF) = true ∧ leAt (rd (panel 1 0xFFFF)) 56 2 ≠ 0 ∧ good (panel 0 0) = true ∧ leAt (rd (panel 0 0)) 58 2 = 0 ∧
    good (panel 0 7) = true ∧ leAt (rd (panel 0 7)) 58 2 = 7 := by decide +kernel

/-- A TRAP of a job's bay with no fault recorded yet, with and without an earlier fault of the job (R203, R204). -/
theorem test_fault_hypotheses :
    let w := word 0xD 0 [(0, 0x5A)]
    let s := running w
    issues s pb0 .trap w = true ∧ (bayGet s 0).st = .running ∧ pbLogical s 0 = some 0 ∧ regBit s (Reg.BAY_FAULT 0) 31 = false ∧
    (dowelGet s (slotOf (handGet s pb0).handle)).faultBy = none ∧
    (dowelGet (dowelMod s 1 (fun d => { d with faultBy := some (3, 0xA01) })) 1).faultBy = some (3, 0xA01) := by decide +kernel

/-- A word with a reserved bit set issues, and is ILLEGAL 0x03 (R205, R206), here for every instruction without an immediate; and the
two kinds of word that no instruction has. -/
theorem test_illegal_hypotheses :
    (∀ x ∈ (scalarWords ++ vectorWords).filter (fun x => x.2.toNat % 2 ^ 17 = 0 && decide (x.1 ≠ .addi)),
      let w := x.2 ||| 0x10000#64
      issuable (running w) pb0 x.1 w = true ∧ illegalOf pb0 x.1 (handGet (running w) pb0) w = some 3) ∧
    illegalSub (word 0x3F 0 []) false 0 = some 1 ∧ illegalSub (word 0 0x3F []) false 0 = some 2 := by decide +kernel

/-- END of a bay whose queues are empty, and of one with a transfer outstanding (R209). -/
theorem test_end_hypotheses :
    let w := word 0xE 0 []
    let s := running w
    let u := bayMod s 0 (fun b => { b with dmaQ := [entry copyWord] })
    issues s pb0 .endP w = true ∧ (bayGet s 0).st = .running ∧ (bayGet s 0).entries = [] ∧ (bayGet s 0).filler.active = false ∧
    issues u pb0 .endP w = true ∧ (bayGet u 0).dmaQ ≠ [] := by decide +kernel

/-! ## The command processor -/

/-- The device with LB0–LB3 and LB33 mapped, the tables of partition 1, ring 0 of partition 1 enabled with 16 entries at 0x8000, and
memory as given. -/
def dev (mem : List Host.Cell := []) : State :=
  { running 0 with
    bays := [], cmd := {}, bayMap := [(0, 1), (1, 2), (2, 3), (3, 4), (33, 5)]
    mem := mem
    regs := [(Reg.CMDPROC_RING_BASE 1 0, 0x8000), (Reg.CMDPROC_RING_CFG 1 0, 0x80000400)] }

/-- A descriptor of partition 1: its kind and what else it holds (R294), with its check word. -/
def submission (kind : Nat) (fields : List (Nat × Nat × Nat)) : List Byte :=
  checked (bytesOf 124 (fields ++ [(0, 1, kind), (2, 1, 1), (6, 1, 0xFF)]))

/-- A job on LB0 and LB1 with its program at 0x1000. -/
def job01 : List Byte := submission 1 [(4, 1, 2), (8, 8, 0x1000), (16, 8, 0x2000)]

/-- What the commit of a submission reads, as the statements say it. -/
def readAt (s : State) (a : Nat) : Option (List Byte) × State := readDesc (commitPair s (Reg.CMDPROC_SUBMIT 3) a) 1 a

theorem test_submission_checks :
    (∀ d ∈ ([job01, submission 1 [(4, 1, 2), (8, 8, 0x1001)], submission 1 [(4, 1, 2), (5, 1, 40)], submission 1 [(4, 1, 2), (24, 4, 0x80000000)],
      submission 2 [(6, 1, 0), (96, 8, 0x20000), (104, 1, 3)], submission 3 [(16, 8, 0x2000)], submission 4 [(16, 8, 0x2000)]] : List (List Byte)),
      checkOk d = true) ∧ checkOk (1 :: job01.drop 1 |>.dropLast) = false := by
  simp only [checkOk_fast]
  decide +kernel

/-- A submission through window 3 that each test of R300 turns away. -/
theorem test_rejected_hypotheses :
    let a := 0x10000
    let ok := fun (s : State) => (reaches s 0x11 (Reg.CMDPROC_SUBMIT 3) true && decide (windowOwner s 3 = some 1) : Bool)
    let fmt := fun (s : State) (d : List Byte) => (dsFormatOk a d && (decide (dsKind d ≠ 1) || decide (leAt d 3 1 < recKclasses s 1)) : Bool)
    let s := fun (d : List Byte) => dev (cells a d)
    let bad := submission 1 [(4, 1, 2), (8, 8, 0x1001)]
    let far := submission 1 [(4, 1, 2), (5, 1, 40)]
    let late := submission 1 [(4, 1, 2), (24, 4, 0x80000000)]
    ok (dev []) = true ∧ (readAt (dev []) 0x200000000).1 = none ∧ (readAt (dev []) 0x200000001).1 = none ∧
    (readAt (s (1 :: job01.drop 1 |>.dropLast)) a).1.isSome = true ∧
    (readAt (s bad) a).1 = some bad ∧ fmt (s bad) bad = false ∧
    (readAt (s far) a).1 = some far ∧ fmt (s far) far = true ∧ dsPartitionOk (s far) 1 far = false ∧
    (readAt (s late) a).1 = some late ∧ fmt (s late) late = true ∧ dsPartitionOk (s late) 1 late = true ∧
    deadlinePast (s late) late = true ∧ kindAt (s late) a = 1 := by decide +kernel

/-- A job that passes every test, with the quota used up. -/
theorem test_quota_hypotheses :
    let a := 0x10000
    let s : State := { dev (cells a job01) with cmd := { slots := (List.range 16).map (fun k => (k, { st := .doneOk, part := 1 })) } }
    let q := (readAt s a).2
    (readAt s a).1 = some job01 ∧ dsFormatOk a job01 = true ∧ dsPartitionOk q 1 job01 = true ∧
    deadlinePast q job01 = false ∧ dowelQuota q 1 < dowelsInUse q 1 + 1 := by decide +kernel

/-- A submission of each kind that passes every test; a swap and a flip of a named region, and of none (R360, R596). -/
theorem test_accepted_hypotheses :
    let a := 0x10000
    let acc := fun (d args : List Byte) => let s := dev (cells 0x2000 args ++ cells a d)
      (reaches s 0x11 (Reg.CMDPROC_SUBMIT 3) true && decide (windowOwner s 3 = some 1) &&
        (match readAt s a with
         | (some e, s2) => decide (e = d) && decide (dsTest s2 1 a d = none) &&
             decide (dowelsInUse s2 1 + (if dsKind d = 2 then dsChildCount d else 1) ≤ dowelQuota s2 1) &&
             decide (freeRun s2 (if dsKind d = 2 then dsChildCount d else 1) = some 0) && decide (kindAt s a = dsKind d)
         | _ => false) : Bool)
    let batch := submission 2 [(6, 1, 0), (96, 8, 0x20000), (104, 1, 3)]
    let swap := submission 3 [(16, 8, 0x2000)]
    let flip := submission 4 [(16, 8, 0x2000)]
    let named := fun (d args : List Byte) => takeSlot (dev (cells 0x2000 args ++ cells a d)) 0 (dowelOf (dev []) .job 3 1 d)
    acc job01 [] = true ∧ acc batch [] = true ∧ acc swap [5] = true ∧ acc flip [1, 0] = true ∧
    (swapGroupOf (named swap [5]) 1 (dsArgs swap)).1 = some 5 ∧ (swapGroupOf (named swap [16]) 1 (dsArgs swap)).1 = none ∧
    (flipPlaneOf (named flip [1, 0]) 1 (dsArgs flip)).1 = some 6 ∧ (flipPlaneOf (named flip [4, 0]) 1 (dsArgs flip)).1 = none ∧
    (updGet (dev []) (swapRegion 1 5)).running = none ∧
    (updGet { dev [] with cmd := { upds := [(swapRegion 1 5, { running := some 9 })] } } (swapRegion 1 5)).running = some 9 := by
  simp only [dsTest, checkOk_fast]
  decide +kernel

/-- A dowel of partition 1 in slot 2, generation 1. -/
def withDowel (d : Dowel) : State := { dev [] with cmd := { slots := [(2, { d with part := 1, gen := 1 })] } }

/-- Handles that are current and not, in each state that a cancel or a release asks for, and pegs that are poisoned and not. -/
theorem test_ticket_dowel_peg_hypotheses :
    (∀ a ∈ ([Reg.CMDPROC_TICKET 63, Reg.DOWEL_QUERY 1, Reg.DOWEL_CANCEL 1, Reg.DOWEL_RELEASE 1, Reg.PEG_COUNT 2047, Reg.PEG_ADD 2047,
        Reg.PEG_STATUS 2047] : List Addr), reaches (dev []) 0x11 a true = true ∧ reaches (dev []) 0x11 a false = true) ∧
    (∀ d ∈ ([{ st := .queued }, { st := .running }, { st := .doneOk }, { st := .queued, kind := .swap 5 }, { st := .queued, kind := .flip 6 },
        { st := .queued, kind := .swap 5, updating := true }] : List Dowel),
      slotOf 0x10002 = 2 ∧ (dowelGet (withDowel d) 2).gen = 0x10002 / 65536 ∧ (dowelGet (withDowel d) 2).part = 1 ∧
        0 < (dowelGet (withDowel d) 2).gen ∧ (dowelGet (withDowel d) 2).ending = none) ∧
    (dowelGet (withDowel {}) 2).gen ≠ 0x20002 / 65536 ∧
    (pegGet { dev [] with pegs := [(2047, { poison := true })] } 2047).poison = true ∧ (pegGet (dev []) 0).poison = false := by
  decide +kernel

/-- A batch whose next child, in slot 4, is cancelled, unreadable, or readable and failing each test, or passing. -/
theorem test_child_hypotheses :
    let c := 0x20080
    let b : Batch := { base := 3, part := 1, children := 0x20000, count := 3, next := 1 }
    let s := fun (st : DSt) (d : List Byte) => ({ dev (cells c d) with
      cmd := { batches := [b], slots := [(4, { st := st, kind := .child, gen := 1, part := 1 })] } } : State)
    let found := fun (s : State) => s.cmd.batches.find? (fun b => decide (b.base + b.next = 4))
    let test := fun (d : List Byte) => (readDesc (batchNext b (s .queued d)) 1 c).1.bind (fun e => dsTest (batchNext b (s .queued d)) 1 c e)
    found (s .queued []) = some b ∧ found (s .cancelled []) = some b ∧ (dowelGet (s .cancelled []) 4).st ≠ .queued ∧
    (dowelGet (s .queued []) 4).st = .queued ∧
    (readDesc (batchNext b { dev [] with cmd := { batches := [b] }, boot := {} }) 1 c).1 = none ∧ b.children + 128 * b.next = c ∧
    test (job01.take 127) = some 1 ∧ test (submission 1 [(4, 1, 2), (24, 4, 0x80000000)]) = some 4 ∧
    test (submission 1 [(4, 1, 2), (5, 1, 40)]) = some 3 ∧ test (submission 1 [(4, 1, 2), (8, 8, 0x1001)]) = some 6 ∧
    test (submission 2 [(6, 1, 0), (96, 8, 0x20000), (104, 1, 3)]) = none ∧ dsKind (submission 2 [(6, 1, 0), (96, 8, 0x20000), (104, 1, 3)]) = 2 ∧
    test job01 = none ∧ dsKind job01 = 1 := by
  simp only [dsTest, checkOk_fast]
  decide +kernel

/-! ## Jobs, partitions, kerfs and girts -/

/-- The job of `job01` in slot 2, in a given state. -/
def jobIn (d : Dowel) : State := withDowel { d with desc := job01 }

/-- A job that may start, that has ended with and without gating, that is decided, that has faulted, that waits for its replay, and
that has reached its common start (R309, R373, R431, R464, R658). -/
theorem test_job_hypotheses :
    let start := jobIn { st := .queued, waitOk := 15 }
    let ended := jobIn { st := .running, ended := true, dist := some 5, endNs := 9 }
    let gated : State := { dev [] with
      cmd := { slots := [(2, { desc := job01.set 6 5, part := 1, gen := 1, st := .running, ended := true })] }
      part := { (dev []).part with beats := [(1, { gate := true })] } }
    let replay := jobIn { st := .running, replayDue := true, journal := [(70, 3, false)] }
    let span : State := { jobIn { st := .queued, startAt := some 5, asked := true } with tb := { a := { time := 5 } } }
    (schedule start 1).2.contains 2 = true ∧ spans start (dowelGet start 2) = false ∧
    (needHere start (dowelGet start 2)).all (bayIsFree start) = true ∧ lbPhys start 0 = some 0 ∧ lbPhys start 1 = some 1 ∧
    jobEnded ended 2 (dowelGet ended 2) = true ∧ gateInForce ended 1 = false ∧
    jobEnded gated 2 (dowelGet gated 2) = true ∧ gateInForce gated 1 = true ∧ dsAge (dowelGet gated 2).desc ≠ 0xFF ∧
    jobHands (jobIn { st := .running, ending := some .doneOk }) (handleOf (jobIn {}) 2) = [] ∧
    (dowelGet (jobIn { st := .running, faultBy := some (1, 0x503) }) 2).faultBy = some (1, 0x503) ∧
    replayReady replay 2 = true ∧ isFiller replay (dowelGet replay 2) = false ∧ replay.fc.colls = [] ∧
    reached (workTime span) 5 = true := by decide +kernel

/-- A filler job whose two bays run the bound render job (R589). -/
theorem test_filler_hypotheses :
    let s : State := { jobIn { st := .queued, waitOk := 15 } with
      regs := [(Reg.GFX_CFG, 0x80080000)], gfx := { bound := 0x10005 }
      bays := [(0, { st := .running, main := { active := true, handle := 0x10005 } }), (1, { st := .running, main := { active := true, handle := 0x10005 } })] }
    fillerReady s 2 = true ∧ dsBays (dowelGet s 2).desc = 2 ∧ dsFirst (dowelGet s 2).desc = 0 := by decide +kernel

/-- A ring that is disabled, full, and with room at its highest producer index (R314, R317). -/
theorem test_ring_hypotheses :
    let full := regPut (regPut (dev []) (Reg.CMDPROC_RING_PI 1 0) 5) (Reg.CMDPROC_RING_CI 1 0) 0x1FFF5
    let last := regPut (regPut (dev []) (Reg.CMDPROC_RING_PI 1 0) 0x1FFFF) (Reg.CMDPROC_RING_CI 1 0) 0x1FFFF
    regBit (dev []) (Reg.CMDPROC_RING_CFG 1 7) 31 = false ∧ regBit full (Reg.CMDPROC_RING_CFG 1 0) 31 = true ∧
    regFld full (Reg.CMDPROC_RING_CFG 1 0) 8 5 = 4 ∧ (5 + 2 ^ 17 - 0x1FFF5) % 2 ^ 17 = 2 ^ 4 ∧
    regFld full (Reg.CMDPROC_RING_PI 1 0) 0 17 = 5 ∧ regFld full (Reg.CMDPROC_RING_CI 1 0) 0 17 = 0x1FFF5 ∧
    regFld last (Reg.CMDPROC_RING_PI 1 0) 0 17 = 0x1FFFF ∧ (accessCheck last 1 7 .write 0x81E0 32).1 = .ok false ∧
    homeOf (accessCheck last 1 7 .write 0x81E0 32).2 0x81E0 32 = .dram := by decide +kernel

/-- An accepted sealed command in slot 9, whose dowel and updates are given. -/
def sealedState (code : Nat) (payload : List Byte) (rest : State := {}) : State :=
  { rest with
    sealU := { rest.sealU with accepted := some { frame := { src := 0, bytes := [0, BitVec.ofNat 8 code] }, payload := payload, slot := 9 } }
    cmd := { rest.cmd with slots := [(9, { gen := 1, st := .running, kind := .sealed code })] } }

/-- What `sealedState` waits with. -/
theorem sealedState_waits (code : Nat) (payload : List Byte) (rest : State) (h : code < 256) :
    sealedWaits (sealedState code payload rest) code { frame := { src := 0, bytes := [0, BitVec.ofNat 8 code] }, payload := payload, slot := 9 } := by
  refine ⟨rfl, ?_⟩
  simp [leAt, bytesAt, leVal]
  omega

/-- PARTITION_CONFIG operations that name their partition and pass every test, one that fails a test, and one that names none (R348). -/
theorem test_config_accept_hypotheses :
    let l := List.replicate 512 (0 : Byte)
    let s := sealedTaken (sealedState 1 ([1, 3, 0, 0] ++ l))
    let u := dowelMod s 9 (fun d => { d with kind := .config 0 3, payload := l })
    twinJoined s = false ∧ leAt ([1, 3, 0, 0] ++ l) 0 1 = 0 + 1 ∧ leAt ([1, 3, 0, 0] ++ l) 1 1 = 3 ∧ configTest u 0 3 l = none ∧
    configTest u 0 3 (l.set 0 1) = some 2 ∧ leAt ([2, 3, 0, 0] ++ l) 0 1 ≠ 0 + 1 ∧ leAt ([3, 0, 0, 0] ++ l) 0 1 = 2 + 1 ∧
    configTest u 2 0 (List.replicate 128 0) = none := by decide +kernel

theorem test_config_regions_hypotheses :
    let l := checked (bytesOf 524 [(512, 1, 3)])
    configTest (sealedTaken (sealedState 1 [])) 1 3 l = none ∧ l.length = 528 ∧
    configTest (sealedTaken (sealedState 1 [])) 1 3 (List.replicate 528 0) = some 0x0A := by
  simp only [configTest, checkOk_fast]
  decide +kernel

/-- A running operation that is ready, and passes or fails its tests again; swap groups of two entries and of none; the checks, a
zeroing that is due, and a table that does not verify (R349, R354, R360, R403, R48). -/
theorem test_config_apply_hypotheses :
    let l := List.replicate 512 (0 : Byte)
    let s : State := { cmd := { upds := [(3, { running := some 9 })], slots := [(9, { gen := 1, st := .running, kind := .config 0 3, payload := l })] } }
    let rt : Tab Byte := [(8, 0xFF), (12, 0x83), (13, 0xFF), (14, 0x05), (25, 0x02), (28, 0x8C), (29, 0xFF), (30, 0x05)]
    let sw : State := { part := { regions := [(1, rt)] }, cmd := { upds := [(swapRegion 1 5, { running := some 9 })] } }
    let z : State := { part := { zeroing := [(.bay 3, 1), (.granule 95, 2)], zeroDue := [9, 5], checks := 99 }, tb := { elapsed := 2000000 } }
    atBeat s 3 = true ∧ (updGet s 3).running = some 9 ∧ (dowelGet s 9).kind = .config 0 3 ∧ configReady s 0 3 l = true ∧
    configTest s 0 3 l = none ∧ configTest s 0 3 (l.set 0 1) ≠ none ∧ configReady s 0 3 (l.set 0 1) = true ∧
    groupEntries sw 1 5 = [0, 1] ∧ (groupEntries s 1 5).length ≠ 2 ∧ atBeat sw 1 = true ∧ (updGet sw 1).running = none ∧
    (updGet sw (swapRegion 1 5)).running = some 9 ∧
    z.part.checks < z.tb.elapsed / 10000 ∧ (∀ p, p < 8 → (updGet z p).running = none) ∧ recBeat z 1 = 0 ∧
    100 ≤ z.part.checks + 1 - tabGet 0 z.part.contestCheck 1 ∧
    zeroAt z (.granule 95) = some 1 ∧ z.part.zeroDue.getD 1 0 ≤ z.tb.elapsed ∧
    reaches (dev []) 0x11 (Reg.PART_CTRL 7) true = true ∧ twinJoined (dev []) = false := by decide +kernel

theorem test_table_scan_hypotheses :
    let s : State := { part := { tableHeld := true } }
    s.part.tableBad = false ∧ (∀ p, p < 8 → tabGet false s.part.regionsHeld p = false) ∧
    checkOk ((List.range 4368).map (tabGet 0 s.part.table)) = false := by
  refine ⟨rfl, by decide, ?_⟩
  rw [checkOk_fast]
  decide +kernel

/-- A first and a later beat that are due, and the end of an entry that is not the last, and of the last (R353, R372). -/
theorem test_beat_hypotheses :
    let s : State := { dev [] with tb := { elapsed := 5 } }
    let at_ := fun (b : BeatSt) (ns : Nat) => ({ dev [] with tb := { elapsed := ns }, part := { (dev []).part with beats := [(1, b)] } } : State)
    let later := at_ { started := true, startNs := 5, tail := false } 1000005
    beatDue s 1 = true ∧ beatDue later 1 = true ∧ twinJoined s = false ∧ (updGet s 1).running = none ∧
    (∀ g, g < 16 → (updGet s (swapRegion 1 g)).running = none) ∧ recNkerf s 1 = 2 ∧
    (beatGet (at_ { tail := false } 430000) 1).tail = false ∧
    (∀ e, e < 2 → schedLen s 1 e * 10000 ≤ 430000) ∧ (beatGet (at_ { tail := false, entry := 1 } 430000) 1).entry = 1 := by decide +kernel

/-- A bay that has drained, one that drains for too long, one that saves and one that restores (R378, R382). -/
theorem test_switch_hypotheses :
    let b := fun (f : Bay → Bay) => { bayMod (running 0) 0 f with tb := { elapsed := 700000000 } }
    let d := b (fun b => { b with drain := true })
    let sv := b (fun b => { b with st := .saving })
    let rs : State := { b (fun b => { b with st := .restoring, incoming := 1 }) with
      part := { (running 0).part with images := [(0, { hand := { active := true, handle := 0x10001 } })] } }
    (bayGet d 0).st = .running ∧ (bayGet d 0).drain = true ∧ (bayGet d 0).entries = [] ∧ (bayGet d 0).main.ended = false ∧
    (bayGet d 0).overrun = false ∧ (bayGet d 0).phaseSince + regFld d (Reg.PART_KERF_CFG 1) 0 16 * 10000 < d.tb.elapsed ∧
    (bayGet sv 0).st = .saving ∧ pbLogical sv 0 = some 0 ∧ (bayGet sv 0).main.active = true ∧ (bayGet sv 0).filler.active = false ∧
    sv.waitWrites = [] ∧ (dowelGet sv 1).ending = none ∧ (dowelGet sv 1).replayDue = false ∧
    (bayGet rs 0).st = .restoring ∧ fillerWith rs 1 0 = none ∧ imageBase rs 1 0 0 = 0 ∧
    slotOf (tabGet {} rs.part.images 0).hand.handle = (bayGet rs 0).incoming ∧ (dowelGet rs 1).ending = none := by decide +kernel

/-- A window and a wheel slot that are due, a grant, and two requests of different levels (R364–R369). -/
theorem test_girt_hypotheses :
    let s : State := { tb := { ticks := 2500 }, part := { table := [(0, 0x8A), (65, 0x91)] } }
    let g : State := { part := { table := record1 ++ [(1040, 0xFF), (1043, 0x15)] } }
    s.part.windows < s.tb.ticks / 2500 ∧ s.part.wheelSlots < s.tb.ticks / 32 ∧ (s.part.wheelSlots + 1) % 64 ≠ 0 ∧
    slotOwner s 0 = some (1, 2) ∧ slotOwner s 1 = none ∧ (girtGet s 1 0 2).forfeited = false ∧
    girtLevel g 3 0 0 < girtLevel g 1 0 2 := by decide +kernel

/-! ## Repair and safety -/

/-- A job's bay, a plumb run, a substitution that has reached its retirement point with a spare and without, a spare, a jointer in use,
and a row of the patrol with a spare row left and without (R106, R428, R429, R438, R443). -/
theorem test_repair_hypotheses :
    let b := running 0
    let x : Subst := { lb := 0, pb := 0, cause := 1, spare := some 9, passed := true }
    let sub := fun (y : Subst) => ({ dev [] with repair := { substs := [y] } } : State)
    let j : State := { bayPut (dev []) 0 { st := .running, main := { active := true }, jointerQ := [entry 0] } with jmap := [(0, 1), (1, 2)] }
    let p := fun (n : Nat) => ({ dev [] with
      regs := [(Reg.GLOBAL_PATROL_CFG, 0x80020000)]
      repair := { patrolRow := [(3, 10239)], rowsUsed := [(319, n)] } } : State)
    (bayGet b 0).st = .running ∧ pbLogical b 0 = some 0 ∧ (∀ e ∈ ({ b with cmd := {} } : State).cmd.slots, e.2.st ≠ .running) ∧
    (bayGet (plumbing 0) 0).st = .plumb ∧
    (sub x).repair.substs.find? (fun y => decide (y.lb = 0)) = some x ∧
    (sub { x with spare := none }).repair.substs.find? (fun y => decide (y.lb = 0)) = some { x with spare := none } ∧
    freeSpare (dev []) 35 = true ∧ (bayGet (dev []) 35).st = .idle ∧
    jointerBent j 0 = some 0 ∧ jointerBusy j 0 = true ∧
    (List.range 9).find? (spareJointer { j with jointers := tabPut {} j.jointers 0 { tabGet {} j.jointers 0 with retired := true } }) = some 2 ∧
    regBit (p 3) Reg.GLOBAL_PATROL_CFG 31 = true ∧ patrolBay (p 3) 3 = true ∧ tabGet 0 (p 3).repair.patrolRow 3 = 10239 ∧
    tabGet 0 (p 3).repair.rowsUsed (80 * 3 + 10239 / 128) = 3 ∧ tabGet 0 (p 4).repair.rowsUsed (80 * 3 + 10239 / 128) = 4 := by
  decide +kernel

/-- The sealed commands on the repair log and the grade, accepted and refused (R441, R442, R424). -/
theorem test_repair_command_hypotheses :
    let st := fun (c : Nat) (p : List Byte) (life : Nat) => sealedState c p { regs := [(Reg.GLOBAL_LIFECYCLE, BitVec.ofNat 32 life), (Reg.GLOBAL_GRADE, 0x50000)] }
    (st 2 [] 2).repair.burning = none ∧ repairTest (sealedTaken (st 2 [] 2)) [1, 1, 5, 0, 0, 0, 0, 0] = none ∧
    repairTest (sealedTaken (st 2 [] 2)) [1, 4, 5, 0, 0, 0, 0, 0] = some 0x3102 ∧ repairTest (sealedTaken (st 2 [] 1)) [] = some 0x3103 ∧
    repairLife (st 10 [5] 1) = false ∧ repairLife (st 10 [5] 3) = true ∧ leAt [5] 0 1 = regFld (st 10 [5] 3) Reg.GLOBAL_GRADE 16 8 ∧
    leAt [6] 0 1 ≠ regFld (st 10 [6] 3) Reg.GLOBAL_GRADE 16 8 ∧ regBit (st 10 [5] 3) Reg.GLOBAL_GRADE 2 = false := by decide +kernel

/-- Plumb runs that are due, owed and held for, and not seen (R460–R465). -/
theorem test_plumb_schedule_hypotheses :
    let s : State := { dev [] with tb := { elapsed := 2000000000 }, part := { (dev []).part with beats := [(1, { started := true })] } }
    let early : State := { s with part := { s.part with plumbed := [0] } }
    let held := fun (l : List Nat) => withDowel { st := .running, held := true, gateLeft := l }
    let noBeat : State := { dev [] with tb := { elapsed := 4000000000 }, part := { (dev []).part with table := [(768, 8)] } }
    pbLogical s 0 = some 0 ∧ bayOwner s 0 = some 1 ∧ bayIdle s 0 = true ∧ gateOwed s 0 = false ∧ plumbDue s 1 0 = true ∧
    bayIdle early 0 = true ∧ gateOwed early 0 = false ∧ plumbDue early 1 0 = false ∧
    (dowelGet (held [3]) 2).gateLeft = [3] ∧ lbPhys (held [3]) 3 = some 3 ∧ bayIdle (held [3]) 3 = true ∧ (dowelGet (held []) 2).gateLeft = [] ∧
    bayOwner noBeat 3 = some 1 ∧ recBeat noBeat 1 = 0 ∧ (lbPhys noBeat 3).isSome = true ∧
    tabGet 0 noBeat.part.lateSince 3 ≠ tabGet 0 noBeat.part.lastPass 3 + 1 ∧
    tabGet 0 noBeat.part.lastPass 3 + 2 * (regFld noBeat (Reg.SAFETY_PLUMB_CFG 1) 0 10 * 1000000) ≤ noBeat.tb.elapsed := by decide +kernel

/-- An age event whose capture word is in DRAM, a gap over its limit, and samples of an input pair that agree and do not (R469–R474). -/
theorem test_age_hypotheses :
    let s : State := { dev [(0x9000, 0x11)] with safety := { ageDue := [(5, 0x9000)] }, tb := { a := { time := 70017 } } }
    let g : State := { dev [] with regs := [(Reg.SAFETY_AGE_CFG 5, 0x80000000), (Reg.SAFETY_AGE_LIMIT 5, 7)], tb := { a := { time := 70000 } } }
    let d : State := { dev [] with regs := [(Reg.SAFETY_DIN_CFG 3, 0x80000002)], safety := { din := [(3, { count := 1 })] } }
    homeOf s 0x9000 4 = .dram ∧ (∀ e ∈ g.safety.ageDue, e.1 ≠ 5) ∧ regBit g (Reg.SAFETY_AGE_CFG 5) 31 = true ∧
    regFld g (Reg.SAFETY_AGE_LIMIT 5) 0 20 * 1000 < (workTime g + 2 ^ 32 - (regGet g (Reg.SAFETY_AGE_ARRIVE 5)).toNat) % 2 ^ 32 ∧
    regBit d (Reg.SAFETY_DIN_CFG 3) 31 = true ∧ ¬(true = true ↔ regBit d (Reg.SAFETY_DIN_CFG 3) 30 = true) ∧
    (true = false ↔ regBit d (Reg.SAFETY_DIN_CFG 3) 30 = true) ∧
    (tabGet {} d.safety.din 3).count + 1 = regFld d (Reg.SAFETY_DIN_CFG 3) 0 16 ∧
    (tabGet {} (dev []).safety.din 3).count + 1 ≠ regFld d (Reg.SAFETY_DIN_CFG 3) 0 16 := by decide +kernel

/-- The first window of a clock that runs, a watched bay clock that stands still, and temperatures at both ends (R476–R478). -/
theorem test_monitor_hypotheses :
    tabGet false (dev []).safety.clkSkip 0x00A = false ∧ clockWatched (running 0) 0x20 = true ∧ clockOut (running 0) 0x20 0 = true ∧
    tabGet false (running 0).safety.clkSkip 0x20 = false ∧ tempOf (109 * 16 + 15) < 110 * 16 ∧ -45 * 16 ≤ tempOf (2 ^ 16 - 45 * 16) := by
  decide +kernel

/-- The safety island running and not, in safe state and not, with CRITICAL and other sources pending (R480–R494). -/
theorem test_safety_hypotheses :
    let s : State := { dev [] with safety := { run := true }, tb := { elapsed := 20000001 } }
    let p : State := { dev [] with safety := { srcs := [(3, { pend := true }), (0x117, { pend := true })] } }
    let safe : State := { dev [] with safety := { safe := true } }
    (∀ a ∈ ([Reg.SAFETY_KICK, Reg.SAFETY_CTRL, Reg.SAFETY_PSTOP, Reg.SAFETY_SWRAISE, Reg.SAFETY_SRC 511] : List Addr), reaches s 0x11 a true = true) ∧
    reaches s 0x10 Reg.SAFETY_KICK true = true ∧ s.safety.kickNs + 10000000 < s.tb.elapsed ∧
    pinsHeld s = false ∧ pinsHeld { s with safety := { s.safety with safe := true } } = true ∧
    (dev []).safety.run = false ∧ critPending (dev []) = false ∧ critOf (dev []) 7 = false ∧
    pendClass 3 (fsrc p 3) = some 2 ∧ pendClass 0x117 (fsrc p 0x117) ≠ some 2 ∧ critPending p = true ∧ critPending safe = false ∧
    leAt [3, 0] 0 2 = 3 ∧ leAt [0x17, 1] 0 2 = 0x117 := by decide +kernel

/-! ## The timebase -/

/-- Domains that are valid and expired and not, a step within the limit and beyond it, forced steps of each target (R504–R519). -/
theorem test_domain_hypotheses :
    let s : State := { dev [] with
      regs := [(Reg.TB_DOM_CFG 1, 2)]
      tb := { elapsed := 3000000, b := { valid := true, syncNs := 1000000, acq := false, step := some (-1001) } } }
    (∀ d, d < 2 → reaches s 0x11 (Reg.TB_DOM_SYNC d) true = true ∧ reaches s 0x11 (Reg.TB_DOM_STEP d) true = true) ∧
    (domGet s 1).valid = true ∧ (domGet s 0).valid = false ∧ regFld s (Reg.TB_DOM_CFG 1) 0 16 * 1000000 ≠ 0 ∧
    (domGet s 1).syncNs + regFld s (Reg.TB_DOM_CFG 1) 0 16 * 1000000 ≤ s.tb.elapsed ∧
    reaches s 0x11 Reg.TB_CTRL true = true ∧ pageLocked s Reg.TB_CTRL = false ∧ selDom s ≠ 1 ∧ workTime s < 2 ^ 32 ∧
    (domGet s 1).step = some (-1001) ∧ regFld s Reg.TB_JUMP_LIMIT 0 20 < (-1001 : Int).natAbs ∧
    (1000 : Int).natAbs ≤ regFld s Reg.TB_JUMP_LIMIT 0 20 ∧ (domGet s 0).acq = true ∧ s.tb.follow = none ∧
    regFld s Reg.TB_DECAY 0 20 ≤ 0xFFFFF ∧ topBit 0xFFFFFFFF = true ∧ topBit 0 = false ∧ s.tb.stepped = false ∧ s.tb.wrapDue = false := by
  decide +kernel

/-- Timestamp and capture records to pop, edges that are wanted and not, and pulse outputs that are armed, due and due again
(R523–R531). -/
theorem test_capture_hypotheses :
    let r : TsRec := { typ := 2, domain := 5, seq := 77, tsa := 3, tsb := 4 }
    let s : State := { dev [] with
      regs := [(Reg.TCAP_CFG 15, 0x80000010), (Reg.TPULSE_START 7, 100), (Reg.TPULSE_PERIOD 7, 30), (Reg.TPULSE_CFG 6, 0x80000000)]
      tb := { ticks := 9, a := { time := 1000 }, tsrx := [(3, [r])], tstx := [(0, [r])]
              tcap := [(14, { queue := List.replicate 8 { stamp := 1, rise := true } }), (15, { queue := [{ stamp := 1, rise := true }] })]
              tpulse := [(6, { next := 1000, armTick := 8 }), (7, { active := true, endTick := 9 })] } }
    (∀ p, p < 4 → reaches s 0x11 (Reg.TB_TSTX0 p) false = true ∧ reaches s 0x11 (Reg.TB_TSRX0 p) false = true) ∧
    tabGet [] s.tb.tsrx 3 = [r] ∧ tabGet [] s.tb.tstx 0 = [r] ∧ tabGet [] s.tb.tsrx 2 = [] ∧
    (tcapGet s 15).level = false ∧ regBit s (Reg.TCAP_CFG 15) 31 = true ∧ regFld s (Reg.TCAP_CFG 15) 4 1 = 1 ∧
    regFld s (Reg.TCAP_CFG 15) 5 1 ≠ 1 ∧ (tcapGet s 15).queue.length = 1 ∧ 8 ≤ (tcapGet s 14).queue.length ∧
    reaches s 0x11 (Reg.TCAP_HEAD 15) false = true ∧ reaches s 0x11 (Reg.TPULSE_CFG 7) true = true ∧
    regBit s (Reg.TPULSE_CFG 7) 31 = false ∧ reached (workTime s) 100 = true ∧ (regGet s (Reg.TPULSE_PERIOD 7)).toNat = 30 ∧
    regBit s (Reg.TPULSE_CFG 6) 31 = true ∧ reached (workTime s) (tpulseGet s 6).next = true ∧ (tpulseGet s 6).armTick < s.tb.ticks ∧
    (tpulseGet s 7).active = true ∧ (tpulseGet s 7).endTick ≤ s.tb.ticks := by decide +kernel

/-! ## Camera intake, graphics and display -/

/-- Context 0 takes RAW8 lines of 16 pixels from port 0, virtual channel 3: two lines a frame, a ring of four slots at 0x20000 with descriptors at 0x30000, and
a frame timeout of 3 ms. -/
def camera (x : CtxSt := {}) : State :=
  { dev [] with
    regs := [(Reg.INTAKE_PORT_CFG 0, 0x80000000), (Reg.INTAKE_CTX_CFG 0, 0x800C2A00), (Reg.INTAKE_CTX_SIZE 0, 0x00020010),
      (Reg.INTAKE_CTX_STRIDE 0, 1), (Reg.INTAKE_CTX_FSTRIDE 0, 0x1000), (Reg.INTAKE_CTX_RING 0, 4), (Reg.INTAKE_CTX_TEST 0, 0x02000101),
      (Reg.INTAKE_CTX_TRIG 0, 3), (Reg.INTAKE_CTX_BUF 0, 0x20000), (Reg.INTAKE_CTX_DESC 0, 0x30000)]
    intake := [(0, x)]
    tb := { elapsed := 3000000 } }

/-- A camera frame of context 0 after `k` lines, with its counter at word 0 of embedded data. -/
def frame (k : Nat) : Frame := { cfg := { ctxCfg (camera {}) 0 with cfg := 0x840C2A00 }, part := 1, no := 1, packets := k, got := List.range k }

/-- A frame start that is accepted and one that finds no slot; an open frame that ends, times out and does not, takes a line, a surplus
line and its counter; a closed frame with every line (R541–R563). -/
theorem test_camera_hypotheses :
    let s := camera { next := 1 }
    let full : State := { s with regs := tabPut 0 s.regs (Reg.INTAKE_CTX_RING 0) 0x80010001 }
    let open1 := camera { frame := some (frame 1) }
    let open2 := camera { frame := some (frame 2) }
    let line := List.replicate 16 (7 : Byte)
    portOn s 0 = true ∧ ctxsAt s 0 3 = [0] ∧ ctxOn s 0 = true ∧ ctxOwner s 0 = some 1 ∧ ctxLive s 0 = true ∧
    ringFree s 0 = true ∧ ringFree full 0 = false ∧
    (intakeWrite 1 (newFrame 0 1 9 s).desc (frameDesc 0 (newFrame 0 1 9 s) false 0 0 0) s).1 = true ∧
    openAt open1 0 3 = [0] ∧ fld (frame 1).cfg.trig 0 12 = 3 ∧ (frame 1).sofNs + 3 * 1000000 ≤ open1.tb.elapsed ∧
    reaches open1 0x11 (Reg.INTAKE_CTX_CFG 0) true = true ∧ pageLocked open1 (Reg.INTAKE_CTX_CFG 0) = false ∧
    lineTaker open1 0 3 0x2A = some 0 ∧ ((ctxsOn open1 0 3).filter (fun m => decide ((ctxCfg open1 m).dt = 0x2A))).length = 1 ∧
    (frame 2).cfg.lines = 2 ∧ lineTaker open2 0 3 0x2A = some 0 ∧ (storedLine (frame 1).cfg line).length = (frame 1).cfg.lb ∧
    (intakeWrite 1 ((frame 1).buffer + 1 * (frame 1).cfg.lstride) (storedLine (frame 1).cfg line) (takeFree open1).2).1 = true ∧
    (frame 1).cfg.cntsrc = 2 ∧ (frame 1).counter = none ∧ fld (frame 1).cfg.cfg 0 8 = 0 ∧
    (∀ l, l < 2 → l ∈ (frame 2).got) ∧ (frame 1).dead = false := by decide +kernel

/-- A render pass block: one draw at 0x50000, a 32 × 32 target of format 0 at 0x60000, mailboxes at store offset 0x10000, work pegs from
peg 64 on, a tile buffer in granule 0, no signature table unless one is given. -/
def passBlock (sigs : Nat := 0) : List Byte :=
  bytesOf 128 [(0, 8, 0x50000), (8, 4, 1), (12, 4, 1), (16, 8, 0x60000), (24, 4, 128), (29, 1, 1), (32, 2, 32), (34, 2, 32), (56, 8, sigs),
    (101, 1, 4), (104, 4, 0x10000), (108, 2, 64)]

/-- The render job of slot 1 runs on LB0 and LB1 and is bound; its partition owns granules 0–3. -/
def render (g : GfxSt) : State :=
  let bay : Bay := { st := .running, main := { active := true, handle := 0x10001, nbays := 2, part := 1 } }
  let s := dev (cells 0x2000 (passBlock))
  { s with
    regs := tabPut 0 s.regs Reg.GFX_CFG 0x80000000
    part := { s.part with table := tabPut 0 record1 776 0x0F }
    bays := [(0, bay), (1, bay)]
    cmd := { slots := [(1, { gen := 1, st := .running, part := 1, render := true, desc := job01 })] }
    gfx := g }

/-- A render job that waits for binding, packets to issue and to take back, a fragment in each state, and a last tile that is written or
skipped (R573–R588). -/
theorem test_graphics_hypotheses :
    let b := passBlock
    let wait := render { waiting := [1] }
    let r := gfxRead (dsArgs job01) 128 wait
    let s := render { bound := 0x10001, block := b, drec := bytesOf 64 [(16, 4, 3), (24, 2, 1)], last := 1 }
    let fin := render { bound := 0x10001, block := b, stage := 2, last := 1 }
    let p : GPkt := { rank := 1, num := 2, kind := 2 }
    let back := render { bound := 0x10001, block := b, out := [p] }
    let done := storeWrite back 1 (0x10000 + 0x0FF8) (leBytes 8 3)
    let e : GEntry := { frag := { x := 1, y := 2, tri := 0, mask := 1 }, draw := 0, rank := 1, num := 2, place := 0 }
    let tile := fun (g : GTile) (sigs : Nat) => render { bound := 0x10001, block := passBlock sigs, tile := some g }
    gfxSlot wait = none ∧ gfxNext wait = some 1 ∧ regBit wait Reg.GFX_CFG 31 = true ∧ r.1 = some b ∧ blockOk b = true ∧
    (∀ i, i < 4 → ownsGranule r.2 (gOwner r.2) (nfld (leAt b 76 1) 0 7 + i) = true) ∧
    (∀ k, k < dsBays job01 → ownsPeg r.2 (gOwner r.2) (leAt b 108 2 + k) = true) ∧
    gfxSlot s = some 1 ∧ nextRank s 1 (fun _ => true) = some 0 ∧ (readVerts (rangeFrom 0 3) [] s).1.isSome = true ∧
    nextRank fin 1 (fun r => !fin.gfx.ended.contains r) = some 0 ∧
    back.gfx.out.find? (fun p => decide (p.rank = 1)) = some p ∧ leVal (mboxRead back 1 1 (gBlk back 104 4 + 0x0FF8) 8) ≤ p.num ∧
    p.num < leVal (mboxRead done 1 1 (gBlk done 104 4 + 0x0FF8) 8) ∧ gfxSlot done = some 1 ∧
    gfxSlot (render { bound := 0x10001, block := b, board := [e], tile := some { t := 0 } }) = some 1 ∧
    gSamples s = 1 ∧ gTiles s = 1 ∧ gBlk s 40 8 = 0 ∧ gBlk s 12 4 % gBlk s 101 1 ≠ 0 ∧
    (let s := tile { t := 0 } 0
     let r := tileRect s 0
     (writeRows (gBlk s 16 8) (gBlk s 24 4) (colorBytes (gFmt s)) r.1 (colorRow s { t := 0 } r.1) (rangeFrom r.2.1 r.2.2) s).1 = true) ∧
    (let s := tile { t := 0 } 0x70000
     let r := tileRect s 0
     let sig := (rangeFrom r.2.1 r.2.2).foldl (fun a y => foldWords a (colorRow s { t := 0 } r.1 y)) 0
     gBlk s 56 8 = 0x70000 ∧
     (gfxRead 0x70000 16 { s with mem := cells 0x70000 (leBytes 8 sig.toNat ++ [1]) }).1.any (fun l => (leVal l).testBit 64 &&
       decide (leVal l % 2 ^ 64 = sig.toNat)) = true) := by
  decide +kernel

/-- Pipe 1 shows 1,000 columns and 600 lines; plane 6 of partition 1 has a flip that was tested; the pipe's output is watched. -/
def screen : State :=
  { dev [] with
    regs := [(Reg.DISP_PIPE_CFG 1, 0x80000000), (Reg.DISP_HTIME 1, 0x044003E8), (Reg.DISP_VTIME 1, 0x02700258),
      (Reg.DISP_WATCH_CFG 1, 0x80000002), (Reg.DISP_WATCH_SIZE 1, 0x00020004), (Reg.DISP_BG 1, 0x123)]
    tb := { elapsed := 900000000 }
    disp := { planes := [(6, { on := true, alpha := 1023, w := 16, h := 2 })], late := [(65541, some 7)] }
    cmd := { slots := [(9, { gen := 1, st := .running, kind := .flip 6, part := 1, tested := true,
                             payload := bytesOf 32 [(0, 1, 1), (4, 4, 64), (8, 8, 0x60000)] })]
             upds := [(planeRegion 6, { running := some 9 })] } }

theorem test_display_hypotheses :
    let s := screen
    let busy : State := { s with regs := tabPut 0 s.regs (Reg.DISP_AUX_CMD 1) 0x80000000 }
    let l := (dowelGet s 9).payload
    regBit s (Reg.DISP_PIPE_CFG 1) 31 = true ∧ (∀ q, q < 24 → q ≠ 6 → (updGet s (planeRegion q)).running = none) ∧
    (∀ q ∈ pipePlanes 1, (updGet { s with cmd := {} } (planeRegion q)).running = none) ∧
    regFld s (Reg.DISP_VTIME 1) 0 16 = 600 ∧ regFld s (Reg.DISP_HTIME 1) 0 16 = 1000 ∧
    tabGet none s.disp.late (65536 * 1 + 5) = some 7 ∧ tabGet none s.disp.late (65536 * 1 + 599) = none ∧
    watchOn s 1 = true ∧ sigExpected (watchSig 1 s).2 1 (watchSig 1 s).1 = false ∧
    (updGet s (planeRegion 6)).running = some 9 ∧ (dowelGet s 9).tested = true ∧
    (unitCheck 0x72 ((planeOwner s 6).getD 0) 6 .read
      (sourcePieces (leAt l 8 8) (leAt l 4 4) ((planeLat s 6).w * pixBytes (leAt l 2 1)) (planeLat s 6).h) s).1 = true ∧
    tabGet 0 s.disp.watchNs 1 + 3 * framePeriod s 1 ≤ s.tb.elapsed ∧
    reaches s 0x10 (Reg.DISP_AUX_CMD 1) true = true ∧ pageLocked s (Reg.DISP_AUX_CMD 1) = false ∧ fld (0x0FFFFFFF : Word32) 28 3 = 0 ∧
    regBit busy (Reg.DISP_AUX_CMD 1) 31 = true := by decide +kernel

/-! ## The gateway -/

/-- A rule of the gateway that takes every frame from port 1: what it does, its output ports, and the partition of its copies. -/
def rule (action outs part : Nat) : List Byte := checked (bytesOf 28 [(0, 1, 1), (1, 1, action), (2, 2, 2), (5, 2, outs), (7, 1, part)])

/-- The gateway with some rules: every Ethernet port runs at 1 Gb/s, CAN0 and CAN1 are enabled, CAN1 with automatic recovery; partition 1
has a receive ring of four slots at 0x20000. -/
def gateway (g : GwSt) : State :=
  { dev [] with
    regs := [(Reg.GW_PORT_CFG 0, 0x80000002), (Reg.GW_PORT_CFG 1, 0x80000002), (Reg.GW_PORT_CFG 4, 0x80000002), (Reg.GW_CAN_CTRL 0, 0x80000000),
      (Reg.GW_CAN_CTRL 1, 0x80000001), (Reg.GW_CAN_STAT 0, 0x00008070), (Reg.GW_CAN_STAT 1, 0x01000000),
      (Reg.GW_RX_CFG 1, 0x80000002), (Reg.GW_RX_BASE 1, 0x20000), (Reg.GW_TAS_LIST0 0 0, 0x80), (Reg.GW_TAS_LIST1 0 0, 500)]
    gw := g
    tb := { elapsed := 5000, a := { time := 5000 } } }

/-- An Ethernet frame of 64 bytes and of EtherType 0x0800. -/
def etherFrame : List Byte := (List.replicate 12 1) ++ [8, 0] ++ List.replicate 50 3

/-- Frames that no rule matches, that one forwards to a free and to a full queue, and that one copies; frames to receive and to send
(R609–R625). -/
theorem test_gateway_hypotheses :
    let f := GwFrame.eth etherFrame
    let found := fun (s : State) => s.gw.rules.filter (fun e => ruleMatches (.port 1) f e.2)
    let fwd := rule (1 + 16 * 7) 0x10 0
    let copy := rule 2 0 1
    let s := gateway { rules := [(5, fwd)] }
    let full := gateway { rules := [(5, fwd)], egress := [(39, List.replicate 64 [])] }
    let c := gateway { rules := [(1023, copy)] }
    found (gateway {}) = [] ∧ found s = [(5, fwd)] ∧ found full = [(5, fwd)] ∧ found c = [(1023, copy)] ∧
    leAt fwd 1 1 = 1 + 16 * 7 ∧ leAt fwd 5 2 = 2 ^ 4 ∧ 64 ≤ (egressQ full 4 7).length ∧ (egressQ s 4 7).length < 64 ∧
    leAt copy 1 1 = 2 ∧ nfld (leAt copy 7 1) 0 3 = 1 ∧ c.safety.stopped.getLsbD 1 = false ∧ regBit c (Reg.GW_RX_CFG 1) 31 = true ∧
    (tabGet [] c.gw.rxRecs 1).length < 256 ∧ (0 + 512 - regFld c (Reg.GW_RX_CI 1) 0 9) % 512 ≠ 2 ^ regFld c (Reg.GW_RX_CFG 1) 0 4 ∧
    (unitWrite 0x73 1 7 (pairGet c (Reg.GW_RX_BASE 1) % 2 ^ 48) etherFrame c).1 = true := by
  simp only [ruleMatches, checkOk_fast]
  decide +kernel

theorem test_gateway_port_hypotheses :
    let s := gateway { egress := [(32, [etherFrame])], tas := [(0, { list := [(1, 100), (2, 300)], entry := 1, entryNs := 4000 })] }
    let due := gateway { tas := [(0, { next := some ([(1, 9)], 4999) })] }
    let last := gateway { tas := [(0, { list := [(1, 100)], entryNs := 4000, next := some ([(1, 9)], 4999) })] }
    regBit s (Reg.GW_PORT_CFG 4) 31 = true ∧ etherFrame.length = 64 ∧ ethType etherFrame ≠ 0x88F7 ∧ regBit s Reg.SEAL_SRC_CFG 0 = false ∧
    egressQ s 4 0 = [etherFrame] ∧ (∀ d, d < 8 → 0 < d → egressQ s 4 d = []) ∧ (frameNs s 4 etherFrame).isSome = true ∧
    (tasGet s 0).next = none ∧ entryEnd (tasGet s 0) ≤ s.tb.elapsed ∧ s.tb.elapsed < entryEnd { list := [(1, 2000)], entryNs := 4000 } ∧
    reaches s 0x10 (Reg.GW_TAS_CTRL 0) true = true ∧ wordRefuses (Reg.GW_TAS_CTRL 0) 0xC0000001 = false ∧
    (tasGet due 0).next = some ([(1, 9)], 4999) ∧ reached (workTime due) 4999 = true ∧
    (tasGet last 0).list.length = (tasGet last 0).entry + 1 ∧ entryEnd (tasGet last 0) ≤ last.tb.elapsed := by decide +kernel

/-- The tables of `dev`, and the regions of partition 1 for P0 as well. -/
def both : PartSt := { (dev []).part with regions := [(0, regions1), (1, regions1)], regionsHeld := [(0, true), (1, true)] }

theorem test_gateway_host_hypotheses :
    let x : RxRec := { port := 16, rule := 1023, len := 64, stamp := 9 }
    let g : GwLoad := { first := 1020, count := 2, base := 0x40000 }
    let s := { gateway { hostTx := [(1, [(0x30000, 60)])], rxRecs := [(1, [x])], load := some g } with
      mem := cells 0x40000 (rule 1 1 0 ++ rule 2 0 3), part := both }
    let s0 := regSetFld { s with gw := { s.gw with load := none } } Reg.GW_RULE_STAT 31 1 0
    reaches s 0x11 (Reg.GW_TX_CMD 1) true = true ∧ wordRefuses (Reg.GW_TX_CMD 1) 60 = false ∧ (hostQ s 1).length < 32 ∧
    32 ≤ (hostQ (gateway { hostTx := [(1, List.replicate 32 (0, 60))] }) 1).length ∧
    (unitRead 0x73 1 7 0x30000 60 { s with gw := { s.gw with hostTx := tabPut [] s.gw.hostTx 1 [] } }).1.isSome = true ∧
    reaches s 0x11 (Reg.GW_RX_HEAD 1) false = true ∧ tabGet [] s.gw.rxRecs 1 = [x] ∧ tabGet [] s.gw.rxRecs 0 = [] ∧
    reaches s 0x10 Reg.GW_RULE_CTRL true = true ∧ fld (0x800203FE : Word32) 0 10 + fld (0x800203FE : Word32) 16 11 = 1024 ∧
    wordRefuses Reg.GW_RULE_CTRL 0x800203FE = false ∧
    (unitRead 0x73 ((pageOwner s0 Reg.GW_RULE_CTRL).getD 0) 7 g.base (32 * g.count) s0).1 = some (rule 1 1 0 ++ rule 2 0 3) ∧
    (∀ k, k < g.count → checkOk (bytesAt (rule 1 1 0 ++ rule 2 0 3) (32 * k) 32) = true) := by
  simp only [checkOk_fast]
  decide +kernel

theorem test_can_hypotheses :
    let f : CanFrame := { id := 0x123, ide := false, fdf := false, brs := false, esi := false, rtr := false, dlc := 2, data := [1, 2] }
    let s := gateway { canTx := [(0, [{ f with id := 0x124 }, f])] }
    canOn s 0 = true ∧ regBit s (Reg.GW_CAN_CTRL 0) 1 = false ∧ canBest (canQ s 0) = some (1, f) ∧
    regBit s (Reg.GW_CAN_CTRL 1) 31 = true ∧ regBit s (Reg.GW_CAN_CTRL 1) 0 = true ∧ regBit s (Reg.GW_CAN_STAT 1) 24 = true := by
  decide +kernel

/-! ## Sealed commands, scribe, test access port and register accesses -/

/-- A GRADE_LOCK frame of epoch 5 and sequence 1 under key slot 0, whose key is zero, with its tag and check word. -/
def gradeLock : List Byte :=
  [1, 10, 0, 8, 4, 0, 0, 0, 5, 0, 0, 0, 1, 0, 0, 0, 32, 0, 0, 0, 82, 73, 43, 240, 87, 119, 175, 68, 33, 165, 242, 127]

/-- A command of code `c` that has been accepted from SUP, with its dowel in slot 9. -/
def sealedCmd (c : Nat) (payload : List Byte) : SealCmd := { frame := { src := 0, bytes := [1, BitVec.ofNat 8 c, 0] }, payload := payload, slot := 9 }

/-- The device in lifecycle state `life` with the boot epoch 5; key slots 0 and 1 may authorise every command from every source. -/
def sealDev (life : Word32) (u : SealSt := {}) : State :=
  { dev [] with
    regs := [(Reg.GLOBAL_LIFECYCLE, life), (Reg.CRP_BOOT_STAT, 0x08000000), (Reg.SEAL_EPOCH, 5), (Reg.SEAL_SRC_CFG, 0xC0000000),
      (Reg.SEAL_KEY_ATTR 0, 0x870007FF), (Reg.SEAL_KEY_ATTR 1, 0x870007FF)]
    sealU := u
    cmd := { slots := [(9, { gen := 1, st := .running, kind := .sealed 4 })] } }

/-- A header signed with private key 1 and nonce 1, and zeros up to 4,096 bytes. -/
def signed (h : List Byte) : List Byte :=
  h ++ beBytes 48 P384.g.1 ++ beBytes 48 ((beVal (sha384 h) + P384.g.1) % P384.n) ++ List.replicate 3824 0

/-- An image of a type with an empty payload. -/
def image (t : Nat) : List Byte :=
  signed (bytesOf 32 [(0, 4, 0x57465641), (4, 1, t), (12, 4, 1)] ++ sha384 [] ++ beBytes 48 P384.g.1 ++ beBytes 48 P384.g.2)

/-- The key slot that such images name. -/
def imageKey0 : ImageKey := { prov := true, types := 7, digest := (sha384 (beBytes 48 P384.g.1 ++ beBytes 48 P384.g.2)).take 32 }

/-- Bytes of the flash from an offset on. -/
def flashCells : Nat → List Byte → Tab Byte
  | _, [] => []
  | o, b :: t => (o, b) :: flashCells (o + 1) t

theorem tabGet_flashCells (l : List Byte) : ∀ (o : Nat) (r : Tab Byte),
    (rangeFrom o l.length).map (tabGet 0xFF (flashCells o l ++ r)) = l := by
  induction l with
  | nil => intro o r; rfl
  | cons b t ih =>
    intro o r
    have h := ih (o + 1) r
    simp only [rangeFrom, List.length_cons, List.range_succ_eq_map, List.map_cons, List.map_map, flashCells, List.cons_append] at h ⊢
    refine congrArg₂ _ (by simp [tabGet]) ?_
    refine Eq.trans (List.map_congr_left ?_) h
    intro i _
    have : o + (i + 1) = o + 1 + i := by omega
    simp [tabGet, this, show o ≠ o + 1 + i by omega]

theorem tabGet_flashCells_skip (l : List Byte) : ∀ (o k : Nat) (r : Tab Byte), o + l.length ≤ k →
    tabGet 0xFF (flashCells o l ++ r) k = tabGet 0xFF r k := by
  induction l with
  | nil => intro o k r _; rfl
  | cons b t ih =>
    intro o k r h
    simp only [List.length_cons] at h
    rw [flashCells, List.cons_append, tabGet, if_neg (by omega), ih (o + 1) k r (by omega)]

/-- The flash with an image of each type in bank 0. -/
def images : Tab Byte := flashCells 0x10000 (image 2) ++ (flashCells 0x110000 (image 0) ++ (flashCells 0x1000000 (image 1) ++ []))

theorem image_length : (image 0).length = 4096 ∧ (image 1).length = 4096 ∧ (image 2).length = 4096 := by decide +kernel

theorem flash_part {l : List Byte} {o n : Nat} {t r : Tab Byte} (hn : l.length = n)
    (h : ∀ k, o ≤ k → tabGet 0xFF t k = tabGet 0xFF (flashCells o l ++ r) k) : (rangeFrom o n).map (tabGet 0xFF t) = l := by
  subst hn
  refine Eq.trans (List.map_congr_left fun k hk => ?_) (tabGet_flashCells l o r)
  obtain ⟨i, -, rfl⟩ := List.mem_map.mp hk
  exact h _ (by omega)

theorem header_images {s : State} (h : s.boot.flash = images) :
    imageHeader s 0 0 = image 0 ∧ imageHeader s 1 0 = image 1 ∧ imageHeader s 2 0 = image 2 := by
  obtain ⟨h0, h1, h2⟩ := image_length
  simp only [imageHeader, flashRead, h, images, bankOffset]
  refine ⟨flash_part (r := flashCells 0x1000000 (image 1) ++ []) h0 fun k hk => ?_, flash_part (r := []) h1 fun k hk => ?_,
    flash_part h2 fun k _ => rfl⟩
  · exact tabGet_flashCells_skip _ _ _ _ (by omega)
  · rw [tabGet_flashCells_skip _ _ _ _ (by omega), tabGet_flashCells_skip _ _ _ _ (by omega)]

theorem image_verifies :
    let s : State := { boot := { flash := images, imageKeys := [(0, imageKey0)] } }
    imageOk s 0 0 = true ∧ imageOk s 1 0 = true ∧ imageOk s 2 0 = true := by
  intro s
  obtain ⟨h0, h1, h2⟩ := header_images (s := s) rfl
  simp only [imageOk, hasHeader, imagePayload, imageKey, h0, h1, h2]
  decide +kernel

/-- Frames of SUP and of the software window that arrive at free and at full buffers; a frame that fails a test, one that asks a query,
and critical ones with and without a free dowel (R610, R628–R634). -/
theorem test_seal_hypotheses :
    let f : SealFrame := { src := 0, bytes := gradeLock }
    let q : SealFrame := { src := 5, bytes := checked (bytesOf 16 [(0, 1, 1), (1, 1, 0x21)]) }
    let bad : SealFrame := { src := 0, bytes := [1] }
    let s := sealDev 2 { sup := some f }
    let u := fun (f : SealFrame) => sealBufPut (sealDev 2 { sup := some f, last := 0 }) 0 none
    let a := takeFree (regPut (u f) (Reg.SEAL_LASTSEQ 0) 1)
    let d := sealedDowel (.sealed 10) (bytesAt f.bytes 16 4) a.1
    epochDrawn s = true ∧ regBit s Reg.SEAL_SRC_CFG 31 = true ∧ regBit s Reg.SEAL_SRC_CFG 30 = true ∧ s.sealU.sw = none ∧
    regBit { dev [] with regs := [(Reg.SEAL_SRC_CFG, 0)] } Reg.SEAL_SRC_CFG 31 = false ∧
    reaches s 0x10 Reg.SEAL_SW_CTRL true = true ∧ wordRefuses Reg.SEAL_SW_CTRL 20 = false ∧
    sealNext s = some 0 ∧ sealBuf s 0 = some f ∧ sealTest (u f) f = 0 ∧ leAt f.bytes 1 1 = 10 ∧ sealCritical 10 = true ∧
    sealTest (u bad) bad = 1 ∧ sealTest (u q) q = 0 ∧ sealCritical (leAt q.bytes 1 1) = false ∧
    ((allocDowel { a.2 with part := { table := [(300, 16)], tableHeld := true } } d).isSome = true) ∧
    allocDowel { a.2 with part := {} } d = none := by
  simp only [sealTest, checkOk_fast]
  decide +kernel

/-- Sealed commands that wait, with the operands and states that each clause asks for. -/
theorem test_sealed_effect_hypotheses :
    let s := fun (c : Nat) (l : List Byte) => sealDev 2 { accepted := some (sealedCmd c l) }
    let one : State := { s 7 [1, 0, 0, 0] with regs := tabPut 0 (s 7 []).regs (Reg.SEAL_KEY_ATTR 0) 0 }
    ([4, 5, 6, 7, 0x20, 0x21, 0x22].all (fun c => decide ((s c []).sealU.accepted = some (sealedCmd c []) ∧ leAt (sealedCmd c []).frame.bytes 1 1 = c)) = true) ∧
    leAt (sealedCmd 7 [1, 0, 0, 0]).frame.bytes 2 1 = 0 ∧ bitAt (regGet (s 7 []) (Reg.SEAL_KEY_ATTR 1)) 31 = true ∧
    bitAt (regGet (s 7 []) (Reg.SEAL_KEY_ATTR 1)) 30 = false ∧ revokerOk (s 7 []) 0 = true ∧
    (∀ j, j < 8 → j ≠ 1 → revokerOk one j = false) ∧ lifeState (s 5 []) = 2 ∧ lifeState (sealDev 1) ≠ 2 ∧
    regBit (raise 0x100 none 0 (sealedTaken (s 5 [1, 0, 0, 0]))) Reg.SCRIBE_STATE 0 = false ∧
    (s 4 [2, 0, 0, 0, 0xFF, 0xFF, 0xFF, 0xFF]).tb.follow = none ∧ fwTest (s 6 []) [3] true ≠ 0 := by
  decide +kernel

/-- Key slots being revoked, and enables that wait for the pattern and for the drivers. -/
theorem test_seal_progress_hypotheses :
    let s : State := { sealDev 2 { revoking := [(7, 9)] } with boot := { scribe := [9], scribeNs := 1000 }, tb := { elapsed := 126000 } }
    let fast : State := { s with safety := { s.safety with fast := true } }
    s.sealU.revoking = [(7, 9)] ∧ s.boot.scribe = [9] ∧ s.safety.fast = false ∧ fast.boot.scribeNs + 125000 ≤ fast.tb.elapsed ∧
    (50 : Nat) < fast.boot.scribeNs + 125000 := by decide +kernel

/-- A sealed FIRMWARE_ACCEPT of a good image (R742). -/
theorem test_firmware_hypotheses :
    let s : State := { sealDev 2 with boot := { flash := images, imageKeys := [(0, imageKey0)] } }
    fwTest s (bytesOf 8 [] ++ bytesAt (image 0) 32 8) true = 0 := by
  intro s
  obtain ⟨h0, -, -⟩ := header_images (s := s) rfl
  have ht : leAt (bytesOf 8 [] ++ bytesAt (image 0) 32 8) 0 1 = 0 := by decide +kernel
  have hb : leAt (bytesOf 8 [] ++ bytesAt (image 0) 32 8) 1 1 = 0 := by decide +kernel
  simp only [fwTest, ht, hb, imageOk, hasHeader, imagePayload, imageKey, imageSvn, h0]
  decide +kernel

/-- Lifecycle states in which each instruction of the test access port is in force and is not, and what each burns (R770–R784). -/
theorem test_jtag_hypotheses :
    let s : State := { sealDev 1 with regs := [(Reg.CRP_BOOT_STAT, 0x08000000), (Reg.GLOBAL_LIFECYCLE, 1)]
                                      boot := { fuses := [(Reg.GLOBAL_LIFECYCLE, 1)] } }
    jtagLife s = some 1 ∧ jtagLife (sealDev 0) = some 0 ∧ jtagLife (sealDev 2) = some 2 ∧ jtagLife (sealDev 4) = some 4 ∧
    jtagLife (dev []) = none ∧ fuseMasks.length = 9 ∧ (∀ k, k < 8 → regBit s (Reg.SEAL_KEY_ATTR k) 31 = false) ∧
    (∀ k, k < 4 → (tabGet {} s.boot.imageKeys k).prov = false) ∧ fuseWord s Reg.GLOBAL_LIFECYCLE = 1 := by decide +kernel

/-- Initiators and addresses of each clause on register space and of a hart's accesses (R34–R39, R357). -/
theorem test_register_access_hypotheses :
    let s := dev []
    let row := fun (a : Addr) (v : Word32) => ((regRow a).any (fun r => decide (r.half = .single) && !r.strays v) : Bool)
    (∀ a ∈ ([Reg.TB_NOW, Reg.TB_BRIDGE, Reg.TB_STEP_LAST, Reg.GLOBAL_SERIAL, Reg.SEAL_EPOCH] : List Addr), reaches s 0x10 a false = true) ∧
    homeOf s Reg.TB_NOW 4 = .regs ∧ widthOk Reg.TB_NOW 4 = true ∧ homeOf s (Reg.TB_NOW + 1) 2 = .regs ∧ widthOk (Reg.TB_NOW + 1) 2 = false ∧
    reaches s 1 (Reg.SEAL_EPOCH) false = false ∧ homeOf s Reg.SEAL_IP4 4 = .regs ∧ widthOk Reg.SEAL_IP4 4 = true ∧
    ignoresWrite s 1 Reg.SEAL_IP4 = false ∧ reaches s 1 Reg.SEAL_IP4 true = false ∧
    homeOf s 0x200000000 4 = .hole ∧ homeOf s (Reg.PART_KERF_CFG 1) 4 = .regs ∧ widthOk (Reg.PART_KERF_CFG 1) 4 = true ∧
    reaches s 0x10 (Reg.PART_KERF_CFG 1) true = true ∧ ignoresWrite s 0x10 (Reg.PART_KERF_CFG 1) = false ∧
    (writeActs 0x10 (Reg.PART_KERF_CFG 1) 0).isNone = true ∧ (writeActs 0x10 (Reg.PART_KERF_CFG 1) 7).isNone = true ∧
    wordRefuses (Reg.PART_KERF_CFG 1) 0 = true ∧ wordRefuses (Reg.PART_KERF_CFG 1) 7 = false ∧ row (Reg.PART_KERF_CFG 1) 7 = true ∧
    homeOf s 0x3FFFFFF8 8 = .dram ∧ hartPart s 1 = some 1 ∧
    ((match accessCheck s 1 3 .read 0x3FFFFFF8 8 with | (.ok _, _) => true | _ => false) : Bool) = true ∧
    ((match accessCheck s 1 3 .write 0x3FFFFFF8 8 with | (.ok _, _) => true | _ => false) : Bool) = true := by decide +kernel

/-! ## Twin -/

/-- A joined pair seen from the primary (or, with `sec`, from the secondary): the link is trained on 16 lanes. -/
def pair (u : TwinSt) (st : Nat := 3) (sec : Bool := false) : State :=
  { dev [] with
    regs := [(Reg.TRUSS_CFG, if sec then 0x40000000 else 0), (Reg.TRUSS_STATE, BitVec.ofNat 32 (st * 2 ^ 29)), (Reg.TRUSS_LANES, 0xFFFF)]
    twin := { u with up := true }
    tb := { elapsed := 200000000, a := { time := 5000, valid := true } } }

/-- The pair while its link trains. -/
def trains (u : TwinSt) (st : Nat) : State :=
  { pair u st with regs := [(Reg.TRUSS_STATE, BitVec.ofNat 32 (st * 2 ^ 29 + 2 ^ 26)), (Reg.TRUSS_LANES, 0xFFFF)], twin := u }

/-- A flit with its check word. -/
def withFlitCheck (f : Flit) : Flit := { f with check := flitCheck f }

/-- Lanes for no link, for half and for the full width; links that train for the first time and again (R644). -/
theorem test_training_hypotheses :
    let s := trains {} 1
    let again := trains { up := true, tested := some true, sent := [({ typ := 5, seq := 3 }, 2)] } 3
    training s = true ∧ s.twin.tested = none ∧ (goodLanes s 0x7F).length = 7 ∧ (goodLanes s 0xFF).length = 8 ∧
    (goodLanes s 0x3FFFF).length = 18 ∧ twinState s = 1 ∧ training again = true ∧ twinState again ≠ 1 ∧
    regBit (pair {}) Reg.TRUSS_LANES 15 = true := by decide +kernel

/-- Flits that arrive in order, out of order, with a bad check word, and those that only acknowledge (R647). -/
theorem test_flit_hypotheses :
    let s := pair { rxSeq := 65535, sent := [({ typ := 5, seq := 3 }, 2)] }
    let f := withFlitCheck { typ := 1, seq := 0, len := 0 }
    (f.check = flitCheck f ∧ f.seq = (s.twin.rxSeq + 1) % 65536 ∧ flitPasses s f = true) ∧
    ({ f with check := 1 } : Flit).check ≠ flitCheck { f with check := 1 } ∧
    (withFlitCheck { typ := 8, ack := 3 }).check = flitCheck (withFlitCheck { typ := 8, ack := 3 }) ∧
    (withFlitCheck { typ := 0, ack := 3 }).check = flitCheck (withFlitCheck { typ := 0, ack := 3 }) ∧
    (withFlitCheck { typ := 1, seq := 9 }).seq ≠ (s.twin.rxSeq + 1) % 65536 ∧ s.twin.sent ≠ [] ∧ training s = false := by
  decide +kernel

/-- Flits of each type that wait for their effect. -/
theorem test_flit_effect_hypotheses :
    let s := fun (f : Flit) (u : TwinSt) => pair { u with rx := [f] }
    let w : Flit := { typ := 1, addr := win0 + 64, body := [1, 2], signal := 0x8040 }
    let r : Flit := { typ := 2, addr := win0 + 64, len := 8, tag := 5 }
    let job : Dowel := { gen := 1, st := .running, part := 1, spanning := true }
    let here : State := { s { typ := 4, ctl := some .leave } {} with cmd := { slots := [(2, job), (65537, job)] } }
    (homeOf (s w {}) w.addr 2 = .store 0 64 ∧ homeOf (s r {}) r.addr r.len = .store 0 64 ∧ windowWaits (s r {}) r.addr r.len = false) ∧
    homeJob here 0x10002 = true ∧ partJob here 0x10001 = true ∧ twinJoined here = true ∧
    (s { typ := 3, tag := 5 } { reads := [(5, win0, 4)] }).twin.reads = [(5, win0, 4)] ∧
    twinSecondary (pair {}) = false ∧ twinSecondary (pair {} 3 true) = true := by decide +kernel

/-- An accord record of a peer that is joining, with partition table version 1 and the configuration hash of its block. -/
def accord (config : List Byte) : List Byte :=
  checked (bytesOf 8 [(0, 1, 1), (1, 1, 2)] ++ config ++ List.replicate 8 0 ++ [1] ++ List.replicate 35 0)

/-- Accords that match, that fail the test of configuration, and that fail their check word (R653, R654). -/
theorem test_accord_hypotheses :
    let s := pair {} 2
    accordDue s = true ∧ twinState s = 2 ∧ s.twin.rejoin = none ∧ leAt (accord (configHash s)) 1 1 = 2 ∧ (accord (configHash s)).length = 64 ∧
    accordTest s (accord (List.replicate 8 0)) = some .config ∧ checkOk (accord (configHash s)) = true ∧
    checkOk (accord (List.replicate 8 0)) = true ∧ checkOk (accord (List.replicate 8 0) |>.set 0 7) = false := by
  simp only [checkOk_fast]
  decide +kernel

theorem test_accord_passes : accordTest (pair {} 2) (accord (configHash (pair {} 2))) = none := by
  unfold accordTest
  rw [if_neg (by decide +kernel), if_neg (by decide +kernel), if_neg (by decide +kernel), if_neg (by decide +kernel),
    if_neg (fun h => absurd h.2 (by decide +kernel))]

/-- Intervals that have and have not passed, and the tests of ACCORD_OVERRIDE (R665–R673). -/
theorem test_twin_time_hypotheses :
    let s := pair { heardNs := 199000000 }
    let x := sealedCmd 8 [1, 0, 0, 0, 7, 0, 0, 0]
    let y := sealedCmd 8 [2, 0, 0, 0, 7, 0, 0, 0]
    let peer := bytesOf 64 [(52, 4, 7)]
    twinJoined s = true ∧ s.twin.beatNs + 100000 ≤ s.tb.elapsed ∧ s.twin.heardNs + 300000 ≤ s.tb.elapsed ∧
    (s.tb.elapsed : Nat) < (pair { beatNs := 200000000, heardNs := 200000000 }).twin.beatNs + 100000 ∧
    joinedPrimary s = true ∧ s.twin.timeNs + 10000 ≤ s.tb.elapsed ∧
    (pair { rejoin := some (9, 1000) } 2).twin.rejoin = some (9, 1000) ∧ twinState (pair {} 2) = 2 ∧ twinState (pair {} 5) = 5 ∧
    (leAt x.frame.bytes 1 1 = 8 ∧ leAt x.payload 0 1 = 1 ∧ leAt y.payload 0 1 = 2 ∧ leAt x.payload 1 3 = 0) ∧
    leAt x.payload 4 4 = leAt peer 52 4 ∧ leAt x.payload 4 4 ≠ leAt (bytesOf 64 []) 52 4 := by decide +kernel

/-! ## Fabric controller -/

/-- Request mailbox 2 and response mailbox 3 of partition 1 with rings of 16 slots; firmware runs; partition 1 may reach partition 1. -/
def office (mem : List Host.Cell) (c : FcSt) (held : Word32 := 0) : State :=
  { dev mem with
    regs := [(Reg.MB_BASE 2, 0x40000), (Reg.MB_CFG 2, 0x80000004), (Reg.MB_PI 2, held), (Reg.MB_BASE 3, 0x50000), (Reg.MB_CFG 3, 0x80000004),
      (Reg.FC_STATUS, 0x80000000), (Reg.FC_MSGVER, 0x100), (Reg.FC_ROUTE 1, 2)]
    fc := c }

/-- A request of partition 1 of a type, with its check word. -/
def request (typ : Nat) (payload : List Byte) : List Byte :=
  let h := bytesOf 28 [(0, 1, 1), (2, 2, typ), (4, 2, payload.length), (6, 1, 1)]
  h ++ leBytes 4 (crcFast 0xFFFFFFFF (h ++ payload) ^^^ 0xFFFFFFFF) ++ payload ++ List.replicate (224 - payload.length) 0

theorem crc32c_fast (l : List Byte) : (crc32c l).toNat = crcFast 0xFFFFFFFF l ^^^ 0xFFFFFFFF := by
  simp [crc32c, crcRun_toNat]

/-- Doorbells of a disabled mailbox, beyond its room and within it; requests that pass and that fail a test (R685–R689). -/
theorem test_mailbox_hypotheses :
    let l := request 0x20 [1, 0, 64, 0, 5, 0, 0, 0]
    let s := office (cells 0x40000 l) {} 1
    let read := unitRead 0x10 1 7 (mbAddr s 2 (mbCI s 2)) 256 { s with fc := { s.fc with lastBox := 2 } }
    mbOn s 0 = false ∧ mbOn s 2 = true ∧ reaches s 0x11 (Reg.MB_PI 2) true = true ∧ mbSlots s 2 = 16 ∧ mbCI s 2 = 0 ∧ fcRuns s = true ∧
    mbNext s = some 2 ∧ read.1 = some l ∧ requestTest read.2 2 l = none ∧ requestTest read.2 2 (request 0x7F []) = some 3 := by
  simp only [requestTest, crc32c_fast]
  decide +kernel

/-- Requests taken of each type, with payloads for each clause (R693–R697). -/
theorem test_request_hypotheses :
    let s := office [] {}
    let coll := bytesOf 64 [(0, 1, 1), (1, 1, 1), (4, 8, 3), (12, 4, 2), (16, 4, 0x100), (20, 4, 0x200), (24, 2, 64), (26, 2, 66), (28, 4, 1)]
    ([1, 0x10, 0x20, 0x21, 0x30, 0x40].all (fun typ =>
      let t := office [] { taken := [(2, request typ [1])] }
      decide (reqOf t 2 = request typ [1] ∧ request typ [1] ≠ [] ∧ leAt (request typ [1]) 2 2 = typ))) = true ∧
    ownsPeg s 1 64 = true ∧ ownsPeg s 1 63 = false ∧ regBit s (Reg.FC_ROUTE 1) 1 = true ∧ regBit s (Reg.FC_ROUTE 1) 0 = false ∧
    lbPhys s 40 = none ∧ lbPhys s 33 = some 4 ∧ collFieldsOk coll = true ∧ collFieldsOk [] = false ∧ fpReduction coll = false ∧
    collOwnedOk s 1 coll = true ∧ dowelsInUse s 1 < dowelQuota s 1 ∧ collCount s (fun _ => true) = 0 ∧
    collCount s (fun x => decide (x.part = 1)) = 0 ∧ freeRun s 1 = some 0 ∧ twinJoined s = false ∧ collBays coll = [0, 1] ∧
    twinSecondary s = false := by decide +kernel

/-- A sum of two INT32 words over LB0 and LB1: a contribution that is due and one that is not, a result to write, and owners in each
state (R699–R701). -/
theorem test_collective_hypotheses :
    let req := bytesOf 64 [(0, 1, 1), (1, 1, 1), (4, 8, 3), (12, 4, 2), (16, 4, 0x100), (20, 4, 0x200), (24, 2, 64), (26, 2, 66), (28, 4, 1)]
    let c : Coll := { slot := 9, part := 1, req := req }
    let all : Coll := { c with first := [{ rank := 0, data := [(0, leBytes 8 5)], sig := 0 }, { rank := 1, data := [(0, leBytes 8 6)], sig := 0 }],
                               taken := [0, 1] }
    let s : State := { office [] { colls := [(0, some c)] } with pegs := [(64, { count := 1 })] }
    let rs := (collResults all).getD ([], {})
    fcRuns s = true ∧ collGet s 0 = some c ∧ c.peerHandle = none ∧ (collBays c.req).length = 2 ∧ collFar s c 0 = false ∧
    c.gopeg 0 = 64 ∧ (pegGet s 64).poison = false ∧ fpReduction c.req = false ∧ leAt c.req 28 4 ≤ (pegGet s (c.gopeg 0)).count.toNat ∧
    (pegGet s (c.gopeg 1)).count.toNat < leAt c.req 28 4 ∧
    (readRanges 1 (contribRanges c ((collBays c.req).getD 0 0) []) s).1.isSome = true ∧ (collResults all).isSome = true ∧
    all.taken.length = (collBays all.req).length ∧
    (unitCheck 0x10 1 7 .write ((List.range 2).flatMap (fun r => rowPieces (resultAddr all r) (rs.1.getD r []).length)) s).1 = true ∧
    c.owner = 0 ∧ ({ c with req := putBytes [] 0 [] |>.map (·.2) } : Coll).owner = 0 ∧
    ({ c with req := bytesOf 64 [(44, 4, 7)] } : Coll).owner = 7 := by decide +kernel

/-! ## Clocks, resets and boot -/

/-- Clock requests on either side of the speed bin, steps that are due and not, temperatures that throttle and let go, pipes on and off, and
a bay that has been idle for 100 µs (R711–R719, R740, R741). -/
theorem test_clock_hypotheses :
    let s : State := { dev [] with
      regs := [(Reg.GLOBAL_GRADE, 0x10), (Reg.CRP_BAY_CLK, 0x00010002), (Reg.DISP_PIPE_CFG 3, 0x80000000)]
      tb := { elapsed := 20000000 }, safety := { thermRun := [(0x019, 2)] }, boot := { throttleMs := 19 } }
    let calm : State := { s with safety := { coolSince := 10000001 }, boot := { throttleMs := 20 } }
    let busy : State := { s with bays := [(0, { st := .plumb })] }
    reaches s 0x11 Reg.CRP_BAY_CLK true = true ∧ fld (0 : Word32) 0 2 < regFld s Reg.GLOBAL_GRADE 4 4 ∧
    regFld s Reg.GLOBAL_GRADE 4 4 ≤ fld (3 : Word32) 0 2 ∧ fld (3 : Word32) 2 14 = 0 ∧ fld (3 : Word32) 18 14 = 0 ∧
    max (regFld s Reg.CRP_BAY_CLK 0 2) (regFld s Reg.CRP_THROTTLE 16 2) ≠ regFld s Reg.CRP_BAY_CLK 16 2 ∧ anyPlumb s = false ∧
    anyPlumb busy = true ∧ 2 ≤ tabGet 0 s.safety.thermRun 0x019 ∧ s.boot.throttleMs < s.tb.elapsed / 1000000 ∧
    calm.tb.elapsed / 1000000 ≤ calm.boot.throttleMs ∧ s.safety.coolSince + 10000000 ≤ s.tb.elapsed ∧
    calm.tb.elapsed < calm.safety.coolSince + 10000000 ∧ (∀ i, i < 4 → reaches s 0x11 (Reg.CRP_PIX_FRAC i) true = true) ∧
    regBit s (Reg.DISP_PIPE_CFG 3) 31 = true ∧ regBit s (Reg.DISP_PIPE_CFG 0) 31 = false ∧ (bayGet s 35).st = .idle ∧
    (bayGet s 35).idleSince + 100000 ≤ s.tb.elapsed ∧ (bayGet busy 0).st ≠ .idle ∧ reaches s 0x11 Reg.CRP_RST_CTRL true = true ∧
    fld (0xA5C20003 : Word32) 16 16 ≠ 0xA5C3 ∧ fld (0xA5C20003 : Word32) 2 14 = 0 := by decide +kernel

/-- The device at step `n` of the boot. -/
def bootDev (n : Nat) (b : BootSt := {}) : State := { regs := [(Reg.CRP_BOOT_STAT, BitVec.ofNat 32 (n * 2 ^ 24)), (Reg.GLOBAL_GRADE, 0x2000)], boot := b }

/-- A configuration section of empty tables, their check words written out. -/
def emptyCfg : BootCfg :=
  { check := true, table := List.replicate 4364 0 ++ leBytes 4 0xD737E162
    regions := [(0, 0xEA82B2C4), (1, 0xDBF366F4), (2, 0x88611AA4), (3, 0xB910CE94), (4, 0x2F45E204), (5, 0x1E343634), (6, 0x4DA64A64),
      (7, 0x7CD79E54)].map (fun e => List.replicate 512 0 ++ (BitVec.ofNat 8 e.1 :: (List.replicate 11 0 ++ leBytes 4 e.2)))
    twin := checked (List.replicate 60 0), routes := List.replicate 8 0, dram := 0x100000000, bayClk := 3, requests := [], early := [] }

/-- Steps 1 to 9 of the boot as they begin, with what each waits for (R735). -/
theorem test_boot_hypotheses :
    let s4 := bootDev 4 { cfg := some emptyCfg }
    let s6 : State := bootDev 6 { cfg := some emptyCfg }
    let none6 : State := { s6 with repair := { badBays := 0xFFFFFFFFFFFFFFFF } }
    s4.boot.cfg = some emptyCfg ∧ (putMap 32 s6).boot.cfg = some emptyCfg ∧
    (bootPhase (bootDev 1) ≤ 1 ∧ bootCode (bootDev 1) = 0 ∧ regBit (bootDev 1) Reg.CRP_PLL_STAT 0 = false ∧ 1 < bootPhase (bootDev 2) ∧
      bootAt 4 s4 = true ∧ s4.boot.bistDone = false ∧ s4.repair.used = 0 ∧ s4.boot.trained = none ∧ s4.boot.imagesDone = false ∧
      s4.boot.appDone = false ∧ pickBank s4 0 = none ∧ pickBank s4 1 = none ∧ pickBank s4 2 = none ∧
      bootAt 5 (bootDev 5) = true ∧ bootAt 6 s6 = true ∧ bootAt 7 (bootDev 7) = true ∧ bootAt 9 (bootDev 9) = true ∧
      gradeOf s6 = some 32 ∧ gradeOf none6 = none ∧ configOk { emptyCfg with check := false } (putMap 32 s6) = false) := by
  refine ⟨rfl, rfl, ?_⟩
  decide +kernel

theorem putBytes_zeros (n : Nat) (l : List Byte) : ∀ a, putBytes [] a (List.replicate n 0 ++ l) = putBytes [] (a + n) l := by
  induction n with
  | zero => intro a; rfl
  | succ n ih => intro a; rw [List.replicate_succ, List.cons_append, putBytes]; exact (ih (a + 1)).trans (by rw [Nat.add_right_comm]; rfl)

/-- The configuration section passes (R734). -/
theorem test_boot_config : configOk emptyCfg (putMap 32 (bootDev 6 { cfg := some emptyCfg })) = true := by
  have h : tablesOk (withTables emptyCfg (putMap 32 (bootDev 6 { cfg := some emptyCfg }))) = true := by
    simp only [withTables, emptyCfg, show List.range 8 = [0, 1, 2, 3, 4, 5, 6, 7] from rfl, List.map_cons, List.map_nil, List.zip_cons_cons,
      List.zip_nil_left, List.foldl_cons, List.foldl_nil, putBytes_zeros]
    decide +kernel
  simp only [configOk, tableBlockOk, twinBlockOk, checkOk_fast, h]
  decide +kernel

theorem pickBank_first {s : State} {t : Nat} (hv : imageOk s t 0 = true) (hr : s.boot.record = []) (hb : leAt [] t 1 = 0)
    (hm : leAt [] (4 + 4 * t) 4 = 0) : pickBank s t = some 0 := by
  simp only [pickBank, imageVerifies, recordBank, recordMin, hr, hb, hm, hv, Nat.zero_le, decide_true, Bool.and_self, if_true]

/-- Every image type has a bank (R733). -/
theorem test_boot_banks :
    let s : State := { boot := { flash := images, imageKeys := [(0, imageKey0)] } }
    pickBank s 0 = some 0 ∧ pickBank s 1 = some 0 ∧ pickBank s 2 = some 0 := by
  intro s
  obtain ⟨h0, h1, h2⟩ := image_verifies
  exact ⟨pickBank_first h0 rfl rfl rfl, pickBank_first h1 rfl rfl rfl, pickBank_first h2 rfl rfl rfl⟩

/-! ## The machine -/

/-- The outcome is a next state. -/
def answersNext (o : Host.Outcome State Fault Refusal) : Bool :=
  match o with
  | .next _ => true
  | .fault _ => false
  | .refused _ => false

/-- The hypotheses of the statements about every step: memory in canonical form before a step that goes on, an empty queue, and bytes
for DRAM, the loft and a store. -/
theorem test_machine_hypotheses :
    let s := dev [(5, 7), (loftBase, 9)]
    Memory.wf s.mem = true ∧ answersNext (step s) = true ∧ s.pending = [] ∧ s.tb.follow = none ∧
    answersNext (exec (.pegAddWrite 0x10 64 1) s) = true ∧ ([1, 2] : List Byte) ≠ [] ∧
    homeOf s 0xFFFFFFFE 2 = .dram ∧ homeOf s loftBase 2 = .loft ∧ homeOf (running 0) win0 2 = .store 0 0 ∧
    lbPhys (running 0) 0 = some 0 ∧ (bayGet (running 0) 0).st.windowWaits = false := by decide +kernel

/-! ## Well-formed commands -/

/-- For each check, a command that it refuses. -/
theorem test_ill_formed_refused :
    ([.hartAccess 12 .read 0 4 0, .hartAccess 0 .read 0 0 0, .hartAccess 0 .read 0 9 0, .panelFetch { pb := 36 } 0, .jobFaultStop 131072,
     .add pb0 (word 0 1 []), .add { pb := 36 } (word 0 0 []), .mloadwComplete 36 0, .pegWaitRelease (.hand { pb := 36 }), .submitJob 0 64 0,
     .dowelQuery 0 8 0, .pegCountWrite 0 2048 0, .regionUpdateTakeEffect 280, .regionSwapApply 8 1, .regionSwapApply 0 0,
     .regionSwapApply 0 16, .partitionConfigApply 8, .resourceZeroingDone true 96, .resourceZeroingDone false 64, .beatStart 8,
     .girtGrant 80 [], .girtGrant 0 [{ part := 8, cls := 0, bytes := 0, latency := 0 }],
     .girtGrant 0 [{ part := 0, cls := 8, bytes := 0, latency := 0 }], .retirementPoint 64, .jointerHang 9, .patrolRowTest true 49 true,
     .patrolRowTest false 36 true, .plumbGatedStart 65536, .ageEvent 64, .dinSample 4 true true, .clockMonitorWindow 0x00F 0,
     .voltageExcursion 0x019 0, .temperatureSample [1], .lockstepMismatch 2, .safetySrcPendClear 0 512, .tbDomSync 0 2, .tbTsRecordPop 0 4 true,
     .tcapEdge 16 true, .tpulseFire 8, .csiFrameStart 4 0 0 true, .csiFrameTimeout 16, .gfxPacketReturn 64, .verticalBlanking 4,
     .ethernetFrameReceive 5 [], .canBusError 8 true true, .gateEntryStart 4, .trussLaneRetire 18, .mailboxDoorbell 0 17 0,
     .mailboxRequestTake 3, .crpPixFrac 0 4 0, .fuseProg (.bay 36), .fuseProg (.word Reg.GLOBAL_LIFECYCLE 1), .keyProg true 4 [] 0,
     .keyProg false 8 [] 0, .keyRevokeComplete 8] : List Instr).all (fun i => !i.wellFormed) = true := by decide +kernel

/-- The largest numbers that the checks admit. -/
theorem test_well_formed_admitted :
    ([.hartAccess 11 .read 0 8 0, .add { pb := 35 } (word 0 0 []), .jobFaultStop 131071, .submitJob 0 63 0, .pegCountWrite 0 2047 0,
      .regionUpdateTakeEffect 279, .regionSwapApply 7 15, .girtGrant 79 [], .resourceZeroingDone true 95, .patrolRowTest true 48 true,
      .ageEvent 63, .clockMonitorWindow 0x043 0, .tcapEdge 15 true, .trussLaneRetire 17, .mailboxDoorbell 0 16 0,
      .fuseProg (.row (0x1000 + 1567)), .keyProg true 3 [] 0] : List Instr).all (fun i => i.wellFormed) = true := by decide +kernel

/-! ## Values that the spec works out -/

/-- The test vectors of CRC-32C after R43. -/
theorem test_crc_vectors :
    crcFast 0xFFFFFFFF [0x31, 0x32, 0x33, 0x34, 0x35, 0x36, 0x37, 0x38, 0x39] ^^^ 0xFFFFFFFF = 0xE3069283 ∧
    crcFast 0xFFFFFFFF (List.replicate 32 0) ^^^ 0xFFFFFFFF = 0x8A9136AA ∧
    crcFast 0xFFFFFFFF (List.replicate 32 0xFF) ^^^ 0xFFFFFFFF = 0x62A8AB43 := by decide +kernel

/-- Locating a bay (the worked example that opens chapter 2). -/
theorem test_bay_window :
    let s : State := { bayMap := [(20, 1)] }
    homeOf s 0x001012801000 1 = .store 20 0x1000 ∧ homeOf s 0x00101293FFFF 1 = .store 20 0x13FFFF ∧ homeOf s 0x001012940000 1 = .hole := by
  decide +kernel

/-- `vadd.fp32.rne V3, V1, V2` (the worked example after R217). -/
theorem test_vadd_word :
    word 0x10 0 [(47, 3), (42, 1), (37, 2), (24, 9)] = 0x4001844009000000 ∧ issuesAs 0x4001844009000000 = .vadd := by decide +kernel

/-- A branch at 0x0000_0080_1040, slot 0, with OFF32 = −6 goes to 0x0000_0080_1008 (the example after R178). -/
theorem test_branch_back :
    (match exec (.bra pb0 (word 8 6 [(0, 0xFFFFFFFA)])) (runningAt 0x801040 (word 8 6 [(0, 0xFFFFFFFA)])) with
      | .next t => (bayGet t 0).main.pc
      | _ => 0) = 0x801008 := by decide +kernel

/-- 127.4 to INT8 delivers 0x7F with inexact only, 127.6 with invalid only (the example after R148). -/
theorem test_convert_int8 :
    convertOne .fp32 .int8 .rne false false 0x42FECCCD = { bits := 0x7F, flags := { nx := true } } ∧
    convertOne .fp32 .int8 .rne false false 0x42FF3333 = { bits := 0x7F, flags := { nv := true } } := by decide +kernel

/-- 2^24 + 1 − 2^24 in FP16 products gives 1, in either order (the worked example that opens chapter 4). -/
theorem test_exact_sum :
    let p := fun (a b : Nat) => matProd (Fmt.fp16.decode a) (Fmt.fp16.decode b)
    let sum := fun (ps : List Prod) => (Sill.zero.promote (exactChunk ps)).map (drainColumn .fp16 .rne false none)
    sum [p 0x6C00 0x6C00, p 0x3C00 0x3C00, p 0xEC00 0x6C00] = some { bits := 0x3C00 } ∧
    sum [p 0x6C00 0x6C00, p 0xEC00 0x6C00, p 0x3C00 0x3C00] = some { bits := 0x3C00 } := by decide +kernel

/-- What a scalar register holds after an instruction of PB0. -/
def resultOf (i : Instr) (w : Word64) (r : HandRegs) (k : Nat) : Word64 :=
  match exec i (running w r) with
  | .next t => (bayGet t 0).main.regs.getS k
  | _ => 0

/-- DIV by 0 gives all ones and REM the dividend; −2^63 / −1 gives −2^63, and its remainder 0 (R222). -/
theorem test_divide_corners :
    let d := word 4 8 [(47, 3), (42, 1), (37, 2)]
    let m := word 4 0xA [(47, 3), (42, 1), (37, 2)]
    resultOf (.div pb0 d) d { s := [(1, 7)] } 3 = 0xFFFFFFFFFFFFFFFF ∧ resultOf (.rem pb0 m) m { s := [(1, 7)] } 3 = 7 ∧
    resultOf (.div pb0 d) d { s := [(1, 0x8000000000000000), (2, 0xFFFFFFFFFFFFFFFF)] } 3 = 0x8000000000000000 ∧
    resultOf (.rem pb0 m) m { s := [(1, 0x8000000000000000), (2, 0xFFFFFFFFFFFFFFFF)] } 3 = 0 := by decide +kernel

/-- ADD wraps; a source may be the destination; s[0] stays 0 . -/
theorem test_add :
    let a := word 0 0 [(47, 1), (42, 1), (37, 2)]
    let z := word 0 0 [(47, 0), (42, 1), (37, 2)]
    resultOf (.add pb0 a) a { s := [(1, 0xFFFFFFFFFFFFFFFF), (2, 3)] } 1 = 2 ∧
    resultOf (.add pb0 z) z { s := [(1, 5), (2, 3)] } 0 = 0 := by decide +kernel

/-- A list of dowels in use, a multiple of 16 slots apart but one. -/
def comb : List (Nat × Dowel) := (List.range 4096).map (fun i => (16 * i + 15, { st := .queued, part := 2 }))

theorem tabGet_comb (l : List (Nat × Dowel)) (h : ∀ e ∈ l, e.2.st = .queued) (k : Nat) (hk : k ∈ l.map Prod.fst) :
    (tabGet ({} : Dowel) l k).st = .queued := by
  induction l with
  | nil => simp at hk
  | cons e l ih =>
    obtain ⟨a, d⟩ := e
    simp only [tabGet]
    split
    · exact h _ (List.mem_cons_self ..)
    · rename_i hne
      refine ih (fun e he => h e (List.mem_cons_of_mem _ he)) ?_
      simp only [List.map_cons, List.mem_cons] at hk
      rcases hk with rfl | hk
      · simp at hne
      · exact hk

/-- No run of 16 slots is free. -/
theorem freeRun_comb (s : State) (hs : s.cmd.slots = comb) : freeRun s 16 = none := by
  have key : ∀ x, x < 65536 → slotsFree s x 16 = false := by
    intro x hx
    have hq : (dowelGet s (x / 16 * 16 + 15)).st = .queued := by
      unfold dowelGet
      rw [hs]
      refine tabGet_comb _ ?_ _ ?_
      · intro e he; simp only [comb, List.mem_map] at he; obtain ⟨i, -, rfl⟩ := he; rfl
      · simp only [comb, List.map_map, List.mem_map, List.mem_range, Function.comp]
        exact ⟨x / 16, by omega, by omega⟩
    simp only [slotsFree, rangeFrom, List.all_eq_false, List.mem_map, List.mem_range]
    exact ⟨_, ⟨x / 16 * 16 + 15 - x, by omega, rfl⟩, by
      rw [show x + (x / 16 * 16 + 15 - x) = x / 16 * 16 + 15 by omega, hq]; decide⟩
  have run : ∀ k x, x < 65536 → findRun s 16 k x = none := by
    intro k
    induction k with
    | zero => intro x _; rfl
    | succ k ih => intro x hx; simp only [findRun, key x hx]; simpa using ih _ (Nat.mod_lt _ (by decide))
  exact run _ _ (Nat.mod_lt _ (by decide))

/-- Reading a descriptor that the regions let be read changes registers only. -/
theorem readAt_cmd (s : State) (a : Nat) (h : (readAt s a).1.isSome = true) : (readAt s a).2.cmd = s.cmd := by
  have hc : ∀ {u t : State}, Within { regs := true, staging := true } u t → t.cmd = u.cmd :=
    fun h => by simpa [Parts.hide] using congrArg State.cmd h.same
  have h1 := hc (frame_commitPair (w := { regs := true, staging := true }) rfl s (Reg.CMDPROC_SUBMIT 3) a _ rfl)
  have h2 := hc (frame_accessCheck (w := { regs := true, staging := true }) rfl
    (commitPair s (Reg.CMDPROC_SUBMIT 3) a) 1 7 .read a 128 _ rfl)
  refine Eq.trans ?_ (h2.trans h1)
  revert h
  unfold readAt readDesc
  split
  · rename_i e; intro _; rw [e]
  · intro h; cases h

/-- A batch of 16 within the quota, with no free run for it. -/
theorem test_full_hypotheses :
    let a := 0x10000
    let batch := submission 2 [(6, 1, 0), (96, 8, 0x20000), (104, 1, 16)]
    let s : State := { dev (cells a batch) with cmd := { slots := comb } }
    let q := (readAt s a).2
    (readAt s a).1 = some batch ∧ dsFormatOk a batch = true ∧ dsPartitionOk q 1 batch = true ∧ deadlinePast q batch = false ∧
    dsKind batch = 2 ∧ dowelsInUse q 1 + dsChildCount batch ≤ dowelQuota q 1 ∧ freeRun q (dsChildCount batch) = none := by
  intro a batch s q
  have h1 : (readAt s a).1 = some batch := by decide +kernel
  refine ⟨h1, by decide +kernel, by decide +kernel, by decide +kernel, by decide +kernel, by decide +kernel, ?_⟩
  have h2 : dsChildCount batch = 16 := by decide +kernel
  have h3 : q.cmd = s.cmd := readAt_cmd s a (by rw [h1]; rfl)
  have h4 : ∀ b : State, ({ b with cmd := { slots := comb } } : State).cmd.slots = comb := fun b => by with_reducible rfl
  rw [h2]
  exact freeRun_comb q ((congrArg CmdProc.slots h3).trans (h4 (dev (cells a batch))))

end Sys2Proof.Tests
end

section
/-!
SUPPORT. Laws of relative branches: the target of R178 as the manual's formula, where `goTo` and `branch` leave a context (R171,
R180), and the condition of each conditional branch, with the settlement of the statement on conditional branches.
-/

namespace Sys2Proof.Machine

/-! ## Targets -/

/-- The offset field of format BR is its low 32 bits as a two's complement number. -/
theorem BR.off_eq_toInt (w : Word64) : BR.off w = (w.extractLsb' 0 32).toInt := by
  have hlt : w.toNat % 2 ^ 32 < 2 ^ 32 := Nat.mod_lt _ (by decide)
  simp only [BR.off, fld, nfld, sintOf, BitVec.toInt_eq_toNat_cond, BitVec.extractLsb'_toNat, Nat.shiftRight_zero]
  split_ifs <;> omega

/-- The formula of R178, read in the integers: `t` counts the slots from slot 0 of the branch's panel. -/
theorem branchTarget_eq (pc : Addr) (off : Int) :
    branchTarget pc off =
      (pc : Int) - (pc : Int) % 64 + 64 * (((pc : Int) % 64 / 8 + off) / 7) + 8 * (((pc : Int) % 64 / 8 + off) % 7) := by
  have hpanel : ((pc - pc % 64 : Nat) : Int) = (pc : Int) - (pc : Int) % 64 := by
    rw [Nat.cast_sub (Nat.mod_le pc 64)]
    norm_cast
  simp [branchTarget, hpanel]

/-! ## Where control goes -/

/-- Control goes to a target in range, and inside the plumb program's addresses in a plumb run (R171, R180). -/
theorem goTo_of_inRange {s : State} {h : Hand} {t : Int} (ht : 0 ≤ t ∧ t ≤ 0xFFFFFFFFFFC0 ∧ ((bayGet s h.pb).st = .plumb → t ≤ 0x7FF))
    (f : HandRegs → HandRegs) : goTo h t f s = jumpedTo s h t.toNat (f (handGet s h).regs) := by
  have hgood : ¬ (t < 0 ∨ 0xFFFFFFFFFFC0 < t ∨ ((bayGet s h.pb).st = .plumb ∧ 0x7FF < t)) := by
    simpa only [not_or, not_and, Int.not_lt] using ht
  exact if_neg hgood

/-- A target out of range raises FETCH 0x04, and the register files stay (R171, R180, R200). -/
theorem goTo_of_outOfRange {s : State} {h : Hand} {t : Int}
    (ht : t < 0 ∨ 0xFFFFFFFFFFC0 < t ∨ ((bayGet s h.pb).st = .plumb ∧ 0x7FF < t)) (f : HandRegs → HandRegs) :
    goTo h t f s = preciseFault h 0x404 s := if_pos ht

theorem branch_taken (h : Hand) (w : Word64) (f : HandRegs → HandRegs) (s : State) :
    branch h w true f s = goTo h (branchTarget (handGet s h).pc (BR.off w)) f s := rfl

theorem branch_not_taken (h : Hand) (w : Word64) (f : HandRegs → HandRegs) (s : State) :
    branch h w false f s = afterRegs s h (f (handGet s h).regs) := rfl

/-! ## The conditions -/

/-- The instruction `mk` of operation `o` is a relative branch that writes no register and is taken when `rel` holds of s[RA]
and s[RB]. -/
def BranchesWhen (o : Op) (mk : Hand → Word64 → Instr) (rel : Word64 → Word64 → Bool) : Prop :=
  ∀ (s : State) (h : Hand) (w : Word64), exec (mk h w) s =
    issue o h w s (fun s => branch h w (rel ((handGet s h).regs.getS (BR.ra w)) ((handGet s h).regs.getS (BR.rb w))) id s)

theorem beq_branchesWhen : BranchesWhen .beq .beq (fun a b => decide (a = b)) := fun _ _ _ => rfl

theorem bne_branchesWhen : BranchesWhen .bne .bne (fun a b => decide (a ≠ b)) := fun _ _ _ => rfl

theorem blt_branchesWhen : BranchesWhen .blt .blt (fun a b => a.slt b) := fun _ _ _ => rfl

/-- Signed greater-or-equal is the negation of signed less-than. -/
theorem bge_branchesWhen : BranchesWhen .bge .bge (fun a b => !a.slt b) := by
  have hrel : ∀ a b : Word64, (!a.slt b) = decide (b.toInt ≤ a.toInt) := fun a b => by
    simp [BitVec.slt_eq_decide, ← decide_not]
  intro s h w
  simp only [hrel]
  rfl

theorem bltu_branchesWhen : BranchesWhen .bltu .bltu (fun a b => decide (a < b)) := fun _ _ _ => rfl

theorem bgeu_branchesWhen : BranchesWhen .bgeu .bgeu (fun a b => decide (b ≤ a)) := fun _ _ _ => rfl

theorem bra_branchesWhen : BranchesWhen .bra .bra (fun _ _ => true) := fun _ _ _ => rfl

/-- What an issuing instruction of this kind does: on to the next instruction, or to its target. -/
theorem BranchesWhen.exec_eq {o : Op} {mk : Hand → Word64 → Instr} {rel : Word64 → Word64 → Bool} (hb : BranchesWhen o mk rel)
    {s : State} {h : Hand} {w : Word64} (hc : CanIssue s h o w) :
    exec (mk h w) s = .next
      (if rel ((handGet s h).regs.getS (BR.ra w)) ((handGet s h).regs.getS (BR.rb w)) then
        goTo h (branchTarget (handGet s h).pc (BR.off w)) id s
      else afterRegs s h (handGet s h).regs) := by
  rw [hb s h w, issue_eq hc]
  cases rel ((handGet s h).regs.getS (BR.ra w)) ((handGet s h).regs.getS (BR.rb w)) with
  | false => simp [branch_not_taken]
  | true => simp [branch_taken]

end Sys2Proof.Machine

namespace Sys2Proof.Proofs

open Sys2Proof.Machine

/-- Settles O12: each of the seven rows is a `BranchesWhen`, and `goTo` tells a target in range from one that is not. -/
theorem branchTarget : Obligations.BranchTarget := by
  unfold Obligations.BranchTarget
  intro s h w x hx hc c pc t target
  have hrow : BranchesWhen x.1 x.2.1 x.2.2 := by
    simp only [List.mem_cons, List.not_mem_nil, or_false] at hx
    obtain rfl | rfl | rfl | rfl | rfl | rfl | rfl := hx
    · exact beq_branchesWhen
    · exact bne_branchesWhen
    · exact blt_branchesWhen
    · exact bge_branchesWhen
    · exact bltu_branchesWhen
    · exact bgeu_branchesWhen
    · exact bra_branchesWhen
  have htarget : Machine.branchTarget c.pc (BR.off w) = target := by
    rw [branchTarget_eq, BR.off_eq_toInt]
  have hexec := hrow.exec_eq hc
  refine ⟨fun hfalse => ?_, fun htrue => ?_⟩
  · rw [hexec, hfalse]; rfl
  · rw [htrue, if_pos rfl, htarget] at hexec
    refine ⟨fun hin => ?_, fun hout => ?_⟩
    · rw [hexec, goTo_of_inRange hin]; rfl
    · rw [hexec, goTo_of_outOfRange hout]

end Sys2Proof.Proofs
end

section
/-!
SUPPORT. Laws of the scalar instructions of two sources: each writes a function of s[RA] and s[RB] to s[RD]; with the settlement of
the statement on division.
-/

namespace Sys2Proof.Machine

/-- The instruction `mk` of operation `o` computes `f` of s[RA] and s[RB]. -/
def ComputesScalar (o : Op) (mk : Hand → Word64 → Instr) (f : Word64 → Word64 → Word64) : Prop :=
  ∀ (s : State) (h : Hand) (w : Word64), exec (mk h w) s = issue o h w s (regStep h (aluR3 f w))

/-- What an issuing instruction of this kind does: the result in s[RD], and on to the next instruction. -/
theorem ComputesScalar.exec_wroteS {o : Op} {mk : Hand → Word64 → Instr} {f : Word64 → Word64 → Word64} (hf : ComputesScalar o mk f)
    {s : State} {h : Hand} {w : Word64} (hc : CanIssue s h o w) :
    ∃ r', exec (mk h w) s = .next (afterRegs s h r') ∧
      WroteS (handGet s h).regs r' (R3.rd w) (f ((handGet s h).regs.getS (R3.ra w)) ((handGet s h).regs.getS (R3.rb w))) :=
  ⟨aluR3 f w (handGet s h).regs, (hf s h w).trans (issue_regStep hc _), wroteS_setS _ _ _⟩

/-! ## Division (R222) -/

/-- Rounded toward zero, the quotient as the manual states it: −2^63 by −1 wraps to −2^63. -/
theorem divW_eq (a b : Word64) :
    divW a b = if b = 0 then 0xFFFFFFFFFFFFFFFF else if a = 2 ^ 63 ∧ b = -1 then 2 ^ 63 else a.sdiv b := by
  have hquot : BitVec.ofInt 64 (a.toInt.tdiv b.toInt) = a.sdiv b :=
    BitVec.eq_of_toInt_eq (by rw [BitVec.toInt_ofInt, BitVec.toInt_sdiv])
  have hwrap : (2 ^ 63 : Word64).sdiv (-1) = 2 ^ 63 := by decide +kernel
  rw [divW, hquot]
  split_ifs with hzero hover
  · rfl
  · obtain ⟨rfl, rfl⟩ := hover
    exact hwrap
  · rfl

theorem divuW_eq (a b : Word64) : divuW a b = if b = 0 then 0xFFFFFFFFFFFFFFFF else a.udiv b := by
  have hquot : BitVec.ofNat 64 (a.toNat / b.toNat) = a.udiv b := BitVec.eq_of_toNat_eq (by
    rw [BitVec.toNat_ofNat, BitVec.udiv_eq, BitVec.toNat_udiv]
    exact Nat.mod_eq_of_lt ((Nat.div_le_self _ _).trans_lt a.isLt))
  rw [divuW, hquot]
  rfl

/-- The remainder with the sign of the dividend, as the manual states it: that of −2^63 by −1 is 0. -/
theorem remW_eq (a b : Word64) :
    remW a b = if b = 0 then a else if a = 2 ^ 63 ∧ b = -1 then 0 else a.srem b := by
  have hrem : BitVec.ofInt 64 (a.toInt.tmod b.toInt) = a.srem b := by
    rw [← BitVec.toInt_srem, BitVec.ofInt_toInt]
  have hover0 : (2 ^ 63 : Word64).srem (-1) = 0 := by decide +kernel
  rw [remW, hrem]
  split_ifs with hzero hover
  · rfl
  · obtain ⟨rfl, rfl⟩ := hover
    exact hover0
  · rfl

theorem remuW_eq (a b : Word64) : remuW a b = if b = 0 then a else a.umod b := by
  have hrem : BitVec.ofNat 64 (a.toNat % b.toNat) = a.umod b := BitVec.eq_of_toNat_eq (by
    rw [BitVec.toNat_ofNat, BitVec.umod_eq, BitVec.toNat_umod]
    exact Nat.mod_eq_of_lt ((Nat.mod_le _ _).trans_lt a.isLt))
  rw [remuW, hrem]

theorem div_computes : ComputesScalar .div .div
    (fun a b => if b = 0 then 0xFFFFFFFFFFFFFFFF else if a = 2 ^ 63 ∧ b = -1 then 2 ^ 63 else a.sdiv b) := by
  simp only [← divW_eq]
  exact fun _ _ _ => rfl

theorem divu_computes : ComputesScalar .divu .divu (fun a b => if b = 0 then 0xFFFFFFFFFFFFFFFF else a.udiv b) := by
  simp only [← divuW_eq]
  exact fun _ _ _ => rfl

theorem rem_computes : ComputesScalar .rem .rem
    (fun a b => if b = 0 then a else if a = 2 ^ 63 ∧ b = -1 then 0 else a.srem b) := by
  simp only [← remW_eq]
  exact fun _ _ _ => rfl

theorem remu_computes : ComputesScalar .remu .remu (fun a b => if b = 0 then a else a.umod b) := by
  simp only [← remuW_eq]
  exact fun _ _ _ => rfl

end Sys2Proof.Machine

namespace Sys2Proof.Proofs

open Sys2Proof.Machine

/-- Settles O9: each of the four rows is a `ComputesScalar`, by the equation of its quotient or remainder. -/
theorem divisionResult : Obligations.DivisionResult := by
  unfold Obligations.DivisionResult
  intro s h w x hx hc
  refine ComputesScalar.exec_wroteS ?_ hc
  simp only [List.mem_cons, List.not_mem_nil, or_false] at hx
  obtain rfl | rfl | rfl | rfl := hx
  · exact div_computes
  · exact divu_computes
  · exact rem_computes
  · exact remu_computes

end Sys2Proof.Proofs
end

section
/-!
SUPPORT. Laws of the jumps that write a scalar register: what JAL, JR and LOOP do once they issue (R179, R224, R225), with the
settlement of the statements on them.
-/

namespace Sys2Proof.Machine

/-! ## Targets and the written register -/

/-- The target of a relative branch in the terms of the instruction word (R178). -/
theorem branchTarget_off (pc : Addr) (w : Word64) :
    branchTarget pc (BR.off w) =
      (pc : Int) - (pc : Int) % 64 + 64 * (((pc : Int) % 64 / 8 + (w.extractLsb' 0 32).toInt) / 7) +
        8 * (((pc : Int) % 64 / 8 + (w.extractLsb' 0 32).toInt) % 7) := by
  rw [branchTarget_eq, BR.off_eq_toInt]

/-- A jump to a target in range that writes s[i] on its way. -/
theorem goTo_setS_of_inRange {s : State} {h : Hand} {t : Int}
    (ht : 0 ≤ t ∧ t ≤ 0xFFFFFFFFFFC0 ∧ ((bayGet s h.pb).st = .plumb → t ≤ 0x7FF)) (i : Nat) (x : Word64) :
    ∃ r', goTo h t (fun r => r.setS i x) s = jumpedTo s h t.toNat r' ∧ WroteS (handGet s h).regs r' i x :=
  ⟨_, goTo_of_inRange ht _, wroteS_setS _ _ _⟩

/-- The targets that JR refuses: above 48 bits, not a multiple of 8, or the parity slot of a panel (R179). -/
theorem jumpTargetBad_iff (x : Word64) :
    (fld x 48 16 ≠ 0 ∨ fld x 0 3 ≠ 0 ∨ fld x 3 3 = 7) ↔ (2 ^ 48 ≤ x.toNat ∨ x.toNat % 8 ≠ 0 ∨ x.toNat / 8 % 8 = 7) := by
  have hlt := x.isLt
  simp only [fld, nfld, Nat.shiftRight_eq_div_pow]
  omega

/-! ## What each instruction does -/

variable {s : State} {h : Hand} {w : Word64}

/-- JAL goes to its target with the link in s[RD]. -/
theorem exec_jal (hc : CanIssue s h .jal w) :
    exec (.jal h w) s = .next (goTo h (branchTarget (handGet s h).pc (BR.off w))
      (fun r => r.setS (BR.rd w) (BitVec.ofNat 64 (nextPc (handGet s h).pc))) s) :=
  issue_eq hc _

/-- JR raises FETCH 0x03 for a target that it refuses, and otherwise goes to the address that s[RA] held, with the link in s[RD]. -/
theorem exec_jr (hc : CanIssue s h .jr w) :
    exec (.jr h w) s = .next
      (if fld ((handGet s h).regs.getS (BR.ra w)) 48 16 ≠ 0 ∨ fld ((handGet s h).regs.getS (BR.ra w)) 0 3 ≠ 0 ∨
          fld ((handGet s h).regs.getS (BR.ra w)) 3 3 = 7 then preciseFault h 0x403 s
      else goTo h (((handGet s h).regs.getS (BR.ra w)).toNat : Int)
        (fun r => r.setS (BR.rd w) (BitVec.ofNat 64 (nextPc (handGet s h).pc))) s) := by
  rw [show exec (.jr h w) s = execJr h w s from rfl, execJr, issue_eq hc]

/-- LOOP with a zero counter moves on; with another it is a branch, taken while the counter less 1 is not 0, that writes it. -/
theorem exec_loop (hc : CanIssue s h .loop w) :
    exec (.loop h w) s = .next
      (if (handGet s h).regs.getS (BR.rd w) = 0 then afterRegs s h (handGet s h).regs
      else branch h w (decide ((handGet s h).regs.getS (BR.rd w) - 1 ≠ 0))
        (fun r => r.setS (BR.rd w) ((handGet s h).regs.getS (BR.rd w) - 1)) s) := by
  rw [show exec (.loop h w) s = execLoop h w s from rfl, execLoop, issue_eq hc, ← advance_eq]

end Sys2Proof.Machine

namespace Sys2Proof.Proofs

open Sys2Proof.Machine

/-- Settles O13: JAL and JR are a `goTo` that writes the link, but for the targets that JR refuses. -/
theorem jumpAndLink : Obligations.JumpAndLink := by
  unfold Obligations.JumpAndLink
  intro s h w c pc t target x
  have htarget : Machine.branchTarget c.pc (BR.off w) = target := branchTarget_off c.pc w
  have hjr : CanIssue s h .jr w → x.toNat < 2 ^ 48 → x.toNat % 8 = 0 → x.toNat / 8 % 8 ≠ 7 →
      exec (.jr h w) s = .next (goTo h (x.toNat : Int) (fun r => r.setS (BR.rd w) (BitVec.ofNat 64 (nextPc c.pc))) s) := by
    intro hc h48 h8 h7
    rw [exec_jr hc, if_neg]
    exact (jumpTargetBad_iff x).not.2 (by omega)
  refine ⟨fun hc hlo hhi hplumb => ?_, fun hc hout => ?_, fun hc h48 h8 h7 hhi hplumb => ?_, fun hc hbad => ?_,
    fun hc h48 h8 h7 hout => ?_⟩
  · obtain ⟨r', hgo, hwrote⟩ := goTo_setS_of_inRange ⟨hlo, hhi, hplumb⟩ (BR.rd w) (BitVec.ofNat 64 (nextPc c.pc))
    exact ⟨r', by rw [exec_jal hc, htarget, hgo], hwrote⟩
  · rw [exec_jal hc, htarget, goTo_of_outOfRange hout]
  · have hin : (0 : Int) ≤ x.toNat ∧ (x.toNat : Int) ≤ 0xFFFFFFFFFFC0 ∧ ((bayGet s h.pb).st = .plumb → (x.toNat : Int) ≤ 0x7FF) :=
      ⟨Int.natCast_nonneg _, by exact_mod_cast hhi, fun hp => by exact_mod_cast hplumb hp⟩
    obtain ⟨r', hgo, hwrote⟩ := goTo_setS_of_inRange hin (BR.rd w) (BitVec.ofNat 64 (nextPc c.pc))
    exact ⟨r', by rw [hjr hc h48 h8 h7, hgo, Int.toNat_natCast], hwrote⟩
  · rw [exec_jr hc, if_pos ((jumpTargetBad_iff x).2 hbad)]
  · have hfar : (x.toNat : Int) < 0 ∨ (0xFFFFFFFFFFC0 : Int) < x.toNat ∨ ((bayGet s h.pb).st = .plumb ∧ (0x7FF : Int) < x.toNat) :=
      Or.inr (by exact_mod_cast hout)
    rw [hjr hc h48 h8 h7, goTo_of_outOfRange hfar]

/-- Settles O14: a counter other than 0 makes LOOP a branch that is taken unless the counter is 1. -/
theorem loopCounts : Obligations.LoopCounts := by
  unfold Obligations.LoopCounts
  intro s h w hc c pc t target v
  have htarget : Machine.branchTarget c.pc (BR.off w) = target := branchTarget_off c.pc w
  have hbranch : v ≠ 0 → exec (.loop h w) s =
      .next (branch h w (decide (v - 1 ≠ 0)) (fun r => r.setS (BR.rd w) (v - 1)) s) :=
    fun h0 => by rw [exec_loop hc, if_neg h0]
  have htaken : v ≠ 0 → v ≠ 1 → exec (.loop h w) s = .next (goTo h target (fun r => r.setS (BR.rd w) (v - 1)) s) := by
    intro h0 h1
    rw [hbranch h0, decide_eq_true (sub_ne_zero.2 h1), branch_taken, htarget]
  refine ⟨fun h0 => ?_, fun h1 => ?_, fun h0 h1 hlo hhi hplumb => ?_, fun h0 h1 hout => ?_⟩
  · rw [exec_loop hc, if_pos h0]
  · rw [hbranch (by rw [h1]; decide), h1]
    exact ⟨_, rfl, wroteS_setS _ _ _⟩
  · obtain ⟨r', hgo, hwrote⟩ := goTo_setS_of_inRange ⟨hlo, hhi, hplumb⟩ (BR.rd w) (v - 1)
    exact ⟨r', by rw [htaken h0 h1, hgo], hwrote⟩
  · rw [htaken h0 h1, goTo_of_outOfRange hout]

end Sys2Proof.Proofs
end

section
/-!
SUPPORT. Laws of the reductions (R228): the fixed tree over 2^d lanes, level by level and as a sum, with the settlement of the
statement on reductions.
-/

namespace Sys2Proof.Machine

/-! ## The fixed tree -/

/-- A level of the tree from below: its leaves are the pairs of the lower level. -/
theorem treeOf_succ_pairs {α : Type} (op : α → α → α) (t : Nat → α) (d i : Nat) :
    treeOf op t (d + 1) i = treeOf op (fun j => op (t (2 * j)) (t (2 * j + 1))) d i := by
  induction d generalizing i with
  | zero => rfl
  | succ d ih => exact congrArg₂ op (ih (2 * i)) (ih (2 * i + 1))

/-- `pairUp` is one level of the tree. -/
theorem pairUp_map_range {α : Type} (op : α → α → α) (t : Nat → α) (n : Nat) :
    pairUp op ((List.range (2 * n)).map t) = (List.range n).map (fun j => op (t (2 * j)) (t (2 * j + 1))) := by
  induction n generalizing t with
  | zero => rfl
  | succ n ih =>
    have htail := ih (fun i => t (i + 2))
    simp only [Nat.mul_succ, List.range_succ_eq_map, List.map_cons, List.map_map, pairUp] at htail ⊢
    exact congrArg _ htail

/-- The fold over 2^d lanes with fuel for its levels leaves the tree alone. -/
theorem treeFold_map_range {α : Type} (op : α → α → α) (t : Nat → α) (d fuel : Nat) (hd : d ≤ fuel) :
    treeFold op fuel ((List.range (2 ^ d)).map t) = [treeOf op t d 0] := by
  induction d generalizing t fuel with
  | zero => cases fuel <;> rfl
  | succ d ih =>
    obtain ⟨n, rfl⟩ := Nat.exists_eq_add_of_le' hd
    have hlong : ¬ ((List.range (2 ^ (d + 1))).map t).length ≤ 1 := by
      simp only [List.length_map, List.length_range, Nat.not_le]
      exact Nat.one_lt_two_pow d.succ_ne_zero
    rw [← Nat.add_assoc, treeFold, if_neg hlong, Nat.pow_succ', pairUp_map_range, ih _ _ (by omega), treeOf_succ_pairs]

/-- Pairing with a sum modulo `m` keeps the sum modulo `m`. -/
theorem sum_pairUp_mod (m : Nat) (l : List Nat) : (pairUp (fun a b => (a + b) % m) l).sum % m = l.sum % m := by
  induction l using pairUp.induct with
  | case1 a b l ih =>
    simp only [pairUp, List.sum_cons, ← Nat.add_assoc]
    exact (Nat.mod_modEq _ m).add ih
  | case2 a => rfl
  | case3 => rfl

/-- The tree of sums modulo `m` is the sum modulo `m`. -/
theorem treeOf_addMod (m : Nat) (t : Nat → Nat) (ht : ∀ i, t i < m) (d : Nat) :
    treeOf (fun a b => (a + b) % m) t d 0 = ((List.range (2 ^ d)).map t).sum % m := by
  induction d generalizing t with
  | zero => simp [treeOf, Nat.mod_eq_of_lt (ht 0)]
  | succ d ih =>
    have hm : 0 < m := Nat.zero_lt_of_lt (ht 0)
    rw [treeOf_succ_pairs, ih _ (fun _ => Nat.mod_lt _ hm), ← pairUp_map_range (fun a b => (a + b) % m), sum_pairUp_mod,
      Nat.pow_succ']

/-! ## Reductions of a vector -/

/-- The lane count of a format is a power of two. -/
theorem two_pow_log2_laneCount (f : Fmt) : 2 ^ Nat.log2 (laneCount f.width) = laneCount f.width := by cases f <;> decide

theorem log2_laneCount_le (f : Fmt) : Nat.log2 (laneCount f.width) ≤ 10 := by cases f <;> decide

/-- The fold of a reduction over the lanes of a format is the tree over them. -/
theorem treeFold_lanes {α : Type} (op : α → α → α) (t : Nat → α) (f : Fmt) (z : α) :
    (treeFold op 10 ((List.range (laneCount f.width)).map t)).headD z = treeOf op t (Nat.log2 (laneCount f.width)) 0 := by
  have hfold := treeFold_map_range op t _ 10 (log2_laneCount_le f)
  rw [two_pow_log2_laneCount] at hfold
  rw [hfold, List.headD_cons]

/-- A floating-point reduction writes the tree of its lanes and raises the flags of the tree. -/
theorem vreduce_eq (op : RMode → FVal → FVal → FExact) (idle : Fmt → Nat) (w : Word64) (r : HandRegs) :
    vreduce op idle w r =
      let z := treeOf (reduceStep (R3.fmt w) (R3.rm w) r.flags.ftz op)
        (fun i => { bits := if active w r i then lane (r.getV (R3.ra w)) (R3.fmt w).width i else idle (R3.fmt w) })
        (Nat.log2 (laneCount (R3.fmt w).width)) 0
      (r.setV (R3.rd w) (BitVec.ofNat 512 z.bits)).raise z.flags := by
  simp only [vreduce, treeFold_lanes]

/-- The integer reduction writes the sum of the lanes that take part, modulo the lane width. -/
theorem vrisumEff_eq (w : Word64) (r : HandRegs) :
    vrisumEff w r = r.setV (R3.rd w) (BitVec.ofNat 512
      ((((List.range (laneCount (R3.fmt w).width)).filter (active w r)).map
        (lane (r.getV (R3.ra w)) (R3.fmt w).width)).sum % 2 ^ (R3.fmt w).width)) := by
  have hlt : ∀ i, (if active w r i then lane (r.getV (R3.ra w)) (R3.fmt w).width i else 0) < 2 ^ (R3.fmt w).width := by
    intro i
    split
    · exact lane_lt _ _ _
    · exact Nat.two_pow_pos _
  simp only [vrisumEff, treeFold_lanes]
  rw [treeOf_addMod _ _ hlt, two_pow_log2_laneCount]
  simp [List.sum_map_ite]

/-- The instruction `mk` of operation `o` is the floating-point reduction by `op`, `idle` standing in for a masked-off lane. -/
def Reduces (o : Op) (mk : Hand → Word64 → Instr) (op : RMode → FVal → FVal → FExact) (idle : Fmt → Nat) : Prop :=
  ∀ (s : State) (h : Hand) (w : Word64), exec (mk h w) s = issue o h w s (regStep h (vreduce op idle w))

/-- What an issuing reduction does: its tree in v[RD], the flags of the tree, and on to the next instruction. -/
theorem Reduces.exec_eq {o : Op} {mk : Hand → Word64 → Instr} {op : RMode → FVal → FVal → FExact} {idle : Fmt → Nat}
    (hr : Reduces o mk op idle) {s : State} {h : Hand} {w : Word64} (hc : CanIssue s h o w) :
    exec (mk h w) s = .next (afterRegs s h (vreduce op idle w (handGet s h).regs)) :=
  (hr s h w).trans (issue_regStep hc _)

end Sys2Proof.Machine

namespace Sys2Proof.Proofs

open Sys2Proof.Machine

/-- Settles O22: the model's level-by-level fold is the tree, and a tree of sums modulo the lane width is the sum. -/
theorem reductionResult : Obligations.ReductionResult := by
  unfold Obligations.ReductionResult
  intro s h w r f n depth a
  refine ⟨?_, fun hc => ?_⟩
  · intro x hx hc join z
    obtain ⟨idle, hrow, hidle⟩ : ∃ idle : Fmt → Nat, Reduces x.1 x.2.1 x.2.2.1 idle ∧ x.2.2.2 = idle f := by
      simp only [List.mem_cons, List.not_mem_nil, or_false] at hx
      obtain rfl | rfl | rfl := hx
      · exact ⟨fun _ => 0, fun _ _ _ => rfl, rfl⟩
      · exact ⟨Fmt.defaultNaN, fun _ _ _ => rfl, rfl⟩
      · exact ⟨Fmt.defaultNaN, fun _ _ _ => rfl, rfl⟩
    have hregs : vreduce x.2.2.1 idle w r = (r.setV (R3.rd w) (BitVec.ofNat 512 z.bits)).raise z.flags := by
      simp only [z, hidle]
      exact vreduce_eq _ _ _ _
    refine ⟨vreduce x.2.2.1 idle w r, hrow.exec_eq hc, ?_⟩
    rw [hregs]
    exact ⟨(getV_setV r _ _ _).trans (if_pos rfl), fun j hj => (getV_setV r _ _ _).trans (if_neg hj), rfl, rfl⟩
  · refine ⟨_, (issue_regStep hc _).trans (congrArg _ (congrArg _ (vrisumEff_eq w r))), ?_, fun j hj => ?_, rfl⟩
    · rw [getV_setV, if_pos rfl]
    · rw [getV_setV, if_neg hj]

end Sys2Proof.Proofs
end

section
/-!
SUPPORT. The footprint of every command, from the frame lemma of its meaning; with the settlement of the statements that every
command stays in its footprint and that every step keeps memory in its canonical form.
-/

namespace Sys2Proof.Machine

/-- Every command stays in its footprint: each constructor by the frame lemma of its meaning. -/
theorem frame_exec (c : Instr) (s : State) : Fr nextIs (footprint c) s (exec c s) := by
  cases c with
  | registerWrite => exact frame_execRegisterWrite rfl _ _ _ _ _
  | hartAccess => exact frame_execHartAccess rfl _ _ _ _ _ _
  | panelFetch => exact frame_execPanelFetch rfl _ _ _
  | jobFaultStop => exact frame_execJobFaultStop rfl _ _
  | add => exact frame_execAdd rfl _ _ _
  | sub => exact frame_execSub rfl _ _ _
  | and => exact frame_execAnd rfl _ _ _
  | or => exact frame_execOr rfl _ _ _
  | xor => exact frame_execXor rfl _ _ _
  | andn => exact frame_execAndn rfl _ _ _
  | min => exact frame_execMin rfl _ _ _
  | max => exact frame_execMax rfl _ _ _
  | minu => exact frame_execMinu rfl _ _ _
  | maxu => exact frame_execMaxu rfl _ _ _
  | addi => exact frame_execAddi rfl _ _ _
  | andi => exact frame_execAndi rfl _ _ _
  | ori => exact frame_execOri rfl _ _ _
  | xori => exact frame_execXori rfl _ _ _
  | li => exact frame_execLi rfl _ _ _
  | sll => exact frame_execSll rfl _ _ _
  | srl => exact frame_execSrl rfl _ _ _
  | sra => exact frame_execSra rfl _ _ _
  | ror => exact frame_execRor rfl _ _ _
  | slli => exact frame_execSlli rfl _ _ _
  | srli => exact frame_execSrli rfl _ _ _
  | srai => exact frame_execSrai rfl _ _ _
  | rori => exact frame_execRori rfl _ _ _
  | extu => exact frame_execExtu rfl _ _ _
  | exts => exact frame_execExts rfl _ _ _
  | ins => exact frame_execIns rfl _ _ _
  | mul => exact frame_execMul rfl _ _ _
  | mulh => exact frame_execMulh rfl _ _ _
  | mulhu => exact frame_execMulhu rfl _ _ _
  | div => exact frame_execDiv rfl _ _ _
  | divu => exact frame_execDivu rfl _ _ _
  | rem => exact frame_execRem rfl _ _ _
  | remu => exact frame_execRemu rfl _ _ _
  | seq => exact frame_execSeq rfl _ _ _
  | sne => exact frame_execSne rfl _ _ _
  | slt => exact frame_execSlt rfl _ _ _
  | sltu => exact frame_execSltu rfl _ _ _
  | sel => exact frame_execSel rfl _ _ _
  | vext => exact frame_execVext rfl _ _ _
  | vins => exact frame_execVins rfl _ _ _
  | ktos => exact frame_execKtos rfl _ _ _
  | ktosh => exact frame_execKtosh rfl _ _ _
  | stok => exact frame_execStok rfl _ _ _
  | popc => exact frame_execPopc rfl _ _ _
  | clz => exact frame_execClz rfl _ _ _
  | ctz => exact frame_execCtz rfl _ _ _
  | beq => exact frame_execBeq rfl _ _ _
  | bne => exact frame_execBne rfl _ _ _
  | blt => exact frame_execBlt rfl _ _ _
  | bge => exact frame_execBge rfl _ _ _
  | bltu => exact frame_execBltu rfl _ _ _
  | bgeu => exact frame_execBgeu rfl _ _ _
  | bra => exact frame_execBra rfl _ _ _
  | jal => exact frame_execJal rfl _ _ _
  | jr => exact frame_execJr rfl _ _ _
  | loop => exact frame_execLoop rfl _ _ _
  | waitq => exact frame_execWaitq rfl _ _ _
  | fence => exact frame_execFence rfl _ _ _
  | trap => exact frame_execTrap rfl _ _ _
  | endP => exact frame_execEnd rfl _ _ _
  | nop => exact frame_execNop rfl _ _ _
  | vadd => exact frame_execVadd rfl _ _ _
  | vsub => exact frame_execVsub rfl _ _ _
  | vmul => exact frame_execVmul rfl _ _ _
  | vmin => exact frame_execVmin rfl _ _ _
  | vmax => exact frame_execVmax rfl _ _ _
  | vdiv => exact frame_execVdiv rfl _ _ _
  | vsqrt => exact frame_execVsqrt rfl _ _ _
  | vabs => exact frame_execVabs rfl _ _ _
  | vneg => exact frame_execVneg rfl _ _ _
  | vfma => exact frame_execVfma rfl _ _ _
  | vfms => exact frame_execVfms rfl _ _ _
  | vfnma => exact frame_execVfnma rfl _ _ _
  | vfnms => exact frame_execVfnms rfl _ _ _
  | vceq => exact frame_execVceq rfl _ _ _
  | vcne => exact frame_execVcne rfl _ _ _
  | vclt => exact frame_execVclt rfl _ _ _
  | vcle => exact frame_execVcle rfl _ _ _
  | vcgt => exact frame_execVcgt rfl _ _ _
  | vcge => exact frame_execVcge rfl _ _ _
  | vcvt => exact frame_execVcvt rfl _ _ _
  | viadd => exact frame_execViadd rfl _ _ _
  | visub => exact frame_execVisub rfl _ _ _
  | vimul => exact frame_execVimul rfl _ _ _
  | vimin => exact frame_execVimin rfl _ _ _
  | vimax => exact frame_execVimax rfl _ _ _
  | vand => exact frame_execVand rfl _ _ _
  | vor => exact frame_execVor rfl _ _ _
  | vxor => exact frame_execVxor rfl _ _ _
  | vsll => exact frame_execVsll rfl _ _ _
  | vsrl => exact frame_execVsrl rfl _ _ _
  | vsra => exact frame_execVsra rfl _ _ _
  | vbcast => exact frame_execVbcast rfl _ _ _
  | vperm => exact frame_execVperm rfl _ _ _
  | vsel => exact frame_execVsel rfl _ _ _
  | vmov => exact frame_execVmov rfl _ _ _
  | kand => exact frame_execKand rfl _ _ _
  | kor => exact frame_execKor rfl _ _ _
  | kxor => exact frame_execKxor rfl _ _ _
  | knot => exact frame_execKnot rfl _ _ _
  | kpop => exact frame_execKpop rfl _ _ _
  | vrsum => exact frame_execVrsum rfl _ _ _
  | vrmax => exact frame_execVrmax rfl _ _ _
  | vrmin => exact frame_execVrmin rfl _ _ _
  | vrisum => exact frame_execVrisum rfl _ _ _
  | mloadw => exact frame_execMloadw rfl _ _ _
  | mloadwComplete => exact frame_execMloadwComplete rfl _ _ _
  | mstream => exact frame_execMstream rfl _ _ _
  | mstreamComplete => exact frame_execMstreamComplete rfl _ _ _
  | mdrain => exact frame_execMdrain rfl _ _ _
  | mclear => exact frame_execMclear rfl _ _ _
  | mxferStore => exact frame_execMxferStore rfl _ _ _
  | mxferAdd => exact frame_execMxferAdd rfl _ _ _
  | mxferLoad => exact frame_execMxferLoad rfl _ _ _
  | mstat => exact frame_execMstat rfl _ _ _
  | ld => exact frame_execLd rfl _ _ _
  | lds => exact frame_execLds rfl _ _ _
  | st => exact frame_execSt rfl _ _ _
  | vld => exact frame_execVld rfl _ _ _
  | vst => exact frame_execVst rfl _ _ _
  | copy => exact frame_execCopy rfl _ _ _
  | scopy => exact frame_execScopy rfl _ _ _
  | dld => exact frame_execDld rfl _ _ _
  | dst => exact frame_execDst rfl _ _ _
  | pref => exact frame_execPref rfl _ _ _
  | dmaTransferComplete => exact frame_execDmaTransferComplete rfl _ _ _
  | jgather => exact frame_execJgather rfl _ _ _
  | jscato => exact frame_execJscato rfl _ _ _
  | jscatu => exact frame_execJscatu rfl _ _ _
  | jsegpack => exact frame_execJsegpack rfl _ _ _
  | jcompact => exact frame_execJcompact rfl _ _ _
  | jsort => exact frame_execJsort rfl _ _ _
  | jhparto => exact frame_execJhparto rfl _ _ _
  | jhpartu => exact frame_execJhpartu rfl _ _ _
  | jisect => exact frame_execJisect rfl _ _ _
  | jtopk => exact frame_execJtopk rfl _ _ _
  | jstat => exact frame_execJstat rfl _ _ _
  | jwait => exact frame_execJwait rfl _ _ _
  | jointerCommandComplete => exact frame_execJointerCommandComplete rfl _ _ _
  | padd => exact frame_execPadd rfl _ _ _
  | pset => exact frame_execPset rfl _ _ _
  | parrive => exact frame_execParrive rfl _ _ _
  | pwait => exact frame_execPwait rfl _ _ _
  | pwany => exact frame_execPwany rfl _ _ _
  | pegWaitRelease => exact frame_execPegWaitRelease rfl _ _
  | tread => exact frame_execTread rfl _ _ _
  | twait => exact frame_execTwait rfl _ _ _
  | twaitReached => exact frame_execTwaitReached rfl _ _
  | pcount => exact frame_execPcount rfl _ _ _
  | ptarget => exact frame_execPtarget rfl _ _ _
  | pstamp => exact frame_execPstamp rfl _ _ _
  | mfsr => exact frame_execMfsr rfl _ _ _
  | mtsr => exact frame_execMtsr rfl _ _ _
  | plbfold => exact frame_execPlbfold rfl _ _ _
  | plbgold => exact frame_execPlbgold rfl _ _ _
  | plbdone => exact frame_execPlbdone rfl _ _ _
  | submitJob => exact frame_execSubmitJob rfl _ _ _ _
  | submitBatch => exact frame_execSubmitBatch rfl _ _ _ _
  | submitRegionSwap => exact frame_execSubmitRegionSwap rfl _ _ _ _
  | submitPlaneFlip => exact frame_execSubmitPlaneFlip rfl _ _ _ _
  | ticketRead => exact frame_execTicketRead rfl _ _ _
  | batchChildFetch => exact frame_execBatchChildFetch rfl _ _
  | jobStart => exact frame_execJobStart rfl _ _
  | jobEnd => exact frame_execJobEnd rfl _ _
  | jobComplete => exact frame_execJobComplete rfl _ _
  | dowelQuery => exact frame_execDowelQuery rfl _ _ _ _
  | dowelCancel => exact frame_execDowelCancel rfl _ _ _ _
  | dowelRelease => exact frame_execDowelRelease rfl _ _ _ _
  | pegCountWrite => exact frame_execPegCountWrite rfl _ _ _ _
  | pegAddWrite => exact frame_execPegAddWrite rfl _ _ _ _
  | pegStatusClear => exact frame_execPegStatusClear rfl _ _ _
  | regionUpdateTakeEffect => exact frame_execRegionUpdateTakeEffect rfl _ _
  | regionSwapApply => exact frame_execRegionSwapApply rfl _ _ _
  | partitionConfigRecord => exact frame_execPartitionConfigRecord rfl _
  | partitionConfigRegions => exact frame_execPartitionConfigRegions rfl _
  | partitionConfigWheels => exact frame_execPartitionConfigWheels rfl _
  | partitionConfigApply => exact frame_execPartitionConfigApply rfl _ _
  | partCheck => exact frame_execPartCheck rfl _
  | tableScan => exact frame_execTableScan rfl _
  | resourceZeroingDone => exact frame_execResourceZeroingDone rfl _ _ _
  | partCtrlLock => exact frame_execPartCtrlLock rfl _ _ _
  | beatStart => exact frame_execBeatStart rfl _ _
  | kerfEntryStart => exact frame_execKerfEntryStart rfl _ _
  | kerfDrainComplete => exact frame_execKerfDrainComplete rfl _ _
  | kerfOverrun => exact frame_execKerfOverrun rfl _ _
  | saveComplete => exact frame_execSaveComplete rfl _ _
  | restoreComplete => exact frame_execRestoreComplete rfl _ _
  | girtWindowStart => exact frame_execGirtWindowStart rfl _
  | wheelSlotStart => exact frame_execWheelSlotStart rfl _ _ _
  | girtGrant => exact frame_execGirtGrant rfl _ _ _
  | bayFence => exact frame_execBayFence rfl _ _ _
  | bayHang => exact frame_execBayHang rfl _ _
  | bayDomainFault => exact frame_execBayDomainFault rfl _ _
  | retirementPoint => exact frame_execRetirementPoint rfl _ _
  | jobReplay => exact frame_execJobReplay rfl _ _
  | sparePeriodicPlumb => exact frame_execSparePeriodicPlumb rfl _ _
  | jointerHang => exact frame_execJointerHang rfl _ _
  | patrolRowTest => exact frame_execPatrolRowTest rfl _ _ _ _
  | plumbScheduledStart => exact frame_execPlumbScheduledStart rfl _ _
  | plumbGatedStart => exact frame_execPlumbGatedStart rfl _ _
  | gatedRelease => exact frame_execGatedRelease rfl _ _
  | plumbOverdue => exact frame_execPlumbOverdue rfl _ _
  | plumbPeriodOverdue => exact frame_execPlumbPeriodOverdue rfl _ _
  | ageEvent => exact frame_execAgeEvent rfl _ _
  | ageGap => exact frame_execAgeGap rfl _ _
  | dinSample => exact frame_execDinSample rfl _ _ _ _
  | clockMonitorWindow => exact frame_execClockMonitorWindow rfl _ _ _
  | voltageExcursion => exact frame_execVoltageExcursion rfl _ _ _
  | temperatureSample => exact frame_execTemperatureSample rfl _ _
  | lockstepMismatch => exact frame_execLockstepMismatch rfl _ _
  | islandBistStep => exact frame_execIslandBistStep rfl _ _
  | safetyKick => exact frame_execSafetyKick rfl _ _ _
  | safeWdog => exact frame_execSafeWdog rfl _
  | faultPhaseBoundary => exact frame_execFaultPhaseBoundary rfl _
  | safetyCtrlRun => exact frame_execSafetyCtrlRun rfl _ _
  | safetyPstopRelease => exact frame_execSafetyPstopRelease rfl _ _ _
  | safetySwraise => exact frame_execSafetySwraise rfl _ _ _
  | safetySrcPendClear => exact frame_execSafetySrcPendClear rfl _ _ _
  | faultClearCritical => exact frame_execFaultClearCritical rfl _
  | safeStateExit => exact frame_execSafeStateExit rfl _
  | tbDomainLoss => exact frame_execTbDomainLoss rfl _ _
  | tbDomSync => exact frame_execTbDomSync rfl _ _ _
  | tbDomDrop => exact frame_execTbDomDrop rfl _ _ _
  | tbCtrlSel => exact frame_execTbCtrlSel rfl _ _ _
  | tbDomStep => exact frame_execTbDomStep rfl _ _ _ _
  | unsealedStepApply => exact frame_execUnsealedStepApply rfl _ _
  | timeForceStep => exact frame_execTimeForceStep rfl _
  | forceStepApply => exact frame_execForceStepApply rfl _
  | bridgeDecayStep => exact frame_execBridgeDecayStep rfl _
  | wrap => exact frame_execWrap rfl _
  | half => exact frame_execHalf rfl _
  | tbTsRecordPop => exact frame_execTbTsRecordPop rfl _ _ _ _
  | tcapEdge => exact frame_execTcapEdge rfl _ _ _
  | tcapHeadRead => exact frame_execTcapHeadRead rfl _ _ _
  | tcapAged => exact frame_execTcapAged rfl _ _
  | tpulseArm => exact frame_execTpulseArm rfl _ _ _
  | tpulseFire => exact frame_execTpulseFire rfl _ _
  | tpulseWidthEnd => exact frame_execTpulseWidthEnd rfl _ _
  | csiFrameStart => exact frame_execCsiFrameStart rfl _ _ _ _ _
  | csiFrameEnd => exact frame_execCsiFrameEnd rfl _ _ _ _
  | csiLongPacket => exact frame_execCsiLongPacket rfl _ _ _ _ _ _ _
  | csiEmbeddedPacket => exact frame_execCsiEmbeddedPacket rfl _ _ _ _ _
  | csiFrameTimeout => exact frame_execCsiFrameTimeout rfl _ _
  | intakeCtxDisable => exact frame_execIntakeCtxDisable rfl _ _ _
  | frameCloseComplete => exact frame_execFrameCloseComplete rfl _ _
  | gfxBind => exact frame_execGfxBind rfl _ _
  | gfxPacketIssue => exact frame_execGfxPacketIssue rfl _
  | gfxPacketReturn => exact frame_execGfxPacketReturn rfl _ _
  | gfxFragmentRetire => exact frame_execGfxFragmentRetire rfl _
  | gfxTileWriteout => exact frame_execGfxTileWriteout rfl _
  | fillerJobStart => exact frame_execFillerJobStart rfl _ _
  | verticalBlanking => exact frame_execVerticalBlanking rfl _ _
  | displayLineUnderrun => exact frame_execDisplayLineUnderrun rfl _ _ _ _
  | outputWatchSignature => exact frame_execOutputWatchSignature rfl _ _
  | outputWatchMissing => exact frame_execOutputWatchMissing rfl _ _
  | dispAuxGo => exact frame_execDispAuxGo rfl _ _ _ _
  | auxTransactionDone => exact frame_execAuxTransactionDone rfl _ _ _ _
  | hpdEvent => exact frame_execHpdEvent rfl _ _ _ _
  | ethernetFrameReceive => exact frame_execEthernetFrameReceive rfl _ _ _
  | canFrameReceive => exact frame_execCanFrameReceive rfl _ _ _
  | gwTxCmd => exact frame_execGwTxCmd rfl _ _ _ _
  | hostFrameProcess => exact frame_execHostFrameProcess rfl _ _
  | gwRxHeadRead => exact frame_execGwRxHeadRead rfl _ _ _
  | gwRuleLoadGo => exact frame_execGwRuleLoadGo rfl _ _ _
  | gwRuleLoadCommit => exact frame_execGwRuleLoadCommit rfl _
  | egressFrameSend => exact frame_execEgressFrameSend rfl _ _
  | gateEntryStart => exact frame_execGateEntryStart rfl _ _
  | tasCommit => exact frame_execTasCommit rfl _ _ _ _
  | gateListTakeover => exact frame_execGateListTakeover rfl _ _
  | canFrameTransmit => exact frame_execCanFrameTransmit rfl _ _
  | canBusoffRecovery => exact frame_execCanBusoffRecovery rfl _ _
  | supWrite => exact frame_execSupWrite rfl _ _
  | supRead => exact frame_execSupRead rfl _ _
  | sealSwCtrl => exact frame_execSealSwCtrl rfl _ _ _
  | sealFrameTake => exact frame_execSealFrameTake rfl _
  | repairCommit => exact frame_execRepairCommit rfl _
  | repairBurnComplete => exact frame_execRepairBurnComplete rfl _ _
  | scribeEnable => exact frame_execScribeEnable rfl _
  | scribePatternStart => exact frame_execScribePatternStart rfl _
  | scribeDriverEnable => exact frame_execScribeDriverEnable rfl _
  | firmwareAccept => exact frame_execFirmwareAccept rfl _ _
  | keyRevoke => exact frame_execKeyRevoke rfl _
  | accordOverrideRejoin => exact frame_execAccordOverrideRejoin rfl _
  | accordOverrideLeave => exact frame_execAccordOverrideLeave rfl _
  | gradeLock => exact frame_execGradeLock rfl _
  | identityReport => exact frame_execIdentityReport rfl _
  | statusQuery => exact frame_execStatusQuery rfl _
  | resultQuery => exact frame_execResultQuery rfl _
  | trussTraining => exact frame_execTrussTraining rfl _ _ _
  | trussTrainingComplete => exact frame_execTrussTrainingComplete rfl _
  | trussLaneRetire => exact frame_execTrussLaneRetire rfl _ _
  | flitReceive => exact frame_execFlitReceive rfl _ _
  | flitNak => exact frame_execFlitNak rfl _ _
  | flitWrite => exact frame_execFlitWrite rfl _
  | flitRead => exact frame_execFlitRead rfl _
  | flitRdata => exact frame_execFlitRdata rfl _
  | flitControl => exact frame_execFlitControl rfl _
  | flitRetryLimit => exact frame_execFlitRetryLimit rfl _
  | accordSend => exact frame_execAccordSend rfl _
  | accordReceive => exact frame_execAccordReceive rfl _
  | heartbeatSend => exact frame_execHeartbeatSend rfl _
  | heartbeatReceive => exact frame_execHeartbeatReceive rfl _
  | heartbeatLoss => exact frame_execHeartbeatLoss rfl _
  | timeFlitSend => exact frame_execTimeFlitSend rfl _
  | timeFlitReceive => exact frame_execTimeFlitReceive rfl _
  | spanningJobStart => exact frame_execSpanningJobStart rfl _ _
  | mailboxDoorbell => exact frame_execMailboxDoorbell rfl _ _ _ _
  | mailboxRequestTake => exact frame_execMailboxRequestTake rfl _ _
  | fwVersion => exact frame_execFwVersion rfl _ _
  | collCreate => exact frame_execCollCreate rfl _ _
  | pegSignal => exact frame_execPegSignal rfl _ _
  | messagePost => exact frame_execMessagePost rfl _ _
  | plumbStatus => exact frame_execPlumbStatus rfl _ _
  | repairList => exact frame_execRepairList rfl _ _
  | collContributionTake => exact frame_execCollContributionTake rfl _ _ _
  | collResultWrite => exact frame_execCollResultWrite rfl _ _
  | collComplete => exact frame_execCollComplete rfl _ _
  | crpBayClkReq => exact frame_execCrpBayClkReq rfl _ _ _
  | bayClockStep => exact frame_execBayClockStep rfl _
  | throttleStepSlower => exact frame_execThrottleStepSlower rfl _
  | throttleStepFaster => exact frame_execThrottleStepFaster rfl _
  | crpPixFrac => exact frame_execCrpPixFrac rfl _ _ _ _
  | pixelPllLock => exact frame_execPixelPllLock rfl _ _
  | powerOnReset => exact frame_execPowerOnReset rfl _ _ _ _ _
  | wrstNReset => exact frame_execWrstNReset rfl _
  | crpRstCtrlWarm => exact frame_execCrpRstCtrlWarm rfl _ _ _
  | crpRstCtrlApp => exact frame_execCrpRstCtrlApp rfl _ _ _
  | rootPllLock => exact frame_execRootPllLock rfl _
  | memoryBistDone => exact frame_execMemoryBistDone rfl _ _ _
  | dramTrainingDone => exact frame_execDramTrainingDone rfl _ _ _
  | bootImagesVerified a b => exact frame_execBootImagesVerified rfl a b s
  | appImageVerified => exact frame_execAppImageVerified rfl _ _
  | bayBistDone => exact frame_execBayBistDone rfl _ _ _
  | bootMapAndGrade => exact frame_execBootMapAndGrade rfl _
  | fabricControllerStart => exact frame_execFabricControllerStart rfl _
  | appHartRelease => exact frame_execAppHartRelease rfl _
  | bayClockGate => exact frame_execBayClockGate rfl _ _
  | extest => exact frame_execExtest rfl _ _
  | idcode => exact frame_execIdcode rfl _
  | samplePreload => exact frame_execSamplePreload rfl _ _ _
  | clamp => exact frame_execClamp rfl _ _
  | highz => exact frame_execHighz rfl _ _
  | fuseProg => exact frame_execFuseProg rfl _ _
  | keyProg => exact frame_execKeyProg rfl _ _ _ _ _
  | islandLoad => exact frame_execIslandLoad rfl _ _ _
  | debug => exact frame_execDebug rfl _
  | lifecycle => exact frame_execLifecycle rfl _ _
  | bypass => exact frame_execBypass rfl _
  | tapReset => exact frame_execTapReset rfl _
  | registerRead => exact frame_execRegisterRead rfl _ _ _ _
  | mdrainComplete => exact frame_execMdrainComplete rfl _ _ _
  | mxferComplete => exact frame_execMxferComplete rfl _ _ _
  | mclearComplete => exact frame_execMclearComplete rfl _ _ _
  | keyRevokeComplete => exact frame_execKeyRevokeComplete rfl _ _
  | firmwareAcceptDone => exact frame_execFirmwareAcceptDone rfl _ _
  | rejoinTimeout => exact frame_execRejoinTimeout rfl _
  | rootPllLockTimeout => exact frame_execRootPllLockTimeout rfl _
  | rootPllLockLoss => exact frame_execRootPllLockLoss rfl _
  | pixelPllLockLoss => exact frame_execPixelPllLockLoss rfl _ _
  | voltageReturn => exact frame_execVoltageReturn rfl _ _
  | canBusError => exact frame_execCanBusError rfl _ _ _ _
  | portLinkChange => exact frame_execPortLinkChange rfl _ _ _
  | ulpsEntry => exact frame_execUlpsEntry rfl _ _
  | ulpsExit => exact frame_execUlpsExit rfl _ _
  | deskewSequence => exact frame_execDeskewSequence rfl _ _
  | hsBurstStart => exact frame_execHsBurstStart rfl _ _
  | hsBurstEnd => exact frame_execHsBurstEnd rfl _ _

end Sys2Proof.Machine

namespace Sys2Proof.Proofs

open Sys2Proof.Machine

/-- Settles O5: the frame lemmas, one for each command. -/
theorem commandStaysInFootprint : Obligations.CommandStaysInFootprint := by
  unfold Obligations.CommandStaysInFootprint
  exact fun c s t ht => frame_exec c s t ht

/-- Settles O4: a tick and a command stay within parts that keep the canonical form. -/
theorem stepKeepsMemoryCanonical : Obligations.StepKeepsMemoryCanonical := by
  unfold Obligations.StepKeepsMemoryCanonical
  intro s t hwf hstep
  unfold step at hstep
  split at hstep
  · cases hstep
    exact (frame_tick (w := { tb := true, freeCtr := true }) rfl s _ rfl).mem hwf
  · next c rest _ => exact (frame_exec c { s with pending := rest } t hstep).mem hwf

end Sys2Proof.Proofs
end

section
/-!
SUPPORT. Laws of the step, of the tick and of a write by physical address; with the settlement of the statements on the machine.
-/

namespace Sys2Proof.Machine

/-! ## The tick -/

/-- A domain advances by 4 ns and RATE × 2^−32 ns modulo 2^64 units (R504). -/
theorem Dom.tick_units (rate : Word32) (d : Dom) :
    ((d.tick rate).time : Int) * 2 ^ 32 + (d.tick rate).frac =
      ((d.time : Int) * 2 ^ 32 + d.frac + 4 * 2 ^ 32 + rate.toInt) % 2 ^ 64 := by
  simp only [Dom.tick]
  push_cast
  omega

/-! ## Writes by physical address -/

@[simp] theorem dropPanels_mem (a n : Nat) (s : State) : (dropPanels a n s).mem = s.mem := by
  have hfold : ∀ (l : List Nat) (f : Nat → Bay → Bay) (u : State), (l.foldl (fun s k => bayMod s k (f k)) u).mem = u.mem := by
    intro l f u
    induction l generalizing u with
    | nil => rfl
    | cons k l ih => exact ih _
  unfold dropPanels
  split
  · exact hfold _ (fun _ b => { b with cache := b.cache.filter (fun (p, _) => !rangesMeet p 64 a n) }) s
  · rfl

/-- A write to DRAM or the loft is a write of memory, and drops cached panels (R175). -/
theorem devWrite_mem {s : State} {a : Addr} {l : List Byte} (hl : l ≠ []) (h : homeOf s a l.length = .dram ∨ homeOf s a l.length = .loft) :
    devWrite s a l = dropPanels a l.length (memWrite s a l) := by
  obtain h | h := h <;> simp [devWrite, hl, h]

/-- A write to the store of a bay that does not wait is a write of that store (R96). -/
theorem devWrite_store {s : State} {a : Addr} {l : List Byte} {b off pb : Nat} (hl : l ≠ []) (h : homeOf s a l.length = .store b off)
    (hpb : lbPhys s b = some pb) (hwait : (bayGet s pb).st.windowWaits = false) : devWrite s a l = storeWrite s pb off l := by
  simp [devWrite, hl, h, hpb, hwait]

/-- A write of a bay's store changes the bay, and beside it at most the counter of stale slots. -/
theorem storeWrite_eq (s : State) (pb off : Nat) (l : List Byte) :
    (storeWrite s pb off l).bays = (bayPut s pb (markStale off l.length { bayGet s pb with store := putBytes (bayGet s pb).store off l }).1).bays ∧
      (storeWrite s pb off l).mem = s.mem := by
  unfold storeWrite
  simp only []
  split
  · split <;> exact ⟨rfl, rfl⟩
  · exact ⟨rfl, rfl⟩

@[simp] theorem storeWrite_mem (s : State) (pb off : Nat) (l : List Byte) : (storeWrite s pb off l).mem = s.mem :=
  (storeWrite_eq s pb off l).2

theorem bayGet_storeWrite (s : State) (pb off : Nat) (l : List Byte) (q : Nat) :
    bayGet (storeWrite s pb off l) q =
      if q = pb then (markStale off l.length { bayGet s pb with store := putBytes (bayGet s pb).store off l }).1 else bayGet s q := by
  rw [← bayGet_bayPut]
  exact congrArg (fun t => tabGet {} t q) (storeWrite_eq s pb off l).1

/-- The bytes of the store after the write. -/
theorem store_storeWrite (s : State) (pb off : Nat) (l : List Byte) (x : Nat) :
    tabGet 0 (bayGet (storeWrite s pb off l) pb).store x =
      if off ≤ x ∧ x < off + l.length then l.getD (x - off) 0 else tabGet 0 (bayGet s pb).store x := by
  rw [bayGet_storeWrite, if_pos rfl]
  exact tabGet_putBytes _ _ _ _

end Sys2Proof.Machine

namespace Sys2Proof.Proofs

open Sys2Proof.Machine

/-- Settles O1: the queue's front is what a step matches on. -/
theorem stepRunsTheFrontCommand : Obligations.StepRunsTheFrontCommand := by
  unfold Obligations.StepRunsTheFrontCommand
  exact fun c rest s => rfl

/-- Settles O2: while no twin is followed, the tick changes the timebase alone, each domain by `Dom.tick_units`. -/
theorem emptyQueueTicks : Obligations.EmptyQueueTicks := by
  unfold Obligations.EmptyQueueTicks
  intro s hqueue hfollow units
  refine ⟨tick s, by rw [step, hqueue], ?_⟩
  simp only [tick, hfollow, workTime, and_true, true_and]
  exact ⟨Dom.tick_units _ _, Dom.tick_units _ _, rfl⟩

/-- Settles O3: every table of the reset state is empty, and every unit has its default value. -/
theorem resetState : Obligations.ResetState := by
  unfold Obligations.ResetState
  exact ⟨fun _ => rfl, fun _ => rfl, fun _ => rfl, fun _ => rfl, fun _ => rfl, rfl, rfl, rfl, rfl, rfl, rfl, rfl, fun _ => rfl,
    fun _ _ => rfl, rfl, rfl⟩

/-- Settles O6: a write is one of memory, or one of the store of the bay that the window names. -/
theorem memoryReadAfterWrite : Obligations.MemoryReadAfterWrite := by
  unfold Obligations.MemoryReadAfterWrite
  intro s a l hl
  refine ⟨fun hhome x => ?_, fun b off pb hhome hpb hwait => ?_⟩
  · rw [devWrite_mem hl hhome, memByte, dropPanels_mem]
    exact memByte_memWrite s a l x
  · rw [devWrite_store hl hhome hpb hwait]
    refine ⟨store_storeWrite s pb off l, fun q hq => ?_, storeWrite_mem _ _ _ _⟩
    rw [bayGet_storeWrite, if_neg hq]

/-- Settles O7: each of these commands tests its unit's number before anything else. -/
theorem absentUnitStops : Obligations.AbsentUnitStops := by
  unfold Obligations.AbsentUnitStops
  intro s n a b x y v
  refine ⟨fun hn i hi => ?_, fun hn i hi => ?_, fun hn i hi => ?_, fun hn i hi => ?_⟩
  all_goals simp only [List.mem_cons, List.not_mem_nil, or_false] at hi
  · obtain rfl | rfl | rfl | rfl | rfl | rfl | rfl | rfl | rfl | rfl | rfl := hi
    all_goals exact if_neg (Nat.not_lt.2 hn)
  · obtain rfl | rfl | rfl | rfl | rfl | rfl | rfl | rfl | rfl | rfl | rfl | rfl | rfl | rfl | rfl | rfl | rfl := hi
    all_goals exact if_neg (Nat.not_lt.2 hn)
  · obtain rfl | rfl | rfl | rfl | rfl | rfl | rfl | rfl | rfl | rfl := hi
    all_goals exact if_neg (Nat.not_lt.2 hn)
  · obtain rfl | rfl | rfl := hi
    all_goals exact if_neg (Nat.not_lt.2 hn)

end Sys2Proof.Proofs
end

section
/-!
SUPPORT. Laws of bit fields: a field as a part of its word, its two's complement reading, and what a field and a bit read after a
field is replaced.
-/

namespace Sys2Proof.Machine

/-! ## Reading fields -/

theorem testBit_nfld (x lo len i : Nat) : (nfld x lo len).testBit i = (decide (i < len) && x.testBit (lo + i)) := by
  simp [nfld, Nat.testBit_mod_two_pow, Nat.testBit_shiftRight]

theorem testBit_fld {n : Nat} (w : BitVec n) (lo len i : Nat) :
    (fld w lo len).testBit i = (decide (i < len) && w.getLsbD (lo + i)) := testBit_nfld _ _ _ _

theorem nfld_lt (x lo len : Nat) : nfld x lo len < 2 ^ len := Nat.mod_lt _ (Nat.two_pow_pos len)

theorem fld_lt {n : Nat} (w : BitVec n) (lo len : Nat) : fld w lo len < 2 ^ len := nfld_lt _ _ _

/-- A field is the number of the part of the word. -/
theorem fld_eq_toNat {n : Nat} (w : BitVec n) (lo len : Nat) : fld w lo len = (w.extractLsb' lo len).toNat :=
  (BitVec.extractLsb'_toNat _ _ _).symm

/-- The two's complement reading of a word's number is the word as an integer. -/
theorem sintOf_toNat {n : Nat} (v : BitVec n) : sintOf n v.toNat = v.toInt := by
  have hv := v.isLt
  obtain _ | n := n
  · simp [sintOf, BitVec.of_length_zero]
  · have hpow : 2 ^ (n + 1) = 2 * 2 ^ n := Nat.pow_succ'
    simp only [sintOf, BitVec.toInt_eq_toNat_cond, Nat.add_sub_cancel, Nat.mod_eq_of_lt hv]
    split_ifs <;> omega

/-- A sign-extended field is the sign extension of the part of the word. -/
theorem sext64_fld {n : Nat} (w : BitVec n) (lo len : Nat) : sext64 len (fld w lo len) = (w.extractLsb' lo len).signExtend 64 := by
  rw [sext64, fld_eq_toNat, sintOf_toNat]
  rfl

/-! ## Replacing fields -/

theorem getLsbD_setFld {n : Nat} (w : BitVec n) (lo len v i : Nat) :
    (setFld w lo len v).getLsbD i =
      if lo ≤ i ∧ i < lo + len then decide (i < n) && v.testBit (i - lo) else w.getLsbD i := by
  have hw : w.getLsbD i = (decide (i < n) && w.getLsbD i) := by
    by_cases hi : i < n
    · simp [hi]
    · simp [hi, BitVec.getLsbD_of_ge w i (Nat.not_lt.1 hi)]
  simp only [setFld, BitVec.getLsbD_or, BitVec.getLsbD_and, BitVec.getLsbD_not, BitVec.getLsbD_ofNat, Nat.testBit_shiftLeft,
    Nat.testBit_two_pow_sub_one, Nat.testBit_mod_two_pow]
  rw [hw]
  by_cases hlo : lo ≤ i
  · have hlen : i - lo < len ↔ i < lo + len := by omega
    by_cases hi : i < lo + len
    · simp [hlo, hi, hlen]
    · simp +contextual [hi, hlen]
  · simp +contextual [hlo]

theorem bitAt_setFld {n : Nat} (w : BitVec n) (lo len v i : Nat) :
    bitAt (setFld w lo len v) i =
      if lo ≤ i ∧ i < lo + len then decide (i < n) && v.testBit (i - lo) else bitAt w i := getLsbD_setFld w lo len v i

/-- The replaced field reads what it was replaced by. -/
theorem fld_setFld_same {n : Nat} (w : BitVec n) (lo len v : Nat) (hn : lo + len ≤ n) : fld (setFld w lo len v) lo len = v % 2 ^ len := by
  refine Nat.eq_of_testBit_eq fun i => ?_
  rw [testBit_fld, getLsbD_setFld, Nat.testBit_mod_two_pow]
  by_cases hi : i < len
  · simp [hi, show lo + i < n from by omega]
  · simp [hi]

/-- A field beside the replaced one reads what it read. -/
theorem fld_setFld_other {n : Nat} (w : BitVec n) (lo len v lo' len' : Nat) (hdis : lo' + len' ≤ lo ∨ lo + len ≤ lo') :
    fld (setFld w lo len v) lo' len' = fld w lo' len' := by
  refine Nat.eq_of_testBit_eq fun i => ?_
  rw [testBit_fld, testBit_fld, getLsbD_setFld]
  by_cases hi : i < len'
  · rw [if_neg (by omega)]
  · simp [hi]

end Sys2Proof.Machine
end

section
/-!
SUPPORT. Laws of the scalar instructions: for each the function of its sources that it writes to s[RD]; with the settlement of the
statements on the scalar results.
-/

namespace Sys2Proof.Machine

/-! ## Two sources (R156, R181, R221) -/

theorem minS_eq (a b : Word64) : minS a b = if a.slt b then a else b := by
  have heq : a.toInt = b.toInt → a = b := BitVec.eq_of_toInt_eq
  simp only [minS, BitVec.slt_iff_toInt_lt]
  split_ifs with hle hlt
  · rfl
  · exact heq (by omega)
  · omega
  · rfl

theorem maxS_eq (a b : Word64) : maxS a b = if a.slt b then b else a := by
  have heq : a.toInt = b.toInt → b = a := fun h => (BitVec.eq_of_toInt_eq h).symm
  simp only [maxS, BitVec.slt_iff_toInt_lt]
  split_ifs with hle hlt
  · rfl
  · exact heq (by omega)
  · omega
  · rfl

theorem minU_eq (a b : Word64) : minU a b = if a < b then a else b := by
  have heq : a.toNat = b.toNat → a = b := BitVec.eq_of_toNat_eq
  simp only [minU, BitVec.lt_def]
  split_ifs with hle hlt
  · rfl
  · exact heq (by omega)
  · omega
  · rfl

theorem maxU_eq (a b : Word64) : maxU a b = if a < b then b else a := by
  have heq : a.toNat = b.toNat → b = a := fun h => (BitVec.eq_of_toNat_eq h).symm
  simp only [maxU, BitVec.lt_def]
  split_ifs with hle hlt
  · rfl
  · exact heq (by omega)
  · omega
  · rfl

/-- The high half of the signed product, as the high half of the 128-bit product. -/
theorem mulhW_eq (a b : Word64) : mulhW a b = ((a.signExtend 128 * b.signExtend 128) >>> 64).truncate 64 := by
  have hprod : a.signExtend 128 * b.signExtend 128 = BitVec.ofInt 128 (a.toInt * b.toInt) := (BitVec.ofInt_mul _ _).symm
  refine BitVec.eq_of_toNat_eq ?_
  rw [hprod, mulhW]
  simp only [BitVec.truncate_eq_setWidth, BitVec.toNat_setWidth, BitVec.toNat_ushiftRight, BitVec.toNat_ofInt,
    Nat.shiftRight_eq_div_pow]
  omega

/-- The high half of the unsigned product, as the high half of the 128-bit product. -/
theorem mulhuW_eq (a b : Word64) : mulhuW a b = ((a.zeroExtend 128 * b.zeroExtend 128) >>> 64).truncate 64 := by
  have hlt : a.toNat * b.toNat < 2 ^ 128 := (Nat.mul_lt_mul'' a.isLt b.isLt).trans_eq (by norm_num)
  have hprod : (a.zeroExtend 128 * b.zeroExtend 128).toNat = a.toNat * b.toNat := by
    simp only [BitVec.toNat_mul, BitVec.toNat_setWidth]
    rw [Nat.mod_eq_of_lt (a.isLt.trans (by norm_num)), Nat.mod_eq_of_lt (b.isLt.trans (by norm_num)), Nat.mod_eq_of_lt hlt]
  refine BitVec.eq_of_toNat_eq ?_
  rw [mulhuW, BitVec.truncate_eq_setWidth, BitVec.toNat_setWidth, BitVec.toNat_ushiftRight, hprod, BitVec.toNat_ofNat,
    Nat.shiftRight_eq_div_pow]

theorem min_computes : ComputesScalar .min .min (fun a b => if a.slt b then a else b) := by
  simp only [← minS_eq]
  exact fun _ _ _ => rfl

theorem max_computes : ComputesScalar .max .max (fun a b => if a.slt b then b else a) := by
  simp only [← maxS_eq]
  exact fun _ _ _ => rfl

theorem minu_computes : ComputesScalar .minu .minu (fun a b => if a < b then a else b) := by
  simp only [← minU_eq]
  exact fun _ _ _ => rfl

theorem maxu_computes : ComputesScalar .maxu .maxu (fun a b => if a < b then b else a) := by
  simp only [← maxU_eq]
  exact fun _ _ _ => rfl

theorem mulh_computes :
    ComputesScalar .mulh .mulh (fun a b => ((a.signExtend 128 * b.signExtend 128) >>> 64).truncate 64) := by
  simp only [← mulhW_eq]
  exact fun _ _ _ => rfl

theorem mulhu_computes :
    ComputesScalar .mulhu .mulhu (fun a b => ((a.zeroExtend 128 * b.zeroExtend 128) >>> 64).truncate 64) := by
  simp only [← mulhuW_eq]
  exact fun _ _ _ => rfl

theorem seq_computes : ComputesScalar .seq .seq (fun a b => if a = b then 1 else 0) := by
  have hrel : ∀ a b : Word64, (if a = b then (1 : Word64) else 0) = boolWord (decide (a = b)) := fun a b => by simp [boolWord]
  simp only [hrel]
  exact fun _ _ _ => rfl

theorem sne_computes : ComputesScalar .sne .sne (fun a b => if a = b then 0 else 1) := by
  have hrel : ∀ a b : Word64, (if a = b then (0 : Word64) else 1) = boolWord (decide (a ≠ b)) := fun a b => by simp [boolWord]
  simp only [hrel]
  exact fun _ _ _ => rfl

theorem slt_computes : ComputesScalar .slt .slt (fun a b => if a.slt b then 1 else 0) := by
  have hrel : ∀ a b : Word64, (if a.slt b then (1 : Word64) else 0) = boolWord (decide (a.toInt < b.toInt)) := fun a b => by
    simp [boolWord, BitVec.slt_iff_toInt_lt]
  simp only [hrel]
  exact fun _ _ _ => rfl

theorem sltu_computes : ComputesScalar .sltu .sltu (fun a b => if a < b then 1 else 0) := by
  have hrel : ∀ a b : Word64, (if a < b then (1 : Word64) else 0) = boolWord (decide (a.toNat < b.toNat)) := fun a b => by
    simp [boolWord, BitVec.lt_def]
  simp only [hrel]
  exact fun _ _ _ => rfl

/-! ## An immediate (R156, R221) -/

theorem RI.imm_eq (w : Word64) : RI.imm w = (w.extractLsb' 0 32).signExtend 64 := sext64_fld w 0 32

/-- The position of a field instruction: bits [5:0] of the immediate. -/
theorem RI.pos_eq (w : Word64) : RI.pos w = (w.extractLsb' 0 32).toNat % 64 := by
  simp only [RI.pos, fld, nfld, BitVec.extractLsb'_toNat, Nat.shiftRight_zero]
  omega

/-- The length of a field instruction: bits [13:8] of the immediate, and 1. -/
theorem RI.len_eq (w : Word64) : RI.len w = (w.extractLsb' 0 32).toNat / 256 % 64 + 1 := by
  simp only [RI.len, fld, nfld, BitVec.extractLsb'_toNat, Nat.shiftRight_eq_div_pow]
  omega

/-- The field of `l + 1` bits from bit `p`, as shift and mask. -/
theorem extuW_eq (a : Word64) (p l : Nat) (hl : l < 64) : extuW a p (l + 1) = (a >>> p) &&& (BitVec.allOnes 64 >>> (63 - l)) := by
  refine BitVec.eq_of_getLsbD_eq fun i hi => ?_
  simp only [extuW, BitVec.getLsbD_ofNat, testBit_fld, BitVec.getLsbD_and, BitVec.getLsbD_ushiftRight, BitVec.getLsbD_allOnes,
    hi, decide_true, Bool.true_and]
  rw [show decide (63 - l + i < 64) = decide (i < l + 1) from decide_eq_decide.2 (by omega), Bool.and_comm]

/-- The sign-extended field of `l + 1` bits from bit `p`, as a shift to the top and an arithmetic shift back. -/
theorem extsW_eq (a : Word64) (p l : Nat) (h : p + l < 64) :
    extsW a p (l + 1) = (a <<< (63 - (p + l))).sshiftRight (63 - l) := by
  refine BitVec.eq_of_getLsbD_eq fun i hi => ?_
  have hmsbField : (a.extractLsb' p (l + 1)).msb = a.getLsbD (p + l) := by
    simp [BitVec.msb_eq_getLsbD_last]
  have hmsbTop : (a <<< (63 - (p + l))).msb = a.getLsbD (p + l) := by
    simp only [BitVec.msb_eq_getLsbD_last, BitVec.getLsbD_shiftLeft]
    simp [show 63 - (63 - (p + l)) = p + l from by omega, show ¬ 63 < 63 - (p + l) from by omega]
  rw [extsW, sext64_fld, BitVec.getLsbD_signExtend, BitVec.getLsbD_sshiftRight, hmsbField, hmsbTop]
  by_cases hin : i < l + 1
  · have hshift : 63 - l + i - (63 - (p + l)) = p + i := by omega
    have htop : 63 - l + i < 64 ∧ ¬ 63 - l + i < 63 - (p + l) := by omega
    simp [hin, hi, htop, hshift, Nat.not_le.2 hi, BitVec.getLsbD_eq_getElem (show p + i < 64 by omega)]
  · have htop : ¬ 63 - l + i < 64 := by omega
    simp [hin, hi, htop]

/-- The instruction `mk` of operation `o` computes `f` of s[RA] and the 32-bit immediate of its word, under the fields that the word
may have. -/
def ComputesImmediate (o : Op) (mk : Hand → Word64 → Instr) (f : Word64 → BitVec 32 → Word64) : Prop :=
  ∀ (s : State) (h : Hand) (w : Word64), specialReserved o w = false →
    exec (mk h w) s = issue o h w s (regStep h (fun r => r.setS (RI.rd w) (f (r.getS (RI.ra w)) (w.extractLsb' 0 32))))

theorem ComputesImmediate.exec_wroteS {o : Op} {mk : Hand → Word64 → Instr} {f : Word64 → BitVec 32 → Word64}
    (hf : ComputesImmediate o mk f) {s : State} {h : Hand} {w : Word64} (hc : CanIssue s h o w) :
    ∃ r', exec (mk h w) s = .next (afterRegs s h r') ∧
      WroteS (handGet s h).regs r' (RI.rd w) (f ((handGet s h).regs.getS (RI.ra w)) (w.extractLsb' 0 32)) :=
  ⟨_, (hf s h w (canIssue_fields hc).1).trans (issue_regStep hc _), wroteS_setS _ _ _⟩

/-- An instruction of the sign-extended immediate. -/
theorem computesImmediate_of_aluRI {o : Op} {mk : Hand → Word64 → Instr} (f : Word64 → Word64 → Word64)
    (hmk : ∀ s h w, exec (mk h w) s = issue o h w s (regStep h (aluRI f w))) :
    ComputesImmediate o mk (fun a i => f a (i.signExtend 64)) := by
  intro s h w _
  rw [hmk]
  simp only [← RI.imm_eq]
  rfl

/-- A shift by bits [5:0] of the immediate. -/
theorem computesImmediate_of_shift {o : Op} {mk : Hand → Word64 → Instr} (f : Word64 → Nat → Word64)
    (hmk : ∀ s h w, exec (mk h w) s = issue o h w s (regStep h (aluShiftI (fun a n => f a (n % 64)) w))) :
    ComputesImmediate o mk (fun a i => f a (i.toNat % 64)) := by
  intro s h w _
  rw [hmk]
  have hpos : RI.pos w % 64 = RI.pos w := Nat.mod_eq_of_lt (fld_lt w 0 6)
  simp only [← RI.pos_eq]
  conv_rhs => rw [← hpos]
  rfl

theorem extu_computesImmediate : ComputesImmediate .extu .extu
    (fun a i => (a >>> (i.toNat % 64)) &&& (BitVec.allOnes 64 >>> (63 - i.toNat / 256 % 64))) := by
  intro s h w _
  simp only [← extuW_eq _ _ _ (Nat.mod_lt _ (by norm_num : 0 < 64)), ← RI.pos_eq, ← RI.len_eq]
  rfl

/-- A field that EXTS, EXTU or INS may name lies inside the word. -/
theorem fieldInside {w : Word64} (h : decide (64 < RI.pos w + RI.len w) = false) :
    (w.extractLsb' 0 32).toNat % 64 + (w.extractLsb' 0 32).toNat / 256 % 64 < 64 := by
  have hle := of_decide_eq_false h
  rw [RI.pos_eq, RI.len_eq] at hle
  omega

theorem exts_computesImmediate : ComputesImmediate .exts .exts
    (fun a i => (a <<< (63 - (i.toNat % 64 + i.toNat / 256 % 64))).sshiftRight (63 - i.toNat / 256 % 64)) := by
  intro s h w hfield
  simp only [← extsW_eq _ _ _ (fieldInside hfield)]
  simp only [← RI.pos_eq, ← RI.len_eq]
  rfl

/-! ## Moves and counts (R156, R223) -/

/-- A count of the numbers below `m` among those below `n`. -/
theorem length_filter_lt (n m : Nat) : ((List.range n).filter (fun k => decide (k < m))).length = min m n := by
  induction n with
  | zero => simp
  | succ n ih =>
    rw [List.range_succ, List.filter_append, List.length_append, ih]
    by_cases h : n < m
    · simp [h]; omega
    · simp [h]; omega

/-- `popBelow` counts the bits that are set. -/
theorem popBelow_eq (x n : Nat) : popBelow x n = ((List.range n).filter x.testBit).length := by
  have hcount : ∀ (l : List Nat) (acc : Nat),
      l.foldl (fun acc i => if x.testBit i then acc + 1 else acc) acc = acc + (l.filter x.testBit).length := by
    intro l
    induction l with
    | nil => simp
    | cons i l ih => intro acc; by_cases h : x.testBit i <;> simp [h, ih]; omega
  rw [popBelow, hcount, Nat.zero_add]

theorem bitLen_le_iff (m j : Nat) : bitLen m ≤ j ↔ m < 2 ^ j := by
  unfold bitLen
  split_ifs with h
  · simp [h]
  · rw [← Nat.log2_lt h, Nat.succ_le_iff]

/-- The leading zeros are the positions, from the top, below which the whole number fits. -/
theorem clz_eq (a : Word64) :
    64 - bitLen a.toNat = ((List.range 64).filter (fun k => decide (a.toNat < 2 ^ (63 - k)))).length := by
  have hlen : bitLen a.toNat ≤ 64 := (bitLen_le_iff _ _).2 a.isLt
  have hfilter : (List.range 64).filter (fun k => decide (a.toNat < 2 ^ (63 - k))) =
      (List.range 64).filter (fun k => decide (k < 64 - bitLen a.toNat)) := by
    refine List.filter_congr fun k hk => decide_eq_decide.2 ?_
    have hk := List.mem_range.1 hk
    rw [← bitLen_le_iff]
    omega
  rw [hfilter, length_filter_lt]
  omega

/-- The low `k` bits are clear when no set bit lies below `k`. -/
theorem mod_two_pow_eq_zero_iff (x k : Nat) : x % 2 ^ k = 0 ↔ ∀ j, j < k → x.testBit j = false := by
  refine ⟨fun h j hj => ?_, fun h => Nat.eq_of_testBit_eq fun j => ?_⟩
  · have hbit := Nat.testBit_mod_two_pow x k j
    rw [h, Nat.zero_testBit, decide_eq_true hj, Bool.true_and] at hbit
    exact hbit.symm
  · rw [Nat.testBit_mod_two_pow, Nat.zero_testBit]
    by_cases hj : j < k
    · simp [h j hj]
    · simp [hj]

/-- The trailing zeros are the positions up to which every bit is clear. -/
theorem ctz_eq (x : Nat) : ((List.range 64).find? (fun i => x.testBit i)).getD 64 =
    ((List.range 64).filter (fun k => decide (x % 2 ^ (k + 1) = 0))).length := by
  have hcount : ∀ m, m ≤ 64 → (∀ k, k < 64 → (x % 2 ^ (k + 1) = 0 ↔ k < m)) →
      ((List.range 64).filter (fun k => decide (x % 2 ^ (k + 1) = 0))).length = m := by
    intro m hm hiff
    rw [List.filter_congr fun k hk => decide_eq_decide.2 (hiff k (List.mem_range.1 hk)), length_filter_lt]
    omega
  cases hfind : (List.range 64).find? (fun i => x.testBit i) with
  | none =>
    have hclear : ∀ j, j < 64 → x.testBit j = false := fun j hj => by simpa using List.find?_range_eq_none.1 hfind j hj
    refine (hcount 64 le_rfl fun k hk => ⟨fun _ => hk, fun _ => ?_⟩).symm
    exact (mod_two_pow_eq_zero_iff _ _).2 fun j hj => hclear j (by omega)
  | some i =>
    obtain ⟨hset, hi, hbelow⟩ := List.find?_range_eq_some.1 hfind
    refine (hcount i (List.mem_range.1 hi).le fun k _ => ?_).symm
    rw [mod_two_pow_eq_zero_iff]
    refine ⟨fun h => ?_, fun hk j hj => by simpa using hbelow j (by omega)⟩
    by_contra hle
    exact absurd (h i (by omega)) (by simp [hset])

/-- The instruction `mk` of operation `o` writes `f` of the register files to s[RD]. -/
def MovesScalar (o : Op) (mk : Hand → Word64 → Instr) (f : Word64 → HandRegs → Word64) : Prop :=
  ∀ (s : State) (h : Hand) (w : Word64), exec (mk h w) s = issue o h w s (regStep h (fun r => r.setS (R3.rd w) (f w r)))

theorem MovesScalar.exec_wroteS {o : Op} {mk : Hand → Word64 → Instr} {f : Word64 → HandRegs → Word64} (hf : MovesScalar o mk f)
    {s : State} {h : Hand} {w : Word64} (hc : CanIssue s h o w) :
    ∃ r', exec (mk h w) s = .next (afterRegs s h r') ∧ WroteS (handGet s h).regs r' (R3.rd w) (f w (handGet s h).regs) :=
  ⟨_, (hf s h w).trans (issue_regStep hc _), wroteS_setS _ _ _⟩

theorem sel_moves : MovesScalar .sel .sel (fun w r => if r.getS (R3.rc w) = 0 then r.getS (R3.rb w) else r.getS (R3.ra w)) := by
  simp only [← ite_not (_ = (0 : Word64))]
  exact fun _ _ _ => rfl

theorem vext_moves : MovesScalar .vext .vext (fun w r =>
    let n := (R3.fmt w).width
    let v := lane (r.getV (R3.ra w)) n ((r.getS (R3.rb w)).toNat % (512 / n))
    BitVec.ofInt 64 (if (R3.fmt w).isInt ∧ 2 ^ (n - 1) ≤ v then (v : Int) - 2 ^ n else v)) := by
  intro s h w
  refine congrArg (issue .vext h w s) (congrArg (regStep h) (funext fun r => congrArg (r.setS (R3.rd w)) ?_))
  have hwidth : (R3.fmt w).width ≠ 0 := by cases R3.fmt w <;> decide
  simp only [sext64, sintOf, laneCount, Nat.mod_eq_of_lt (lane_lt _ _ _), hwidth, ne_eq, not_false_eq_true, true_and]
  by_cases hint : (R3.fmt w).isInt = true
  · simp only [hint, if_true, true_and]
    push_cast
    rfl
  · simp only [hint]
    rfl

theorem ktos_moves : MovesScalar .ktos .ktos (fun w r => (r.getK (R3.ra w)).extractLsb' 0 64) := by
  intro s h w
  refine congrArg (issue .ktos h w s) (congrArg (regStep h) (funext fun r => congrArg (r.setS (R3.rd w)) ?_))
  exact BitVec.eq_of_toNat_eq (by simp)

theorem ktosh_moves : MovesScalar .ktosh .ktosh (fun w r => (r.getK (R3.ra w)).extractLsb' 64 64) := by
  intro s h w
  refine congrArg (issue .ktosh h w s) (congrArg (regStep h) (funext fun r => congrArg (r.setS (R3.rd w)) ?_))
  exact BitVec.eq_of_toNat_eq (by simp [Nat.shiftRight_eq_div_pow])

theorem popc_moves : MovesScalar .popc .popc (fun w r => ((List.range 64).filter (r.getS (R3.ra w)).getLsbD).length) := by
  intro s h w
  refine congrArg (issue .popc h w s) (congrArg (regStep h) (funext fun r => congrArg (r.setS (R3.rd w)) ?_))
  rw [popcW, popBelow_eq]
  rfl

theorem clz_moves : MovesScalar .clz .clz (fun w r =>
    ((List.range 64).filter (fun k => decide ((r.getS (R3.ra w)).toNat < 2 ^ (63 - k)))).length) := by
  intro s h w
  refine congrArg (issue .clz h w s) (congrArg (regStep h) (funext fun r => congrArg (r.setS (R3.rd w)) ?_))
  rw [clzW, clz_eq]
  rfl

theorem ctz_moves : MovesScalar .ctz .ctz (fun w r =>
    ((List.range 64).filter (fun k => decide ((r.getS (R3.ra w)).toNat % 2 ^ (k + 1) = 0))).length) := by
  intro s h w
  refine congrArg (issue .ctz h w s) (congrArg (regStep h) (funext fun r => congrArg (r.setS (R3.rd w)) ?_))
  rw [ctzW, ctz_eq]
  rfl

theorem kpop_moves : MovesScalar .kpop .kpop (fun w r =>
    ((List.range (laneCount (R3.fmt w).width)).filter (r.getK (R3.ra w)).getLsbD).length) := by
  intro s h w
  refine congrArg (issue .kpop h w s) (congrArg (regStep h) (funext fun r => congrArg (r.setS (R3.rd w)) ?_))
  rw [popBelow_eq]
  rfl

/-- STOK's mask: the first source below bit 64, the second from there on. -/
theorem getLsbD_stok (a b : Word64) (k : Nat) (hk : k < 128) :
    (BitVec.ofNat 128 (a.toNat + 2 ^ 64 * b.toNat)).getLsbD k = if k < 64 then a.getLsbD k else b.getLsbD (k - 64) := by
  rw [BitVec.getLsbD_ofNat, decide_eq_true hk, Bool.true_and, Nat.add_comm, Nat.testBit_two_pow_mul_add _ a.isLt]
  rfl

end Sys2Proof.Machine

namespace Sys2Proof.Proofs

open Sys2Proof.Machine

/-- Settles O8: each of the rows is a `ComputesScalar`. -/
theorem scalarThreeRegisterResult : Obligations.ScalarThreeRegisterResult := by
  unfold Obligations.ScalarThreeRegisterResult
  intro s h w x hx hc
  refine ComputesScalar.exec_wroteS ?_ hc
  simp only [List.mem_cons, List.not_mem_nil, or_false] at hx
  obtain rfl | rfl | rfl | rfl | rfl | rfl | rfl | rfl | rfl | rfl | rfl | rfl | rfl | rfl | rfl | rfl | rfl | rfl | rfl | rfl |
    rfl := hx
  · exact fun _ _ _ => rfl
  · exact fun _ _ _ => rfl
  · exact fun _ _ _ => rfl
  · exact fun _ _ _ => rfl
  · exact fun _ _ _ => rfl
  · exact fun _ _ _ => rfl
  · exact min_computes
  · exact max_computes
  · exact minu_computes
  · exact maxu_computes
  · exact fun _ _ _ => rfl
  · exact fun _ _ _ => rfl
  · exact fun _ _ _ => rfl
  · exact fun _ _ _ => rfl
  · exact fun _ _ _ => rfl
  · exact mulh_computes
  · exact mulhu_computes
  · exact seq_computes
  · exact sne_computes
  · exact slt_computes
  · exact sltu_computes

/-- Settles O10: each of the rows is a `ComputesImmediate`; LI and INS write their own value. -/
theorem scalarImmediateResult : Obligations.ScalarImmediateResult := by
  unfold Obligations.ScalarImmediateResult
  intro s h w
  refine ⟨fun x hx hc => ComputesImmediate.exec_wroteS ?_ hc, fun hc => ?_, fun hc => ?_⟩
  · simp only [List.mem_cons, List.not_mem_nil, or_false] at hx
    obtain rfl | rfl | rfl | rfl | rfl | rfl | rfl | rfl | rfl | rfl := hx
    · exact computesImmediate_of_aluRI (fun a b => a + b) fun _ _ _ => rfl
    · exact computesImmediate_of_aluRI (fun a b => a &&& b) fun _ _ _ => rfl
    · exact computesImmediate_of_aluRI (fun a b => a ||| b) fun _ _ _ => rfl
    · exact computesImmediate_of_aluRI (fun a b => a ^^^ b) fun _ _ _ => rfl
    · exact computesImmediate_of_shift (fun a n => a <<< n) fun _ _ _ => rfl
    · exact computesImmediate_of_shift (fun a n => a >>> n) fun _ _ _ => rfl
    · exact computesImmediate_of_shift (fun a n => a.sshiftRight n) fun _ _ _ => rfl
    · exact computesImmediate_of_shift (fun a n => a.rotateRight n) fun _ _ _ => rfl
    · exact extu_computesImmediate
    · exact exts_computesImmediate
  · have himm : LI.imm w = (w.extractLsb' 0 48).zeroExtend 64 := BitVec.eq_of_toNat_eq (by simp [LI.imm, fld, nfld])
    exact ⟨_, (issue_regStep hc _), himm ▸ wroteS_setS _ _ _⟩
  · refine ⟨_, _, issue_regStep hc _, wroteS_setS _ _ _, fun k hk => ?_⟩
    rw [insW, getLsbD_setFld, decide_eq_true hk, Bool.true_and]
    rfl

/-- Settles O11: each of the rows is a `MovesScalar`; STOK and VINS write a mask and a lane. -/
theorem scalarMoveResult : Obligations.ScalarMoveResult := by
  unfold Obligations.ScalarMoveResult
  intro s h w
  refine ⟨fun x hx hc => ?_, fun hc => ?_, fun hc => ?_⟩
  · simp only [List.mem_cons, List.not_mem_nil, or_false] at hx
    obtain rfl | rfl | rfl | rfl | rfl | rfl | rfl | rfl := hx
    · exact sel_moves.exec_wroteS hc
    · exact vext_moves.exec_wroteS hc
    · exact ktos_moves.exec_wroteS hc
    · exact ktosh_moves.exec_wroteS hc
    · exact popc_moves.exec_wroteS hc
    · exact clz_moves.exec_wroteS hc
    · exact ctz_moves.exec_wroteS hc
    · exact kpop_moves.exec_wroteS hc
  · refine ⟨_, issue_regStep hc _, ?_⟩
    obtain ⟨hbits, hothers, hflags, hrest⟩ := wroteK_setK (handGet s h).regs (R3.rd w)
      (BitVec.ofNat 128 (((handGet s h).regs.getS (R3.ra w)).toNat + 2 ^ 64 * ((handGet s h).regs.getS (R3.rb w)).toNat))
    exact ⟨fun k hk => (hbits k hk).trans (getLsbD_stok _ _ _ hk), hothers, hflags, hrest⟩
  · refine ⟨_, issue_regStep hc _, wroteV_setV _ _ _ _ fun k => ?_⟩
    split_ifs
    · exact Nat.mod_lt _ (Nat.two_pow_pos _)
    · exact lane_lt _ _ _

end Sys2Proof.Proofs
end

section
/-!
SUPPORT. Laws of the vector and mask instructions: the lanes, mask bits and flags that each leaves; with the settlement of the
statements on the vector results.
-/

namespace Sys2Proof.Machine

/-! ## Flags that lanes raise -/

/-- Raising flags after a write of a vector. -/
theorem WroteV.raise {r r' : HandRegs} {i n : Nat} {g : Nat → Nat} (hw : WroteV r r' i n g {}) (f : FFlags) :
    WroteV r (r'.raise f) i n g f := by
  obtain ⟨hlanes, hothers, hflags, hrest⟩ := hw
  refine ⟨hlanes, hothers, ?_, hrest⟩
  simp only [HandRegs.raise, hflags, or_none]

/-- Raising flags after a write of a mask. -/
theorem WroteK.raise {r r' : HandRegs} {i : Nat} {g : Nat → Bool} (hw : WroteK r r' i g {}) (f : FFlags) :
    WroteK r (r'.raise f) i g f := by
  obtain ⟨hbits, hothers, hflags, hrest⟩ := hw
  refine ⟨hbits, hothers, ?_, hrest⟩
  simp only [HandRegs.raise, hflags, or_none]

/-- The flags of a list of lanes, of which those that take no part raise none, are those of the lanes that take part. -/
theorem foldl_or_eq_laneFlags (n : Nat) (part : Nat → Bool) (g : Nat → FRes) (f : Nat → FFlags)
    (hpart : ∀ i, (g i).flags = if part i then f i else {}) :
    ((List.range n).map g).foldl (fun acc x => acc.or x.flags) FFlags.none = laneFlags n part f := by
  have hstep : (fun (acc : FFlags) i => acc.or (g i).flags) = fun acc i => if part i = true then acc.or (f i) else acc := by
    funext acc i
    rw [hpart]
    split_ifs
    · rfl
    · exact or_none acc
  rw [List.foldl_map, hstep, foldl_if_filter]
  rfl

/-! ## Floating point (R151, R152, R153, R160) -/

/-- The instruction `mk` of operation `o` rounds `op` of its three sources once in each lane that takes part. -/
def RoundsLanes (o : Op) (mk : Hand → Word64 → Instr) (op : RMode → FVal → FVal → FVal → FExact) : Prop :=
  ∀ (s : State) (h : Hand) (w : Word64), exec (mk h w) s = issue o h w s (regStep h (fun r =>
    writeFLanes w (R3.fmt w).width (fun i => (R3.fmt w).finish (R3.rm w) false r.flags.ftz
      (op (R3.rm w) (fpLane w r (R3.ra w) i) (fpLane w r (R3.rb w) i) (fpLane w r (R3.rc w) i))) r))

theorem vabs_rounds : RoundsLanes .vabs .vabs (fun _ a _ _ =>
    match a with | .nan g => ⟨.nan false, { nv := g }⟩ | .inf _ => ⟨.inf false, {}⟩ | .fin _ m e => ⟨.fin false m e, {}⟩) := by
  have habs : ∀ a : FVal, (match a with
      | .nan g => (⟨.nan false, { nv := g }⟩ : FExact) | .inf _ => ⟨.inf false, {}⟩ | .fin _ m e => ⟨.fin false m e, {}⟩) =
      absExact a := fun a => by cases a <;> rfl
  simp only [habs]
  exact fun _ _ _ => rfl

theorem vneg_rounds : RoundsLanes .vneg .vneg (fun _ a _ _ =>
    match a with | .nan g => ⟨.nan false, { nv := g }⟩ | .inf n => ⟨.inf !n, {}⟩ | .fin n m e => ⟨.fin (!n) m e, {}⟩) := by
  have hneg : ∀ a : FVal, (match a with
      | .nan g => (⟨.nan false, { nv := g }⟩ : FExact) | .inf n => ⟨.inf !n, {}⟩ | .fin n m e => ⟨.fin (!n) m e, {}⟩) =
      negExact a := fun a => by cases a <;> rfl
  simp only [hneg]
  exact fun _ _ _ => rfl

/-! ## Comparisons (R152, R154, R181) -/

/-- The order of two numbers is none, below, equal or above. -/
theorem FVal.compare_mem (a b : FVal) :
    a.compare b = none ∨ a.compare b = some (-1) ∨ a.compare b = some 0 ∨ a.compare b = some 1 := by
  unfold FVal.compare
  split
  · exact .inl rfl
  · exact .inl rfl
  · split_ifs <;> simp
  · split_ifs <;> simp
  · split_ifs <;> simp
  · extract_lets
    split_ifs <;> simp

/-- A number summed from single bits has those bits. -/
theorem testBit_foldl_bitN (bit : Nat → Bool) (n : Nat) :
    (List.range n).foldl (fun acc i => acc + bitN (bit i) i) 0 < 2 ^ n ∧
      ∀ k, ((List.range n).foldl (fun acc i => acc + bitN (bit i) i) 0).testBit k = (decide (k < n) && bit k) := by
  induction n with
  | zero => exact ⟨by simp, fun k => by simp⟩
  | succ n ih =>
    obtain ⟨hlt, hbit⟩ := ih
    rw [List.range_succ, List.foldl_append, List.foldl_cons, List.foldl_nil]
    generalize (List.range n).foldl (fun acc i => acc + bitN (bit i) i) 0 = x at hlt hbit
    have hsum : x + bitN (bit n) n = 2 ^ n * (bit n).toNat + x := by
      cases hb : bit n <;> simp [bitN, Nat.add_comm]
    rw [hsum]
    refine ⟨?_, fun k => ?_⟩
    · rw [Nat.pow_succ]
      cases bit n <;> simp <;> omega
    · rw [Nat.testBit_two_pow_mul_add _ hlt, hbit]
      obtain hk | rfl | hk := lt_trichotomy k n
      · simp [hk, hk.trans (Nat.lt_succ_self n)]
      · cases bit k <;> simp
      · have hgt : ¬ k < n ∧ ¬ k < n + 1 := by omega
        have hhigh : (bit n).toNat.testBit (k - n) = false :=
          Nat.testBit_lt_two_pow ((bit n).toNat_lt.trans_le (Nat.pow_le_pow_right (n := 2) (by norm_num) (by omega : 1 ≤ k - n)))
        simp [hgt, hhigh]

/-- The instruction `mk` of operation `o` compares by `rel`; it raises invalid for every NaN when `ordered`. -/
def ComparesLanes (o : Op) (mk : Hand → Word64 → Instr) (ordered : Bool) (rel : Option Int → Bool) : Prop :=
  ∃ c : CmpRel, (∀ (s : State) (h : Hand) (w : Word64), exec (mk h w) s = issue o h w s (regStep h (vcmp c w))) ∧
    (∀ a b : FVal, c.holds (a.compare b) = rel (a.compare b)) ∧
    (∀ a b : FVal, c.flags a b = { nv := if ordered then a.isNaN || b.isNaN else a.isSig || b.isSig })

/-- The relation `c`, which holds of an order exactly when `rel` does. -/
theorem comparesLanes_of {o : Op} {mk : Hand → Word64 → Instr} {rel : Option Int → Bool} (c : CmpRel) (ordered : Bool)
    (hmk : ∀ s h w, exec (mk h w) s = issue o h w s (regStep h (vcmp c w)))
    (hrel : ∀ x ∈ ([none, some (-1), some 0, some 1] : List (Option Int)), c.holds x = rel x)
    (hflags : ∀ a b : FVal, c.flags a b = { nv := if ordered then a.isNaN || b.isNaN else a.isSig || b.isSig }) :
    ComparesLanes o mk ordered rel :=
  ⟨c, hmk, fun a b => hrel _ (by simpa using a.compare_mem b), hflags⟩

/-- What a comparison leaves: its mask bits, and the flags of the lanes that take part. -/
theorem wroteK_vcmp (c : CmpRel) (w : Word64) (r : HandRegs) :
    let n := laneCount (R3.fmt w).width
    let a := fpLane w r (R3.ra w)
    let b := fpLane w r (R3.rb w)
    WroteK r (vcmp c w r) (R3.rd w)
      (fun k => decide (k < n) && (if active w r k then c.holds ((a k).compare (b k)) else (r.getK (R3.rd w)).getLsbD k))
      (laneFlags n (active w r) (fun i => c.flags (a i) (b i))) := by
  intro n a b
  simp only [vcmp, foldl_if_filter]
  refine WroteK.raise (f := laneFlags n (active w r) (fun i => c.flags (a i) (b i))) ?_
  refine ⟨fun k hk => ?_, fun j hj => ?_, ?_, rfl⟩
  · rw [getK_setK, if_pos rfl, BitVec.getLsbD_ofNat, decide_eq_true hk, Bool.true_and,
      (testBit_foldl_bitN _ _).2]
  · rw [getK_setK, if_neg hj]
  · simp [HandRegs.setK]

/-! ## Conversions (R155, R157, R227) -/

/-- Lanes written one by one, with the flags of the lanes that take part. -/
theorem wroteV_lanes (r : HandRegs) (i n : Nat) (f : Fmt) (hn : n = laneCount f.width) (part : Nat → Bool) (conv : Nat → FRes) (g : Nat → FRes)
    (hg : ∀ k, g k = if part k then conv k else { bits := lane (r.getV i) f.width k }) :
    WroteV r ((r.setV i (ofLanes f.width (((List.range n).map g).map (·.bits)))).raise
        (((List.range n).map g).foldl (fun acc x => acc.or x.flags) FFlags.none)) i f.width
      (fun k => if part k then (conv k).bits % 2 ^ f.width else lane (r.getV i) f.width k)
      (laneFlags n part (fun k => (conv k).flags)) := by
  rw [foldl_or_eq_laneFlags _ part g (fun k => (conv k).flags) (fun k => by rw [hg]; split_ifs <;> rfl), List.map_map]
  refine WroteV.raise ⟨fun k hk => ?_, fun j hj => ?_, ?_, rfl⟩ _
  · rw [getV_setV, if_pos rfl, lane_ofLanes _ _ _ (by simpa [hn] using hk) (by simpa [hn] using width_laneCount f)]
    simp only [List.getElem_map, List.getElem_range, Function.comp_apply, hg]
    split_ifs
    · rfl
    · exact Nat.mod_eq_of_lt (lane_lt _ _ _)
  · rw [getV_setV, if_neg hj]
  · simp [HandRegs.setV]

/-! ## Integers, bit patterns and moves (R156, R219, R223, R248) -/

/-- A lane is cut to its width. -/
theorem laneOr_mod (w : Word64) (r : HandRegs) (n : Nat) (g : Nat → Nat) : laneOr w r n (fun k => g k % 2 ^ n) = laneOr w r n g := by
  funext i
  simp only [laneOr, Nat.mod_mod]

/-- A two's complement reading of a lane, as the manual states it. -/
theorem sintOf_of_lt {n x : Nat} (hn : n ≠ 0) (hx : x < 2 ^ n) :
    sintOf n x = if 2 ^ (n - 1) ≤ x then (x : Int) - 2 ^ n else x := by
  simp only [sintOf, Nat.mod_eq_of_lt hx, hn, ne_eq, not_false_eq_true, true_and]
  push_cast
  rfl

/-- A two's complement number of `n` bits lies between −2^(n−1) and 2^(n−1) − 1. -/
theorem sintOf_range {n : Nat} (hn : n ≠ 0) (x : Nat) : -2 ^ (n - 1) ≤ sintOf n x ∧ sintOf n x ≤ 2 ^ (n - 1) - 1 := by
  obtain ⟨m, rfl⟩ := Nat.exists_eq_succ_of_ne_zero hn
  have hlt : x % 2 ^ (m + 1) < 2 ^ (m + 1) := Nat.mod_lt _ (Nat.two_pow_pos _)
  have hpow : (2 : Int) ^ (m + 1) = 2 * 2 ^ m := by ring
  have hpow' : 2 ^ (m + 1) = 2 * 2 ^ m := Nat.pow_succ'
  simp only [sintOf, Nat.succ_eq_add_one, Nat.add_sub_cancel]
  generalize x % 2 ^ (m + 1) = y at hlt
  push_cast
  rw [hpow', ← Int.ofNat_lt] at hlt
  push_cast at hlt
  split_ifs with h
  · obtain ⟨_, h⟩ := h
    rw [← Int.ofNat_le] at h
    push_cast at h
    omega
  · have h : ¬ 2 ^ m ≤ y := fun hle => h ⟨by simp, hle⟩
    rw [← Int.ofNat_le] at h
    push_cast at h
    omega

/-- What an integer lane receives: the exact number, saturated where the instruction says so, modulo 2^n. -/
theorem fitLane_eq (n : Nat) (sat : Bool) (v : Int) :
    fitLane n sat v = ((if sat then max (-2 ^ (n - 1)) (min (2 ^ (n - 1) - 1) v) else v) % 2 ^ n).toNat := by
  have hpos : (0 : Int) < 2 ^ (n - 1) := by positivity
  cases sat with
  | false => simp [fitLane, sintTo]
  | true =>
    simp only [fitLane, sintTo, if_true]
    push_cast
    congr 2
    split_ifs <;> omega

/-- Saturation leaves a number that lies in the range of its lanes. -/
theorem fitLane_of_range {n : Nat} (sat : Bool) {v : Int} (hv : -2 ^ (n - 1) ≤ v ∧ v ≤ 2 ^ (n - 1) - 1) :
    fitLane n false v = fitLane n sat v := by
  rw [fitLane_eq, fitLane_eq, min_eq_right hv.2, max_eq_right hv.1]
  simp

/-- The instruction `mk` of operation `o` leaves `lanes` of the register files in v[RD], and raises no flag. -/
def MovesLanes (o : Op) (mk : Hand → Word64 → Instr) (lanes : Word64 → HandRegs → Nat → Nat) : Prop :=
  ∀ (s : State) (h : Hand) (w : Word64), specialReserved o w = false →
    ∃ f, exec (mk h w) s = issue o h w s (regStep h f) ∧ ∀ r, WroteV r (f r) (R3.rd w) (R3.fmt w).width (lanes w r) {}

theorem MovesLanes.exec_wroteV {o : Op} {mk : Hand → Word64 → Instr} {lanes : Word64 → HandRegs → Nat → Nat} (hm : MovesLanes o mk lanes)
    {s : State} {h : Hand} {w : Word64} (hc : CanIssue s h o w) :
    ∃ r', exec (mk h w) s = .next (afterRegs s h r') ∧
      WroteV (handGet s h).regs r' (R3.rd w) (R3.fmt w).width (lanes w (handGet s h).regs) {} := by
  obtain ⟨f, hexec, hwrote⟩ := hm s h w (canIssue_fields hc).1
  exact ⟨_, hexec.trans (issue_regStep hc f), hwrote _⟩

/-- An instruction that writes `g` in the lanes that take part. -/
theorem movesLanes_of_writeLanes {o : Op} {mk : Hand → Word64 → Instr} {lanes : Word64 → HandRegs → Nat → Nat}
    (g : Word64 → HandRegs → Nat → Nat)
    (hmk : ∀ s h w, exec (mk h w) s = issue o h w s (regStep h (fun r => writeLanes w (R3.fmt w).width (g w r) r)))
    (hg : ∀ w r, laneOr w r (R3.fmt w).width (g w r) = lanes w r) : MovesLanes o mk lanes :=
  fun s h w _ => ⟨_, hmk s h w, fun r => hg w r ▸ wroteV_writeLanes w (R3.fmt w) (g w r) r⟩

theorem Fmt.width_ne_zero (f : Fmt) : f.width ≠ 0 := by cases f <;> decide

/-- An integer instruction by `op`, exact, then saturated or wrapped. -/
theorem movesLanes_of_vint {o : Op} {mk : Hand → Word64 → Instr} (op : Int → Int → Int)
    (hmk : ∀ s h w, ∃ sat, exec (mk h w) s = issue o h w s (regStep h (vint op sat w)) ∧
      ∀ x y, fitLane (R3.fmt w).width sat (op (sintOf (R3.fmt w).width x) (sintOf (R3.fmt w).width y)) =
        fitLane (R3.fmt w).width (R3.sat w) (op (sintOf (R3.fmt w).width x) (sintOf (R3.fmt w).width y))) :
    MovesLanes o mk (fun w r => laneOr w r (R3.fmt w).width (fun k =>
      let n := (R3.fmt w).width
      let sg : Nat → Int := fun x => if 2 ^ (n - 1) ≤ x then (x : Int) - 2 ^ n else x
      let v := op (sg (lane (r.getV (R3.ra w)) n k)) (sg (lane (r.getV (R3.rb w)) n k))
      ((if R3.sat w then max (-2 ^ (n - 1)) (min (2 ^ (n - 1) - 1) v) else v) % 2 ^ n).toNat)) := by
  intro s h w _
  obtain ⟨sat, hexec, hfit⟩ := hmk s h w
  refine ⟨_, hexec, fun r => ?_⟩
  have hwrote := wroteV_writeLanes w (R3.fmt w) (fun i => fitLane (R3.fmt w).width sat
    (op (sintOf (R3.fmt w).width (lane (r.getV (R3.ra w)) (R3.fmt w).width i))
      (sintOf (R3.fmt w).width (lane (r.getV (R3.rb w)) (R3.fmt w).width i)))) r
  simp only [hfit] at hwrote
  simp only [fitLane_eq, sintOf_of_lt (R3.fmt w).width_ne_zero (lane_lt _ _ _)] at hwrote
  simp only [vint, hfit]
  simp only [fitLane_eq, sintOf_of_lt (R3.fmt w).width_ne_zero (lane_lt _ _ _)]
  exact hwrote

/-- A minimum or maximum of numbers in the lanes' range is in it, so it does not saturate. -/
theorem fitLane_of_choice {n : Nat} (hn : n ≠ 0) (sat : Bool) (op : Int → Int → Int) (hop : ∀ a b, op a b = a ∨ op a b = b) (x y : Nat) :
    fitLane n false (op (sintOf n x) (sintOf n y)) = fitLane n sat (op (sintOf n x) (sintOf n y)) := by
  refine fitLane_of_range sat ?_
  obtain h | h := hop (sintOf n x) (sintOf n y)
  · rw [h]; exact sintOf_range hn x
  · rw [h]; exact sintOf_range hn y

/-- An instruction on the lanes' bit patterns. -/
theorem movesLanes_of_vbits {o : Op} {mk : Hand → Word64 → Instr} (op f : Nat → Nat → Nat → Nat)
    (hmk : ∀ s h w, exec (mk h w) s = issue o h w s (regStep h (vbits op w))) (hop : ∀ n a b, n ≠ 0 → a < 2 ^ n → op n a b = f n a b) :
    MovesLanes o mk (fun w r => laneOr w r (R3.fmt w).width (fun k =>
      f (R3.fmt w).width (lane (r.getV (R3.ra w)) (R3.fmt w).width k) (lane (r.getV (R3.rb w)) (R3.fmt w).width k))) := by
  refine movesLanes_of_writeLanes _ hmk fun w r => ?_
  rw [laneOr_mod]
  simp only [hop _ _ _ (R3.fmt w).width_ne_zero (lane_lt _ _ _)]

/-- The arithmetic shift of a lane, as the manual states it. -/
theorem sraLane_eq (n a k : Nat) (hn : n ≠ 0) (ha : a < 2 ^ n) :
    sintTo n (sintOf n a >>> k) = ((if 2 ^ (n - 1) ≤ a then (a : Int) - 2 ^ n else a) / 2 ^ k % 2 ^ n).toNat := by
  rw [sintTo, sintOf_of_lt hn ha, Int.shiftRight_eq_div_pow]
  push_cast
  rfl

theorem vsel_movesLanes : MovesLanes .vsel .vsel (fun w r k =>
    if (r.getK (R3.km w)).getLsbD k then lane (r.getV (R3.ra w)) (R3.fmt w).width k else lane (r.getV (R3.rb w)) (R3.fmt w).width k) := by
  intro s h w hke
  have hke : R3.ke w = true := by simpa [specialReserved] using hke
  refine ⟨vselEff w, rfl, fun r => ?_⟩
  have hact : ∀ i, active w r i = (r.getK (R3.km w)).getLsbD i := fun i => by simp [active, hke]
  simp only [vselEff, hact]
  exact wroteV_setV _ _ _ _ fun k => by split_ifs <;> exact lane_lt _ _ _

/-- A mask operation over all 128 bits. -/
theorem wroteK_of_bits {r : HandRegs} {i : Nat} {x : Mask} {g : Nat → Bool} (hx : ∀ k, k < 128 → x.getLsbD k = g k) :
    WroteK r (r.setK i x) i g {} := by
  obtain ⟨hbits, hothers, hflags, hrest⟩ := wroteK_setK r i x
  exact ⟨fun k hk => (hbits k hk).trans (hx k hk), hothers, hflags, hrest⟩

end Sys2Proof.Machine

namespace Sys2Proof.Proofs

open Sys2Proof.Machine

/-- Settles O16: each of the rows is a `RoundsLanes`. -/
theorem vectorFloatResult : Obligations.VectorFloatResult := by
  unfold Obligations.VectorFloatResult
  intro s h w x hx hc r f res
  have hrow : RoundsLanes x.1 x.2.1 x.2.2 := by
    simp only [List.mem_cons, List.not_mem_nil, or_false] at hx
    obtain rfl | rfl | rfl | rfl | rfl | rfl | rfl | rfl | rfl | rfl | rfl | rfl | rfl := hx
    · exact fun _ _ _ => rfl
    · exact fun _ _ _ => rfl
    · exact fun _ _ _ => rfl
    · exact fun _ _ _ => rfl
    · exact fun _ _ _ => rfl
    · exact fun _ _ _ => rfl
    · exact fun _ _ _ => rfl
    · exact vabs_rounds
    · exact vneg_rounds
    · exact fun _ _ _ => rfl
    · exact fun _ _ _ => rfl
    · exact fun _ _ _ => rfl
    · exact fun _ _ _ => rfl
  exact ⟨_, (hrow s h w).trans (issue_regStep hc _), wroteV_writeFLanes w f res r⟩

/-- Settles O18: each of the rows is a `ComparesLanes`. -/
theorem vectorCompareResult : Obligations.VectorCompareResult := by
  unfold Obligations.VectorCompareResult
  intro s h w x hx hc r n a b
  have hrow : ComparesLanes x.1 x.2.1 x.2.2.1 x.2.2.2 := by
    simp only [List.mem_cons, List.not_mem_nil, or_false] at hx
    obtain rfl | rfl | rfl | rfl | rfl | rfl := hx
    · exact comparesLanes_of .eq false (fun _ _ _ => rfl) (by decide) fun _ _ => rfl
    · exact comparesLanes_of .ne false (fun _ _ _ => rfl) (by decide) fun _ _ => rfl
    · exact comparesLanes_of .lt true (fun _ _ _ => rfl) (by decide) fun _ _ => rfl
    · exact comparesLanes_of .le true (fun _ _ _ => rfl) (by decide) fun _ _ => rfl
    · exact comparesLanes_of .gt true (fun _ _ _ => rfl) (by decide) fun _ _ => rfl
    · exact comparesLanes_of .ge true (fun _ _ _ => rfl) (by decide) fun _ _ => rfl
  obtain ⟨c, hexec, hrel, hflags⟩ := hrow
  have hwrote := wroteK_vcmp c w r
  simp only [hrel, hflags] at hwrote
  exact ⟨_, (hexec s h w).trans (issue_regStep hc _), hwrote⟩

/-- Settles O19: narrowing writes one segment of lanes, widening every lane. -/
theorem vectorConvertResult : Obligations.VectorConvertResult := by
  unfold Obligations.VectorConvertResult
  intro s h w hc r a b n seg v conv
  refine ⟨?_, fun hwide => ?_⟩
  · intro hnarrow part
    refine ⟨_, issue_regStep hc _, ?_⟩
    have hsplit : vcvtEff w r = _ := if_pos hnarrow
    rw [hsplit]
    refine wroteV_lanes r (R3.rd w) _ b rfl part (fun k => conv (k - seg * n)) _ fun k => ?_
    simp only [part, Bool.and_eq_true, decide_eq_true_eq, and_assoc]
    rfl
  · refine ⟨_, issue_regStep hc _, ?_⟩
    have hsplit : vcvtEff w r = _ := if_neg (Nat.not_lt.2 hwide)
    have hn : n = laneCount b.width := by simp only [n, max_eq_right hwide, laneCount]
    rw [hsplit]
    exact wroteV_lanes r (R3.rd w) n b hn (active w r) (fun k => conv (seg * n + k)) _ fun k => rfl

/-- Settles O20: each of the rows writes its lanes by an exact integer operation, or by one on bit patterns. -/
theorem vectorIntegerResult : Obligations.VectorIntegerResult := by
  unfold Obligations.VectorIntegerResult
  intro s h w r n a b sg
  refine ⟨fun x hx hc => ?_, fun x hx hc => ?_⟩
  · simp only [List.mem_cons, List.not_mem_nil, or_false] at hx
    obtain rfl | rfl | rfl | rfl | rfl := hx
    · exact (movesLanes_of_vint (fun a b => a + b) fun _ _ w => ⟨R3.sat w, rfl, fun _ _ => rfl⟩).exec_wroteV hc
    · exact (movesLanes_of_vint (fun a b => a - b) fun _ _ w => ⟨R3.sat w, rfl, fun _ _ => rfl⟩).exec_wroteV hc
    · exact (movesLanes_of_vint (fun a b => a * b) fun _ _ w => ⟨R3.sat w, rfl, fun _ _ => rfl⟩).exec_wroteV hc
    · exact (movesLanes_of_vint min fun _ _ w =>
        ⟨false, rfl, fitLane_of_choice (R3.fmt w).width_ne_zero _ min min_choice⟩).exec_wroteV hc
    · exact (movesLanes_of_vint max fun _ _ w =>
        ⟨false, rfl, fitLane_of_choice (R3.fmt w).width_ne_zero _ max max_choice⟩).exec_wroteV hc
  · simp only [List.mem_cons, List.not_mem_nil, or_false] at hx
    obtain rfl | rfl | rfl | rfl | rfl | rfl := hx
    · exact (movesLanes_of_vbits _ (fun _ a b => a &&& b) (fun _ _ _ => rfl) fun _ _ _ _ _ => rfl).exec_wroteV hc
    · exact (movesLanes_of_vbits _ (fun _ a b => a ||| b) (fun _ _ _ => rfl) fun _ _ _ _ _ => rfl).exec_wroteV hc
    · exact (movesLanes_of_vbits _ (fun _ a b => a ^^^ b) (fun _ _ _ => rfl) fun _ _ _ _ _ => rfl).exec_wroteV hc
    · exact (movesLanes_of_vbits _ (fun n a b => a * 2 ^ (b % n)) (fun _ _ _ => rfl)
        fun _ _ _ _ _ => Nat.shiftLeft_eq _ _).exec_wroteV hc
    · exact (movesLanes_of_vbits _ (fun n a b => a / 2 ^ (b % n)) (fun _ _ _ => rfl)
        fun _ _ _ _ _ => Nat.shiftRight_eq_div_pow _ _).exec_wroteV hc
    · exact (movesLanes_of_vbits _ (fun n a b => ((if 2 ^ (n - 1) ≤ a then (a : Int) - 2 ^ n else a) / 2 ^ (b % n) % 2 ^ n).toNat)
        (fun _ _ _ => rfl) fun n a b hn ha => sraLane_eq n a (b % n) hn ha).exec_wroteV hc

/-- Settles O21: each of the rows writes its lanes, or its mask bit by bit. -/
theorem vectorMoveResult : Obligations.VectorMoveResult := by
  unfold Obligations.VectorMoveResult
  intro s h w r n a b
  refine ⟨fun x hx hc => ?_, fun x hx hc => ?_⟩
  · simp only [List.mem_cons, List.not_mem_nil, or_false] at hx
    obtain rfl | rfl | rfl | rfl := hx
    · exact (movesLanes_of_writeLanes (lanes := fun w r => laneOr w r (R3.fmt w).width (fun _ => (r.getS (R3.ra w)).toNat))
        _ (fun _ _ _ => rfl) fun w r => laneOr_mod w r _ _).exec_wroteV hc
    · exact (movesLanes_of_writeLanes (lanes := fun w r => laneOr w r (R3.fmt w).width (fun k =>
        lane (r.getV (R3.ra w)) (R3.fmt w).width (lane (r.getV (R3.rb w)) (R3.fmt w).width k % (512 / (R3.fmt w).width))))
        _ (fun _ _ _ => rfl) fun _ _ => rfl).exec_wroteV hc
    · exact vsel_movesLanes.exec_wroteV hc
    · exact (movesLanes_of_writeLanes (lanes := fun w r => laneOr w r (R3.fmt w).width (lane (r.getV (R3.ra w)) (R3.fmt w).width))
        _ (fun _ _ _ => rfl) fun _ _ => rfl).exec_wroteV hc
  · simp only [List.mem_cons, List.not_mem_nil, or_false] at hx
    obtain rfl | rfl | rfl | rfl := hx
    · exact ⟨_, issue_regStep hc _, wroteK_of_bits fun k _ => BitVec.getLsbD_and⟩
    · exact ⟨_, issue_regStep hc _, wroteK_of_bits fun k _ => BitVec.getLsbD_or⟩
    · exact ⟨_, issue_regStep hc _, wroteK_of_bits fun k _ => BitVec.getLsbD_xor⟩
    · exact ⟨_, issue_regStep hc _, wroteK_of_bits fun k hk => by rw [BitVec.getLsbD_not, decide_eq_true hk, Bool.true_and]⟩

end Sys2Proof.Proofs
end

section
/-!
SUPPORT. Laws of the one rounding (R140, R151): a value whose digits fit the format is not changed by it; with the settlement of the
statement on representable numbers.
-/

namespace Sys2Proof.Machine

theorem bitLen_two_mul (m : Nat) (hm : m ≠ 0) : bitLen (2 * m) = bitLen m + 1 := by
  simp [bitLen, hm, Nat.log2_two_mul hm]

theorem bitLen_shiftLeft (m k : Nat) (hm : m ≠ 0) : bitLen (m <<< k) = bitLen m + k := by
  induction k with
  | zero => rfl
  | succ k ih =>
    have hne : m <<< k ≠ 0 := by simp [Nat.shiftLeft_eq, hm]
    rw [Nat.shiftLeft_succ, bitLen_two_mul _ hne, ih]
    rfl

/-- A magnitude that is a multiple of the unit rounds to itself. -/
theorem roundMag_of_le (rm : RMode) (neg : Bool) (m : Nat) {e q : Int} (h : q ≤ e) :
    roundMag rm neg m e q = (m <<< (e - q).toNat, false) := if_pos h

/-- A value that has no more digits than the format, and no fewer unless it lies at its lowest exponent, is delivered as itself. -/
theorem Fmt.roundFin_exact (f : Fmt) (rm : RMode) (sat neg : Bool) {m : Nat} {e : Int} (hm : m ≠ 0)
    (hlow : 1 - (f.bias : Int) - f.mbits ≤ e) (hfit : bitLen m ≤ f.mbits + 1)
    (hfull : bitLen m = f.mbits + 1 ∨ e = 1 - (f.bias : Int) - f.mbits)
    (hmax : (e + f.mbits + f.bias - 1).toNat * 2 ^ f.mbits + m ≤ f.maxFinite) :
    f.roundFin rm sat false neg m e = { bits := f.signBit neg + ((e + f.mbits + f.bias - 1).toNat * 2 ^ f.mbits + m) } := by
  have hunit : e + (bitLen m : Int) - 1 - ((f.mbits : Int) + 1 - 1) ≤ e := by omega
  have hround : bitLen (m <<< (e - (e + (bitLen m : Int) - 1 - ((f.mbits : Int) + 1 - 1))).toNat) = f.mbits + 1 := by
    rw [bitLen_shiftLeft _ _ hm]
    omega
  have hexp : (if e + (bitLen m : Int) - 1 - ((f.mbits : Int) + 1 - 1) + ((f.mbits + 1 : Nat) : Int) - 1 < 1 - (f.bias : Int) then
        1 - (f.bias : Int) - ((f.mbits : Int) + 1 - 1)
      else max (e + (bitLen m : Int) - 1 - ((f.mbits : Int) + 1 - 1)) (1 - (f.bias : Int) - ((f.mbits : Int) + 1 - 1))) = e := by
    split_ifs <;> omega
  simp only [Fmt.roundFin, roundMag_of_le rm neg m hunit, hround, decide_eq_true_eq, Bool.and_false, Bool.false_eq_true, if_false,
    hexp, roundMag_of_le rm neg m (le_refl e), sub_self, Int.toNat_zero, Nat.shiftLeft_zero]
  rw [show e + ((f.mbits : Int) + 1 - 1) + f.bias - 1 = e + f.mbits + f.bias - 1 by omega]
  simp only [decide_eq_false (Nat.not_lt.2 hmax), Bool.and_false, Bool.false_eq_true, if_false]

/-- A pattern is its sign, its exponent field and its fraction. -/
theorem Fmt.pattern_split (f : Fmt) (hf : f.isInt = false) {x : Nat} (hx : x < 2 ^ f.width) :
    f.signBit (x.testBit (f.width - 1)) + (nfld x f.mbits f.ebits * 2 ^ f.mbits + nfld x 0 f.mbits) = x := by
  have hsign : f.signBit (x.testBit (f.width - 1)) = x / 2 ^ (f.width - 1) % 2 * 2 ^ (f.width - 1) := by
    rw [Fmt.signBit, Nat.testBit_eq_decide_div_mod_eq]
    obtain h | h := Nat.mod_two_eq_zero_or_one (x / 2 ^ (f.width - 1)) <;> simp [h]
  rw [hsign]
  simp only [nfld, Nat.shiftRight_eq_div_pow]
  cases f <;> simp only [Fmt.isInt, Bool.true_eq_false] at hf <;> simp only [Fmt.width, Fmt.mbits, Fmt.ebits] at hx ⊢ <;> omega

/-- The finite patterns, of each exponent field, reach no further than the largest finite number. -/
theorem Fmt.pattern_le_maxFinite (f : Fmt) (hf : f.isInt = false) (x : Nat)
    (hnan : ¬ (f = .e4m3 ∧ nfld x f.mbits f.ebits = 2 ^ f.ebits - 1 ∧ nfld x 0 f.mbits = 7))
    (htop : ¬ (f ≠ .e4m3 ∧ nfld x f.mbits f.ebits = 2 ^ f.ebits - 1)) :
    nfld x f.mbits f.ebits * 2 ^ f.mbits + nfld x 0 f.mbits ≤ f.maxFinite := by
  have hex := nfld_lt x f.mbits f.ebits
  have hfr := nfld_lt x 0 f.mbits
  generalize nfld x f.mbits f.ebits = ex at *
  generalize nfld x 0 f.mbits = fr at *
  cases f <;> simp [Fmt.isInt] at hf <;> simp [Fmt.mbits, Fmt.ebits, Fmt.maxFinite] at * <;> omega

theorem Fmt.infPattern_eq (f : Fmt) (hf : f.isInt = false) (h43 : f ≠ .e4m3) : f.infPattern = (2 ^ f.ebits - 1) * 2 ^ f.mbits := by
  cases f <;> simp_all [Fmt.isInt, Fmt.infPattern, Fmt.ebits, Fmt.mbits]

/-- A number that the format represents is delivered as itself. -/
theorem Fmt.deliver_decode (f : Fmt) (rm : RMode) (sat : Bool) {x : Nat} (hf : f.isInt = false) (hx : x < 2 ^ f.width)
    (hnum : (f.decode x).isNaN = false) : f.deliver rm sat false (f.decode x) = { bits := x } := by
  have hsplit := f.pattern_split hf hx
  have hmax := f.pattern_le_maxFinite hf x
  have hfr := nfld_lt x 0 f.mbits
  simp only [Fmt.decode, hf, Bool.false_eq_true, if_false] at hnum ⊢
  generalize nfld x f.mbits f.ebits = ex at *
  generalize nfld x 0 f.mbits = fr at *
  generalize x.testBit (f.width - 1) = neg at *
  split_ifs at hnum ⊢ with hnan hinf htop hzero
  · simp [FVal.isNaN] at hnum
  · obtain ⟨h43, hex, hfrac⟩ := hinf
    rw [hex, hfrac, Nat.add_zero, ← f.infPattern_eq hf h43] at hsplit
    simp [Fmt.deliver, hf, h43, hsplit]
  · simp [FVal.isNaN] at hnum
  · subst hzero
    rw [Nat.zero_mul, Nat.zero_add] at hsplit hmax
    by_cases hm : fr = 0
    · rw [hm, Nat.add_zero] at hsplit
      simp [Fmt.deliver, hf, hm, hsplit]
    · have hlen : bitLen fr ≤ f.mbits := (bitLen_le_iff _ _).2 hfr
      have hexp : (1 - (f.bias : Int) - f.mbits + f.mbits + f.bias - 1).toNat = 0 := by omega
      have hexact := f.roundFin_exact rm sat neg hm (e := 1 - (f.bias : Int) - f.mbits) le_rfl (by omega) (.inr rfl)
        (by rw [hexp, Nat.zero_mul, Nat.zero_add]; exact hmax hnan htop)
      rw [hexp, Nat.zero_mul, Nat.zero_add, hsplit] at hexact
      simpa [Fmt.deliver, hf, hm] using hexact
  · have hm : 2 ^ f.mbits + fr ≠ 0 := (Nat.add_pos_left (Nat.two_pow_pos _) _).ne'
    have hlen : bitLen (2 ^ f.mbits + fr) = f.mbits + 1 := by
      refine le_antisymm ((bitLen_le_iff _ _).2 (by rw [Nat.pow_succ]; omega)) (Nat.lt_of_not_le fun h => ?_)
      have := (bitLen_le_iff _ _).1 h
      omega
    have hexp : ((ex : Int) - f.bias - f.mbits + f.mbits + f.bias - 1).toNat = ex - 1 := by omega
    have hpat : (ex - 1) * 2 ^ f.mbits + (2 ^ f.mbits + fr) = ex * 2 ^ f.mbits + fr := by
      obtain ⟨k, rfl⟩ := Nat.exists_eq_succ_of_ne_zero hzero
      rw [Nat.succ_sub_one, Nat.succ_mul]
      omega
    have hexact := f.roundFin_exact rm sat neg hm (e := (ex : Int) - f.bias - f.mbits) (by omega) hlen.le (.inl hlen)
      (by rw [hexp, hpat]; exact hmax hnan htop)
    rw [hexp, hpat, hsplit] at hexact
    simpa [Fmt.deliver, hf, hm] using hexact

end Sys2Proof.Machine

namespace Sys2Proof.Proofs

open Sys2Proof.Machine

/-- Settles O17: the delivery of a decoded pattern is the pattern. -/
theorem representableIsDelivered : Obligations.RepresentableIsDelivered := by
  unfold Obligations.RepresentableIsDelivered
  intro f m sat x hf _ hx hnum
  simp [Fmt.finish, f.deliver_decode m sat hf hx hnum]

end Sys2Proof.Proofs
end

section
/-!
SUPPORT. Laws of the control instructions, of the queue samples and of the special registers; with the settlement of the statements
on them.
-/

namespace Sys2Proof.Machine

/-! ## FLAGS -/

/-- A number is its low bits, the bit above them and the rest. -/
theorem mod_two_pow_succ_testBit (x k : Nat) : x % 2 ^ (k + 1) = bitN (x.testBit k) k + x % 2 ^ k := by
  rw [Nat.mod_pow_succ, bitN, Nat.testBit_eq_decide_div_mod_eq]
  obtain h | h := Nat.mod_two_eq_zero_or_one (x / 2 ^ k) <;> simp [h, Nat.add_comm]

/-- The sticky bits read back from bits [5:0] of a word. -/
theorem FFlags.toBits_ofNat (x : Nat) : (FFlags.ofNat x).toBits = x % 64 := by
  have h := fun k => mod_two_pow_succ_testBit x k
  have h0 := h 0; have h1 := h 1; have h2 := h 2; have h3 := h 3; have h4 := h 4; have h5 := h 5
  simp only [FFlags.ofNat, FFlags.toBits, Nat.zero_add, Nat.reduceAdd, Nat.reducePow] at *
  omega

/-! ## Working time -/

/-- The target is reached exactly when it is not ahead, or is 2^31 or more ahead, in modular comparison (R508). -/
theorem reached_iff (now t : Nat) :
    reached now (t % 2 ^ 32) = true ↔
      2 ^ 31 < (t % 2 ^ 32 + 2 ^ 32 - now % 2 ^ 32) % 2 ^ 32 ∨ t % 2 ^ 32 = now % 2 ^ 32 := by
  simp only [reached, decide_eq_true_eq]
  omega

/-! ## Issue -/

/-- An instruction that can issue leaves what its effect leaves. -/
theorem issue_next {s t : State} {h : Hand} {o : Op} {w : Word64} {eff : State → State} (hc : CanIssue s h o w) (ht : eff s = t) :
    issue o h w s eff = .next t :=
  (issue_eq hc eff).trans (congrArg Host.Outcome.next ht)

/-- An effect on the register files alone. -/
theorem regStep_eq (s : State) (h : Hand) (f : HandRegs → HandRegs) : regStep h f s = afterRegs s h (f (handGet s h).regs) := rfl

/-- MSTAT writes its sample (R235). -/
theorem execMstat_eq {s : State} {h : Hand} {w : Word64} (hc : CanIssue s h .mstat w) :
    execMstat h w s = .next (afterRegs s h ((handGet s h).regs.setS (MX.rs w)
      (BitVec.ofNat 64 ((bayGet s h.pb).matrixQ.length * 2 ^ 24 + bitN ((bayGet s h.pb).matrixQ.any (·.started)) 20 +
        baySlots (bayGet s h.pb))))) := by
  unfold execMstat
  rw [issue_eq hc, regStep_eq]

/-! ## WAITQ -/

theorem waits_iff {α : Type} (p : Bool) (l : List α) : (p && !l.isEmpty) = false ↔ (p = true → l = []) := by
  cases p <;> simp

end Sys2Proof.Machine

namespace Sys2Proof.Proofs
open Sys2Proof.Machine

/-- Settles O15, an instruction at a time. -/
theorem waitFenceTrapNop : Obligations.WaitFenceTrapNop := by
  unfold Obligations.WaitFenceTrapNop
  intro s h w b clear
  have hwaitq : ((bitAt w 0 && !b.matrixQ.isEmpty) || (bitAt w 1 && !b.dmaQ.isEmpty) || (bitAt w 2 && !b.jointerQ.isEmpty)) = false ↔
      clear := by
    simp only [Bool.or_eq_false_iff, waits_iff, and_assoc]
    rfl
  refine ⟨fun hc hclear => ?_, fun hc hbusy => ?_, fun hc hnone => ?_, fun hc hsome => ?_, fun hc => issue_eq hc _, fun hc => ?_⟩
  · show execWaitq h w s = _
    refine issue_next hc ?_
    exact if_neg (by simpa using hwaitq.mpr hclear)
  · show execWaitq h w s = _
    refine issue_next hc ?_
    exact if_pos (by rw [← Bool.not_eq_false]; exact mt hwaitq.mp hbusy)
  · show execFence h w s = _
    refine issue_next hc ?_
    exact if_neg (fun hfar => by
      obtain ⟨e, he, hw⟩ := List.any_eq_true.mp hfar
      simp [hnone e he] at hw)
  · show execFence h w s = _
    refine issue_next hc ?_
    exact if_pos (List.any_eq_true.mpr hsome)
  · show execTrap h w s = _
    refine issue_next hc ?_
    rw [← fld_eq_toNat, SY.imm]
    congr 2
    simp only [fld, nfld]
    omega

/-- Settles O27, an instruction at a time. -/
theorem queueStatus : Obligations.QueueStatus := by
  unfold Obligations.QueueStatus
  intro s h w b
  refine ⟨fun hc => ⟨_, execMstat_eq hc, ?_⟩, fun hc => ⟨_, issue_regStep hc _, wroteS_setS _ _ _⟩, fun hc => ?_⟩
  · simp only [bitN]
    exact wroteS_setS _ _ _
  · show execJwait h w s = _
    rw [execJwait, issue_eq hc]
    simp only [fld, nfld, Nat.shiftRight_zero, Nat.reducePow]
    rfl

/-- Settles O32, an instruction at a time. -/
theorem timeAndSpecialRegisters : Obligations.TimeAndSpecialRegisters := by
  unfold Obligations.TimeAndSpecialRegisters
  intro s h w c r target
  refine ⟨fun hc => ⟨_, issue_regStep hc _, wroteS_setS _ _ _⟩, fun hc => ⟨fun hdone => ?_, fun hlo hhi => ?_⟩, fun hpb t ht hr => ?_,
    fun hc hfree => ?_, fun hc hfree => ?_⟩
  · show execTwait h w s = _
    refine issue_next hc ?_
    exact if_pos ((reached_iff _ _).mpr hdone)
  · show execTwait h w s = _
    refine issue_next hc ?_
    exact if_neg (fun hr => absurd ((reached_iff _ _).mp hr) (by simp only [target, r, c] at hlo hhi; omega))
  · refine (if_pos hpb).trans (congrArg Host.Outcome.next ?_)
    simp only [c] at ht
    simp only [ht, hr, if_true]
  · have hread : execMfsr h w s = .next (afterRegs s h (r.setS (SY.rd w) (specialReg s h (SY.sr w)))) := by
      refine issue_next hc ?_
      exact if_neg (fun hbusy => by simp [hfree hbusy.1] at hbusy)
    refine ⟨_, hread, ?_⟩
    have := wroteS_setS r (SY.rd w) (specialReg s h (SY.sr w))
    exact this
  · refine ⟨{ r with flags := HandFlags.ofWord (r.getS (SY.ra w)) }, ?_, rfl, ?_, rfl⟩
    · show execMtsr h w s = _
      refine issue_next hc ?_
      exact if_neg (by simp [hfree])
    · exact FFlags.toBits_ofNat _

end Sys2Proof.Proofs
end

section
/-!
SUPPORT. Laws of a word with an ILLEGAL cause and of the end of a program; with the settlement of the statements on them.
-/

namespace Sys2Proof.Machine

/-- A context whose instruction can issue is active, and waits for nothing. -/
theorem canIssue_active {s : State} {h : Hand} {o : Op} {w : Word64} (hc : CanIssue s h o w) : (handGet s h).active = true := by
  have hnext := hc.next
  simp only [issuable, issuing, Bool.and_eq_true] at hnext
  obtain ⟨⟨⟨⟨⟨⟨⟨-, hactive⟩, -⟩, -⟩, -⟩, -⟩, -⟩, -⟩ := hnext
  exact hactive

theorem canIssue_wait {s : State} {h : Hand} {o : Op} {w : Word64} (hc : CanIssue s h o w) : (handGet s h).wait = .none := by
  have hnext := hc.next
  simp only [issuable, issuing, Bool.and_eq_true, decide_eq_true_eq] at hnext
  obtain ⟨⟨⟨⟨-, hwait⟩, -⟩, -⟩, -⟩ := hnext
  exact hwait

/-! ## Words with an ILLEGAL cause -/

/-- A word with an ILLEGAL cause that is the next to issue faults, whatever its effect would be (R205). -/
theorem issue_illegal {s : State} {h : Hand} {o : Op} {w : Word64} {k : Nat} (eff : State → State) (hpb : h.pb < bayCount)
    (hnext : issuable s h o w = true) (hill : illegalOf h o (handGet s h) w = some k) :
    issue o h w s eff = .next (takeFault raise h (0x100 + k) 0 (handGet s h).pc s) := by
  simp [issue, hpb, hnext, hill]

/-- The same of an instruction that would enter a queue. -/
theorem issueQueued_illegal {s : State} {h : Hand} {o : Op} {w : Word64} {k : Nat} (kind : QKind) (ra rb : Word64)
    (check : State → List Nat × State) (hpb : h.pb < bayCount) (hnext : issuable s h o w = true)
    (hill : illegalOf h o (handGet s h) w = some k) :
    issueQueued kind o h w ra rb check s = .next (takeFault raise h (0x100 + k) 0 (handGet s h).pc s) :=
  issue_illegal _ hpb hnext hill

theorem issueJointer_illegal {s : State} {h : Hand} {o : Op} {w : Word64} {k : Nat} (hpb : h.pb < bayCount)
    (hnext : issuable s h o w = true) (hill : illegalOf h o (handGet s h) w = some k) :
    issueJointer o h w s = .next (takeFault raise h (0x100 + k) 0 (handGet s h).pc s) := by
  unfold issueJointer
  exact issueQueued_illegal _ _ _ _ hpb hnext hill

/-! ## The end of a program -/

/-- A context that neither ends nor stops, or has queued work, stays (R202, R209). -/
theorem settle_of_not_ctxIdle {s : State} {h : Hand} (hbusy : ctxIdle (bayGet s h.pb) h.filler = false) : settle s h = s := by
  simp [settle, hbusy]

/-- An ended context of a RUNNING bay without queued work leaves its job (R209). -/
theorem settle_of_ended {s : State} {h : Hand} (hst : (bayGet s h.pb).st = .running) (hactive : (handGet s h).active = true)
    (hended : (handGet s h).ended = true) (hidle : ctxIdle (bayGet s h.pb) h.filler = true) : settle s h = endContext s h := by
  simp only [handGet] at hactive hended
  simp [settle, hst, hactive, hended, hidle]

/-- A main context that is alone leaves its bay IDLE (R105). -/
theorem bayGet_endContext_alone (s : State) (pb : Nat) (halone : (bayGet s pb).filler.active = false) :
    bayGet (endContext s { pb := pb }) pb =
      { bayGet s pb with
        main := { (bayGet s pb).main with active := false, wait := .none, arrived := false }
        st := .idle, drain := false, idleSince := s.tb.elapsed } := by
  unfold endContext
  simp only [handOf, Bay.setHand, halone, Bool.not_false, Bool.and_false, Bool.false_eq_true, if_false, Bool.or_false]
  rw [bayGet_dowelPut]
  exact (bayGet_bayPut _ _ _ _).trans (if_pos rfl)

end Sys2Proof.Machine

namespace Sys2Proof.Proofs
open Sys2Proof.Machine

/-- Settles O36: each instruction is issued by `issue`, the matrix, DMA and jointer instructions through `issueQueued`. -/
theorem illegalWordFaults : Obligations.IllegalWordFaults := by
  unfold Obligations.IllegalWordFaults
  intro s h w k hpb
  -- the scalar, control and vector instructions
  iterate 105 refine List.forall_mem_cons.mpr ⟨fun hnext hill => by unfold exec; exact issue_illegal _ hpb hnext hill, ?_⟩
  -- MLOADW to MXFER
  refine List.forall_mem_cons.mpr ⟨fun hnext hill => by unfold exec; exact issueQueued_illegal _ _ _ _ hpb hnext hill, ?_⟩
  refine List.forall_mem_cons.mpr ⟨fun hnext hill => by unfold exec execMstream; exact issueQueued_illegal _ _ _ _ hpb hnext hill, ?_⟩
  refine List.forall_mem_cons.mpr ⟨fun hnext hill => by unfold exec execMdrain; exact issueQueued_illegal _ _ _ _ hpb hnext hill, ?_⟩
  iterate 4 refine List.forall_mem_cons.mpr ⟨fun hnext hill => by unfold exec; exact issueQueued_illegal _ _ _ _ hpb hnext hill, ?_⟩
  -- MSTAT to VST
  iterate 6 refine List.forall_mem_cons.mpr ⟨fun hnext hill => by unfold exec; exact issue_illegal _ hpb hnext hill, ?_⟩
  -- COPY and SCOPY
  refine List.forall_mem_cons.mpr ⟨fun hnext hill => by unfold exec execCopy; exact issueQueued_illegal _ _ _ _ hpb hnext hill, ?_⟩
  refine List.forall_mem_cons.mpr ⟨fun hnext hill => by unfold exec; exact issueQueued_illegal _ _ _ _ hpb hnext hill, ?_⟩
  -- DLD and DST
  iterate 2 refine List.forall_mem_cons.mpr ⟨fun hnext hill => by unfold exec; exact issue_illegal _ hpb hnext hill, ?_⟩
  -- PREF and the jointer instructions
  refine List.forall_mem_cons.mpr ⟨fun hnext hill => by unfold exec; exact issueQueued_illegal _ _ _ _ hpb hnext hill, ?_⟩
  iterate 10 refine List.forall_mem_cons.mpr ⟨fun hnext hill => by unfold exec; exact issueJointer_illegal hpb hnext hill, ?_⟩
  -- JSTAT to PLBDONE
  iterate 17 refine List.forall_mem_cons.mpr ⟨fun hnext hill => by unfold exec; exact issue_illegal _ hpb hnext hill, ?_⟩
  exact List.forall_mem_nil _

/-- Settles O37: with the queues empty the ended context leaves, and with work of its own queued it stays. -/
theorem endLeavesTheJob : Obligations.EndLeavesTheJob := by
  unfold Obligations.EndLeavesTheJob
  intro s pb w h hc
  have hend : exec (.endP h w) s = .next (settle (handMod s h (fun c => { c with ended := true })) h) := by
    unfold exec execEnd; exact issue_eq hc _
  have hbay : bayGet (handMod s h (fun c => { c with ended := true })) pb =
      { bayGet s pb with main := { (bayGet s pb).main with ended := true } } := by simp [h, handMod, Bay.setHand, handOf]
  refine ⟨fun hst hm hd hj halone => ⟨_, hend, ?_⟩, fun ⟨e, he, hmain⟩ => ⟨_, hend, settle_of_not_ctxIdle ?_⟩⟩
  · have hactive := canIssue_active hc
    rw [settle_of_ended]
    · rw [bayGet_endContext_alone _ _ (by rw [hbay]; exact halone), hbay]
      exact ⟨rfl, rfl, rfl, rfl⟩
    · rw [hbay]; exact hst
    · simpa using hactive
    · simp
    · rw [hbay]; simp [ctxIdle, hm, hd, hj]
  · rw [hbay, ctxIdle, List.all_eq_false]
    exact ⟨e, he, by simp [hmain, h]⟩

end Sys2Proof.Proofs
end

section
/-!
SUPPORT. Laws of the little-endian numbers of a structure: the bytes at an offset, and a number as its parts.
-/

namespace Sys2Proof.Machine

/-! ## The bytes at an offset -/

@[simp] theorem length_bytesAt (l : List Byte) (o n : Nat) : (bytesAt l o n).length = n := by
  simp only [bytesAt, List.length_append, List.length_replicate, List.length_take, List.length_drop]
  omega

/-- A byte of a structure; 0 beyond its end. -/
theorem getElem_bytesAt (l : List Byte) (o n i : Nat) (hi : i < (bytesAt l o n).length) : (bytesAt l o n)[i] = l.getD (o + i) 0 := by
  simp only [bytesAt, List.getElem_append]
  split
  · rename_i h
    simp only [List.length_take, List.length_drop] at h
    rw [List.getElem_take, List.getElem_drop, List.getD_eq_getElem?_getD, List.getElem?_eq_getElem (by omega), Option.getD_some]
  · rename_i h
    simp only [length_bytesAt] at hi
    simp only [List.length_take, List.length_drop] at h
    rw [List.getElem_replicate, List.getD_eq_default _ _ (by omega)]

theorem bytesAt_add (l : List Byte) (o a b : Nat) : bytesAt l o (a + b) = bytesAt l o a ++ bytesAt l (o + a) b := by
  refine List.ext_getElem (by simp) (fun i h1 h2 => ?_)
  simp only [List.getElem_append, getElem_bytesAt, length_bytesAt]
  split
  · rfl
  · congr 1
    omega

/-! ## Little-endian numbers -/

theorem leVal_append (a b : List Byte) : leVal (a ++ b) = leVal a + 2 ^ (8 * a.length) * leVal b := by
  induction a with
  | nil => simp [leVal]
  | cons x a ih =>
    have hpow : (2 : Nat) ^ (8 * (a.length + 1)) = 256 * 2 ^ (8 * a.length) := by rw [Nat.mul_succ, Nat.pow_add]; omega
    simp only [List.cons_append, leVal, ih, List.length_cons, hpow]
    ring

theorem leVal_lt (l : List Byte) : leVal l < 2 ^ (8 * l.length) := by
  induction l with
  | nil => simp [leVal]
  | cons x l ih =>
    have hpow : (2 : Nat) ^ (8 * (l.length + 1)) = 256 * 2 ^ (8 * l.length) := by rw [Nat.mul_succ, Nat.pow_add]; omega
    have hx : x.toNat < 256 := x.isLt
    simp only [leVal, List.length_cons, hpow]
    omega

theorem leAt_lt (l : List Byte) (o n : Nat) : leAt l o n < 2 ^ (8 * n) := by
  simpa [leAt] using leVal_lt (bytesAt l o n)

theorem leAt_add (l : List Byte) (o a b : Nat) : leAt l o (a + b) = leAt l o a + 2 ^ (8 * a) * leAt l (o + a) b := by
  rw [leAt, bytesAt_add, leVal_append, length_bytesAt]
  rfl

/-- The bits of the bytes at offset `k` of a number are the number of those bytes. -/
theorem nfld_leAt (l : List Byte) (o k m n : Nat) (hn : k + m ≤ n) : nfld (leAt l o n) (8 * k) (8 * m) = leAt l (o + k) m := by
  obtain ⟨r, rfl⟩ := Nat.exists_eq_add_of_le hn
  have hk := leAt_lt l o k
  have hm := leAt_lt l (o + k) m
  rw [Nat.add_assoc, leAt_add, leAt_add, nfld, Nat.shiftRight_eq_div_pow, Nat.add_mul_div_left _ _ (Nat.two_pow_pos _),
    Nat.div_eq_of_lt hk, Nat.zero_add, Nat.add_mul_mod_self_left, Nat.mod_eq_of_lt hm]

end Sys2Proof.Machine
end

section
/-!
SUPPORT. Laws of plumb runs and of the panel fetch; with the settlement of the statements on them.
-/

namespace Sys2Proof.Machine

/-! ## Pairs -/

/-- A 64-bit value reads back from its pair. -/
theorem pairGet_pairPut (s : State) (a : Addr) {v : Nat} (hv : v < 2 ^ 64) : pairGet (pairPut s a v) a = v := by
  simp [pairGet, pairPut]
  omega

/-! ## The end of a plumb run -/

/-- A passed run leaves the bay IDLE with its sills zero, and the registers as they are, when no write waits (R97, R459). -/
theorem plumbPass_leaves {s : State} (pb : Nat) (hw : s.waitWrites = []) :
    bayGet (plumbPass pb s) pb = plumbLeave s.tb.elapsed (bayGet s pb) ∧ (plumbPass pb s).regs = s.regs := by
  have hland : landWrites (bayMod s pb (plumbLeave s.tb.elapsed)) = bayMod s pb (plumbLeave s.tb.elapsed) := by
    simp only [landWrites, bayMod, bayPut, hw, List.foldl_nil]
  have hbay : bayGet (bayMod s pb (plumbLeave s.tb.elapsed)) pb = plumbLeave s.tb.elapsed (bayGet s pb) := by simp
  have hregs : (bayMod s pb (plumbLeave s.tb.elapsed)).regs = s.regs := by simp
  unfold plumbPass
  simp only [hland]
  split
  · split
    · exact ⟨hbay, hregs⟩
    · exact ⟨hbay, hregs⟩
  · exact ⟨hbay, hregs⟩

/-! ## Panels -/

/-- The parts of a panel's trailer decide in the order of R172. -/
theorem panelCode_plumb (a : Addr) (p : List Byte) (job : Nat) :
    panelCode a p true job =
      if leAt p 60 4 ≠ (crc32c (p.take 56 ++ leBytes 8 (a / 64))).toNat then 0x201
      else if leAt p 56 2 ≠ 0 then 0x202
      else if leAt p 58 2 = 0 then 0x301
      else if leAt p 58 2 = 0xFFFF then 0 else 0x302 := by
  unfold panelCode
  simp only [nfld_leAt p 56 4 4 8 (by decide), nfld_leAt p 56 0 2 8 (by decide), nfld_leAt p 56 2 2 8 (by decide), if_true]

/-- The state in which a fetched panel of a plumb run is verified: the miss has been counted. -/
def missCounted (s : State) (pb : Nat) : State :=
  match pbLogical s pb with
  | some n => cntInc s (Reg.BAY_PANEL_MISS_CNT n)
  | none => s

theorem missCounted_bays (s : State) (pb : Nat) : (missCounted s pb).bays = s.bays := by unfold missCounted; split <;> simp

theorem handGet_missCounted (s : State) (pb : Nat) (h : Hand) : handGet (missCounted s pb) h = handGet s h := by
  simp only [handGet, bayGet, missCounted_bays]

theorem missCounted_plumbRom (s : State) (pb : Nat) : (missCounted s pb).plumbRom = s.plumbRom := by
  unfold missCounted; split <;> simp

/-- In a plumb run the fetch verifies the panel of the plumb ROM (R171, R172). -/
theorem fetchHere_plumb {s : State} {h : Hand} (hst : (bayGet s h.pb).st = .plumb)
    (hbad : tabGet 0 (bayGet s h.pb).badAhead (panelOf (handGet s h).pc) = 0) (ha : panelOf (handGet s h).pc < 0x800) :
    let a := panelOf (handGet s h).pc
    let code := panelCode a (romPanel s a) true (handGet s h).progid
    fetchHere h s =
      if code = 0 then cachePanel h a (romPanel s a) (missCounted s h.pb)
      else takeFault raise h code 0 a (countIcheck (missCounted s h.pb) h.pb) := by
  have hst' : (bayGet (missCounted s h.pb) h.pb).st = .plumb := by rw [bayGet, missCounted_bays]; exact hst
  have hrom : panelBytes (missCounted s h.pb) h (panelOf (handGet s h).pc) = romPanel s (panelOf (handGet s h).pc) := by
    simp only [panelBytes, hst', if_true, romPanel, missCounted_plumbRom]
  unfold fetchHere fetchPlace
  simp only [hbad, hst, ha, if_true]
  rw [← hrom]
  rw [← decide_eq_true hst']
  rfl

/-- A panel that enters the cache leaves the context of a plumb run as it is. -/
theorem cachePanel_leaves (s : State) (h : Hand) (a : Addr) (p : List Byte) (hprog : (handGet s h).progid ≠ 0) :
    tabGet [] (bayGet (cachePanel h a p s) h.pb).cache a = p ∧ handGet (cachePanel h a p s) h = handGet s h := by
  simp only [handGet] at hprog
  simp only [cachePanel, bayGet_bayMod, if_true, handGet, if_neg hprog]
  cases h.filler <;> simp [Bay.setHand, handOf]

end Sys2Proof.Machine

namespace Sys2Proof.Proofs
open Sys2Proof.Machine

/-- Settles O33, an instruction at a time. -/
theorem plumbInstructions : Obligations.PlumbInstructions := by
  unfold Obligations.PlumbInstructions
  intro s h w c
  refine ⟨fun hc => ⟨_, by unfold exec execPlbfold; exact issue_eq hc _, ?_⟩, fun hc => ⟨_, issue_regStep hc _, ?_⟩, fun n hc hn => ?_⟩
  · simp [c]
  · have hidx : SY.imm w % 4096 = w.toNat % 4096 := by simp only [SY.imm, fld, nfld]; omega
    rw [← hidx]
    exact wroteS_setS _ _ _
  · intro s1
    have hdone : exec (.plbdone h w) s =
        .next (if c.plumbSig.toNat = pairGet s1 Reg.SAFETY_PLUMB_GOLD then plumbPass h.pb s1 else plumbMismatch raise h.pb s1) := by
      show execPlbdone h w s = _
      rw [execPlbdone, issue_eq hc]
      simp only [hn]
      rfl
    refine ⟨fun hgold hw => ⟨_, hdone.trans (by rw [if_pos hgold]), ?_⟩, fun hbad => hdone.trans (by rw [if_neg hbad])⟩
    obtain ⟨hbay, hregs⟩ := plumbPass_leaves (s := s1) h.pb (by simpa [s1] using hw)
    refine ⟨by rw [hbay]; rfl, by rw [hbay]; rfl, ?_⟩
    have hsig := pairGet_pairPut s (Reg.BAY_PLUMBSIG n) c.plumbSig.isLt
    simpa only [pairGet, regGet, hregs] using hsig

/-- Settles O34: the fetch of a plumb run, by the first part of the trailer that fails. -/
theorem panelFetchVerifies : Obligations.PanelFetchVerifies := by
  unfold Obligations.PanelFetchVerifies
  intro s h hpb b c a p good hst hissuing hmiss hbad ha hprog
  have hfetch : exec (.panelFetch h false) s = .next (fetchHere h s) := by
    show execPanelFetch h false s = _
    rw [execPanelFetch, if_pos hpb]
    simp only [b, c, handGet] at hissuing
    simp only [hissuing, if_true, Bool.false_eq_true, if_false]
    exact congrArg Host.Outcome.next (if_pos hmiss)
  have hrom : romPanel s a = p := by simp [romPanel, rangeFrom, p]
  have hcode := panelCode_plumb a p c.progid
  have hhere := fetchHere_plumb hst hbad ha
  simp only [show panelOf (handGet s h).pc = a from rfl, hrom] at hhere
  have hfault : ∀ k, panelCode a p true c.progid = k → k ≠ 0 →
      exec (.panelFetch h false) s = .next (takeFault raise h k 0 a (countIcheck (missCounted s h.pb) h.pb)) := by
    rintro k rfl hk
    rw [hfetch, hhere, if_neg hk]
  refine ⟨fun hgood hres hid => ⟨_, hfetch, ?_⟩, countIcheck (missCounted s h.pb) h.pb, fun hfail => ?_, fun hgood hres => ?_,
    fun hgood hres hid => ?_, fun hgood hres hid hid' => ?_⟩
  · rw [hhere, if_pos (by rw [hcode, if_neg (not_not.mpr hgood), if_neg (not_not.mpr hres), hid]; rfl)]
    have hleaves := cachePanel_leaves (missCounted s h.pb) h a p
      (by rw [handGet_missCounted, show (handGet s h).progid = 0xFFFF from hprog]; decide)
    exact ⟨hleaves.1, hleaves.2.trans (handGet_missCounted s h.pb h)⟩
  · exact hfault 0x201 (by rw [hcode, if_pos hfail]) (by decide)
  · exact hfault 0x202 (by rw [hcode, if_neg (not_not.mpr hgood), if_pos hres]) (by decide)
  · exact hfault 0x301 (by rw [hcode, if_neg (not_not.mpr hgood), if_neg (not_not.mpr hres), if_pos hid]) (by decide)
  · exact hfault 0x302 (by rw [hcode, if_neg (not_not.mpr hgood), if_neg (not_not.mpr hres), if_neg hid, if_neg hid']) (by decide)

end Sys2Proof.Proofs
end

section
/-!
SUPPORT. Laws of pegs (R328–R331): judging the waiters, a signal, the start and the release of a wait; with the settlement of the
statements on them.
-/

namespace Sys2Proof.Machine

/-! ## Judging -/

/-- A change of every value of a table that keeps the default reads through. -/
theorem tabGet_map {α : Type} (d : α) (f : α → α) (hd : f d = d) (t : Tab α) (k : Nat) :
    tabGet d (t.map (fun (j, v) => (j, f v))) k = f (tabGet d t k) := by
  induction t with
  | nil => exact hd.symm
  | cons e t ih =>
    simp only [List.map_cons, tabGet, ih]
    split <;> rfl

@[simp] theorem judgeAll_pegs (s : State) : (judgeAll s).pegs = s.pegs := rfl

theorem judgeWait_none (s : State) : judgeWait s .none = .none := rfl

theorem bayGet_judgeAll (s : State) (pb : Nat) : bayGet (judgeAll s) pb = judgeBay s (bayGet s pb) :=
  tabGet_map ({} : Bay) (judgeBay s) rfl s.bays pb

/-- Judging changes what a context waits for, and nothing else of it. -/
theorem handGet_judgeAll (s : State) (h : Hand) :
    handGet (judgeAll s) h = { handGet s h with wait := judgeWait s (handGet s h).wait } := by
  simp only [handGet, bayGet_judgeAll, judgeBay, handOf]
  cases h.filler <;> rfl

/-! ## Signals -/

@[simp] theorem journalPeg_pegs (h : Hand) (n : Nat) (s : State) : (journalPeg h n s).pegs = s.pegs := by
  unfold journalPeg; simp only []; split <;> simp

@[simp] theorem journalPeg_bays (h : Hand) (n : Nat) (s : State) : (journalPeg h n s).bays = s.bays := by
  unfold journalPeg; simp only []; split <;> simp

@[simp] theorem journalPeg_tb (h : Hand) (n : Nat) (s : State) : (journalPeg h n s).tb = s.tb := by
  unfold journalPeg; simp only []; split <;> simp

/-- A peg after a signal: it is stamped when it is not poisoned, and every other peg stays (R328, R330). -/
theorem pegGet_pegSignal (s : State) (n : Nat) (op : PegOp) (m : Nat) :
    pegGet (pegSignal s n op) m = if m = n then pegApply (workTime s) op (pegGet s n) else pegGet s m := by
  unfold pegSignal
  simp only []
  split
  · rename_i hpoison
    split
    · rename_i hm; subst hm; simp [pegApply, hpoison]
    · rfl
  · rw [← pegGet_pegPut]
    split <;> rfl

/-- A signal changes what a context waits for, and nothing else of it. -/
theorem handGet_pegSignal_idle (s : State) (n : Nat) (op : PegOp) (h : Hand) (hwait : (handGet s h).wait = .none) :
    handGet (pegSignal s n op) h = handGet s h := by
  have hput : ∀ u : State, u.bays = s.bays → handGet (judgeAll u) h = handGet s h := by
    intro u hu
    have hget : handGet u h = handGet s h := by simp only [handGet, bayGet, hu]
    rw [handGet_judgeAll, hget, hwait, judgeWait_none, ← hwait]
  unfold pegSignal
  simp only []
  split
  · rfl
  · split
    · exact hput _ rfl
    · exact hput _ rfl

theorem pegGet_handSignal (s : State) (h : Hand) (n : Nat) (op : PegOp) (m : Nat) :
    pegGet (handSignal h n op s) m = if m = n then pegApply (workTime s) op (pegGet s n) else pegGet s m := by
  rw [handSignal, pegGet_pegSignal]
  simp only [pegGet, journalPeg_pegs, workTime, selTime, journalPeg_tb]

theorem handGet_handSignal_idle (s : State) (n : Nat) (op : PegOp) (h : Hand) (hwait : (handGet s h).wait = .none) :
    handGet (handSignal h n op s) h = handGet s h := by
  have hget : handGet (journalPeg h n s) h = handGet s h := by simp only [handGet, bayGet, journalPeg_bays]
  rw [handSignal, handGet_pegSignal_idle _ _ _ _ (by rw [hget, hwait]), hget]

theorem pegApply_poisoned (now : Nat) (op : PegOp) {p : Peg} (hp : p.poison = true) : pegApply now op p = p := if_pos hp

theorem pegApply_add (now v : Nat) {p : Peg} (hp : p.poison = false) :
    pegApply now (.add v) p =
      { p with
        count := BitVec.ofNat 32 (min (p.count.toNat + v) 0xFFFFFFFF), stamp := BitVec.ofNat 32 now
        sat := p.sat || decide (0xFFFFFFFF < p.count.toNat + v) } := by
  simp [pegApply, hp, pegAddVal]

theorem pegApply_set (now v : Nat) {p : Peg} (hp : p.poison = false) :
    pegApply now (.set v) p = { p with count := BitVec.ofNat 32 v, stamp := BitVec.ofNat 32 now } := by
  simp [pegApply, hp]

theorem pegApply_arrive (now : Nat) {p : Peg} (hp : p.poison = false) : pegApply now .arrive p = pegApply now (.add 1) p := by
  simp [pegApply, hp]

/-! ## Peg instructions -/

theorem onPegs_owned {s : State} {h : Hand} {w : Word64} {k : Nat} (eff : Nat → State → State)
    (hown : pegsOwned s (handGet s h).part (pgPeg w (handGet s h).regs) k = true) :
    onPegs h w k eff s = eff (pgPeg w (handGet s h).regs) s := if_pos hown

/-- A peg outside the range of the partition is PEG 0x01 (R207). -/
theorem onPegs_foreign {s : State} {h : Hand} {w : Word64} {k : Nat} (eff : Nat → State → State)
    (hown : ownsPeg s (handGet s h).part (pgPeg w (handGet s h).regs) = false) : onPegs h w k eff s = preciseFault h 0x901 s := by
  simp [onPegs, pegsOwned, hown]

theorem pegsOwned_zero (s : State) (p n : Nat) : pegsOwned s p n 0 = ownsPeg s p n := by simp [pegsOwned]

/-- A signal of a peg that the partition owns, with no earlier write outstanding (R194, R244). -/
theorem signalPeg_owned {s : State} {h : Hand} {w : Word64} (op : Nat → PegOp)
    (hown : ownsPeg s (handGet s h).part (pgPeg w (handGet s h).regs) = true) (hfree : writesPending s h.pb = false) :
    let n := pgPeg w (handGet s h).regs
    let s1 := handSignal h n (op (pgValue w (handGet s h).regs)) s
    signalPeg h w op s = regStep h (fun r => r.setS (PG.rd w) ((pegGet s1 n).count.zeroExtend 64)) s1 := by
  rw [signalPeg, onPegs_owned _ (by rw [pegsOwned_zero]; exact hown)]
  simp [hfree]

/-- What a signal of a peg leaves: the peg with the operation applied, its count in s[RD], every other peg as before. -/
theorem signalPeg_leaves {s : State} {h : Hand} {w : Word64} (op : Nat → PegOp) (hwait : (handGet s h).wait = .none)
    (hown : ownsPeg s (handGet s h).part (pgPeg w (handGet s h).regs) = true) (hfree : writesPending s h.pb = false) :
    let n := pgPeg w (handGet s h).regs
    let q := pegApply (workTime s) (op (pgValue w (handGet s h).regs)) (pegGet s n)
    (∀ m, pegGet (signalPeg h w op s) m = if m = n then q else pegGet s m) ∧
      (handGet (signalPeg h w op s) h).regs = (handGet s h).regs.setS (PG.rd w) (q.count.zeroExtend 64) ∧
      (handGet (signalPeg h w op s) h).pc = nextPc (handGet s h).pc := by
  intro n q
  have hstep : signalPeg h w op s =
      regStep h (fun r => r.setS (PG.rd w) (q.count.zeroExtend 64)) (handSignal h n (op (pgValue w (handGet s h).regs)) s) := by
    rw [signalPeg_owned op hown hfree]
    simp only [pegGet_handSignal, if_true, n, q]
  rw [hstep]
  simp only [regStep, handGet_handMod, if_true, handGet_handSignal_idle _ _ _ _ hwait]
  exact ⟨fun m => pegGet_handSignal s h n _ m, trivial, trivial⟩

/-! ## Waits -/

/-- A wait that is satisfied when it is judged completes at once (R214, R240). -/
theorem startWait_released {s : State} {h : Hand} {w : Wait} {rd : Nat} {v : Word64} {choice : Bool}
    (hjudge : judgeWait s w = .released rd v choice) :
    startWait h w s =
      let s1 := handMod (handMod s h (fun c => { c with wait := .released rd v choice })) h (fun c =>
        { c with regs := c.regs.setS rd v, wait := .none, arrived := false, pc := nextPc c.pc })
      if choice then countChoice h Reg.PART_DIV_PWANY 1 s1 else s1 := by
  unfold startWait releaseWait
  rw [hjudge]
  simp

/-- A wait that is not satisfied waits (R245). -/
theorem startWait_waits {s : State} {h : Hand} {w : Wait} (hjudge : judgeWait s w = w) (hw : (waitPegs w).isEmpty = false) :
    startWait h w s = handMod s h (fun c => { c with wait := w }) := by
  unfold startWait releaseWait
  rw [hjudge]
  cases w <;> simp_all [waitPegs]

theorem mem_rangeFrom {lo n m : Nat} : m ∈ rangeFrom lo n ↔ lo ≤ m ∧ m < lo + n := by
  simp only [rangeFrom, List.mem_map, List.mem_range]
  constructor
  · rintro ⟨i, hi, rfl⟩; omega
  · intro hm; exact ⟨m - lo, by omega, by omega⟩

/-- The first of consecutive numbers that satisfies a test. -/
theorem find?_rangeFrom {p : Nat → Bool} {lo n k : Nat} (hk : k < n) (hp : p (lo + k) = true) (hfirst : ∀ j, j < k → p (lo + j) = false) :
    (rangeFrom lo n).find? p = some (lo + k) := by
  rw [List.find?_eq_some_iff_getElem]
  refine ⟨hp, k, by simpa [rangeFrom] using hk, by simp [rangeFrom], fun j hj => ?_⟩
  simpa [rangeFrom] using hfirst j hj

/-- The wait of PWAIT and PWANY is released by the first of its pegs that has reached the value (R240). -/
theorem judgeWait_pegs_first {s : State} {rd lo cnt v k : Nat} (any : Bool) (hpoison : ∀ j, j ≤ cnt → (pegGet s (lo + j)).poison = false)
    (hk : k ≤ cnt) (hv : v ≤ (pegGet s (lo + k)).count.toNat) (hfirst : ∀ j, j < k → (pegGet s (lo + j)).count.toNat < v) :
    judgeWait s (.pegs rd lo cnt v any) =
      .released rd (if any then BitVec.ofNat 64 (lo + k) else (pegGet s (lo + k)).count.zeroExtend 64) (any && decide (0 < cnt)) := by
  have hclean : (waitPegs (.pegs rd lo cnt v any)).any (fun n => (pegGet s n).poison) = false := by
    rw [List.any_eq_false]
    intro m hm
    obtain ⟨hlo, hhi⟩ := mem_rangeFrom.mp hm
    have := hpoison (m - lo) (by omega)
    rw [Nat.add_sub_of_le hlo] at this
    simp [this]
  have hfind := find?_rangeFrom (p := fun n => decide (v ≤ (pegGet s n).count.toNat)) (lo := lo) (n := cnt + 1) (k := k) (by omega)
    (by simpa using hv) (fun j hj => by simpa using hfirst j hj)
  simp only [judgeWait, hclean, hfind]
  rfl

/-- It is not released while none has. -/
theorem judgeWait_pegs_none {s : State} {rd lo cnt v : Nat} (any : Bool) (hpoison : ∀ j, j ≤ cnt → (pegGet s (lo + j)).poison = false)
    (hv : ∀ j, j ≤ cnt → (pegGet s (lo + j)).count.toNat < v) : judgeWait s (.pegs rd lo cnt v any) = .pegs rd lo cnt v any := by
  have hmem : ∀ m ∈ rangeFrom lo (cnt + 1), ∃ j, j ≤ cnt ∧ m = lo + j := by
    intro m hm
    obtain ⟨hlo, hhi⟩ := mem_rangeFrom.mp hm
    exact ⟨m - lo, by omega, by omega⟩
  have hclean : (waitPegs (.pegs rd lo cnt v any)).any (fun n => (pegGet s n).poison) = false := by
    rw [List.any_eq_false]
    intro m hm
    obtain ⟨j, hj, rfl⟩ := hmem m hm
    simp [hpoison j hj]
  have hfind : (rangeFrom lo (cnt + 1)).find? (fun n => decide (v ≤ (pegGet s n).count.toNat)) = none := by
    rw [List.find?_eq_none]
    intro m hm
    obtain ⟨j, hj, rfl⟩ := hmem m hm
    simpa using hv j hj
  simp only [judgeWait, hclean, hfind]
  rfl

/-- The wait of PARRIVE (R245). -/
theorem judgeWait_arrive {s : State} {n : Nat} (rd : Nat) (hpoison : (pegGet s n).poison = false) :
    judgeWait s (.arrive rd n) =
      if (pegGet s n).target.toNat ≤ (pegGet s n).count.toNat then .released rd ((pegGet s n).count.zeroExtend 64) false
      else .arrive rd n := by
  simp [judgeWait, waitPegs, hpoison]

/-- A counted choice counts in the context, and changes no other part of it (R397). -/
theorem handGet_countChoice (s : State) (h : Hand) (kind : Nat → Addr) :
    handGet (countChoice h kind 1 s) h = { handGet s h with divcnt := (handGet s h).divcnt + 1 } := by
  have hbays : (countChoice h kind 1 s).bays = (handMod s h (fun c => { c with divcnt := c.divcnt + 1 })).bays := by
    simp [countChoice]
  have hget := handGet_handMod s h h (fun c => { c with divcnt := c.divcnt + 1 })
  rw [if_pos rfl] at hget
  rw [← hget]
  simp only [handGet, bayGet, hbays]

theorem countChoice_pegs (s : State) (h : Hand) (kind : Nat → Addr) (amount : Nat) : (countChoice h kind amount s).pegs = s.pegs := by
  unfold countChoice
  split
  · rfl
  · simp

/-- What the issue of a first PARRIVE leaves: the peg signalled once, and the wait for its target complete or begun (R245). -/
theorem arrive_leaves {s : State} {h : Hand} {w : Word64} {n : Nat} (hwait : (handGet s h).wait = .none)
    (hpoison : (pegGet s n).poison = false) :
    ∃ t, startWait h (.arrive (PG.rd w) n) (handMod (handSignal h n .arrive s) h (fun c => { c with arrived := true })) = t ∧
      pegGet t n = pegApply (workTime s) .arrive (pegGet s n) ∧
      ((pegGet s n).target.toNat ≤ (pegGet t n).count.toNat →
        (handGet t h).pc = nextPc (handGet s h).pc ∧
          WroteS (handGet s h).regs (handGet t h).regs (PG.rd w) ((pegGet t n).count.zeroExtend 64)) ∧
      ((pegGet t n).count.toNat < (pegGet s n).target.toNat →
        (handGet t h).pc = (handGet s h).pc ∧ (handGet t h).regs = (handGet s h).regs ∧
          (handGet t h).wait = .arrive (PG.rd w) n) := by
  generalize hq : pegApply (workTime s) .arrive (pegGet s n) = q
  generalize hs1 : handMod (handSignal h n .arrive s) h (fun c => { c with arrived := true }) = s1
  have hpeg : pegGet s1 n = q := by rw [← hs1, ← hq]; exact (pegGet_handSignal s h n .arrive n).trans (if_pos rfl)
  have hhand : handGet s1 h = { handGet s h with arrived := true } := by
    rw [← hs1, handGet_handMod, if_pos rfl, handGet_handSignal_idle _ _ _ _ hwait]
  have hkept : q.poison = false ∧ q.target = (pegGet s n).target := by
    rw [← hq, pegApply_arrive _ hpoison, pegApply_add _ _ hpoison]
    exact ⟨hpoison, rfl⟩
  have hjudge := judgeWait_arrive (s := s1) (PG.rd w) (by rw [hpeg]; exact hkept.1)
  rw [hpeg, hkept.2] at hjudge
  by_cases hle : (pegGet s n).target.toNat ≤ q.count.toNat
  · rw [if_pos hle] at hjudge
    refine ⟨_, startWait_released hjudge, hpeg, ?_⟩
    simp only [Bool.false_eq_true, if_false, handGet_handMod, if_true, hhand]
    exact ⟨fun _ => ⟨trivial, by rw [← hpeg]; exact wroteS_setS _ _ _⟩, fun hlt => absurd (hpeg ▸ hlt) (Nat.not_lt.mpr hle)⟩
  · rw [if_neg hle] at hjudge
    refine ⟨_, startWait_waits hjudge rfl, hpeg, ?_⟩
    simp only [handGet_handMod, if_true, hhand]
    exact ⟨fun hge => absurd (hpeg ▸ hge) hle, fun _ => ⟨trivial, trivial, trivial⟩⟩

end Sys2Proof.Machine

namespace Sys2Proof.Proofs
open Sys2Proof.Machine

/-- Settles O30: PADD and PSET by the law of signals, and the seven instructions on a peg of another partition. -/
theorem pegSignalResult : Obligations.PegSignalResult := by
  unfold Obligations.PegSignalResult
  intro s h w c n v p
  have hsignal : ∀ (o : Op) (mk : Hand → Word64 → Instr) (op : Nat → PegOp) (count : Nat) (sat : Bool),
      (CanIssue s h o w → exec (mk h w) s = .next (signalPeg h w op s)) →
      (p.poison = false → pegApply (workTime s) (op v) p = { p with count := BitVec.ofNat 32 count, stamp := BitVec.ofNat 32 (workTime s), sat := sat }) →
      CanIssue s h o w → ownsPeg s c.part n = true → writesPending s h.pb = false →
      ∃ t r', exec (mk h w) s = .next t ∧ (handGet t h).regs = r' ∧ (handGet t h).pc = nextPc c.pc ∧
        (p.poison = false → pegGet t n = { p with count := BitVec.ofNat 32 count, stamp := BitVec.ofNat 32 (workTime s), sat := sat }) ∧
        (p.poison = true → pegGet t n = p) ∧
        WroteS c.regs r' (PG.rd w) ((pegGet t n).count.zeroExtend 64) ∧ (∀ m, m ≠ n → pegGet t m = pegGet s m) := by
    intro o mk op count sat hexec happly hc hown hfree
    obtain ⟨hpegs, hregs, hpc⟩ := signalPeg_leaves op (canIssue_wait hc) hown hfree
    have hn : pegGet (signalPeg h w op s) n = pegApply (workTime s) (op v) p := (hpegs n).trans (if_pos rfl)
    refine ⟨_, _, hexec hc, hregs, hpc, fun hp => hn.trans (happly hp), fun hp => hn.trans (pegApply_poisoned _ _ hp), ?_,
      fun m hm => (hpegs m).trans (if_neg hm)⟩
    rw [hn]
    exact wroteS_setS _ _ _
  constructor
  · intro x hx
    simp only [List.mem_cons, List.not_mem_nil, or_false] at hx
    obtain rfl | rfl := hx
    · exact hsignal .padd .padd .add _ _ (fun hc => by show execPadd h w s = _; rw [execPadd, issue_eq hc]) (pegApply_add _ _)
    · exact hsignal .pset .pset .set _ _ (fun hc => by show execPset h w s = _; rw [execPset, issue_eq hc]) (pegApply_set _ _)
  · intro x hx hc hown
    simp only [List.mem_cons, List.not_mem_nil, or_false] at hx
    have hforeign : ∀ {o : Op} {k : Nat} {eff : Nat → State → State}, CanIssue s h o w →
        issue o h w s (onPegs h w k eff) = .next (preciseFault h 0x901 s) := fun hc => issue_next hc (onPegs_foreign _ hown)
    obtain rfl | rfl | rfl | rfl | rfl | rfl | rfl := hx
    · exact hforeign hc
    · exact hforeign hc
    · exact hforeign hc
    · exact hforeign hc
    · exact hforeign hc
    · exact hforeign hc
    · exact hforeign hc

/-- The poison bit lies above the count. -/
theorem count_or_poison (p : Peg) :
    BitVec.ofNat 64 (p.count.toNat + bitN p.poison 32) = p.count.zeroExtend 64 ||| (if p.poison then 0x100000000 else 0) := by
  have hlt := p.count.isLt
  cases p.poison with
  | false => simp [bitN, BitVec.ofNat_toNat]
  | true =>
    refine BitVec.eq_of_toNat_eq ?_
    have hor := Nat.two_pow_add_eq_or_of_lt hlt 1
    simp only [Nat.mul_one, Nat.reducePow] at hor
    have hx : (p.count.zeroExtend 64).toNat = p.count.toNat := by simp; omega
    rw [if_pos rfl, BitVec.toNat_or, hx, Nat.or_comm, show (0x100000000 : Word64).toNat = 4294967296 from rfl, ← hor]
    simp only [bitN, if_true, BitVec.toNat_ofNat]
    omega

/-- Settles O31, an instruction at a time, and the two ways in which a waiting context is released. -/
theorem pegWaitResult : Obligations.PegWaitResult := by
  unfold Obligations.PegWaitResult
  refine ⟨fun s h w => ?_, fun s h hpb => ?_⟩
  · intro c n v p
    have hallOwned : (∀ k, k ≤ PG.cnt w → ownsPeg s c.part (n + k) = true ∧ (pegGet s (n + k)).poison = false) →
        pegsOwned s c.part n (PG.cnt w) = true := by
      intro hall
      simp only [pegsOwned, Bool.and_eq_true]
      exact ⟨(hall 0 (Nat.zero_le _)).1, (hall _ (Nat.le_refl _)).1⟩
    refine ⟨fun hc hown hpoison => ⟨fun hv => ?_, fun hv => ?_⟩, fun hc hall => ⟨fun k hcnt hk hv hfirst => ?_, fun hv => ?_⟩,
      fun hc hown hpoison hfree harrived => ?_, fun x hx hc hown => ?_⟩
    · have hjudge := judgeWait_pegs_first (rd := PG.rd w) (lo := n) (cnt := 0) (k := 0) false (fun j hj => by rw [Nat.le_zero.mp hj]; exact hpoison)
        (Nat.le_refl 0) hv (fun j hj => absurd hj (Nat.not_lt_zero j))
      have hexec : exec (.pwait h w) s = .next (startWait h (.pegs (PG.rd w) n 0 v false) s) := by
        show execPwait h w s = _
        rw [execPwait]
        exact issue_next hc (onPegs_owned _ (by rw [pegsOwned_zero]; exact hown))
      refine ⟨_, hexec, ?_⟩
      rw [startWait_released hjudge]
      simp only [Bool.false_and, Bool.false_eq_true, if_false, handGet_handMod, if_true]
      exact ⟨wroteS_setS _ _ _, rfl, trivial, rfl⟩
    · have hjudge := judgeWait_pegs_none (rd := PG.rd w) (lo := n) (cnt := 0) false (fun j hj => by rw [Nat.le_zero.mp hj]; exact hpoison)
        (fun j hj => by rw [Nat.le_zero.mp hj]; exact hv)
      show execPwait h w s = _
      rw [execPwait]
      exact issue_next hc ((onPegs_owned _ (by rw [pegsOwned_zero]; exact hown)).trans (startWait_waits hjudge rfl))
    · have hjudge := judgeWait_pegs_first (rd := PG.rd w) true (fun j hj => (hall j hj).2) hk hv hfirst
      have hexec : exec (.pwany h w) s = .next (startWait h (.pegs (PG.rd w) n (PG.cnt w) v true) s) := by
        show execPwany h w s = _
        rw [execPwany]
        exact issue_next hc (onPegs_owned _ (hallOwned hall))
      refine ⟨_, hexec, ?_⟩
      rw [startWait_released hjudge]
      simp only [Bool.true_and, hcnt, decide_true, if_true, handGet_countChoice, countChoice_pegs, handGet_handMod]
      exact ⟨wroteS_setS _ _ _, rfl, rfl, rfl⟩
    · have hjudge := judgeWait_pegs_none (rd := PG.rd w) true (fun j hj => (hall j hj).2) hv
      show execPwany h w s = _
      rw [execPwany]
      exact issue_next hc ((onPegs_owned _ (hallOwned hall)).trans (startWait_waits hjudge (by simp [waitPegs, rangeFrom])))
    · obtain ⟨t, ht, hpeg, hdone, hwaits⟩ := arrive_leaves (w := w) (canIssue_wait hc) hpoison
      have hexec : exec (.parrive h w) s = .next t := by
        show execParrive h w s = _
        rw [execParrive]
        refine issue_next hc ((onPegs_owned _ (by rw [pegsOwned_zero]; exact hown)).trans ?_)
        simp only [c] at harrived
        rw [if_neg (by simp [hfree]), harrived]
        exact ht
      have hcount : (pegGet t n).count.toNat = min (p.count.toNat + 1) 0xFFFFFFFF := by
        rw [hpeg, pegApply_arrive _ hpoison, pegApply_add _ _ hpoison]
        exact Nat.mod_eq_of_lt (Nat.lt_of_le_of_lt (Nat.min_le_right _ _) (by decide))
      rw [← hcount]
      exact ⟨t, hexec, rfl, hdone, hwaits⟩
    · simp only [List.mem_cons, List.not_mem_nil, or_false] at hx
      have hread : ∀ {o : Op} (f : Peg → Word64), CanIssue s h o w →
          issue o h w s (pegRead h w f) = .next (afterRegs s h (c.regs.setS (PG.rd w) (f p))) := fun f hc =>
        issue_next hc (onPegs_owned _ (by rw [pegsOwned_zero]; exact hown))
      obtain rfl | rfl | rfl := hx
      · refine ⟨_, hread _ hc, ?_⟩
        rw [count_or_poison]
        exact wroteS_setS _ _ _
      · exact ⟨_, hread _ hc, wroteS_setS _ _ _⟩
      · exact ⟨_, hread _ hc, wroteS_setS _ _ _⟩
  · intro c
    have hrelease : exec (.pegWaitRelease (.hand h)) s = .next (releaseWait h s) := if_pos hpb
    refine ⟨fun rd v hwait => ⟨_, hrelease, ?_⟩, fun hwait => hrelease.trans ?_⟩
    · simp only [c] at hwait
      simp only [releaseWait, hwait, Bool.false_eq_true, if_false, handGet_handMod, if_true]
      exact ⟨wroteS_setS _ _ _, rfl, trivial⟩
    · simp only [c] at hwait
      simp only [releaseWait, hwait]

end Sys2Proof.Proofs
end

section
/-!
SUPPORT. Laws of the accesses of the hand processor to the store of its own bay (R73, R191, R236); with the settlement of the
statements on loads and stores.
-/

namespace Sys2Proof.Machine

/-! ## Bytes -/

@[simp] theorem length_leBytes (n v : Nat) : (leBytes n v).length = n := by
  induction n generalizing v with
  | zero => rfl
  | succ n ih => simp [leBytes, ih]

/-- Byte `i` of a little-endian number. -/
theorem getD_leBytes {n i : Nat} (v : Nat) (hi : i < n) : (leBytes n v).getD i 0 = BitVec.ofNat 8 (v / 256 ^ i) := by
  induction n generalizing v i with
  | zero => omega
  | succ n ih =>
    cases i with
    | zero => simp [leBytes]
    | succ i =>
      simp only [leBytes, List.getD_cons_succ]
      rw [ih _ (by omega), Nat.div_div_eq_div_mul, Nat.pow_succ']

/-- Byte `i` of the number of some bytes; 0 beyond them. -/
theorem nfld_leVal (l : List Byte) (i : Nat) : nfld (leVal l) (8 * i) 8 = (l.getD i 0).toNat := by
  induction l generalizing i with
  | nil => simp [leVal, nfld]
  | cons b l ih =>
    have hb : b.toNat < 256 := b.isLt
    cases i with
    | zero => simp [leVal, nfld]; omega
    | succ i =>
      rw [List.getD_cons_succ, ← ih, nfld, nfld, leVal, Nat.mul_succ, Nat.add_comm (8 * i), Nat.shiftRight_add]
      congr 2
      rw [Nat.shiftRight_eq_div_pow]
      omega

/-- A byte lane is a byte of the vector's number. -/
theorem ofNat_lane_eight (v : Vec) (i : Nat) : BitVec.ofNat 8 (lane v 8 i) = BitVec.ofNat 8 (v.toNat / 256 ^ i) := by
  have hpow : (2 : Nat) ^ (i * 8) = 256 ^ i := by rw [Nat.mul_comm, Nat.pow_mul]
  refine BitVec.eq_of_toNat_eq ?_
  simp [lane, nfld, Nat.shiftRight_eq_div_pow, hpow]

/-! ## The own store -/

/-- A place in a row of 32 windows of 2 MiB, moved within its window. -/
theorem window_add {e i off : Nat} (he : e < 0x4000000) (hoff : e % 0x200000 = off) (hi : off + i < 0x200000) :
    e + i < 0x4000000 ∧ (e + i) / 0x200000 = e / 0x200000 ∧ (e + i) % 0x200000 = off + i := by
  have hrow : e / 0x200000 < 32 := by omega
  omega

/-- A window holds 2 MiB in a row (R26). -/
theorem windowOf_add {a b off i : Nat} (h : windowOf a = some (b, off)) (hi : off + i < 0x200000) : windowOf (a + i) = some (b, off + i) := by
  unfold windowOf at h ⊢
  by_cases h1 : 0x001010000000 ≤ a ∧ a < 0x001014000000
  · rw [if_pos h1] at h
    have hb := congrArg (fun x => (x.getD (0, 0)).1) h
    have hoff := congrArg (fun x => (x.getD (0, 0)).2) h
    simp only [Option.getD_some] at hb hoff
    obtain ⟨hrow, hdiv, hmod⟩ := window_add (by omega) hoff hi
    have hin : 0x001010000000 ≤ a + i ∧ a + i < 0x001014000000 := by omega
    rw [if_pos hin, Nat.sub_add_comm h1.1, hdiv, hmod, hb]
  · rw [if_neg h1] at h
    by_cases h2 : 0x001090000000 ≤ a ∧ a < 0x001094000000
    · rw [if_pos h2] at h
      have hb := congrArg (fun x => (x.getD (0, 0)).1) h
      have hoff := congrArg (fun x => (x.getD (0, 0)).2) h
      simp only [Option.getD_some] at hb hoff
      obtain ⟨hrow, hdiv, hmod⟩ := window_add (by omega) hoff hi
      have hout : ¬(0x001010000000 ≤ a + i ∧ a + i < 0x001014000000) := by omega
      have hin : 0x001090000000 ≤ a + i ∧ a + i < 0x001094000000 := by omega
      rw [if_neg hout, if_pos hin, Nat.sub_add_comm h2.1, hdiv, hmod, hb]
    · rw [if_neg h2] at h
      cases h

/-- The bytes of an access lie in the own store as the access does. -/
theorem ownOff_add {num a n off i m : Nat} (hoff : ownOff num a n = some off) (hi : i + m ≤ n) : ownOff num (a + i) m = some (off + i) := by
  unfold ownOff at hoff
  split at hoff
  · rename_i b o hwin
    split at hoff
    · rename_i hin
      obtain ⟨hb, hsize⟩ := hin
      obtain rfl := Option.some.inj hoff
      have hmax : storeSize < 0x200000 := by decide
      simp only [ownOff, windowOf_add hwin (show o + i < 0x200000 by omega)]
      exact if_pos ⟨hb, by omega⟩
    · cases hoff
  · cases hoff

/-- The store of a bay changed in the bytes that `take` names from `off` on, to those of `byte`; what else it may have changed is the
STALE marks of the bay's slots and their counter (R79). -/
structure OwnStored (s t : State) (pb off len : Nat) (take : Nat → Bool) (byte : Nat → Nat) : Prop where
  store : ∀ k, tabGet 0 (bayGet t pb).store k =
    if off ≤ k ∧ k < off + len ∧ take (k - off) = true then BitVec.ofNat 8 (byte (k - off)) else tabGet 0 (bayGet s pb).store k
  hands : ∀ h, handGet t h = handGet s h
  bays : ∀ q, q ≠ pb → bayGet t q = bayGet s q
  mem : t.mem = s.mem
  pegs : t.pegs = s.pegs
  own : ∀ q, ownNum t q = ownNum s q

theorem storeWrite_pegs (s : State) (pb off : Nat) (l : List Byte) : (storeWrite s pb off l).pegs = s.pegs := by
  unfold storeWrite
  simp only []
  split
  · split <;> simp
  · simp

theorem ownNum_storeWrite (s : State) (pb off : Nat) (l : List Byte) (q : Nat) : ownNum (storeWrite s pb off l) q = ownNum s q := by
  unfold storeWrite
  simp only []
  split
  · split <;> rfl
  · rfl

theorem handGet_storeWrite (s : State) (pb off : Nat) (l : List Byte) (h : Hand) : handGet (storeWrite s pb off l) h = handGet s h := by
  simp only [handGet, bayGet_storeWrite]
  split
  · rename_i hpb; rw [hpb]; cases h.filler <;> rfl
  · rfl

theorem OwnStored.refl (s : State) (pb off : Nat) (take : Nat → Bool) (byte : Nat → Nat) : OwnStored s s pb off 0 take byte where
  store k := by rw [if_neg (by omega)]
  hands _ := rfl
  bays _ _ := rfl
  mem := rfl
  pegs := rfl
  own _ := rfl

/-- One write of the low bytes of a number. -/
theorem OwnStored.storeWrite (s : State) (pb off n v : Nat) :
    OwnStored s (storeWrite s pb off (leBytes n v)) pb off n (fun _ => true) (fun k => v / 256 ^ k) where
  store k := by
    rw [store_storeWrite, length_leBytes]
    by_cases hk : off ≤ k ∧ k < off + n
    · rw [if_pos hk, if_pos ⟨hk.1, hk.2, rfl⟩, getD_leBytes _ (by omega)]
    · rw [if_neg hk, if_neg (fun h => hk ⟨h.1, h.2.1⟩)]
  hands := handGet_storeWrite s pb off _
  bays q hq := by rw [bayGet_storeWrite, if_neg hq]
  mem := storeWrite_mem _ _ _ _
  pegs := storeWrite_pegs _ _ _ _
  own := ownNum_storeWrite _ _ _ _

/-- The next byte after those written, written when it takes part. -/
theorem OwnStored.succ {s t : State} {pb off len : Nat} {take : Nat → Bool} {byte : Nat → Nat} (hst : OwnStored s t pb off len take byte) :
    OwnStored s (if take len = true then Machine.storeWrite t pb (off + len) [BitVec.ofNat 8 (byte len)] else t) pb off (len + 1) take byte := by
  by_cases htake : take len = true
  · rw [if_pos htake]
    exact {
      store := fun k => by
        rw [store_storeWrite, hst.store]
        by_cases hk : k = off + len
        · subst hk
          rw [if_pos (by simp), if_pos (by simp [htake])]
          simp
        · rw [if_neg (by simp; omega)]
          by_cases hin : off ≤ k ∧ k < off + len ∧ take (k - off) = true
          · rw [if_pos hin, if_pos ⟨hin.1, by omega, hin.2.2⟩]
          · rw [if_neg hin, if_neg (fun h => hin ⟨h.1, by omega, h.2.2⟩)]
      hands := fun h => (handGet_storeWrite _ _ _ _ _).trans (hst.hands h)
      bays := fun q hq => by rw [bayGet_storeWrite, if_neg hq, hst.bays q hq]
      mem := (storeWrite_mem _ _ _ _).trans hst.mem
      pegs := (storeWrite_pegs _ _ _ _).trans hst.pegs
      own := fun q => (ownNum_storeWrite _ _ _ _ _).trans (hst.own q) }
  · rw [if_neg htake]
    refine { hst with store := fun k => ?_ }
    rw [hst.store]
    by_cases hk : k = off + len
    · subst hk
      rw [if_neg (by omega), if_neg (by simp [htake])]
    · by_cases hin : off ≤ k ∧ k < off + len ∧ take (k - off) = true
      · rw [if_pos hin, if_pos ⟨hin.1, by omega, hin.2.2⟩]
      · rw [if_neg hin, if_neg (fun h => hin ⟨h.1, by omega, h.2.2⟩)]

/-- A masked write, byte by byte. -/
theorem OwnStored.foldl {s : State} {pb off n : Nat} (take : Nat → Bool) (byte : Nat → Nat) (write : State → Nat → State)
    (hwrite : ∀ t i, i < n → ownNum t pb = ownNum s pb →
      write t i = if take i = true then Machine.storeWrite t pb (off + i) [BitVec.ofNat 8 (byte i)] else t) :
    OwnStored s ((List.range n).foldl write s) pb off n take byte := by
  induction n with
  | zero => exact OwnStored.refl s pb off take byte
  | succ n ih =>
    have hprev := ih (fun t i hi => hwrite t i (by omega))
    rw [List.range_succ, List.foldl_append, List.foldl_cons, List.foldl_nil, hwrite _ n (Nat.lt_succ_self n) (hprev.own pb)]
    exact hprev.succ

/-! ## Accesses -/

theorem MEM.off_eq (w : Word64) : MEM.off w = (w.extractLsb' 0 32).signExtend 64 := sext64_fld w 0 32

/-- An access of the own store that nothing holds back takes effect (R73, R186). -/
theorem handMem_own {s : State} {h : Hand} {k : AccKind} {a n al off : Nat} {write : Bool} (ownOnly : Bool) (eff : Bool → State → State)
    (hacc : ownAccess s h a n al write off) (hk : decide (k = .write) = write) : handMem h k ownOnly a n al eff s = eff false s := by
  obtain ⟨hoff, hal, hfloor, hbusy⟩ := hacc
  simp [handMem, handAccess, hoff, hal, Nat.not_lt.mpr hfloor, hk, hbusy]

/-- A misaligned access of the own store is MEMORY 0x03 (R200). -/
theorem handMem_misaligned {s : State} {h : Hand} {a n off : Nat} (k : AccKind) (ownOnly : Bool) (eff : Bool → State → State)
    (hoff : ownOff (ownNum s h.pb) a n = some off) (hmis : a % n ≠ 0) : handMem h k ownOnly a n n eff s = preciseFault h 0x503 s := by
  simp [handMem, handAccess, hoff, hmis, reportVerdict]

theorem handRead_own {s : State} {h : Hand} {a n off : Nat} (hoff : ownOff (ownNum s h.pb) a n = some off) :
    handRead s h a n = (List.range n).map (fun k => tabGet 0 (bayGet s h.pb).store (off + k)) := by
  simp [handRead, hoff, Bay.storeRead, rangeFrom]

theorem handWrite_own {s : State} {h : Hand} {a off : Nat} (contest : Bool) {l : List Byte}
    (hoff : ownOff (ownNum s h.pb) a l.length = some off) : handWrite h contest a l s = storeWrite s h.pb off l := by
  simp [handWrite, hoff]

/-- The sign extension of a little-endian number. -/
theorem sext64_leVal (l : List Byte) (hl : l ≠ []) :
    sext64 (8 * l.length) (leVal l) =
      BitVec.ofInt 64 (if 2 ^ (8 * l.length - 1) ≤ leVal l then (leVal l : Int) - 2 ^ (8 * l.length) else leVal l) := by
  have hlen : 8 * l.length ≠ 0 := by have := List.length_pos_iff.mpr hl; omega
  simp [sext64, sintOf, Nat.mod_eq_of_lt (leVal_lt l), hlen]

/-- A load from the own store changes the register files alone, by the bytes it reads (R191, R236). -/
theorem load_own {s : State} {h : Hand} {o : Op} {w : Word64} {ownOnly : Bool} {n al off : Nat} (hc : CanIssue s h o w)
    (hacc : ownAccess s h (memAddr s h w) n al false off) (f : HandRegs → List Byte → HandRegs) :
    issue o h w s (fun s => handMem h .read ownOnly (memAddr s h w) n al
        (fun _ t => regStep h (fun r => f r (handRead t h (memAddr s h w) n)) t) s) =
      .next (afterRegs s h (f (handGet s h).regs ((List.range n).map (fun k => tabGet 0 (bayGet s h.pb).store (off + k))))) := by
  rw [issue_eq hc, handMem_own _ _ hacc rfl, handRead_own hacc.1, regStep_eq]

theorem ld_eq {s : State} {h : Hand} {w : Word64} {off : Nat} (hc : CanIssue s h .ld w)
    (hacc : ownAccess s h (memAddr s h w) (2 ^ MEM.sz w) (2 ^ MEM.sz w) false off) :
    exec (.ld h w) s = .next (afterRegs s h ((handGet s h).regs.setS (MEM.rd w) (BitVec.ofNat 64 (leVal ((List.range (2 ^ MEM.sz w)).map (fun k => tabGet 0 (bayGet s h.pb).store (off + k))))))) := by
  show execLd h w s = _
  rw [execLd]
  exact load_own hc hacc (fun r l => r.setS (MEM.rd w) (BitVec.ofNat 64 (leVal l)))

theorem lds_eq {s : State} {h : Hand} {w : Word64} {off : Nat} (hc : CanIssue s h .lds w)
    (hacc : ownAccess s h (memAddr s h w) (2 ^ MEM.sz w) (2 ^ MEM.sz w) false off) :
    exec (.lds h w) s = .next (afterRegs s h ((handGet s h).regs.setS (MEM.rd w) (sext64 (8 * 2 ^ MEM.sz w) (leVal ((List.range (2 ^ MEM.sz w)).map (fun k => tabGet 0 (bayGet s h.pb).store (off + k))))))) := by
  show execLds h w s = _
  rw [execLds]
  exact load_own hc hacc (fun r l => r.setS (MEM.rd w) (sext64 (8 * 2 ^ MEM.sz w) (leVal l)))

theorem vld_eq {s : State} {h : Hand} {w : Word64} {off : Nat} (hc : CanIssue s h .vld w)
    (hacc : ownAccess s h (memAddr s h w) (2 ^ MEM.sz w) (2 ^ MEM.sz w) false off) :
    exec (.vld h w) s = .next (afterRegs s h ((handGet s h).regs.setV (MEM.rd w) (ofLanes 8 ((List.range 64).map (fun i =>
      if byteActive w (handGet s h).regs i then nfld (leVal ((List.range (2 ^ MEM.sz w)).map (fun k => tabGet 0 (bayGet s h.pb).store (off + k)))) (8 * i) 8 else lane ((handGet s h).regs.getV (MEM.rd w)) 8 i))))) := by
  show execVld h w s = _
  rw [execVld]
  exact load_own hc hacc (fun r l => r.setV (MEM.rd w) (ofLanes 8 ((List.range 64).map (fun i =>
      if byteActive w r i then nfld (leVal l) (8 * i) 8 else lane (r.getV (MEM.rd w)) 8 i))))

theorem dld_eq {s : State} {h : Hand} {w : Word64} {off : Nat} (hc : CanIssue s h .dld w)
    (hacc : ownAccess s h (memAddr s h w) 24 8 false off) :
    exec (.dld h w) s = .next (afterRegs s h ((handGet s h).regs.setD (MEM.rd w) (BitVec.ofNat 192 (leVal ((List.range 24).map (fun k => tabGet 0 (bayGet s h.pb).store (off + k))))))) := by
  show execDld h w s = _
  rw [execDld]
  exact load_own hc hacc (fun r l => r.setD (MEM.rd w) (BitVec.ofNat 192 (leVal l)))

end Sys2Proof.Machine

namespace Sys2Proof.Proofs
open Sys2Proof.Machine

/-- Settles O28, an instruction at a time. -/
theorem loadResult : Obligations.LoadResult := by
  unfold Obligations.LoadResult
  intro s h w off a n at_
  have ha : a = memAddr s h w := by rw [memAddr, MEM.off_eq]
  have hn : n ≠ 0 := by simp [n]
  rw [ha]
  refine ⟨fun x hx hc hacc => ?_, fun hc hacc => ?_, fun hc hacc => ?_, fun x hx hc hoff hmis => ?_⟩
  · simp only [List.mem_cons, List.not_mem_nil, or_false] at hx
    obtain rfl | rfl := hx
    · exact ⟨_, ld_eq hc hacc, wroteS_setS _ _ _⟩
    · refine ⟨_, lds_eq hc hacc, ?_⟩
      have hext := sext64_leVal ((List.range n).map at_) (by simpa using hn)
      simp only [List.length_map, List.length_range] at hext
      simp only [← hext]
      exact wroteS_setS _ _ _
  · refine ⟨_, vld_eq hc hacc, ?_⟩
    have hlanes : (fun i => if byteActive w (handGet s h).regs i then nfld (leVal ((List.range n).map at_)) (8 * i) 8
          else lane ((handGet s h).regs.getV (MEM.rd w)) 8 i) =
        fun k => if byteActive w (handGet s h).regs k then (if k < n then (at_ k).toNat else 0)
          else lane ((handGet s h).regs.getV (MEM.rd w)) 8 k := by
      funext k
      rw [nfld_leVal]
      by_cases hk : k < n
      · simp [List.getD_eq_getElem?_getD, hk]
      · simp [List.getD_eq_getElem?_getD, hk]
    rw [← hlanes]
    refine wroteV_setV (handGet s h).regs (MEM.rd w) .int8 _ (fun k => ?_)
    split
    · exact nfld_lt _ _ _
    · exact lane_lt _ _ _
  · exact ⟨_, dld_eq hc hacc, wroteD_setD _ _ _⟩
  · simp only [List.mem_cons, List.not_mem_nil, or_false] at hx
    obtain rfl | rfl | rfl | rfl | rfl := hx
    · show execLd h w s = _
      exact issue_next hc (handMem_misaligned _ _ _ hoff hmis)
    · show execLds h w s = _
      exact issue_next hc (handMem_misaligned _ _ _ hoff hmis)
    · show execSt h w s = _
      exact issue_next hc (handMem_misaligned _ _ _ hoff hmis)
    · show execVld h w s = _
      exact issue_next hc (handMem_misaligned _ _ _ hoff hmis)
    · show execVst h w s = _
      exact issue_next hc (handMem_misaligned _ _ _ hoff hmis)

/-- Settles O29: each store writes its bytes to the own store and moves on. -/
theorem storeResult : Obligations.StoreResult := by
  unfold Obligations.StoreResult
  intro s h w off r a x hx hc hacc
  have ha : a = memAddr s h w := by rw [memAddr, MEM.off_eq]
  rw [ha] at hacc
  have hadvanced : ∀ (len : Nat) (take : Nat → Bool) (byte : Nat → Nat) (u : State), OwnStored s u h.pb off len take byte →
      (∀ k, tabGet 0 (bayGet (advance h u) h.pb).store k =
          if off ≤ k ∧ k < off + len ∧ take (k - off) = true then BitVec.ofNat 8 (byte (k - off))
          else tabGet 0 (bayGet s h.pb).store k) ∧
        (∀ q, q ≠ h.pb → bayGet (advance h u) q = bayGet s q) ∧ (advance h u).mem = s.mem ∧ (advance h u).pegs = s.pegs ∧
        (handGet (advance h u) h).regs = r ∧ (handGet (advance h u) h).pc = nextPc (handGet s h).pc := by
    intro len take byte u hu
    have hstore : (bayGet (advance h u) h.pb).store = (bayGet u h.pb).store := by
      simp only [advance, handMod, bayGet_bayMod, if_true, Bay.setHand]
      split <;> rfl
    refine ⟨fun k => by rw [hstore]; exact hu.store k, fun q hq => ?_, hu.mem, hu.pegs, ?_, ?_⟩
    · simp only [advance, handMod, bayGet_bayMod, if_neg hq]
      exact hu.bays q hq
    · simp only [advance, handGet_handMod, if_true, hu.hands]
      rfl
    · simp only [advance, handGet_handMod, if_true, hu.hands]
  simp only [List.mem_cons, List.not_mem_nil, or_false] at hx
  obtain rfl | rfl | rfl := hx
  · refine ⟨_, ?_, hadvanced _ _ _ _ (OwnStored.storeWrite s h.pb off (2 ^ MEM.sz w) (r.getS (MEM.rd w)).toNat)⟩
    show execSt h w s = _
    refine issue_next hc ?_
    rw [handMem_own _ _ hacc rfl, handWrite_own _ (by rw [length_leBytes]; exact hacc.1)]
  · by_cases hmask : MEM.ke w = true
    · refine ⟨_, ?_, hadvanced _ _ _ _ (OwnStored.foldl (byteActive w r) (fun k => (r.getV (MEM.rd w)).toNat / 256 ^ k)
        (fun t i => if byteActive w r i then handWrite h false (memAddr s h w + i) [BitVec.ofNat 8 (lane (r.getV (MEM.rd w)) 8 i)] t else t)
        (fun t i hi hown => ?_))⟩
      · show execVst h w s = _
        refine issue_next hc ?_
        exact (handMem_own _ _ hacc rfl).trans (congrArg (advance h) (if_pos hmask))
      · rw [handWrite_own _ (by rw [hown]; exact ownOff_add hacc.1 hi), ofNat_lane_eight]
    · have hall : byteActive w r = fun _ => true := by funext i; simp [byteActive, hmask]
      refine ⟨_, ?_, hadvanced _ _ _ _ (hall ▸ OwnStored.storeWrite s h.pb off (2 ^ MEM.sz w) (r.getV (MEM.rd w)).toNat)⟩
      show execVst h w s = _
      refine issue_next hc ?_
      refine (handMem_own _ _ hacc rfl).trans (congrArg (advance h) ((if_neg hmask).trans ?_))
      rw [handWrite_own _ (by rw [length_leBytes]; exact hacc.1)]
  · refine ⟨_, ?_, hadvanced _ _ _ _ (OwnStored.storeWrite s h.pb off 24 (r.getD (MEM.rd w)).toNat)⟩
    show execDst h w s = _
    refine issue_next hc ?_
    rw [handMem_own _ _ hacc rfl, handWrite_own _ (by rw [length_leBytes]; exact hacc.1)]

end Sys2Proof.Proofs
end

section
/-!
SUPPORT. Laws of the queues of a bay (R184, R185, R218): what starting the entries keeps, what an issued instruction leaves; with the
settlement of the statement on them.
-/

namespace Sys2Proof.Machine

/-- Starting the entries of a queue keeps what they are. -/
theorem map_startList {α : Type} (f : QEntry → α) (hf : ∀ e stale, f { e with started := true, stale := stale } = f e)
    (n : Nat) (k : QKind) (b : Bay) (all before l : List QEntry) :
    (startList n k b all before l).map f = before.map f ++ l.map f := by
  induction l generalizing before with
  | nil => simp [startList]
  | cons e l ih =>
    rw [startList, ih]
    simp only [List.map_append, List.map_cons, List.map_nil, List.append_assoc, List.singleton_append]
    congr 2
    split
    · rfl
    · split
      · exact hf _ _
      · rfl

theorem map_queue_startBay {α : Type} (f : QEntry → α) (hf : ∀ e stale, f { e with started := true, stale := stale } = f e)
    (s : State) (pb : Nat) (k : QKind) : ((bayGet (startBay s pb) pb).queue k).map f = ((bayGet s pb).queue k).map f := by
  simp only [startBay, bayGet_bayMod, if_true]
  cases k <;> exact map_startList f hf _ _ _ _ [] _

theorem handGet_startBay (s : State) (pb : Nat) (h : Hand) : handGet (startBay s pb) h = handGet s h := by
  simp only [handGet, startBay, bayGet_bayMod]
  split
  · rename_i hpb; rw [hpb]; rfl
  · rfl

theorem nextSeq_startBay (s : State) (pb : Nat) : (bayGet (startBay s pb) pb).nextSeq = (bayGet s pb).nextSeq := by
  simp only [startBay, bayGet_bayMod, if_true]

/-- The fold by which the issue finds the lowest code gives the one that is lowest (R185). -/
theorem foldl_min_eq {c d : Nat} {t : List Nat} (hmem : c ∈ d :: t) (hmin : ∀ c' ∈ d :: t, c ≤ c') : t.foldl min d = c := by
  have hle : ∀ (t : List Nat) (d : Nat), (∀ c' ∈ d :: t, c ≤ c') → c ∈ d :: t → t.foldl min d = c := by
    intro t
    induction t with
    | nil => intro d _ hmem; simpa [eq_comm] using hmem
    | cons e t ih =>
      intro d hmin hmem
      have hd := hmin d (by simp)
      have he := hmin e (by simp)
      refine ih (min d e) (fun c' hc' => ?_) ?_
      · obtain rfl | hc' := List.mem_cons.mp hc'
        · omega
        · exact hmin c' (by simp [hc'])
      · simp only [List.mem_cons] at hmem ⊢
        obtain rfl | rfl | hmem := hmem
        · left; omega
        · left; omega
        · right; exact hmem
  exact hle t d hmin hmem

theorem queue_setQueue_nextSeq (b : Bay) (k : QKind) (q : List QEntry) (n : Nat) :
    Bay.queue { b.setQueue k q with nextSeq := n } k = q := by cases k <;> rfl

theorem handOf_setQueue (b : Bay) (k : QKind) (q : List QEntry) (filler : Bool) : handOf (b.setQueue k q) filler = handOf b filler := by
  cases k <;> cases filler <;> rfl

theorem queue_setHand (b : Bay) (k : QKind) (filler : Bool) (c : HandCtx) : (b.setHand filler c).queue k = b.queue k := by
  cases k <;> cases filler <;> rfl

/-- An instruction that has passed its checks enters its queue last, with copies of its descriptor registers, and its context moves
on (R218). -/
theorem enqueue_leaves (k : QKind) (h : Hand) (w ra rb : Word64) (s : State) :
    let t := enqueue k h w ra rb s
    ((bayGet t h.pb).queue k).map (fun e => (e.seq, e.word, e.filler, e.descs)) =
        ((bayGet s h.pb).queue k).map (fun e => (e.seq, e.word, e.filler, e.descs)) ++
          [((bayGet s h.pb).nextSeq, w, h.filler, (handGet s h).regs.d)] ∧
      (bayGet t h.pb).nextSeq = (bayGet s h.pb).nextSeq + 1 ∧
      (handGet t h).regs = (handGet s h).regs ∧ (handGet t h).pc = nextPc (handGet s h).pc := by
  intro t
  obtain ⟨s1, hs1⟩ : ∃ s1, s1 = bayMod s h.pb (fun b =>
      { b.setQueue k (b.queue k ++ [{
          seq := b.nextSeq, filler := h.filler, word := w, pc := (handOf b h.filler).pc, descs := (handOf b h.filler).regs.d
          ra := ra, rb := rb, part := (handOf b h.filler).part }]) with nextSeq := b.nextSeq + 1 }) := ⟨_, rfl⟩
  have ht : t = startBay (advance h s1) h.pb := by rw [hs1]; rfl
  have hhand : handGet s1 h = handGet s h := by
    rw [hs1]
    simp only [handGet, bayGet_bayMod, if_true]
    exact handOf_setQueue _ _ _ _
  have hadv : bayGet (advance h s1) h.pb = (bayGet s1 h.pb).setHand h.filler { handGet s1 h with pc := nextPc (handGet s1 h).pc } := by
    simp only [advance, handMod, bayGet_bayMod, if_true]
    rfl
  rw [ht, map_queue_startBay _ (fun _ _ => rfl), nextSeq_startBay, handGet_startBay, hadv, queue_setHand]
  refine ⟨?_, ?_, ?_, ?_⟩
  · rw [hs1, bayGet_bayMod, if_pos rfl]
    rw [queue_setQueue_nextSeq, List.map_append]
    rfl
  · rw [hs1, bayGet_bayMod, if_pos rfl]
    simp only [Bay.setHand]
    split <;> rfl
  · simp only [advance, handGet_handMod, if_true, hhand]
  · simp only [advance, handGet_handMod, if_true, hhand]

/-- What the issue of a queued instruction leaves, by the answer of its checks (R184, R185). -/
theorem issueQueued_result {s : State} {h : Hand} {o : Op} {w ra rb : Word64} {k : QKind} {check : State → List Nat × State}
    (hc : CanIssue s h o w) :
    let r := (handGet s h).regs
    let i := issueQueued k o h w ra rb check s
    (k.depth ≤ ((bayGet s h.pb).queue k).length → i = .next s) ∧
      (((bayGet s h.pb).queue k).length < k.depth →
        (∀ c ∈ (check s).1, (∀ c' ∈ (check s).1, c ≤ c') → i = .next (preciseFault h c (check s).2)) ∧
        ((check s).1 = [] → bayGet (check s).2 h.pb = bayGet s h.pb →
          ∃ t, i = .next t ∧
            ((bayGet t h.pb).queue k).map (fun e => (e.seq, e.word, e.filler, e.descs)) =
              ((bayGet s h.pb).queue k).map (fun e => (e.seq, e.word, e.filler, e.descs)) ++
                [((bayGet s h.pb).nextSeq, w, h.filler, r.d)] ∧
            (bayGet t h.pb).nextSeq = (bayGet s h.pb).nextSeq + 1 ∧
            (handGet t h).regs = r ∧ (handGet t h).pc = nextPc (handGet s h).pc)) := by
  intro r i
  have hi : i = .next (if k.depth ≤ ((bayGet s h.pb).queue k).length then s
      else match (check s).1 with
        | [] => enqueue k h w ra rb (check s).2
        | c :: t => preciseFault h (t.foldl min c) (check s).2) := issue_eq hc _
  refine ⟨fun hfull => by rw [hi, if_pos hfull], fun hroom => ?_⟩
  rw [if_neg (Nat.not_le.mpr hroom)] at hi
  refine ⟨fun c hmem hmin => ?_, fun hnone hbay => ?_⟩
  · rw [hi]
    cases hcodes : (check s).1 with
    | nil => rw [hcodes] at hmem; cases hmem
    | cons d t =>
      rw [hcodes] at hmem hmin
      simp only [foldl_min_eq hmem hmin]
  · rw [hnone] at hi
    obtain ⟨hqueue, hseq, hregs, hpc⟩ := enqueue_leaves k h w ra rb (check s).2
    rw [hbay] at hqueue hseq
    have hhand : handGet (check s).2 h = handGet s h := by simp only [handGet, hbay]
    rw [hhand] at hqueue hregs hpc
    exact ⟨_, hi, hqueue, hseq, hregs, hpc⟩

/-- The same of a jointer instruction. -/
theorem issueJointer_result {s : State} {h : Hand} {o : Op} {w : Word64}
    (hc : CanIssue s h o w) :
    let r := (handGet s h).regs
    let answer := jointerCodes o h w (r.getS (Q.rb w)).toNat s
    let i := issueJointer o h w s
    (QKind.jointer.depth ≤ ((bayGet s h.pb).queue .jointer).length → i = .next s) ∧
      (((bayGet s h.pb).queue .jointer).length < QKind.jointer.depth →
        (∀ c ∈ answer.1, (∀ c' ∈ answer.1, c ≤ c') → i = .next (preciseFault h c answer.2)) ∧
        (answer.1 = [] → bayGet answer.2 h.pb = bayGet s h.pb →
          ∃ t, i = .next t ∧
            ((bayGet t h.pb).queue .jointer).map (fun e => (e.seq, e.word, e.filler, e.descs)) =
              ((bayGet s h.pb).queue .jointer).map (fun e => (e.seq, e.word, e.filler, e.descs)) ++
                [((bayGet s h.pb).nextSeq, w, h.filler, r.d)] ∧
            (bayGet t h.pb).nextSeq = (bayGet s h.pb).nextSeq + 1 ∧
            (handGet t h).regs = r ∧ (handGet t h).pc = nextPc (handGet s h).pc)) := by
  unfold issueJointer
  exact issueQueued_result hc

end Sys2Proof.Machine

namespace Sys2Proof.Proofs
open Sys2Proof.Machine

/-- Settles O23: each of these instructions is issued by `issueQueued` with its own checks. -/
theorem queuedInstructionIssue : Obligations.QueuedInstructionIssue := by
  unfold Obligations.QueuedInstructionIssue
  intro s h w r rs ra rb x hx hc
  simp only [List.mem_cons, List.not_mem_nil, or_false] at hx
  obtain rfl | rfl | rfl | rfl | rfl | rfl | rfl | rfl | rfl | rfl | rfl | rfl | rfl | rfl | rfl | rfl | rfl | rfl | rfl | rfl := hx
  · unfold exec; exact issueQueued_result hc
  · unfold exec execMstream; exact issueQueued_result hc
  · unfold exec execMdrain; exact issueQueued_result hc
  iterate 4 · unfold exec; exact issueQueued_result hc
  · unfold exec execCopy; exact issueQueued_result hc
  iterate 2 · unfold exec; exact issueQueued_result hc
  iterate 10 · unfold exec; exact issueJointer_result hc

end Sys2Proof.Proofs
end

section
/-!
SUPPORT. Laws of the chunk adder (R124, R125, R132): the chunks of a row are its products, and a column without a failed promotion
holds the exact sum; with the settlement of the statement on them.
-/

namespace Sys2Proof.Machine

/-- A sill with the sum of some products added, in whatever range (R128). -/
def Sill.plus (s : Sill) (c : ChunkSum) : Sill :=
  { val := s.val + c.amt, pinf := s.pinf || c.pinf, ninf := s.ninf || c.ninf, nan := s.nan || c.nan }

theorem Sill.promote_eq (s : Sill) (c : ChunkSum) : s.promote c = if sillInRange (s.val + c.amt) then some (s.plus c) else none := rfl

theorem Sill.plus_exactChunk_nil (s : Sill) : s.plus (exactChunk []) = s := by simp [Sill.plus, exactChunk]

/-- Exact sums add up. -/
theorem Sill.plus_exactChunk_append (s : Sill) (ps qs : List Prod) :
    (s.plus (exactChunk ps)).plus (exactChunk qs) = s.plus (exactChunk (ps ++ qs)) := by
  simp [Sill.plus, exactChunk, List.sum_append, Int.add_assoc, Bool.or_assoc]

/-- The order of the products does not matter. -/
theorem exactChunk_perm {ps qs : List Prod} (h : ps.Perm qs) : exactChunk ps = exactChunk qs := by
  simp only [exactChunk, ((h.map _).sum_eq), h.any_eq]

/-- The chunks of a row hold its products in order (R125). -/
theorem flatten_chunksOf (f : Fmt) : ∀ (n : Nat) (ps : List Prod), ps.length ≤ n → (chunksOf f n ps).flatten = ps := by
  intro n
  induction n with
  | zero => intro ps h; simp [List.length_eq_zero_iff.mp (Nat.le_zero.mp h), chunksOf]
  | succ n ih =>
    intro ps h
    cases ps with
    | nil => simp [chunksOf]
    | cons p ps =>
      simp only [chunksOf, List.flatten_cons]
      rw [ih _ (by simp only [List.length_drop, List.length_cons] at h ⊢; split <;> omega), List.take_append_drop]

/-- A column in which no promotion has failed holds the exact sum of the chunks (R124, R128). -/
theorem promoteRow_exact {fits : Int → Bool} {f : Fmt} (hf : f ≠ .bf16) (chunks : List (List Prod)) (c : ColState)
    (hok : (promoteRow fits f chunks c).failed = false) :
    c.failed = false ∧ (promoteRow fits f chunks c).sill = c.sill.plus (exactChunk chunks.flatten) := by
  induction chunks generalizing c with
  | nil => exact ⟨hok, (Sill.plus_exactChunk_nil _).symm⟩
  | cons ps t ih =>
    simp only [promoteRow, chunkOf, if_neg hf] at hok ⊢
    split at hok
    · rename_i hfailed
      obtain ⟨hc, -⟩ := ih _ hok
      simp [hfailed] at hc
    · rename_i hgood
      rw [if_neg hgood]
      split at hok
      · rename_i hfits
        obtain ⟨hc, hsill⟩ := ih _ hok
        rw [if_pos hfits, hsill, List.flatten_cons, ← Sill.plus_exactChunk_append]
        exact ⟨by simpa using hgood, rfl⟩
      · obtain ⟨hc, -⟩ := ih _ hok
        cases hc

theorem addRow_exact {f : Fmt} {row : List Byte} {tiles : List (List Byte)} {n : Nat} (hf : f ≠ .bf16) (c : ColState)
    (hok : (addRow sillInRange f row tiles n c).failed = false) :
    c.failed = false ∧ (addRow sillInRange f row tiles n c).sill = c.sill.plus (exactChunk (rowProds f row tiles n)) := by
  have h := promoteRow_exact hf _ c hok
  rwa [flatten_chunksOf f _ _ (Nat.le_refl _)] at h

/-- A column after a stream whose promotions all stay in the range (R232). -/
theorem foldl_addRow_exact {f : Fmt} {tiles : List (List Byte)} {n : Nat} (hf : f ≠ .bf16) (rows : List (List Byte)) (c : ColState) :
    let z := rows.foldl (fun c row => addRow sillInRange f row tiles n c) c
    z.failed = false → c.failed = false ∧ z.sill = c.sill.plus (exactChunk (rows.flatMap (fun row => rowProds f row tiles n))) := by
  induction rows generalizing c with
  | nil => exact fun hok => ⟨hok, (Sill.plus_exactChunk_nil _).symm⟩
  | cons row rows ih =>
    intro z hok
    obtain ⟨hrow, hsill⟩ := ih _ hok
    obtain ⟨hc, hfirst⟩ := addRow_exact hf c hrow
    refine ⟨hc, hsill.trans ?_⟩
    rw [List.flatMap_cons, ← Sill.plus_exactChunk_append, ← hfirst]

end Sys2Proof.Machine

namespace Sys2Proof.Proofs
open Sys2Proof.Machine

/-- Settles O25: the sum of the products of all rows is what the column holds, in any order of the rows. -/
theorem exactStreamSum : Obligations.ExactStreamSum := by
  unfold Obligations.ExactStreamSum
  intro f n tiles rows c hf hc amount z
  have hsum : z.failed = false → z.sill = c.sill.plus (exactChunk (rows.flatMap (fun row => rowProds f row tiles n))) :=
    fun hok => (foldl_addRow_exact hf rows c hok).2
  refine ⟨fun hok => ?_, fun rows' hperm hok hok' => ?_⟩
  · rw [hsum hok]
    simp only [Sill.plus, exactChunk, List.map_flatMap, amount]
    rw [List.flatMap, List.sum_flatten, List.map_map]
    rfl
  · rw [(foldl_addRow_exact hf rows' c hok').2, hsum hok, exactChunk_perm (hperm.flatMap_right _)]

end Sys2Proof.Proofs
end

section
/-!
SUPPORT. Laws of submission (R296–R304, R310, R360, R596): what a commit answers and what an accepted descriptor leaves; with the
settlement of the statements on them.
-/

namespace Sys2Proof.Machine

/-! ## Deciding a submission -/

/-- The state in which a committed descriptor is read: a ticket that was not read has been counted (R298). -/
def submitState (s : State) (w a : Nat) : State :=
  let s0 := commitPair s (Reg.CMDPROC_SUBMIT w) a
  if (tabGet {} s.cmd.tickets w).seen then s0 else cntInc s0 (Reg.CMDPROC_WIN_LOST w)

/-- A commit by an initiator that reaches the window leaves the decided ticket (R297, R299). -/
theorem submitCmd_eq {s : State} {init w addr p : Nat} {isKind : Nat → Bool} (hw : w < 64)
    (hreach : reaches s init (Reg.CMDPROC_SUBMIT w) true = true) (howner : windowOwner s w = some p) (hkind : isKind (kindAt s addr) = true) :
    submitCmd isKind init w addr s =
      .next (let r := decideSubmit (submitState s w (addr % 2 ^ 48)) w p (addr % 2 ^ 48); ticketed w r.1 r.2.1 r.2.2) := by
  have howner' : windowOwner (commitPair s (Reg.CMDPROC_SUBMIT w) (addr % 2 ^ 48)) w = some p := howner
  rw [submitCmd, if_pos hw, if_pos hkind, asInit, if_pos hreach, submitAt, howner']
  rfl

/-- A submission that is rejected with code `c` (R299, R300). -/
def rejected (s : State) (p c : Nat) : Nat × Nat × State := (0x80000000 + c, 0, cntInc s (Reg.CMDPROC_REJECT_CNT p))

theorem decideSubmit_unreadable {s s1 : State} {w p a : Nat} (hread : readDesc s p a = (none, s1)) :
    decideSubmit s w p a = rejected s1 p (if a % 128 = 0 then 3 else 6) := by
  unfold decideSubmit rejected
  rw [hread]
  simp only []
  split <;> rfl

theorem decideSubmit_fails {s s1 : State} {w p a c : Nat} {d : List Byte} (hread : readDesc s p a = (some d, s1))
    (htest : dsTest s1 p a d = some c) :
    decideSubmit s w p a = rejected (if c = 1 then raise 0x057 (some p) 0 s1 else s1) p c := by
  unfold decideSubmit rejected
  rw [hread]
  simp only [htest]
  rfl

/-- The number of slots that a descriptor asks for (R303, R310). -/
def slotsAsked (d : List Byte) : Nat := if dsKind d = 2 then dsChildCount d else 1

theorem allocate_quota {s : State} (w : Nat) {p : Nat} {d : List Byte} (h : dowelQuota s p < dowelsInUse s p + slotsAsked d) :
    allocate s w p d = (0x80000000 + 2, 0, s) := if_pos h

theorem allocate_full {s : State} (w : Nat) {p : Nat} {d : List Byte} (h : dowelsInUse s p + slotsAsked d ≤ dowelQuota s p)
    (hfull : freeRun s (slotsAsked d) = none) : allocate s w p d = (0x80000000 + 5, 0, s) := by
  refine (if_neg (Nat.not_lt.mpr h)).trans ?_
  simp only [slotsAsked] at hfull
  rw [hfull]

theorem decideSubmit_refused {s s1 : State} {w p a c : Nat} {d : List Byte} (hread : readDesc s p a = (some d, s1))
    (htest : dsTest s1 p a d = none) (halloc : allocate s1 w p d = (0x80000000 + c, 0, s1)) :
    decideSubmit s w p a = rejected s1 p c := by
  unfold decideSubmit rejected
  rw [hread]
  simp only [htest, halloc]

theorem decideSubmit_accepted {s s1 u : State} {w p a v n : Nat} {d : List Byte} (hread : readDesc s p a = (some d, s1))
    (htest : dsTest s1 p a d = none) (hn : n ≠ 0) (halloc : allocate s1 w p d = (v, n, u)) :
    decideSubmit s w p a = (v, n, u) := by
  unfold decideSubmit
  rw [hread]
  simp only [htest, halloc]
  cases n with
  | zero => exact absurd rfl hn
  | succ n => rfl

/-! ## The tests of R300 -/

theorem dsTest_check {s : State} {p a : Nat} {d : List Byte} (h : checkOk d = false) : dsTest s p a d = some 1 := by
  simp [dsTest, h]

/-- The FORMAT test with the class range of R371. -/
def formatPasses (s : State) (p a : Nat) (d : List Byte) : Prop := dsFormatOk a d = true ∧ (dsKind d = 1 → leAt d 3 1 < recKclasses s p)

theorem formatPasses_iff (s : State) (p a : Nat) (d : List Byte) :
    (!dsFormatOk a d || (decide (dsKind d = 1) && decide (recKclasses s p ≤ leAt d 3 1))) = false ↔ formatPasses s p a d := by
  simp [formatPasses]

theorem dsTest_format {s : State} {p a : Nat} {d : List Byte} (hcheck : checkOk d = true) (h : ¬formatPasses s p a d) :
    dsTest s p a d = some 6 := by
  rw [← formatPasses_iff, Bool.not_eq_false] at h
  simp only [dsTest, hcheck, h, Bool.not_true, Bool.false_eq_true, if_false, if_true]

/-- The tests after FORMAT. -/
theorem dsTest_formatPasses {s : State} {p a : Nat} {d : List Byte} (hcheck : checkOk d = true) (h : formatPasses s p a d) :
    dsTest s p a d = if !dsPartitionOk s p d then some 3 else if deadlinePast s d then some 4 else none := by
  rw [← formatPasses_iff] at h
  simp only [dsTest, hcheck, h, Bool.not_true, Bool.false_eq_true, if_false]

end Sys2Proof.Machine

namespace Sys2Proof.Proofs
open Sys2Proof.Machine

/-- Settles O38: the command decides its submission, and the descriptor fails the tests in their order. -/
theorem submissionRejected : Obligations.SubmissionRejected := by
  unfold Obligations.SubmissionRejected
  intro s init w addr p hw hreach howner x hx hkind a s0 q rejects
  have hexec : exec (x.1 init w addr) s = .next (let r := decideSubmit (submitState s w a) w p a; ticketed w r.1 r.2.1 r.2.2) := by
    rw [← submitCmd_eq hw hreach howner hkind]
    simp only [List.mem_cons, List.not_mem_nil, or_false] at hx
    obtain rfl | rfl | rfl | rfl := hx
    · rfl
    · rfl
    · rfl
    · rfl
  have hrejects : ∀ c u, decideSubmit (submitState s w a) w p a = rejected u p c → rejects c u := by
    intro c u hdecide
    simp only [hdecide] at hexec
    exact hexec
  refine ⟨fun hnone => hrejects _ _ (decideSubmit_unreadable (Prod.ext hnone rfl)), fun d hsome => ?_⟩
  have hread : readDesc (submitState s w a) p a = (some d, q.2) := Prod.ext hsome rfl
  intro formatOk n
  refine ⟨fun hcheck => ?_, fun hcheck hformat => ?_, fun hcheck hformat hpart => ?_, fun hcheck hformat hpart hpast => ?_,
    fun hcheck hformat hpart hpast => ?_⟩
  · exact hrejects _ _ (decideSubmit_fails hread (dsTest_check hcheck))
  · exact hrejects _ _ (decideSubmit_fails hread (dsTest_format hcheck hformat))
  · exact hrejects _ _ (decideSubmit_fails hread (by rw [dsTest_formatPasses hcheck hformat, hpart]; rfl))
  · exact hrejects _ _ (decideSubmit_fails hread (by rw [dsTest_formatPasses hcheck hformat, hpart, hpast]; rfl))
  · have hnone : dsTest q.2 p a d = none := by rw [dsTest_formatPasses hcheck hformat, hpart, hpast]; rfl
    exact ⟨fun hquota => hrejects _ _ (decideSubmit_refused hread hnone (allocate_quota w hquota)),
      fun hquota hfull => hrejects _ _ (decideSubmit_refused hread hnone (allocate_full w hquota hfull))⟩

end Sys2Proof.Proofs
end

section
/-!
SUPPORT. Laws of the slots that an accepted submission takes (R302, R303, R310) and of the region update rule (R54, R55); with the
settlement of the statement on them.
-/

namespace Sys2Proof.Machine

/-! ## Slots -/

theorem findRun_bound {s : State} {n b : Nat} : ∀ (k x : Nat), findRun s n k x = some b → b + n ≤ 65536 := by
  intro k
  induction k with
  | zero => intro x h; cases h
  | succ k ih =>
    intro x h
    rw [findRun] at h
    split at h
    · rename_i hfree
      obtain rfl := Option.some.inj h
      exact hfree.1
    · exact ih _ h

/-- The slots found do not run past 0xFFFF (R303). -/
theorem freeRun_bound {s : State} {n b : Nat} (h : freeRun s n = some b) : b + n ≤ 65536 := findRun_bound _ _ h

theorem handleOf_home (s : State) {k : Nat} (hk : k < 65536) : handleOf s k = (dowelGet s k).gen * 65536 + k := by
  simp [handleOf, hk, Nat.mod_eq_of_lt hk]

theorem slotOf_word (h : Word32) : slotOf h.toNat = h.toNat % 65536 := by
  simp [slotOf, h.isLt]

/-- Judging a dowel changes its waits alone (R331). -/
theorem judgeDowel_eq (s : State) (d : Dowel) :
    ∃ ok poison, judgeDowel s d = { d with waitOk := ok, waitPoison := poison } := by
  unfold judgeDowel
  split
  · exact ⟨_, _, rfl⟩
  · exact ⟨_, _, rfl⟩

/-- What the dowel of a new slot is: QUEUED, of the next generation, accepted now (R302). -/
theorem dowelGet_takeSlot (s : State) (k j : Nat) (d : Dowel) :
    ∃ ok poison, dowelGet (takeSlot s k d) j =
      if j = k then
        { d with gen := nextGen (dowelGet s k).gen, st := .queued, accepted := s.tb.elapsed, waitOk := ok, waitPoison := poison }
      else dowelGet s j := by
  obtain ⟨ok, poison, hjudge⟩ := judgeDowel_eq { s with cmd := { s.cmd with lastSlot := k } }
    { d with gen := nextGen (dowelGet s k).gen, st := .queued, accepted := s.tb.elapsed }
  refine ⟨ok, poison, ?_⟩
  rw [takeSlot]
  simp only [dowelGet_dowelPut]
  rw [hjudge]
  rfl

theorem takeSlot_other (s : State) {k j : Nat} (d : Dowel) (hj : j ≠ k) : dowelGet (takeSlot s k d) j = dowelGet s j := by
  obtain ⟨_, _, h⟩ := dowelGet_takeSlot s k j d
  rw [h, if_neg hj]

theorem takeSlot_batches (s : State) (k : Nat) (d : Dowel) : (takeSlot s k d).cmd.batches = s.cmd.batches := rfl

/-- The slots that the children of a batch take (R310). -/
theorem foldl_takeSlot (d : Dowel) (s : State) (b n : Nat) :
    let t := (rangeFrom b n).foldl (fun st k => takeSlot st k d) s
    t.cmd.batches = s.cmd.batches ∧ (∀ j, ¬(b ≤ j ∧ j < b + n) → dowelGet t j = dowelGet s j) ∧
      ∀ k, k < n → (dowelGet t (b + k)).st = .queued ∧ (dowelGet t (b + k)).kind = d.kind ∧ (dowelGet t (b + k)).part = d.part ∧
        (dowelGet t (b + k)).gen = nextGen (dowelGet s (b + k)).gen := by
  induction n with
  | zero => exact ⟨rfl, fun _ _ => rfl, fun k hk => absurd hk (Nat.not_lt_zero k)⟩
  | succ n ih =>
    intro t
    obtain ⟨hbatches, hothers, htaken⟩ := ih
    have ht : t = takeSlot ((rangeFrom b n).foldl (fun st k => takeSlot st k d) s) (b + n) d := by
      simp only [t, rangeFrom, List.range_succ, List.map_append, List.foldl_append, List.map_cons, List.map_nil, List.foldl_cons,
        List.foldl_nil]
    rw [ht]
    refine ⟨hbatches, fun j hj => ?_, fun k hk => ?_⟩
    · rw [takeSlot_other _ _ (by omega), hothers j (by omega)]
    · by_cases hlast : k = n
      · subst hlast
        obtain ⟨ok, poison, h⟩ := dowelGet_takeSlot ((rangeFrom b k).foldl (fun st k => takeSlot st k d) s) (b + k) (b + k) d
        rw [h, if_pos rfl, hothers (b + k) (by omega)]
        exact ⟨rfl, rfl, rfl, rfl⟩
      · rw [takeSlot_other _ _ (by omega)]
        exact htaken k (by omega)

/-! ## The region update rule -/

@[simp] theorem updGet_updPut (s : State) (r q : Nat) (u : Upd) : updGet (updPut s r u) q = if q = r then u else updGet s q := by
  simp [updGet, updPut]

@[simp] theorem updGet_dowelMod (s : State) (k : Nat) (f : Dowel → Dowel) (r : Nat) : updGet (dowelMod s k f) r = updGet s r := rfl

/-- A request for a free region runs at once (R54). -/
theorem updAccept_runs {s : State} {r : Nat} (slot : Nat) (h : (updGet s r).running = none) :
    updGet (updAccept r slot s) r = { running := some slot, queued := none } := by
  simp [updAccept, h]

/-- A request for a busy region queues, in place of a queued one (R55). -/
theorem updAccept_queues {s : State} {r y : Nat} (slot : Nat) (h : (updGet s r).running = some y) :
    updGet (updAccept r slot s) r = { running := some y, queued := some slot } := by
  simp [updAccept, h]

/-! ## Acceptance -/

theorem dsTest_none {s : State} {p a : Nat} {d : List Byte} (h : dsTest s p a d = none) : dsFormatOk a d = true := by
  unfold dsTest at h
  by_contra hbad
  simp only [Bool.not_eq_true] at hbad
  simp only [hbad, Bool.not_false, Bool.true_or, if_true] at h
  split at h <;> cases h

/-- A batch that passes the tests has children (R300). -/
theorem slotsAsked_pos {s : State} {p a : Nat} {d : List Byte} (h : dsTest s p a d = none) : 0 < slotsAsked d := by
  unfold slotsAsked
  split
  · rename_i hkind
    have hformat := dsTest_none h
    simp only [dsFormatOk, hkind, Bool.and_eq_true, decide_eq_true_eq] at hformat
    exact hformat.2.2.1
  · exact Nat.one_pos

theorem acceptKind_job {s : State} {k : Nat} (h : dsKind (dowelGet s k).desc ≠ 3 ∧ dsKind (dowelGet s k).desc ≠ 4) : acceptKind k s = s := by
  unfold acceptKind
  simp only []
  split
  · exact absurd ‹_› h.1
  · exact absurd ‹_› h.2
  · rfl

theorem acceptKind_swap {s s1 : State} {k g : Nat} (h : dsKind (dowelGet s k).desc = 3)
    (hname : swapGroupOf s (dowelGet s k).part (dsArgs (dowelGet s k).desc) = (some g, s1)) :
    acceptKind k s = updAccept (swapRegion (dowelGet s k).part g) k (dowelMod s1 k (fun d => { d with kind := .swap g })) := by
  unfold acceptKind
  simp only [h, hname]

theorem acceptKind_swap_refused {s s1 : State} {k : Nat} (h : dsKind (dowelGet s k).desc = 3)
    (hname : swapGroupOf s (dowelGet s k).part (dsArgs (dowelGet s k).desc) = (none, s1)) :
    acceptKind k s = completeDowel raise k .doneFault 0x2002 (dowelMod s1 k (fun d => { d with kind := .swap 0 })) := by
  unfold acceptKind
  simp only [h, hname]

theorem acceptKind_flip {s s1 : State} {k g : Nat} (h : dsKind (dowelGet s k).desc = 4)
    (hname : flipPlaneOf s (dowelGet s k).part (dsArgs (dowelGet s k).desc) = (some g, s1)) :
    acceptKind k s = updAccept (planeRegion g) k (dowelMod s1 k (fun d => { d with kind := .flip g })) := by
  unfold acceptKind
  simp only [h, hname]

theorem acceptKind_flip_refused {s s1 : State} {k : Nat} (h : dsKind (dowelGet s k).desc = 4)
    (hname : flipPlaneOf s (dowelGet s k).part (dsArgs (dowelGet s k).desc) = (none, s1)) :
    acceptKind k s = completeDowel raise k .doneFault 0x6001 (dowelMod s1 k (fun d => { d with kind := .flip 0 })) := by
  unfold acceptKind
  simp only [h, hname]

theorem allocate_batch {s : State} (w : Nat) {p b : Nat} {d : List Byte} (hkind : dsKind d = 2)
    (hquota : dowelsInUse s p + slotsAsked d ≤ dowelQuota s p) (hfree : freeRun s (slotsAsked d) = some b) :
    let u := (rangeFrom b (slotsAsked d)).foldl (fun st k => takeSlot st k (childDowel w p d)) s
    let t := { u with cmd := { u.cmd with
      batches := u.cmd.batches ++ [{ base := b, part := p, children := dsChildren d, count := slotsAsked d, next := 0 }] } }
    allocate s w p d = (handleOf t b, slotsAsked d, t) := by
  refine (if_neg (Nat.not_lt.mpr hquota)).trans ?_
  have hfree' : freeRun s (if dsKind d = 2 then dsChildCount d else 1) = some b := hfree
  rw [hfree']
  simp only [if_pos hkind, slotsAsked]

theorem allocate_single {s : State} (w : Nat) {p b : Nat} {d : List Byte} (hkind : dsKind d ≠ 2)
    (hquota : dowelsInUse s p + slotsAsked d ≤ dowelQuota s p) (hfree : freeRun s (slotsAsked d) = some b) :
    let t := takeSlot s b (dowelOf s .job w p d)
    allocate s w p d = (handleOf t b, 1, acceptKind b t) := by
  refine (if_neg (Nat.not_lt.mpr hquota)).trans ?_
  have hfree' : freeRun s (if dsKind d = 2 then dsChildCount d else 1) = some b := hfree
  rw [hfree']
  simp only [if_neg hkind]

end Sys2Proof.Machine

namespace Sys2Proof.Proofs
open Sys2Proof.Machine

/-- Settles O39, a kind of descriptor at a time. -/
theorem submissionAccepted : Obligations.SubmissionAccepted := by
  unfold Obligations.SubmissionAccepted
  intro s init w addr p b d s2 a s0 n h hw hreach howner hread htest hquota hfree hkind taken
  have hread' : readDesc (submitState s w a) p a = (some d, s2) := hread
  have hpos : 0 < n := slotsAsked_pos htest
  have hhome : b < 65536 := by have := freeRun_bound hfree; omega
  have haccept : ∀ (isKind : Nat → Bool) (m v : Nat) (t : State), isKind (dsKind d) = true → allocate s2 w p d = (v, m, t) → m ≠ 0 →
      v = h → submitCmd isKind init w addr s = .next (ticketed w h m t) := by
    rintro isKind m v t hk halloc hm rfl
    rw [submitCmd_eq hw hreach howner (by rw [hkind]; exact hk), decideSubmit_accepted hread' htest hm halloc]
  obtain ⟨ok, poison, htaken⟩ := dowelGet_takeSlot s2 b b (dowelOf s2 .job w p d)
  rw [if_pos rfl] at htaken
  have hhandle : handleOf taken b = h := by rw [handleOf_home _ hhome, htaken]
  have hpart : (dowelGet taken b).part = p := by rw [htaken]; rfl
  have hdesc : (dowelGet taken b).desc = d := by rw [htaken]; rfl
  refine ⟨fun hk => ?_, fun hk => ?_, fun hk => ?_, fun hk => ?_⟩
  · refine ⟨taken, ?_, ?_, fun k hne => takeSlot_other _ _ hne⟩
    · refine haccept (fun k => decide (k < 2 ∨ 4 < k)) _ _ _ (by rw [hk]; rfl) ?_ Nat.one_ne_zero hhandle
      rw [allocate_single w (by omega) hquota hfree, acceptKind_job (by rw [hdesc]; omega)]
    · rw [htaken]
      exact ⟨rfl, rfl, rfl, rfl, rfl, rfl, rfl⟩
  · obtain ⟨hbatches, -, hslots⟩ := foldl_takeSlot (childDowel w p d) s2 b (slotsAsked d)
    have halloc := allocate_batch w hk hquota hfree
    refine ⟨_, haccept (fun k => decide (k = 2)) _ _ _ (by rw [hk]; rfl) halloc (Nat.ne_of_gt hpos) ?_, hslots, ?_⟩
    · rw [handleOf_home _ hhome]
      have hfirst := (hslots 0 hpos).2.2.2
      rw [Nat.add_zero] at hfirst
      exact congrArg (fun g => g * 65536 + b) hfirst
    · exact congrArg (fun l => l ++ _) hbatches
  · have halloc := allocate_single w (by omega) hquota hfree
    refine ⟨acceptKind b taken, haccept (fun k => decide (k = 3)) _ _ _ (by rw [hk]; rfl) halloc Nat.one_ne_zero hhandle, fun s4 hs4 => ?_, fun g s4 hs4 => ?_⟩
    · exact acceptKind_swap_refused (by rw [hdesc]; exact hk) (by rw [hpart, hdesc]; exact hs4)
    · rw [acceptKind_swap (g := g) (s1 := s4) (by rw [hdesc]; exact hk) (by rw [hpart, hdesc]; exact hs4), hpart]
      exact ⟨fun hrun => updAccept_runs b hrun, fun y hrun => updAccept_queues b hrun⟩
  · have halloc := allocate_single w (by omega) hquota hfree
    refine ⟨acceptKind b taken, haccept (fun k => decide (k = 4)) _ _ _ (by rw [hk]; rfl) halloc Nat.one_ne_zero hhandle, fun s4 hs4 => ?_, fun g s4 hs4 => ?_⟩
    · exact acceptKind_flip_refused (by rw [hdesc]; exact hk) (by rw [hpart, hdesc]; exact hs4)
    · rw [acceptKind_flip (g := g) (s1 := s4) (by rw [hdesc]; exact hk) (by rw [hpart, hdesc]; exact hs4)]
      exact ⟨fun hrun => updAccept_runs b hrun, fun y hrun => updAccept_queues b hrun⟩

end Sys2Proof.Proofs
end

section
/-!
SUPPORT. Laws of tickets, handles and the peg registers (R298, R319–R322, R328, R330), and of the fetch of a batch child (R311);
with the settlement of the statements on them.
-/

namespace Sys2Proof.Machine

/-! ## Register commands -/

theorem asInit_reaches {s : State} {init : Nat} {a : Addr} {write : Bool} (eff : State → State) (h : reaches s init a write = true) :
    asInit init a write eff s = eff s := if_pos h

/-! ## Handles -/

/-- The slot of a handle is current for a partition (R319). -/
theorem handleCurrent_iff (s : State) (p : Nat) (h : Word32) :
    handleCurrent s p h = true ↔
      (dowelGet s (slotOf h.toNat)).gen = h.toNat / 65536 ∧ (dowelGet s (slotOf h.toNat)).part = p ∧
        0 < (dowelGet s (slotOf h.toNat)).gen := by
  simp [handleCurrent, and_assoc]

theorem cancelDowel_stale {s : State} {p : Nat} {h : Word32} (hstale : handleCurrent s p h = false) :
    cancelDowel p h s = ignored p s := by
  simp [cancelDowel, hstale]

/-- A terminal dowel is not cancelled (R320). -/
theorem cancelDowel_terminal {s : State} {p : Nat} {h : Word32} (hterm : (dowelGet s (slotOf h.toNat)).st.terminal = true) :
    cancelDowel p h s = ignored p s := by
  have hst : (dowelGet s (slotOf h.toNat)).st ≠ .queued ∧ (dowelGet s (slotOf h.toNat)).st ≠ .running :=
    ⟨fun hq => by simp [hq, DSt.terminal] at hterm, fun hr => by simp [hr, DSt.terminal] at hterm⟩
  unfold cancelDowel
  simp only [hst.1, hst.2, false_and, or_self, if_false]
  split
  · rfl
  · cases (dowelGet s (slotOf h.toNat)).kind <;> rfl

/-- A current job or child that is not terminal is ended (R320). -/
theorem cancelDowel_job {s : State} {p : Nat} {h : Word32} (hcur : handleCurrent s p h = true)
    (hkind : (dowelGet s (slotOf h.toNat)).kind = .job ∨ (dowelGet s (slotOf h.toNat)).kind = .child)
    (hst : (dowelGet s (slotOf h.toNat)).st = .queued ∨
      ((dowelGet s (slotOf h.toNat)).st = .running ∧ (dowelGet s (slotOf h.toNat)).ending ≠ some .cancelled)) :
    cancelDowel p h s = endDowel raise (slotOf h.toNat) .cancelled 0 s := by
  unfold cancelDowel
  obtain hkind | hkind := hkind
  · simp only [hcur, hkind, if_pos hst, Bool.not_true, Bool.false_eq_true, if_false]
  · simp only [hcur, hkind, if_pos hst, Bool.not_true, Bool.false_eq_true, if_false]

theorem endDowel_queued {s : State} {k : Nat} (st : DSt) (fault : Nat) (h : (dowelGet s k).st = .queued) :
    endDowel raise k st fault s = completeDowel raise k st fault s := by
  simp [endDowel, h]

theorem endDowel_running {s : State} {k : Nat} (st : DSt) (fault : Nat) (h : (dowelGet s k).st = .running)
    (hkind : (dowelGet s k).kind = .job ∨ (dowelGet s k).kind = .child) : endDowel raise k st fault s = stopJob raise k st fault s := by
  simp [endDowel, h, hkind]

/-- A current request of the region update rule that waits is cancelled; one that runs is not (R320). -/
theorem cancelDowel_update {s : State} {p g : Nat} {h : Word32} (hcur : handleCurrent s p h = true)
    (hkind : (dowelGet s (slotOf h.toNat)).kind = .swap g ∨ (dowelGet s (slotOf h.toNat)).kind = .flip g)
    (hst : (dowelGet s (slotOf h.toNat)).st = .queued) :
    cancelDowel p h s = if (dowelGet s (slotOf h.toNat)).updating then ignored p s
      else completeDowel raise (slotOf h.toNat) .cancelled 0 s := by
  unfold cancelDowel
  obtain hkind | hkind := hkind
  · simp only [hcur, hkind, hst, Bool.not_true, Bool.false_eq_true, if_false, true_and]
    cases (dowelGet s (slotOf h.toNat)).updating <;> rfl
  · simp only [hcur, hkind, hst, Bool.not_true, Bool.false_eq_true, if_false, true_and]
    cases (dowelGet s (slotOf h.toNat)).updating <;> rfl

/-- A freed slot keeps its generation (R322). -/
theorem dowelGet_freeSlot (s : State) (k j : Nat) :
    dowelGet (freeSlot s k) j = if j = k then { gen := (dowelGet s k).gen } else dowelGet s j :=
  dowelGet_dowelMod (sealKeep s k) k j _

/-! ## Pegs by register -/

theorem pegSignal_regs (s : State) (n : Nat) (op : PegOp) : (pegSignal s n op).regs = s.regs := by
  unfold pegSignal
  simp only []
  split
  · rfl
  · split <;> rfl

theorem pegSignal_mem (s : State) (n : Nat) (op : PegOp) : (pegSignal s n op).mem = s.mem := by
  unfold pegSignal
  simp only []
  split
  · rfl
  · split <;> rfl

end Sys2Proof.Machine

namespace Sys2Proof.Proofs
open Sys2Proof.Machine

/-- Settles O40, a register at a time. -/
theorem ticketsDowelsPegs : Obligations.TicketsDowelsPegs := by
  unfold Obligations.TicketsDowelsPegs
  refine ⟨fun s init w hw hreach => ?_, fun s init p h hp => ?_, fun s init n v hn => ?_⟩
  · refine ⟨_, (if_pos hw).trans (congrArg Host.Outcome.next (asInit_reaches _ hreach)), ?_, ?_, rfl, rfl⟩
    · simp only [ticketValue]
      cases windowOwner s w <;> simp
    · simp [ticketSeen, tabModify]
  · intro k d current ignored
    have hcur : handleCurrent s p h = true ↔ current := handleCurrent_iff s p h
    have hstale : ¬current → handleCurrent s p h = false := fun hn => Bool.eq_false_iff.mpr (mt hcur.mp hn)
    have hexec : ∀ {a : Addr} (eff : State → State), reaches s init a true = true →
        (if p < 8 then Host.Outcome.next (asInit init a true eff s) else .fault .absentUnit : Host.Outcome State Fault Refusal) =
          .next (eff s) := fun eff hreach => (if_pos hp).trans (congrArg Host.Outcome.next (asInit_reaches eff hreach))
    refine ⟨fun hreach => ?_, fun hreach => ⟨fun hno => ?_, fun hc hkind hst => ?_, fun hc hkind hst hending => ?_,
      fun g hc hkind hst => ?_⟩, fun hreach => ⟨fun hc hterm => ?_, fun hno => ?_⟩⟩
    · refine ⟨_, hexec _ hreach, rfl, fun hc => ?_, fun hn => ?_⟩
      · simp [queryLatch, hcur.mpr hc, d, k]
      · simp [queryLatch, hstale hn]
    · refine (hexec _ hreach).trans (congrArg Host.Outcome.next ?_)
      obtain hn | hterm := hno
      · exact cancelDowel_stale (hstale hn)
      · exact cancelDowel_terminal hterm
    · refine (hexec _ hreach).trans (congrArg Host.Outcome.next ?_)
      rw [cancelDowel_job (hcur.mpr hc) hkind (Or.inl hst), endDowel_queued _ _ hst]
    · refine (hexec _ hreach).trans (congrArg Host.Outcome.next ?_)
      rw [cancelDowel_job (hcur.mpr hc) hkind (Or.inr ⟨hst, by rw [show (dowelGet s (slotOf h.toNat)).ending = none from hending]; simp⟩),
        endDowel_running _ _ hst hkind]
    · exact (hexec _ hreach).trans (congrArg Host.Outcome.next (cancelDowel_update (hcur.mpr hc) hkind hst))
    · refine ⟨_, hexec _ hreach, ?_⟩
      have hfree : releaseDowel p h s = freeSlot s k := if_pos (by simp only [d, k] at hterm; simp [hcur.mpr hc, hterm])
      rw [hfree]
      exact ⟨(dowelGet_freeSlot s k k).trans (if_pos rfl), fun j hj => (dowelGet_freeSlot s k j).trans (if_neg hj)⟩
    · refine (hexec _ hreach).trans (congrArg Host.Outcome.next (if_neg ?_))
      simp only [Bool.and_eq_true, not_and, Bool.not_eq_true]
      intro hc
      obtain hn | hterm := hno
      · exact absurd (hcur.mp hc) hn
      · exact hterm
  · intro p stamp x hx hreach
    have hexec : ∀ {a : Addr} (eff : State → State), reaches s init a true = true →
        (if n < 2048 then Host.Outcome.next (asInit init a true eff s) else .fault .absentUnit : Host.Outcome State Fault Refusal) =
          .next (eff s) := fun eff hreach => (if_pos hn).trans (congrArg Host.Outcome.next (asInit_reaches eff hreach))
    have hsignal : ∀ (op : PegOp) (q : Peg), pegApply (workTime s) op p = q →
        pegGet (pegSignal s n op) n = q ∧ (∀ m, m ≠ n → pegGet (pegSignal s n op) m = pegGet s m) ∧
          (pegSignal s n op).regs = s.regs ∧ (pegSignal s n op).mem = s.mem := fun op q hq =>
      ⟨(pegGet_pegSignal s n op n).trans ((if_pos rfl).trans hq), fun m hm => (pegGet_pegSignal s n op m).trans (if_neg hm),
        pegSignal_regs s n op, pegSignal_mem s n op⟩
    simp only [List.mem_cons, List.not_mem_nil, or_false] at hx
    obtain rfl | rfl | rfl := hx
    · refine ⟨_, hexec _ hreach, hsignal _ _ ?_⟩
      cases hp : p.poison with
      | false => simp [pegApply_set _ _ hp, stamp, hp]
      | true => simp [pegApply_poisoned _ _ hp]
    · refine ⟨_, hexec _ hreach, hsignal _ _ ?_⟩
      cases hp : p.poison with
      | false => simp [pegApply_add _ _ hp, stamp, hp]
      | true => simp [pegApply_poisoned _ _ hp]
    · refine ⟨_, hexec _ hreach, ?_, fun m hm => ?_, rfl, rfl⟩
      · exact (pegGet_pegPut s n n _).trans (if_pos rfl)
      · exact (pegGet_pegPut s n m _).trans (if_neg hm)

/-- Settles O41: the fetch of a child by the state of its slot, what its descriptor's read answers and the first test that fails. -/
theorem batchChildFetched : Obligations.BatchChildFetched := by
  unfold Obligations.BatchChildFetched
  intro s k b hb s1 addr known
  have hexec : exec (.batchChildFetch k) s = .next (fetchChild b k s) := by
    show execBatchChildFetch k s = _
    rw [execBatchChildFetch, hb]
  refine ⟨fun hst => hexec.trans (congrArg Host.Outcome.next (if_pos hst)), fun hst => ?_⟩
  have hfetch : fetchChild b k s = match readDesc s1 b.part addr with
      | (none, s2) => completeDowel raise k .doneFault 0x1003 s2
      | (some d, s2) => match childTest s2 b.part addr d with
        | some 0x04 => completeDowel raise k .expired 0 (known s2 d)
        | some 0x01 => completeDowel raise k .doneFault 0x1001 (raise 0x057 (some b.part) 0 s2)
        | some c => completeDowel raise k .doneFault (0x1000 + c) s2
        | none => acceptKind k (dowelMod (known s2 d) k (judgeDowel (known s2 d))) := if_neg (not_not.mpr hst)
  rw [hfetch] at hexec
  refine ⟨fun s2 hread => by rw [hexec, hread], fun d s2 hread => ?_⟩
  rw [hread] at hexec
  simp only [childTest] at hexec
  refine ⟨fun htest => ?_, fun htest => ?_, fun c htest hc => ?_, fun htest hkind => ?_, fun htest hkind => ?_⟩
  · rw [hexec, htest]
    rfl
  · rw [hexec, htest]
    rfl
  · rw [hexec, htest]
    obtain rfl | rfl := hc
    · rfl
    · rfl
  · rw [hexec, htest, hkind]
    rfl
  · rw [htest, hkind] at hexec
    refine ⟨_, hexec, ?_⟩
    obtain ⟨ok, poison, hjudge⟩ := judgeDowel_eq (known s2 d) (dowelGet (known s2 d) k)
    have hknown : dowelGet (known s2 d) k = { dowelGet s2 k with
        kind := .job, desc := d, dist := deadlineDist s2 d, accepted := s2.tb.elapsed, waitOk := 0 } :=
      (dowelGet_dowelMod _ _ _ _).trans (if_pos rfl)
    have hget : dowelGet (dowelMod (known s2 d) k (judgeDowel (known s2 d))) k = { dowelGet s2 k with
        kind := .job, desc := d, dist := deadlineDist s2 d, accepted := s2.tb.elapsed, waitOk := ok, waitPoison := poison } := by
      rw [dowelGet_dowelMod, if_pos rfl, hjudge, hknown]
    have haccept := acceptKind_job (s := dowelMod (known s2 d) k (judgeDowel (known s2 d))) (k := k) (by rw [hget]; simp [hkind])
    simp only [Nat.reduceEqDiff, if_false]
    rw [haccept, hget]
    exact ⟨rfl, rfl, rfl, rfl, rfl⟩

end Sys2Proof.Proofs
end

section
/-!
SUPPORT. Laws of the start, the end and the replay of a job (R103, R308, R309, R373–R375, R431, R432, R590); with the settlement of the
statement on them.
-/

namespace Sys2Proof.Machine

/-! ## A change of several bays -/

/-- What every step of a fold keeps, the fold keeps. -/
theorem foldl_keeps {α β : Type} {g : β → α → β} {keep : β → Prop} (hstep : ∀ u a, keep u → keep (g u a)) (l : List α) {s : β}
    (hs : keep s) : keep (l.foldl g s) := by
  induction l generalizing s with
  | nil => exact hs
  | cons a l ih => exact ih (hstep s a hs)

/-- Steps `g r` that each change the bay of their place by `f r` and keep `keep`: a bay of one place alone is changed once. -/
theorem foldl_bays {g : Nat → State → State} {place : Nat → Option Nat} {f : Nat → Bay → Bay} {keep : State → Prop} {s : State}
    (hkeep : keep s)
    (hstep : ∀ r u, keep u → keep (g r u) ∧ ∀ q, bayGet (g r u) q = if place r = some q then f r (bayGet u q) else bayGet u q)
    (n : Nat) :
    let t := (List.range n).foldl (fun u r => g r u) s
    keep t ∧
      (∀ r pb, r < n → place r = some pb → (∀ q, q < n → q ≠ r → place q ≠ some pb) → bayGet t pb = f r (bayGet s pb)) ∧
      (∀ pb, (∀ q, q < n → place q ≠ some pb) → bayGet t pb = bayGet s pb) := by
  induction n with
  | zero => exact ⟨hkeep, fun r pb hr => absurd hr (Nat.not_lt_zero r), fun _ _ => rfl⟩
  | succ n ih =>
    intro t
    obtain ⟨hk, hone, hnone⟩ := ih
    have ht : t = g n ((List.range n).foldl (fun u r => g r u) s) := by
      simp only [t, List.range_succ, List.foldl_append, List.foldl_cons, List.foldl_nil]
    obtain ⟨hk', hbay⟩ := hstep n _ hk
    rw [ht]
    refine ⟨hk', fun r pb hr hplace halone => ?_, fun pb hout => ?_⟩
    · rw [hbay]
      by_cases hlast : r = n
      · subst hlast
        rw [if_pos hplace, hnone pb (fun q hq => halone q (by omega) (by omega))]
      · rw [if_neg (halone n (Nat.lt_succ_self n) (Ne.symm hlast))]
        exact hone r pb (by omega) hplace (fun q hq hne => halone q (by omega) hne)
    · rw [hbay, if_neg (hout n (Nat.lt_succ_self n))]
      exact hnone pb (fun q hq => hout q (by omega))

/-! ## The start -/

/-- What a start leaves of a bay (R103). -/
def startedBay (d : Dowel) (handle r : Nat) (b : Bay) : Bay :=
  { b with
    st := .running, gated := false, drain := false, slots := [], sills := [], cache := [], badAhead := []
    main := startHand d handle r b.main }

theorem lbPhys_congr {s t : State} (h : t.bayMap = s.bayMap) (n : Nat) : lbPhys t n = lbPhys s n := by simp only [lbPhys, h]

theorem handleOf_congr {s t : State} (h : t.cmd.slots = s.cmd.slots) (k : Nat) : handleOf t k = handleOf s k := by
  simp only [handleOf, dowelGet, h]

theorem dowelGet_congr {s t : State} (h : t.cmd.slots = s.cmd.slots) (k : Nat) : dowelGet t k = dowelGet s k := by
  simp only [dowelGet, h]

/-- The start of one bay changes that bay. -/
theorem startBayJob_step {s0 u : State} {slot : Nat} (r : Nat) (hmap : u.bayMap = s0.bayMap) (hslots : u.cmd.slots = s0.cmd.slots) :
    ((startBayJob slot r u).bayMap = s0.bayMap ∧ (startBayJob slot r u).cmd.slots = s0.cmd.slots) ∧
      ∀ q, bayGet (startBayJob slot r u) q =
        if lbPhys s0 (dsFirst (dowelGet s0 slot).desc + r) = some q then startedBay (dowelGet s0 slot) (handleOf s0 slot) r (bayGet u q)
        else bayGet u q := by
  unfold startBayJob
  simp only [dowelGet_congr hslots, lbPhys_congr hmap, handleOf_congr hslots]
  cases hpb : lbPhys s0 (dsFirst (dowelGet s0 slot).desc + r) with
  | none => exact ⟨⟨hmap, hslots⟩, fun q => (if_neg (by simp)).symm⟩
  | some pb =>
    refine ⟨⟨hmap, hslots⟩, fun q => ?_⟩
    simp only [bayGet_bayMod, Option.some.injEq]
    by_cases hq : q = pb
    · subst hq; simp only [if_true]; rfl
    · rw [if_neg hq, if_neg (Ne.symm hq)]

/-- Counting the switches changes dowels' marks and a counter. -/
theorem countSwitches_keeps (slot : Nat) (bays : List Nat) (s : State) :
    (countSwitches slot bays s).bays = s.bays ∧ ∀ k, (dowelGet (countSwitches slot bays s) k).st = (dowelGet s k).st := by
  have hmark : ∀ (u : State) (j k : Nat), (dowelGet (dowelMod u j (fun d => { d with switchDue := false })) k).st = (dowelGet u k).st := by
    intro u j k
    rw [dowelGet_dowelMod]
    split
    · rename_i hk; rw [hk]
    · rfl
  have hfold := fun (p : Nat) (hit : List Nat) =>
    foldl_keeps (g := fun u j => cntInc (dowelMod u j (fun d => { d with switchDue := false })) (Reg.PART_SWITCH_CNT p))
      (keep := fun u => u.bays = s.bays ∧ ∀ k, (dowelGet u k).st = (dowelGet s k).st)
      (fun u j hu => ⟨hu.1, fun k => (hmark u j k).trans (hu.2 k)⟩) hit
      (s := dowelMod s slot (fun d => { d with switchDue := false })) ⟨rfl, hmark s slot⟩
  exact hfold _ _

theorem isFiller_congr {s t : State} (hregs : t.regs = s.regs) (hpart : t.part = s.part) (d : Dowel) : isFiller t d = isFiller s d := by
  have hbyte : ptByte t = ptByte s := by funext i; simp only [ptByte, hpart]
  have hreg : regGet t = regGet s := by funext a; simp only [regGet, hregs]
  unfold isFiller regBit regFld ownsGfx recBit recNum
  rw [hreg, hbyte]

/-- The bays of a job that starts, and its dowel (R103, R373). -/
theorem startJob_leaves (s : State) (k : Nat) :
    (dowelGet (startJob k s) k).st = .running ∧
      ∀ r pb, r < dsBays (dowelGet s k).desc → lbPhys s (dsFirst (dowelGet s k).desc + r) = some pb →
        (∀ q, q < dsBays (dowelGet s k).desc → q ≠ r → lbPhys s (dsFirst (dowelGet s k).desc + q) ≠ some pb) →
        bayGet (startJob k s) pb = startedBay { dowelGet s k with st := .running, render := isRender s (dowelGet s k) } (handleOf s k) r (bayGet s pb) := by
  obtain ⟨s1, hs1⟩ : ∃ s1, s1 =
      let s0 := dowelPut s k { dowelGet s k with st := .running, render := isRender s (dowelGet s k) }
      if isRender s (dowelGet s k) then { s0 with gfx := { s0.gfx with waiting := s0.gfx.waiting ++ [k] } } else s0 := ⟨_, rfl⟩
  have hdowel : dowelGet s1 k = { dowelGet s k with st := .running, render := isRender s (dowelGet s k) } := by
    have hput := dowelGet_dowelPut s k k { dowelGet s k with st := .running, render := isRender s (dowelGet s k) }
    rw [if_pos rfl] at hput
    rw [hs1]
    simp only []
    split
    · exact hput
    · exact hput
  have hkept : s1.bayMap = s.bayMap ∧ s1.bays = s.bays := by
    rw [hs1]
    simp only []
    split
    · exact ⟨rfl, rfl⟩
    · exact ⟨rfl, rfl⟩
  have hhandle : handleOf s1 k = handleOf s k := by simp only [handleOf, hdowel]
  have hstart : startJob k s = countSwitches k (jobBays (dowelGet s k))
      ((List.range (dsBays (dowelGet s k).desc)).foldl (fun u r => startBayJob k r u) s1) := by rw [hs1]; rfl
  obtain ⟨⟨-, hslots⟩, hone, -⟩ := foldl_bays (s := s1) (keep := fun u => u.bayMap = s1.bayMap ∧ u.cmd.slots = s1.cmd.slots)
    ⟨rfl, rfl⟩ (fun r u hu => startBayJob_step (s0 := s1) (slot := k) r hu.1 hu.2) (dsBays (dowelGet s k).desc)
  obtain ⟨hbays, hst⟩ := countSwitches_keeps k (jobBays (dowelGet s k))
    ((List.range (dsBays (dowelGet s k).desc)).foldl (fun u r => startBayJob k r u) s1)
  rw [← hstart] at hbays hst
  rw [hdowel, hhandle] at hone
  simp only [lbPhys_congr hkept.1] at hone
  refine ⟨?_, fun r pb hr hpb halone => ?_⟩
  · rw [hst, dowelGet_congr hslots, hdowel]
  · have hsame : bayGet s pb = bayGet s1 pb := by simp only [bayGet, hkept.2]
    rw [hsame, ← hone r pb hr hpb halone]
    simp only [bayGet, hbays]

/-! ## The filler start -/

/-- What the start of a filler leaves of a bay (R590). -/
def fillerBayOf (d : Dowel) (handle r : Nat) (b : Bay) : Bay :=
  { b with
    slots := b.slots.filter (fun (i, _) => decide (i < 2)), sills := b.sills.filter (fun (k, _) => decide (k < 256))
    filler := startHand d handle r b.filler }

theorem startFillerBay_step {s0 u : State} {slot : Nat} (r : Nat) (hmap : u.bayMap = s0.bayMap) (hslots : u.cmd.slots = s0.cmd.slots) :
    ((startFillerBay slot r u).bayMap = s0.bayMap ∧ (startFillerBay slot r u).cmd.slots = s0.cmd.slots) ∧
      ∀ q, bayGet (startFillerBay slot r u) q =
        if lbPhys s0 (dsFirst (dowelGet s0 slot).desc + r) = some q then fillerBayOf (dowelGet s0 slot) (handleOf s0 slot) r (bayGet u q)
        else bayGet u q := by
  unfold startFillerBay
  simp only [dowelGet_congr hslots, lbPhys_congr hmap, handleOf_congr hslots]
  cases hpb : lbPhys s0 (dsFirst (dowelGet s0 slot).desc + r) with
  | none => exact ⟨⟨hmap, hslots⟩, fun q => (if_neg (by simp)).symm⟩
  | some pb =>
    refine ⟨⟨hmap, hslots⟩, fun q => ?_⟩
    simp only [bayGet_bayMod, Option.some.injEq]
    by_cases hq : q = pb
    · subst hq; simp only [if_true]; rfl
    · rw [if_neg hq, if_neg (Ne.symm hq)]

/-- The entries of a table below a bound. -/
theorem tabGet_filter_lt {α : Type} (d : α) (n : Nat) (t : Tab α) (i : Nat) :
    tabGet d (t.filter (fun (k, _) => decide (k < n))) i = if i < n then tabGet d t i else d := by
  induction t with
  | nil => simp [tabGet]
  | cons e t ih =>
    by_cases he : e.1 < n
    · simp only [List.filter_cons, he, decide_true, if_true, tabGet, ih]
      by_cases hi : e.1 = i
      · rw [if_pos hi, if_pos hi, if_pos (hi ▸ he)]
      · rw [if_neg hi, if_neg hi]
    · simp only [List.filter_cons, he, decide_false, Bool.false_eq_true, if_false, ih, tabGet]
      by_cases hi : e.1 = i
      · rw [if_neg (hi ▸ he), if_neg (hi ▸ he)]
      · rw [if_neg hi]

/-- The bays of a filler that starts, and its dowel (R589, R590). -/
theorem startFiller_leaves (s : State) (k : Nat) :
    (dowelGet (startFiller k s) k).st = .running ∧
      ∀ r pb, r < dsBays (dowelGet s k).desc → lbPhys s (dsFirst (dowelGet s k).desc + r) = some pb →
        (∀ q, q < dsBays (dowelGet s k).desc → q ≠ r → lbPhys s (dsFirst (dowelGet s k).desc + q) ≠ some pb) →
        bayGet (startFiller k s) pb = fillerBayOf { dowelGet s k with st := .running } (handleOf s k) r (bayGet s pb) := by
  obtain ⟨s1, hs1⟩ : ∃ s1, s1 = dowelMod s k (fun d => { d with st := .running }) := ⟨_, rfl⟩
  have hdowel : dowelGet s1 k = { dowelGet s k with st := .running } := by rw [hs1, dowelGet_dowelMod, if_pos rfl]
  have hkept : s1.bayMap = s.bayMap ∧ s1.bays = s.bays := by rw [hs1]; exact ⟨rfl, rfl⟩
  have hhandle : handleOf s1 k = handleOf s k := by simp only [handleOf, hdowel]
  have hstart : startFiller k s = (List.range (dsBays (dowelGet s k).desc)).foldl (fun u r => startFillerBay k r u) s1 := by rw [hs1]; rfl
  obtain ⟨⟨-, hslots⟩, hone, -⟩ := foldl_bays (s := s1) (keep := fun u => u.bayMap = s1.bayMap ∧ u.cmd.slots = s1.cmd.slots)
    ⟨rfl, rfl⟩ (fun r u hu => startFillerBay_step (s0 := s1) (slot := k) r hu.1 hu.2) (dsBays (dowelGet s k).desc)
  rw [← hstart] at hone hslots
  rw [hdowel, hhandle] at hone
  simp only [lbPhys_congr hkept.1] at hone
  refine ⟨by rw [dowelGet_congr hslots, hdowel], fun r pb hr hpb halone => ?_⟩
  have hsame : bayGet s pb = bayGet s1 pb := by simp only [bayGet, hkept.2]
  rw [hsame, ← hone r pb hr hpb halone]

/-! ## The end and the replay -/

/-- The state that a job which has ended on its own takes (R305, R308). -/
theorem endState_eq (d : Dowel) [Decidable (∃ x, d.dist = some x ∧ x < d.endNs - d.accepted)] :
    d.endState = if ∃ x, d.dist = some x ∧ x < d.endNs - d.accepted then .expired else if 0 < d.replays then .doneReplayed
      else .doneOk := by
  by_cases h : ∃ x, d.dist = some x ∧ x < d.endNs - d.accepted
  · obtain ⟨x, hdist, hx⟩ := id h
    rw [if_pos h]
    simp [Dowel.endState, hdist, hx]
  · rw [if_neg h]
    unfold Dowel.endState
    split
    · rename_i x hdist
      exact if_neg (fun hx => h ⟨x, hdist, hx⟩)
    · rfl

theorem endJob_open {s : State} {k : Nat} (hended : jobEnded s k (dowelGet s k) = true) (hk : k < 65536)
    (hopen : (gateInForce s (dowelGet s k).part && decide (dsAge (dowelGet s k).desc ≠ 0xFF)) = false) :
    endJob k s = kerfPass (dowelGet s k).part (dowelPut s k { dowelGet s k with ending := some (dowelGet s k).endState }) := by
  simp only [endJob, hended, hopen, Nat.not_le.mpr hk, Bool.not_true, Bool.false_eq_true, if_false]

theorem endJob_held {s : State} {k : Nat} (hended : jobEnded s k (dowelGet s k) = true) (hk : k < 65536)
    (hgate : (gateInForce s (dowelGet s k).part && decide (dsAge (dowelGet s k).desc ≠ 0xFF)) = true) :
    endJob k s =
      kerfPass (dowelGet s k).part (dowelPut s k { dowelGet s k with held := true, gateLeft := localBays s (dowelGet s k) }) := by
  simp only [endJob, hended, hgate, Nat.not_le.mpr hk, Bool.not_true, Bool.false_eq_true, if_false, if_true]

theorem gfxForget_keeps (k : Nat) (s : State) :
    (gfxForget k s).cmd = s.cmd ∧ (gfxForget k s).pegs = s.pegs ∧ (gfxForget k s).regs = s.regs ∧ (gfxForget k s).part = s.part := by
  unfold gfxForget
  simp only []
  split <;> exact ⟨rfl, rfl, rfl, rfl⟩

theorem collReruns_none {s : State} (h : s.fc.colls = []) (handle : Nat) : collReruns handle s = s := by
  simp [collReruns, collsWhere, h]

/-- The pegs of a job that starts again (R432). -/
theorem pegGet_restorePeg (s : State) (n m : Nat) (v : Word32) (sat : Bool) :
    pegGet (restorePeg s (n, v, sat)) m =
      if m = n then (if (pegGet s n).poison then pegGet s n else { pegGet s n with count := v, sat := sat }) else pegGet s m := by
  unfold restorePeg
  simp only []
  split
  · by_cases hm : m = n
    · rw [hm, if_pos rfl]
    · rw [if_neg hm]
  · rw [pegGet_pegPut]

end Sys2Proof.Machine

namespace Sys2Proof.Proofs
open Sys2Proof.Machine

/-- Settles O42, a command at a time. -/
theorem jobLifecycle : Obligations.JobLifecycle := by
  unfold Obligations.JobLifecycle
  intro s k hk d starts
  have hslot : k < 131072 := by omega
  refine ⟨fun hchosen hsusp hspans hfree => ?_, fun hended hgate => ?_, fun hended hgate hage => ?_, fun st hending hst hhands => ?_,
    fun r c hfault hst hending => ?_, fun hready hspan hfiller hcolls hjournal => ?_, fun at_ hat hasked hst hending hreplay hreached => ?_,
    fun hready => ?_⟩
  · have hexec : exec (.jobStart k) s = .next (startJob k s) := by
      refine (if_pos hslot).trans (congrArg Host.Outcome.next ?_)
      have hneed : ((schedule s d.part).1.contains k || (schedule s d.part).2.contains k) = true := by simpa using hchosen
      have hhome : (spans s d || decide (65536 ≤ k)) = false := by simp [hspans, hk]
      have hsusp' : (dowelGet s k).suspended = false := hsusp
      unfold takeUp
      simp only [d] at hneed hhome hfree
      simp only [hneed, hfree, hsusp', hhome, Bool.not_true, Bool.false_eq_true, if_false, if_true]
    obtain ⟨hst, hbays⟩ := startJob_leaves s k
    refine ⟨_, hexec, hst, fun r pb hr hpb halone => ?_⟩
    rw [hbays r pb hr hpb halone]
    exact ⟨rfl, rfl, rfl, rfl, rfl, rfl, rfl, rfl, rfl, rfl, rfl, rfl⟩
  · refine (if_pos hslot).trans (congrArg Host.Outcome.next ?_)
    have hopen : (gateInForce s d.part && decide (dsAge d.desc ≠ 0xFF)) = false := by
      obtain hgate | hage := hgate
      · simp [hgate]
      · simp [hage]
    rw [endJob_open hended hk hopen, ← endState_eq]
  · refine (if_pos hslot).trans (congrArg Host.Outcome.next (endJob_held hended hk ?_))
    simp only [d] at hgate hage
    simp [hgate, hage]
  · refine (if_pos hslot).trans (congrArg Host.Outcome.next ?_)
    simp only [d] at hending hst
    simp [completeJob, hending, hst, hhands, d]
  · refine (if_pos hslot).trans (congrArg Host.Outcome.next ?_)
    simp only [d] at hfault hst hending
    simp [faultStop, hfault, hst, hending]
  · obtain ⟨s1, hs1⟩ : ∃ s1, s1 = dowelPut (judgeAll (d.journal.foldl restorePeg s)) k (replayed d) := ⟨_, rfl⟩
    obtain ⟨hcmd, hpegs, hregs, hpart⟩ := gfxForget_keeps k s1
    have hkept : (d.journal.foldl restorePeg s).fc = s.fc ∧ (d.journal.foldl restorePeg s).regs = s.regs ∧
        (d.journal.foldl restorePeg s).part = s.part := by
      refine foldl_keeps (keep := fun u : State => u.fc = s.fc ∧ u.regs = s.regs ∧ u.part = s.part) (fun u e hu => ?_) d.journal ⟨rfl, rfl, rfl⟩
      unfold restorePeg
      simp only []
      split
      · exact hu
      · exact hu
    have hfiller' : isFiller (gfxForget k s1) d = false := by
      rw [isFiller_congr (s := s) (by rw [hregs, hs1]; exact hkept.2.1) (by rw [hpart, hs1]; exact hkept.2.2)]
      exact hfiller
    have hexec : exec (.jobReplay k) s = .next (startJob k (gfxForget k s1)) := by
      refine (if_pos hslot).trans (congrArg Host.Outcome.next ((if_pos hready).trans ?_))
      have hreruns := collReruns_none (s := s1) (by rw [hs1]; exact (congrArg _ hkept.1).trans hcolls)
      unfold replayJob
      simp only [d] at hspan hfiller' hs1
      simp only [← hs1, hreruns, hspan, hfiller', Bool.false_and, Bool.false_eq_true, if_false]
    refine ⟨_, hexec, ?_, rfl, rfl, rfl, fun n v sat hj => ?_⟩
    · rw [dowelGet_congr (s := s1) (by rw [hcmd]), hs1, dowelGet_dowelPut, if_pos rfl]
    · have hpeg : pegGet (gfxForget k s1) n = pegGet (restorePeg s (n, v, sat)) n := by
        rw [pegGet, hpegs, hs1, hj]
        rfl
      rw [hpeg, pegGet_restorePeg, if_pos rfl]
  · refine (if_pos hslot).trans (congrArg Host.Outcome.next ?_)
    simp only [d] at hat hasked hst hending hreplay
    simp [spanStart, hat, hasked, hst, hending, hreplay, hreached, d]
  · have hexec : exec (.fillerJobStart k) s = .next (startFiller k s) :=
      (if_pos hk).trans (congrArg Host.Outcome.next (if_pos hready))
    obtain ⟨hst, hbays⟩ := startFiller_leaves s k
    refine ⟨_, hexec, hst, fun r pb hr hpb halone => ?_⟩
    rw [hbays r pb hr hpb halone]
    exact ⟨rfl, rfl, rfl, rfl, rfl, rfl, tabGet_filter_lt _ _ _, tabGet_filter_lt _ _ _⟩

end Sys2Proof.Proofs
end

section
/-!
SUPPORT. Laws of the completion records (R314–R317); with the settlement of the statement on them.
-/

namespace Sys2Proof.Machine

/-- A test of an access may count and record it; memory stays. -/
theorem accessCheck_mem {s s1 : State} {v : Verdict} {p cls a n : Nat} {k : AccKind} (h : accessCheck s p cls k a n = (v, s1)) :
    s1.mem = s.mem := by
  have hs1 : s1 = (accessCheck s p cls k a n).2 := by rw [h]
  have hsame := congrArg State.mem ((frame_accessCheck (w := { regs := true }) rfl s p cls k a n) s1 hs1.symm).same
  exact hsame

end Sys2Proof.Machine

namespace Sys2Proof.Proofs
open Sys2Proof.Machine

/-- Settles O43: a ring that is disabled, full, or takes the record. -/
theorem completionRecordGoesToItsRing : Obligations.CompletionRecordGoesToItsRing := by
  unfold Obligations.CompletionRecordGoesToItsRing
  intro s p r mk cfg size pi ci a
  refine ⟨fun hoff => ?_, fun hon hfull => ?_, fun hon hroom c s1 hcheck => ?_⟩
  · exact if_pos (by simpa using hoff)
  · exact (if_neg (by simpa using hon)).trans (if_pos hfull)
  · have hwrite : writeRecord raise p r mk s =
        (regPut (devWrite s1 a (mk (pi / 2 ^ size % 2))) (Reg.CMDPROC_RING_PI p r) (BitVec.ofNat 32 ((pi + 1) % 2 ^ 17)), true) := by
      refine (if_neg (by simpa using hon)).trans ((if_neg hroom).trans ?_)
      simp only [a, pi, size, cfg] at hcheck
      simp only [hcheck]
      rfl
    refine ⟨_, hwrite, by rw [regGet_regPut, if_pos rfl], fun hhome hlen x => ?_⟩
    have hdev := devWrite_mem (s := s1) (a := a) (l := mk (pi / 2 ^ size % 2)) (by intro h; simp [h] at hlen) (Or.inl (by rw [hlen]; exact hhome))
    rw [hdev, memByte, regPut_mem, dropPanels_mem]
    have hread := memByte_memWrite s1 a (mk (pi / 2 ^ size % 2)) x
    rw [hlen] at hread
    simpa only [memByte, accessCheck_mem hcheck] using hread

end Sys2Proof.Proofs
end

section
/-!
SUPPORT. Laws of beats, of save images and of restores (R353, R372, R378, R380); with the settlement of the statement on the kerf
scheduler.
-/

namespace Sys2Proof.Machine

/-! ## Beats -/

@[simp] theorem beatGet_beatPut (s : State) (p q : Nat) (b : BeatSt) : beatGet (beatPut s p b) q = if q = p then b else beatGet s q := by
  simp [beatGet, beatPut]

theorem takeConfig_none {s : State} {r : Nat} (hready : reportReady r s = s) (h : (updGet s r).running = none) : takeConfig r s = s := by
  simp [takeConfig, hready, h]

theorem takeSwap_none {s : State} {p g : Nat} (h : (updGet s (swapRegion p g)).running = none) : takeSwap p g s = s := by
  simp [takeSwap, h]

theorem foldl_takeSwap_none {s : State} {p : Nat} (l : List Nat) (h : ∀ g ∈ l, (updGet s (swapRegion p g)).running = none) :
    l.foldl (fun u g => takeSwap p g u) s = s := by
  induction l with
  | nil => rfl
  | cons g l ih =>
    rw [List.foldl_cons, takeSwap_none (h g (by simp))]
    exact ih (fun g' hg' => h g' (by simp [hg']))

/-! ## Save images -/

theorem length_sillImage (x : Sill) : (sillImage x).length = 80 := length_leBytes _ _

/-- A byte in a row of blocks of one length. -/
theorem getD_flatMap_blocks {f : Nat → List Byte} {m : Nat} (hf : ∀ k, (f k).length = m) (n k i : Nat) (hk : k < n) (hi : i < m) :
    ((List.range n).flatMap f).getD (m * k + i) 0 = (f k).getD i 0 := by
  have hlen : ∀ n, ((List.range n).flatMap f).length = m * n := by
    intro n
    induction n with
    | zero => rfl
    | succ n ih => simp [List.range_succ, List.flatMap_append, ih, hf, Nat.mul_succ]
  induction n with
  | zero => omega
  | succ n ih =>
    rw [List.range_succ, List.flatMap_append]
    by_cases hlast : k = n
    · subst hlast
      rw [List.getD_append_right _ _ _ _ (by rw [hlen]; omega), hlen, Nat.add_sub_cancel_left]
      simp
    · have hbelow : m * k + m ≤ m * n := by rw [← Nat.mul_succ]; exact Nat.mul_le_mul_left m (by omega)
      rw [List.getD_append _ _ _ _ (by rw [hlen]; omega)]
      exact ih (by omega)

/-- Blocks written one after another. -/
theorem memByte_foldl_blocks {f : Nat → List Byte} {m : Nat} (hm : 0 < m) (hf : ∀ k, (f k).length = m) (s : State) (o n x : Nat) :
    memByte ((List.range n).foldl (fun u k => memWrite u (o + m * k) (f k)) s) x =
      if o ≤ x ∧ x < o + m * n then (f ((x - o) / m)).getD ((x - o) % m) 0 else memByte s x := by
  induction n with
  | zero => rw [if_neg (by omega)]; rfl
  | succ n ih =>
    rw [List.range_succ, List.foldl_append, List.foldl_cons, List.foldl_nil, memByte_memWrite, hf, ih, Nat.mul_succ]
    by_cases hlast : o + m * n ≤ x ∧ x < o + m * n + m
    · have hx : x - o = m * n + (x - (o + m * n)) := by omega
      rw [if_pos hlast, if_pos (by omega), hx, Nat.mul_add_div hm, Nat.mul_add_mod, Nat.div_eq_of_lt (by omega),
        Nat.mod_eq_of_lt (by omega), Nat.add_zero]
    · rw [if_neg hlast]
      by_cases hin : o ≤ x ∧ x < o + m * n
      · rw [if_pos hin, if_pos (by omega)]
      · rw [if_neg hin, if_neg (by omega)]

/-- Entries put in a row. -/
theorem tabGet_foldl_put {α : Type} [DecidableEq α] (d : α) (g : Nat → α) (t : Tab α) (o n i : Nat) :
    tabGet d ((List.range n).foldl (fun t k => tabPut d t (o + k) (g k)) t) i = if o ≤ i ∧ i < o + n then g (i - o) else tabGet d t i := by
  induction n with
  | zero => rw [if_neg (by omega)]; rfl
  | succ n ih =>
    rw [List.range_succ, List.foldl_append, List.foldl_cons, List.foldl_nil, tabGet_put, ih]
    by_cases hlast : i = o + n
    · subst hlast; rw [if_pos rfl, if_pos (by omega), Nat.add_sub_cancel_left]
    · rw [if_neg hlast]
      by_cases hin : o ≤ i ∧ i < o + n
      · rw [if_pos hin, if_pos (by omega)]
      · rw [if_neg hin, if_neg (by omega)]

/-- The sills read from the sets of an image (R87, R380). -/
theorem tabGet_readSets (s : State) (base n : Nat) (t : Tab Sill) (i : Nat) :
    tabGet {} (readSets s base (List.range n) t) i =
      if i < 128 * n then sillOfImage (memRead s (base + 0x140000 + 80 * i) 80) else tabGet {} t i := by
  unfold readSets
  induction n with
  | zero => rfl
  | succ n ih =>
    rw [List.range_succ (n := n), List.foldl_append, List.foldl_cons, List.foldl_nil, tabGet_foldl_put, ih]
    by_cases hlast : 128 * n ≤ i ∧ i < 128 * n + 128
    · rw [if_pos hlast, if_pos (by omega)]
      rw [show base + 0x140000 + 10240 * n + 80 * (i - 128 * n) = base + 0x140000 + 80 * i by omega]
    · rw [if_neg hlast]
      by_cases hin : i < 128 * n
      · rw [if_pos hin, if_pos (by omega)]
      · rw [if_neg hin, if_neg (by omega)]

theorem length_storeRead (b : Bay) (o n : Nat) : (b.storeRead o n).length = n := by simp [Bay.storeRead, rangeFrom]

theorem getD_storeRead (b : Bay) (o n i : Nat) (hi : i < n) : (b.storeRead o n).getD i 0 = tabGet 0 b.store (o + i) := by
  simp [Bay.storeRead, rangeFrom, List.getD_eq_getElem?_getD, hi]

theorem length_memRead (s : State) (a n : Nat) : (memRead s a n).length = n := by simp [memRead, rangeFrom]

theorem getD_memRead (s : State) (a n i : Nat) (hi : i < n) : (memRead s a n).getD i 0 = memByte s (a + i) := by
  simp [memRead, rangeFrom, List.getD_eq_getElem?_getD, hi]

/-- Equal bytes are read as equal lists. -/
theorem memRead_eq {s : State} {a n : Nat} {l : List Byte} (hl : l.length = n) (h : ∀ i, i < n → memByte s (a + i) = l.getD i 0) :
    memRead s a n = l := by
  refine List.ext_getElem (by rw [length_memRead, hl]) (fun i h1 h2 => ?_)
  have hi : i < n := hl ▸ h2
  have := h i hi
  simp only [memRead, rangeFrom, List.getElem_map, List.getElem_range]
  rw [this, List.getD_eq_getElem?_getD, List.getElem?_eq_getElem h2, Option.getD_some]

theorem memWrite_freeBytes_mem (u : State) (k a : Nat) :
    (memWrite (freeBytes k u).2 a (freeBytes k u).1).mem = (memWrite u a (freeBytes k u).1).mem := rfl

/-- The save of a context that is alone on its bay: the store and the sills stand in the image (R380). -/
theorem saveCtx_alone {s : State} {pb n base : Nat} (hn : pbLogical s pb = some n) (halone : (bayGet s pb).filler.active = false)
    (hbase : base = imageBase s (bayGet s pb).main.part (bayGet s pb).main.kclass n) :
    let b := bayGet s pb
    let t := saveCtx pb false s
    (t.bays = s.bays ∧ t.cmd = s.cmd ∧ t.waitWrites = s.waitWrites ∧ t.bayMap = s.bayMap) ∧
      (∀ i : Nat, i < storeSize → memByte t (base + i) = tabGet 0 b.store i) ∧
      (∀ k : Nat, k < 512 → memRead t (base + 0x140000 + 80 * k) 80 = sillImage (tabGet {} b.sills k)) := by
  intro b t
  have hstore : storeSize = 0x140000 := rfl
  obtain ⟨blocks, hblocks⟩ : ∃ f : Nat → List Byte, f = fun a => (List.range 128).flatMap (fun k => sillImage (tabGet {} b.sills (128 * a + k))) :=
    ⟨_, rfl⟩
  have hlen : ∀ a, (blocks a).length = 10240 := by
    intro a
    have hsum : ∀ n : Nat, ((List.range n).flatMap (fun k => sillImage (tabGet {} b.sills (128 * a + k)))).length = 80 * n := by
      intro n
      induction n with
      | zero => rfl
      | succ n ih => rw [List.range_succ, List.flatMap_append, List.length_append, ih]; simp [length_sillImage]; omega
    rw [hblocks]
    exact hsum 128
  obtain ⟨s1, hs1⟩ : ∃ s1, s1 = (List.range 4).foldl (fun u a => memWrite u (base + 0x140000 + 10240 * a) (blocks a))
      (memWrite s base (b.storeRead 0 storeSize)) := ⟨_, rfl⟩
  have hsets : ([0, 1, 2, 3] : List Nat) = List.range 4 := rfl
  have hmem : t.mem = (memWrite s1 (base + 0x14A000) (freeBytes (2944 + 64) s1).1).mem := by
    simp only [t, saveCtx, hn, ctxParts, halone, Bool.false_eq_true, if_false, hs1, hblocks, hsets, Nat.add_zero, Nat.sub_zero, handOf, ← hbase]
    exact memWrite_freeBytes_mem _ _ _
  have hkept : t.bays = s.bays ∧ t.cmd = s.cmd ∧ t.waitWrites = s.waitWrites ∧ t.bayMap = s.bayMap := by
    have hsame := (frame_saveCtx (w := { mem := true, part := true, freeCtr := true }) rfl pb false s t rfl).same
    have hbays := congrArg State.bays hsame
    have hcmd := congrArg State.cmd hsame
    have hwait := congrArg State.waitWrites hsame
    have hmap := congrArg State.bayMap hsame
    exact ⟨hbays, hcmd, hwait, hmap⟩
  obtain ⟨l, hlast⟩ : ∃ l, l = (freeBytes (2944 + 64) s1).1 := ⟨_, rfl⟩
  have hl : l.length = 3008 := by rw [hlast]; simp [freeBytes]
  rw [← hlast] at hmem
  have hbyte : ∀ x : Nat, memByte t x =
      if base + 0x14A000 ≤ x ∧ x < base + 0x14A000 + 3008 then l.getD (x - (base + 0x14A000)) 0
      else if base + 0x140000 ≤ x ∧ x < base + 0x140000 + 10240 * 4 then
        (blocks ((x - (base + 0x140000)) / 10240)).getD ((x - (base + 0x140000)) % 10240) 0
      else if base ≤ x ∧ x < base + storeSize then (b.storeRead 0 storeSize).getD (x - base) 0
      else memByte s x := by
    intro x
    have hfree := memByte_memWrite s1 (base + 0x14A000) l x
    have hsets := memByte_foldl_blocks (m := 10240) (by decide) hlen (memWrite s base (b.storeRead 0 storeSize)) (base + 0x140000) 4 x
    rw [← hs1, memByte_memWrite, length_storeRead] at hsets
    rw [hl, hsets] at hfree
    simp only [memByte, hmem] at hfree ⊢
    exact hfree
  refine ⟨hkept, fun i hi => ?_, fun k hk => ?_⟩
  · have hfree : ¬(base + 0x14A000 ≤ base + i ∧ base + i < base + 0x14A000 + 3008) := by omega
    have hsets : ¬(base + 0x140000 ≤ base + i ∧ base + i < base + 0x140000 + 10240 * 4) := by omega
    have hin : base ≤ base + i ∧ base + i < base + storeSize := by omega
    rw [hbyte, if_neg hfree, if_neg hsets, if_pos hin, Nat.add_sub_cancel_left, getD_storeRead _ _ _ _ hi, Nat.zero_add]
  · refine memRead_eq (length_sillImage _) (fun i hi => ?_)
    have hfree : ¬(base + 0x14A000 ≤ base + 0x140000 + 80 * k + i ∧ base + 0x140000 + 80 * k + i < base + 0x14A000 + 3008) := by omega
    have hsets : base + 0x140000 ≤ base + 0x140000 + 80 * k + i ∧ base + 0x140000 + 80 * k + i < base + 0x140000 + 10240 * 4 := by omega
    rw [hbyte, if_neg hfree, if_pos hsets]
    have hdiv : (80 * (k % 128) + i) / 10240 = 0 := Nat.div_eq_of_lt (by omega)
    have hmod : (80 * (k % 128) + i) % 10240 = 80 * (k % 128) + i := Nat.mod_eq_of_lt (by omega)
    have hx : base + 0x140000 + 80 * k + i - (base + 0x140000) = 10240 * (k / 128) + (80 * (k % 128) + i) := by omega
    rw [hx, Nat.mul_add_div (by decide), Nat.mul_add_mod, hdiv, hmod, Nat.add_zero, hblocks]
    simp only []
    rw [getD_flatMap_blocks (fun _ => length_sillImage _) 128 (k % 128) i (by omega) hi,
      show 128 * (k / 128) + k % 128 = k by omega]

/-! ## The end of a save and of a restore -/

/-- With no write that waits, none lands. -/
theorem landWrites_none {s : State} (hw : s.waitWrites = []) : landWrites s = s := by
  simp only [landWrites, hw, List.foldl_nil]
  rw [← hw]

/-- What the end of SAVING leaves on the bay (R378). -/
def idled (now : Nat) (b : Bay) : Bay :=
  { b with st := .idle, drain := false, idleSince := now, cache := [], badAhead := [], main := { b.main with active := false },
           filler := { b.filler with active := false } }

/-- The context of a job that goes on is saved, and its bay is IDLE. -/
theorem saveDone_alone {s : State} {pb n : Nat} (hst : (bayGet s pb).st = .saving) (hn : pbLogical s pb = some n)
    (hactive : (bayGet s pb).main.active = true) (hfiller : (bayGet s pb).filler.active = false)
    (hended : (bayGet s pb).main.ended = false) (hw : s.waitWrites = [])
    (hending : (dowelGet s (slotOf (bayGet s pb).main.handle)).ending = none)
    (hreplay : (dowelGet s (slotOf (bayGet s pb).main.handle)).replayDue = false) :
    saveDone pb s = kerfPass (bayGet s pb).main.part
      (bayMod (suspendCtx pb n false (saveCtx pb false s)) pb (idled s.tb.elapsed)) := by
  have hfill : finishCtx pb n true s = s := by simp [finishCtx, handOf, hfiller]
  have hmain : finishCtx pb n false s = suspendCtx pb n false (saveCtx pb false s) := by
    simp [finishCtx, handOf, hactive, hending, hreplay, hended]
  have hsame := (frame_saveCtx (w := { mem := true, part := true, freeCtr := true }) rfl pb false s _ rfl).same
  have hwait : (suspendCtx pb n false (saveCtx pb false s)).waitWrites = [] := by
    have h := congrArg State.waitWrites hsame
    exact Eq.trans h hw
  unfold saveDone
  simp only [hst, if_true, hn, hfill, hmain]
  have hland : landWrites (bayMod (suspendCtx pb n false (saveCtx pb false s)) pb (idled s.tb.elapsed)) = _ := landWrites_none hwait
  exact congrArg (kerfPass (bayGet s pb).main.part) hland

/-- What the end of RESTORING makes of a bay whose image is loaded (R80, R175). -/
def resumed (b : Bay) : Bay := { reloadSlots b with st := .running, cache := [], badAhead := [] }

theorem resumed_store (b : Bay) : (resumed b).store = b.store := rfl

theorem resumed_sills (b : Bay) : (resumed b).sills = b.sills := rfl

theorem dowelGet_bayMod (s : State) (pb k : Nat) (f : Bay → Bay) : dowelGet (bayMod s pb f) k = dowelGet s k := rfl

theorem loadCtx_store (s : State) (base : Addr) (q : CtxParts) (b : Bay) :
    (loadCtx s base q false b).store = putBytes b.store q.storeLo (memRead s (base + q.storeLo) (q.storeHi - q.storeLo)) := rfl

theorem loadCtx_sills (s : State) (base : Addr) (q : CtxParts) (b : Bay) :
    (loadCtx s base q false b).sills = readSets s base q.sets b.sills := rfl

/-- The whole bay belongs to a context that no filler goes with. -/
theorem ctxParts_alone (s : State) :
    ctxParts s {} false = { storeLo := 0, storeHi := storeSize, sets := List.range 4, slots := [0, 1, 2, 3] } := rfl

/-- The context that a restore leaves on its bay (R378, R80). -/
theorem restoreDone_alone {s : State} {pb n : Nat} (hst : (bayGet s pb).st = .restoring) (hn : pbLogical s pb = some n)
    (hfiller : (bayGet s pb).filler.active = false) (hnone : fillerWith s (bayGet s pb).incoming n = none) (hw : s.waitWrites = []) :
    let k := (bayGet s pb).incoming
    let d := dowelGet s k
    let base := imageBase s d.part (dsClass d.desc) n
    let img := tabGet {} s.part.images base
    slotOf img.hand.handle = k → d.ending = none → d.replayDue = false →
    ∃ t, restoreDone pb s = kerfPass img.hand.part (countSwitches k [n] t) ∧
      bayGet t pb = resumed (loadCtx s base (ctxParts s {} false) false (bayGet s pb)) := by
  intro k d base img hslot hending hreplay
  obtain ⟨s1, hs1⟩ : ∃ s1, s1 = restoreCtx pb n k false false s := ⟨_, rfl⟩
  obtain ⟨t, ht⟩ : ∃ t, t = bayMod s1 pb resumed := ⟨_, rfl⟩
  have hwait : t.waitWrites = [] := by rw [ht, hs1]; exact hw
  have hbay1 : bayGet s1 pb = loadCtx s base (ctxParts s {} false) false (bayGet s pb) := by
    rw [hs1]
    exact (bayGet_bayMod s pb pb _).trans (if_pos rfl)
  have hbay : bayGet t pb = resumed (loadCtx s base (ctxParts s {} false) false (bayGet s pb)) := by
    rw [ht, bayGet_bayMod, if_pos rfl, hbay1]
  have hhand : (bayGet t pb).main = { img.hand with active := true, stopped := false, wait := .none } := by rw [hbay]; rfl
  have hother : (bayGet t pb).filler = (bayGet s pb).filler := by rw [hbay]; rfl
  have hdowel : (dowelGet t k).ending = none ∧ (dowelGet t k).replayDue = false := by
    have hk : dowelGet t k = dowelGet (unsave k n (handOf (bayGet (bayMod s pb (loadCtx s base (ctxParts s {} false) false)) pb) false)
        (bayMod s pb (loadCtx s base (ctxParts s {} false) false))) k := by rw [ht, hs1]; rfl
    rw [hk, unsave, dowelGet_dowelMod, if_pos rfl]
    exact ⟨hending, hreplay⟩
  refine ⟨t, ?_, hbay⟩
  have hgo : (if (handGet t { pb := pb }).active && ((dowelGet t (slotOf (handGet t { pb := pb }).handle)).ending.isSome ||
      (dowelGet t (slotOf (handGet t { pb := pb }).handle)).replayDue) then stopHand t { pb := pb } else t) = t := by
    have hslot' : slotOf (handGet t { pb := pb }).handle = k := by
      simp only [handGet, handOf, Bool.false_eq_true, if_false, hhand]
      exact hslot
    rw [hslot', hdowel.1, hdowel.2]
    simp
  have hgoFiller : (handGet t { pb := pb, filler := true }).active = false := by
    simp only [handGet, handOf, if_true, hother, hfiller]
  unfold restoreDone
  simp only [hst, if_true, hn, hnone, Option.isSome_none]
  rw [show restoreCtx pb n (bayGet s pb).incoming false false s = s1 from hs1.symm, show bayMod s1 pb (fun b => { reloadSlots b with st := .running, cache := [], badAhead := [] }) = t from ht.symm, landWrites_none hwait]
  simp only [hgoFiller, Bool.false_and, Bool.false_eq_true, if_false]
  simp only [hgo, hhand]
  rfl

end Sys2Proof.Machine

namespace Sys2Proof.Proofs
open Sys2Proof.Machine

/-- Settles O45. -/
theorem kerfSwitch : Obligations.KerfSwitch := by
  refine ⟨fun s p hp hjoined => ?_, fun s pb hpb => ?_⟩
  · intro b now due
    refine ⟨fun hdue hcfg hswap => ?_, fun hkerf htail hlast => ?_⟩
    · obtain ⟨u, hu⟩ : ∃ u, u = beginBeat p s := ⟨_, rfl⟩
      have hready : reportReady p u = u := by
        have : twinJoined u = false := by rw [hu]; exact hjoined
        simp [reportReady, this]
      have htake : takeConfig p u = u := takeConfig_none hready (by rw [hu]; exact hcfg)
      have hswaps : (rangeFrom 1 15).foldl (fun s g => takeSwap p g s) u = u :=
        foldl_takeSwap_none _ (fun g hg => by
          rw [hu]
          exact hswap g (by simp [rangeFrom] at hg; omega))
      have hbeat : beatGet (forgetWriters p u) p = beatGet u p := rfl
      refine ⟨forgetWriters p u, ?_, ?_, fun e he => ?_⟩
      · show execBeatStart p s = _
        rw [execBeatStart, if_pos hp, if_pos hdue, startBeat, ← hu, htake]
        simp only [hswaps]
      · simp only [hbeat]
        rw [hu, beginBeat]
        simp only [beatGet_beatPut, if_true]
        exact ⟨trivial, rfl, trivial, trivial, rfl, trivial⟩
      · have hmem := (List.mem_filter.mp he).2
        simpa using hmem
    · show execKerfEntryStart p s = _
      rw [execKerfEntryStart, if_pos hp, nextEntry]
      have hgo : ¬(recNkerf s p = 0 ∨ (beatGet s p).tail = true ∨ s.tb.elapsed < (beatGet s p).entryNs + schedLen s p (beatGet s p).entry * 10000) := by
        rintro (h | h | h)
        · exact hkerf h
        · exact absurd (htail.symm.trans h) (by decide)
        · exact absurd h (Nat.not_lt.mpr hlast)
      rw [if_neg hgo]
  · intro b p
    refine ⟨fun hst hdrain hentries hended => ?_, fun hst hdrain hover hlimit => ?_,
      fun n hst hn hactive hfiller hended hw hending hreplay => ?_, fun n hst hn hfiller hnone hw => ?_⟩
    · show execKerfDrainComplete pb s = _
      rw [execKerfDrainComplete, if_pos hpb, drainDone]
      simp only [b] at hst hdrain hentries hended ⊢
      simp [hst, hdrain, hentries, hended]
    · show execKerfOverrun pb s = _
      rw [execKerfOverrun, if_pos hpb, drainOver]
      simp only [b, p] at hst hdrain hover hlimit ⊢
      simp [hst, hdrain, hover, hlimit]
    · intro base
      obtain ⟨hkept, hstore, hsills⟩ := saveCtx_alone (base := base) hn hfiller rfl
      obtain ⟨hbays, hcmd, -, -⟩ := hkept
      obtain ⟨u, hu⟩ : ∃ u, u = saveCtx pb false s := ⟨_, rfl⟩
      rw [← hu] at hstore hsills hbays hcmd
      have hbay : bayGet u pb = b := by simp only [bayGet, hbays, b]
      refine ⟨bayMod (suspendCtx pb n false u) pb (idled s.tb.elapsed), ?_, ?_, ?_, ?_, hstore, hsills⟩
      · show execSaveComplete pb s = _
        rw [execSaveComplete, if_pos hpb, saveDone_alone hst hn hactive hfiller hended hw hending hreplay, hu]
      · simp [idled]
      · simp [idled]
      · have hslots : u.cmd.slots = s.cmd.slots := by rw [hcmd]
        have hsame := dowelGet_congr hslots (slotOf b.main.handle)
        have hdowel : dowelGet (bayMod (suspendCtx pb n false u) pb (idled s.tb.elapsed)) (slotOf b.main.handle) =
            dowelGet (suspendCtx pb n false u) (slotOf b.main.handle) := dowelGet_congr rfl _
        rw [hdowel, ← hsame, suspendCtx]
        simp [handOf, hbay, dowelGet_bayMod]
    · intro d base img hslot hending hreplay
      obtain ⟨t, ht, hbay⟩ := restoreDone_alone hst hn hfiller hnone hw hslot hending hreplay
      refine ⟨t, ?_, ?_, ?_, fun i hi => ?_, fun k hk => ?_⟩
      · show execRestoreComplete pb s = _
        rw [execRestoreComplete, if_pos hpb, ht]
      · rw [hbay]; rfl
      · rw [hbay]; rfl
      · rw [hbay, resumed_store, loadCtx_store, ctxParts_alone, tabGet_putBytes, length_memRead,
          if_pos ⟨Nat.zero_le i, by simpa using hi⟩, Nat.sub_zero, Nat.sub_zero,
          getD_memRead _ _ _ _ hi, Nat.add_zero]
      · rw [hbay, resumed_sills, loadCtx_sills, ctxParts_alone, tabGet_readSets, if_pos (show k < 128 * 4 from hk)]

end Sys2Proof.Proofs
end

section
/-!
SUPPORT. Laws of girts (R364–R369): what a miss, a window and a grant leave; with the settlement of the statement on girts.
-/

namespace Sys2Proof.Machine

theorem girtGet_girtPut (s : State) (p t c p' t' c' : Nat) (g : Girt) :
    girtGet (girtPut s p t c g) p' t' c' = if girtKey p' t' c' = girtKey p t c then g else girtGet s p' t' c' := by
  simp [girtGet, girtPut]

@[simp] theorem girtGet_girtPut_same (s : State) (p t c : Nat) (g : Girt) : girtGet (girtPut s p t c g) p t c = g := by
  rw [girtGet_girtPut, if_pos rfl]

theorem girtGet_congr {s u : State} (h : u.part = s.part) (p t c : Nat) : girtGet u p t c = girtGet s p t c := by
  simp only [girtGet, h]

theorem girtGet_cntInc (s : State) (a : Addr) (p t c : Nat) : girtGet (cntInc s a) p t c = girtGet s p t c := rfl

theorem msi_part (s : State) (p tgt : Nat) : (msi s p tgt).part = s.part := by
  have h := congrArg State.part (frame_msi (w := { imsic := true }) rfl s p tgt _ rfl).same
  exact h

theorem msi_regs (s : State) (p tgt : Nat) : (msi s p tgt).regs = s.regs := by
  have h := congrArg State.regs (frame_msi (w := { imsic := true }) rfl s p tgt _ rfl).same
  exact h

/-! ## Misses (R368) -/

/-- The first miss of a run is marked, shown and signalled. -/
theorem girtMiss_first {s : State} {p t c : Nat} (h : (girtGet s p t c).missing = false) :
    (girtMiss p t c s).part = (girtPut s p t c { girtGet s p t c with missing := true }).part ∧
      (girtMiss p t c s).regs = (regPut (cntInc s (Reg.GIRT_MISS_CNT p t c)) (Reg.GIRT_MISS_STAT p)
        (regGet (cntInc s (Reg.GIRT_MISS_CNT p t c)) (Reg.GIRT_MISS_STAT p) ||| BitVec.ofNat 32 (2 ^ (8 * t + c)))).regs := by
  unfold girtMiss
  simp only [h, Bool.false_eq_true, if_false]
  split
  · rw [msi_part, msi_regs]
    exact ⟨rfl, rfl⟩
  · exact ⟨rfl, rfl⟩

theorem girtMiss_again {s : State} {p t c : Nat} (h : (girtGet s p t c).missing = true) :
    girtMiss p t c s = cntInc s (Reg.GIRT_MISS_CNT p t c) := by
  simp [girtMiss, h]

/-- A miss marks its girt and no other. -/
theorem girtGet_girtMiss (s : State) (p t c p' t' c' : Nat) :
    girtGet (girtMiss p t c s) p' t' c' =
      if girtKey p' t' c' = girtKey p t c then { girtGet s p t c with missing := true } else girtGet s p' t' c' := by
  cases h : (girtGet s p t c).missing with
  | false => rw [girtGet_congr (girtMiss_first h).1, girtGet_girtPut]
  | true =>
    rw [girtMiss_again h, girtGet_cntInc]
    split
    · next hkey =>
      rw [show girtGet s p' t' c' = girtGet s p t c by simp only [girtGet, hkey], ← h]
    · rfl

/-- A miss changes no part of the partitions' state beside the girts. -/
theorem girtMiss_part (s : State) (p t c : Nat) : ∃ g, (girtMiss p t c s).part = { s.part with girts := g } := by
  cases h : (girtGet s p t c).missing with
  | false => exact ⟨_, (girtMiss_first h).1⟩
  | true => exact ⟨s.part.girts, by rw [girtMiss_again h]; rfl⟩

theorem missCnt_ne_missStat (p : Nat) {t c : Nat} (ht : t < 2) (hc : c < 8) : Reg.GIRT_MISS_CNT p t c ≠ Reg.GIRT_MISS_STAT p := by
  have ht' : t ≤ 1 := Nat.le_of_lt_succ ht
  have hc' : c ≤ 7 := Nat.le_of_lt_succ hc
  have hne : ∀ g q : Nat, g + 12 + q * 4096 + t * 256 + c * 32 ≠ g + 2048 + q * 4096 := by omega
  exact hne _ _

/-- A miss is counted (R368). -/
theorem girtMiss_counted {s : State} {p t c : Nat} (ht : t < 2) (hc : c < 8) :
    regGet (girtMiss p t c s) (Reg.GIRT_MISS_CNT p t c) =
      BitVec.ofNat 32 (min ((regGet s (Reg.GIRT_MISS_CNT p t c)).toNat + 1) 0x7FFFFFFF) := by
  have hcount : regGet (cntInc s (Reg.GIRT_MISS_CNT p t c)) (Reg.GIRT_MISS_CNT p t c) =
      BitVec.ofNat 32 (min ((regGet s (Reg.GIRT_MISS_CNT p t c)).toNat + 1) 0x7FFFFFFF) := by
    rw [cntInc, cntAdd, regGet_regPut, if_pos rfl]
  cases h : (girtGet s p t c).missing with
  | true => rw [girtMiss_again h, hcount]
  | false =>
    rw [regGet, (girtMiss_first h).2]
    exact (regGet_regPut _ _ _ _).trans ((if_neg (missCnt_ne_missStat p ht hc)).trans hcount)

/-! ## Windows (R365) -/

/-- What the end of a window leaves of a girt: nothing used, no request issued, the latency as it was. -/
def WindowOver (g h : Girt) : Prop := h.used = 0 ∧ h.active = false ∧ h.latNum = g.latNum

/-- The end of a window for one girt puts a girt whose window is over, which may then miss. -/
theorem windowGirt_puts (p t c : Nat) (s : State) :
    ∃ h, WindowOver (girtGet s p t c) h ∧
      (windowGirt p t c s = girtPut s p t c h ∨ windowGirt p t c s = girtMiss p t c (girtPut s p t c h)) := by
  unfold windowGirt
  extract_lets e g late k s1
  obtain ⟨h, hs1, hover⟩ : ∃ h, s1 = girtPut s p t c h ∧ WindowOver g h := ⟨_, rfl, rfl, rfl, rfl⟩
  by_cases hk : 4 ≤ k
  · exact ⟨h, hover, Or.inr (by rw [if_pos hk, hs1])⟩
  · exact ⟨h, hover, Or.inl (by rw [if_neg hk, hs1])⟩

theorem windowGirt_own (p t c : Nat) (s : State) : WindowOver (girtGet s p t c) (girtGet (windowGirt p t c s) p t c) := by
  obtain ⟨h, hover, heq | heq⟩ := windowGirt_puts p t c s
  · rw [heq, girtGet_girtPut_same]
    exact hover
  · rw [heq, girtGet_girtMiss, if_pos rfl, girtGet_girtPut_same]
    exact hover

theorem windowGirt_other {p t c p' t' c' : Nat} (hkey : girtKey p' t' c' ≠ girtKey p t c) (s : State) :
    girtGet (windowGirt p t c s) p' t' c' = girtGet s p' t' c' := by
  obtain ⟨h, -, heq | heq⟩ := windowGirt_puts p t c s
  · rw [heq, girtGet_girtPut, if_neg hkey]
  · rw [heq, girtGet_girtMiss, if_neg hkey, girtGet_girtPut, if_neg hkey]

theorem windowGirt_windows (p t c : Nat) (s : State) : (windowGirt p t c s).part.windows = s.part.windows := by
  obtain ⟨h, -, heq | heq⟩ := windowGirt_puts p t c s
  · rw [heq]
    rfl
  · obtain ⟨g, hg⟩ := girtMiss_part (girtPut s p t c h) p t c
    rw [heq, hg]
    rfl

/-- After the first girts have been dealt with, they alone have ended their window. -/
theorem girts_windows (s : State) (n : Nat) :
    let u := (List.range n).foldl (fun s k => windowGirt (k / 16) (k / 8 % 2) (k % 8) s) s
    u.part.windows = s.part.windows ∧
      ∀ p t c, t < 2 → c < 8 → if girtKey p t c < n then WindowOver (girtGet s p t c) (girtGet u p t c) else girtGet u p t c = girtGet s p t c := by
  induction n with
  | zero => exact ⟨rfl, fun p t c _ _ => by rw [if_neg (Nat.not_lt_zero _)]; rfl⟩
  | succ n ih =>
    intro u
    obtain ⟨v, hv⟩ : ∃ v, v = (List.range n).foldl (fun s k => windowGirt (k / 16) (k / 8 % 2) (k % 8) s) s := ⟨_, rfl⟩
    have hu : u = windowGirt (n / 16) (n / 8 % 2) (n % 8) v := by
      simp only [u, List.range_succ, List.foldl_append, List.foldl_cons, List.foldl_nil, hv]
    rw [← hv] at ih
    obtain ⟨hwindows, hgirts⟩ := ih
    refine ⟨by rw [hu, windowGirt_windows, hwindows], fun p t c ht hc => ?_⟩
    have h := hgirts p t c ht hc
    have hn : girtKey (n / 16) (n / 8 % 2) (n % 8) = n := by simp only [girtKey]; omega
    rw [hu]
    by_cases hkey : girtKey p t c = n
    · have hplace : p = n / 16 ∧ t = n / 8 % 2 ∧ c = n % 8 := by simp only [girtKey] at hkey; omega
      obtain ⟨rfl, rfl, rfl⟩ := hplace
      rw [if_neg (by omega)] at h
      rw [if_pos (by omega), ← h]
      exact windowGirt_own _ _ _ _
    · rw [windowGirt_other (by rw [hn]; exact hkey)]
      by_cases hlt : girtKey p t c < n
      · rw [if_pos hlt] at h; rw [if_pos (by omega)]; exact h
      · rw [if_neg hlt] at h; rw [if_neg (by omega)]; exact h

/-! ## Wheel slots (R366) -/

theorem slotOwner_bounds {s : State} {t p c : Nat} (h : slotOwner s t = some (p, c)) : p < 8 ∧ c < 8 := by
  unfold slotOwner at h
  simp only [] at h
  split at h
  · obtain ⟨rfl, rfl⟩ : nfld _ 3 3 = p ∧ nfld _ 0 3 = c := by simpa using h
    exact ⟨nfld_lt _ 3 3, nfld_lt _ 0 3⟩
  · simp at h

/-- Who owns a slot does not depend on the girts. -/
theorem slotOwner_girts {s u : State} {g : Tab Girt} (h : u.part = { s.part with girts := g }) (t : Nat) : slotOwner u t = slotOwner s t := by
  simp only [slotOwner, ptByte, h]
  rfl

/-! ## Grants (R364, R365, R367) -/

/-- A girt's level does not depend on which girts have requests. -/
theorem girtLevel_markActive (s : State) (t : Nat) (r : GirtReq) (p g c : Nat) : girtLevel (markActive t s r) p g c = girtLevel s p g c := by
  have hown : slotOwner (markActive t s r) g = slotOwner s g := slotOwner_girts (g := tabPut {} s.part.girts _ _) rfl g
  have hcfg : girtCfg (markActive t s r) p g c = girtCfg s p g c := rfl
  have hgirt : (girtGet (markActive t s r) p g c).used = (girtGet s p g c).used ∧
      (girtGet (markActive t s r) p g c).latNum = (girtGet s p g c).latNum ∧
      (girtGet (markActive t s r) p g c).latExp = (girtGet s p g c).latExp := by
    rw [markActive, girtGet_girtPut]
    split
    · next hkey => simp only [girtGet, hkey, and_self]
    · exact ⟨rfl, rfl, rfl⟩
  obtain ⟨hused, hnum, hexp⟩ := hgirt
  simp only [girtLevel, overBudget, hown, hcfg, hused, hnum, hexp]
  rfl

theorem forfeit_girt (p t c : Nat) (s : State) (p' t' c' : Nat) :
    (girtGet (forfeit p t c s) p' t' c').used = (girtGet s p' t' c').used ∧
      (girtGet (forfeit p t c s) p' t' c').latNum = (girtGet s p' t' c').latNum ∧
      (girtGet (forfeit p t c s) p' t' c').latExp = (girtGet s p' t' c').latExp := by
  unfold forfeit
  simp only []
  split
  · rw [girtGet_cntInc, girtGet_girtPut]
    split
    · next hkey => simp only [girtGet, hkey, and_self]
    · exact ⟨rfl, rfl, rfl⟩
  · exact ⟨rfl, rfl, rfl⟩

/-- The grant of a request charges its girt the units of its bytes and updates its latency. -/
theorem chargeReq_girt (t : Nat) (r : GirtReq) (s : State) :
    (girtGet (chargeReq t r s) r.part t r.cls).used = (girtGet s r.part t r.cls).used + (r.bytes + 63) / 64 ∧
      (girtGet (chargeReq t r s) r.part t r.cls).latNum =
        255 * (girtGet s r.part t r.cls).latNum + r.latency * 256 ^ (girtGet s r.part t r.cls).latExp ∧
      (girtGet (chargeReq t r s) r.part t r.cls).latExp = (girtGet s r.part t r.cls).latExp + 1 := by
  unfold chargeReq
  simp only []
  obtain ⟨hused, hnum, hexp⟩ := forfeit_girt r.part t r.cls _ r.part t r.cls
  rw [hused, hnum, hexp]
  split
  · rw [girtGet_cntInc, girtGet_girtPut_same]
    exact ⟨rfl, rfl, rfl⟩
  · rw [girtGet_girtPut_same]
    exact ⟨rfl, rfl, rfl⟩

/-- Of two requests the one of the higher level is picked, wherever it stands. -/
theorem pickReq_higher {s : State} {t : Nat} (last : Nat) {r q : GirtReq} (h : girtLevel s q.part t q.cls < girtLevel s r.part t r.cls) :
    pickReq s t last [r, q] = some r ∧ pickReq s t last [q, r] = some r := by
  have hnot : ¬girtLevel s r.part t r.cls < girtLevel s q.part t q.cls := by omega
  exact ⟨by simp [pickReq, h], by simp [pickReq, h, hnot]⟩

/-- The request that is picked is granted. -/
theorem grant_picked {s : State} {target t : Nat} {l : List GirtReq} {r : GirtReq} (ht : t = if target < 32 then 0 else 1)
    (h : pickReq (l.foldl (markActive t) s) t (tabGet 63 (l.foldl (markActive t) s).part.lastGrant target) l = some r) :
    let u := chargeReq t r (l.foldl (markActive t) s)
    grant target l s = { u with part := { u.part with lastGrant := tabPut 63 u.part.lastGrant target (reqIndex r) } } := by
  unfold grant
  simp only [← ht, h]

end Sys2Proof.Machine

namespace Sys2Proof.Proofs
open Sys2Proof.Machine

/-- Settles O46. -/
theorem girtScheduling : Obligations.GirtScheduling := by
  intro s
  refine ⟨fun hdue => ?_, fun p c hdue hturn hown hnone hforfeited => ?_, fun target r htarget hpart hcls => ?_,
    fun target r q htarget hpart hcls hqpart hqcls hlevel l hl => ?_⟩
  · obtain ⟨u, hu⟩ : ∃ u : State, u = { s with part := { s.part with windows := s.part.windows + 1 } } := ⟨_, rfl⟩
    obtain ⟨hwindows, hgirts⟩ := girts_windows u 128
    refine ⟨_, congrArg Host.Outcome.next ((if_pos hdue).trans (congrArg _ hu.symm)), hwindows.trans (by rw [hu]), fun p g c hp hg hc => ?_⟩
    have h := hgirts p g c hg hc
    rw [if_pos (by simp only [girtKey]; omega)] at h
    obtain ⟨hused, hactive, hlat⟩ := h
    exact ⟨hused, hactive, hlat.trans (by rw [hu]; rfl)⟩
  · obtain ⟨hp, hc⟩ := slotOwner_bounds hown
    refine ⟨?_, girtMiss_counted (by decide) hc, by rw [girtGet_girtMiss, if_pos rfl]⟩
    obtain ⟨g, hg⟩ := girtMiss_part s p 0 c
    have hend : endSlot 0 true s = girtMiss p 0 c s := by simp [endSlot, hown, hforfeited]
    have hloft : endSlot 1 false (girtMiss p 0 c s) = girtMiss p 0 c s := by
      have : slotOwner (girtMiss p 0 c s) 1 = none := (slotOwner_girts hg 1).trans hnone
      simp [endSlot, this]
    have hslots : (nextSlot (girtMiss p 0 c s)).part.wheelSlots % 64 ≠ 0 := by
      rw [nextSlot, hg]
      exact hturn
    refine congrArg Host.Outcome.next ((if_pos hdue).trans ?_)
    rw [hend, hloft, slotBegins, if_neg hslots]
  · intro g
    have hpick := grant_picked (s := s) (target := target) (t := g) (l := [r]) (r := r) rfl rfl
    refine ⟨_, (if_pos (by simp [htarget, hpart, hcls])).trans (congrArg Host.Outcome.next hpick), ?_⟩
    obtain ⟨hused, hnum, hexp⟩ := chargeReq_girt g r (markActive g s r)
    rw [markActive, girtGet_girtPut_same] at hused hnum hexp
    exact ⟨hused, hnum, hexp⟩
  · obtain ⟨t, ht⟩ : ∃ t, t = if target < 32 then 0 else 1 := ⟨_, rfl⟩
    rw [← ht] at hlevel
    have hmarked : ∀ a b, girtLevel ([a, b].foldl (markActive t) s) q.part t q.cls < girtLevel ([a, b].foldl (markActive t) s) r.part t r.cls := by
      intro a b
      simp only [List.foldl_cons, List.foldl_nil, girtLevel_markActive]
      exact hlevel
    have hpick : pickReq (l.foldl (markActive t) s) t (tabGet 63 (l.foldl (markActive t) s).part.lastGrant target) l = some r := by
      simp only [List.mem_cons, List.not_mem_nil, or_false] at hl
      obtain rfl | rfl := hl
      · exact (pickReq_higher _ (hmarked r q)).1
      · exact (pickReq_higher _ (hmarked q r)).2
    have hall : (decide (target < 80) && l.all (fun r => decide (r.part < 8) && decide (r.cls < 8))) = true := by
      simp only [List.mem_cons, List.not_mem_nil, or_false] at hl
      obtain rfl | rfl := hl <;> simp [htarget, hpart, hcls, hqpart, hqcls]
    refine ⟨_, (if_pos hall).trans (congrArg Host.Outcome.next (grant_picked ht hpick)), ?_⟩
    rw [tabGet_put, if_pos rfl]

end Sys2Proof.Proofs
end

section
/-!
SUPPORT. Laws of repair in service (chapter 11): fence events, the retirement point, jointer hangs and the memory patrol; with the
settlement of the statement on them.
-/

namespace Sys2Proof.Machine

/-- What a fault report cannot reach of repair: the maps of bays and jointers and the repair state itself. -/
structure RepairKept (s t : State) : Prop where
  bayMap : t.bayMap = s.bayMap
  repair : t.repair = s.repair
  jmap : t.jmap = s.jmap
  jointers : t.jointers = s.jointers

theorem RepairKept.of_faultReach {s t : State} (h : Within Parts.faultReach s t) : RepairKept s t := by
  have hmap := congrArg State.bayMap h.same
  have hrepair := congrArg State.repair h.same
  have hjmap := congrArg State.jmap h.same
  have hjointers := congrArg State.jointers h.same
  exact ⟨hmap, hrepair, hjmap, hjointers⟩

theorem RepairKept.trans {s t u : State} (h : RepairKept s t) (k : RepairKept t u) : RepairKept s u :=
  ⟨k.bayMap.trans h.bayMap, k.repair.trans h.repair, k.jmap.trans h.jmap, k.jointers.trans h.jointers⟩

theorem raise_repairKept (n : Nat) (p : Option Nat) (d : Nat) (s : State) : RepairKept s (raise n p d s) :=
  .of_faultReach (frame_raise rfl n p d s _ rfl)

theorem repairEvent_repairKept (u : Nat) (b : Bool) (o : Nat) (n : Option Nat) (c : Nat) (s : State) : RepairKept s (repairEvent u b o n c s) :=
  .of_faultReach (frame_repairEvent rfl u b o n c s _ rfl)

theorem replayBent_repairKept (k : Nat) (s : State) : RepairKept s (replayBent k s) := .of_faultReach (frame_replayBent rfl k s _ rfl)

theorem dropJointerWork_repairKept (k : Nat) (s : State) : RepairKept s (dropJointerWork k s) :=
  .of_faultReach (frame_dropJointerWork rfl k s _ rfl)

theorem putDigest_repairKept (s : State) : RepairKept s (putDigest s) := .of_faultReach (frame_putDigest rfl s _ rfl)

theorem cntInc_repairKept (s : State) (a : Addr) : RepairKept s (cntInc s a) := ⟨rfl, rfl, rfl, rfl⟩

theorem regPut_repairKept (s : State) (a : Addr) (v : Word32) : RepairKept s (regPut s a v) := ⟨rfl, rfl, rfl, rfl⟩

theorem landWrites_repairKept (s : State) : RepairKept s (landWrites s) := .of_faultReach (frame_landWrites rfl s _ rfl)

/-- A pending entry changes the pending entries alone. -/
theorem addPending_eq (e : List Byte) (s : State) :
    ∃ l, addPending e s = { s with repair := { s.repair with pendingEntries := l } } := by
  unfold addPending
  split
  · exact ⟨_, rfl⟩
  · exact ⟨s.repair.pendingEntries, rfl⟩

theorem lbPhys_bayMap {s t : State} (h : t.bayMap = s.bayMap) (n : Nat) : lbPhys t n = lbPhys s n := by simp only [lbPhys, h]

theorem pbLogical_bayMap {s t : State} (h : t.bayMap = s.bayMap) (pb : Nat) : pbLogical t pb = pbLogical s pb := by
  simp only [pbLogical, lbPhys_bayMap h]

/-- A number is taken from its bay. -/
theorem lbPhys_put_zero {s t : State} {lb : Nat} (h : t.bayMap = tabPut 0 s.bayMap lb 0) (m : Nat) :
    lbPhys t m = if m = lb then none else lbPhys s m := by
  simp only [lbPhys, h, tabGet_put]
  by_cases hm : m = lb
  · rw [if_pos hm, if_pos hm]
  · rw [if_neg hm, if_neg hm]

/-- A number is given to a bay. -/
theorem lbPhys_put_succ {s t : State} {lb k : Nat} (h : t.bayMap = tabPut 0 s.bayMap lb (k + 1)) (m : Nat) :
    lbPhys t m = if m = lb then some k else lbPhys s m := by
  simp only [lbPhys, h, tabGet_put]
  by_cases hm : m = lb
  · rw [if_pos hm, if_pos hm]
  · rw [if_neg hm, if_neg hm]

/-! ## The start of a plumb run (R457) -/

/-- A bay at the start of a plumb run. -/
def plumbStart (now why : Nat) (b : Bay) : Bay :=
  { b with
    st := .plumb, plumbFor := why, gated := false, phaseSince := now, cache := [], badAhead := [],
    main := { b.main with
      active := true, pc := 0, ended := false, stopped := false, wait := .none, progid := 0xFFFF, handle := 0,
      plumbSig := 0 } }

theorem bayGet_startPlumb (s : State) (pb why q : Nat) :
    bayGet (startPlumb s pb why) q = if q = pb then plumbStart s.tb.elapsed why (bayGet s pb) else bayGet s q :=
  bayGet_bayMod s pb q (plumbStart s.tb.elapsed why)

theorem bayGet_zeroStore (s : State) (pb q : Nat) :
    bayGet (zeroStore s pb) q = if q = pb then { bayGet s pb with store := [] } else bayGet s q := bayGet_bayMod s pb q _

/-! ## Spares (R421, R428) -/

theorem chooseSpare_free {s : State} {n sp : Nat} (h : chooseSpare s n = some sp) : freeSpare s sp = true := by
  have hmem : sp ∈ (List.range bayCount).filter (freeSpare s) := by
    unfold chooseSpare at h
    simp only [] at h
    split at h
    · next hfind => exact (Option.some.inj h) ▸ List.mem_of_find?_eq_some hfind
    · exact List.mem_of_mem_head? h
  exact (List.mem_filter.mp hmem).2

theorem freeSpare_unmapped {s : State} {sp : Nat} (h : freeSpare s sp = true) : pbLogical s sp = none := by
  simp only [freeSpare, isSpare, Bool.and_eq_true, Option.isNone_iff_eq_none] at h
  exact h.1.1.1.1.2

/-- A substitution that is served has a spare that runs its plumb run with its store zeroed, or none; a bay that holds a number
stays as it is. -/
theorem serveSubst_leaves {s : State} {pb n : Nat} (hn : pbLogical s pb = some n) (x : Subst) :
    bayGet (serveSubst s x) pb = bayGet s pb ∧ (serveSubst s x).regs = s.regs ∧
      (x ∈ s.repair.substs → ∃ sp, { x with spare := sp, passed := false } ∈ (serveSubst s x).repair.substs ∧
        ∀ k, sp = some k → k ≠ pb ∧ (bayGet (serveSubst s x) k).st = .plumb ∧ (bayGet (serveSubst s x) k).store = []) := by
  have hmem : ∀ sp : Option Nat, x ∈ s.repair.substs → { x with spare := sp, passed := false } ∈
      s.repair.substs.map (fun y => if y.lb = x.lb then { y with spare := sp, passed := false } else y) :=
    fun sp hx => List.mem_map.mpr ⟨x, hx, if_pos rfl⟩
  unfold serveSubst
  cases hsp : chooseSpare s x.lb with
  | none => exact ⟨rfl, rfl, fun hx => ⟨none, hmem none hx, fun k hk => by simp at hk⟩⟩
  | some sp =>
    have hne : sp ≠ pb := fun heq => by
      have := freeSpare_unmapped (chooseSpare_free hsp)
      rw [heq, hn] at this
      simp at this
    refine ⟨?_, rfl, fun hx => ⟨some sp, hmem (some sp) hx, fun k hk => ?_⟩⟩
    · simp only [bayGet_startPlumb, bayGet_zeroStore, if_neg (Ne.symm hne)]
      rfl
    · obtain rfl : sp = k := Option.some.inj hk
      simp only [bayGet_startPlumb, bayGet_zeroStore, if_true]
      exact ⟨hne, rfl, rfl⟩

/-! ## Fence events (R106, R107) -/

/-- A fence of a bay whose device runs no job: the bay is isolated, the event is recorded, and its substitution is served. -/
theorem fenceBay_quiet {s : State} {pb n : Nat} (cause : Nat) (hf : (bayGet s pb).st ≠ .fenced) (hr : (bayGet s pb).st ≠ .retired)
    (hn : pbLogical s pb = some n) (hquiet : ∀ e ∈ s.cmd.slots, e.2.st ≠ .running) :
    let x : Subst := { lb := n, pb := pb, cause := cause }
    let s1 := regPut (bayPut s pb { isolate (bayGet s pb) with st := .fenced }) (Reg.BAY_FENCE n) (BitVec.ofNat 32 (2 ^ 31 + pb * 256 + cause))
    fenceBay raise pb cause s = serveSubst { s1 with repair := { s1.repair with substs := s1.repair.substs ++ [x] } } x := by
  intro x s1
  have hjobs : jobsOn s1 n = [] := by
    rw [jobsOn, List.map_eq_nil_iff, List.filter_eq_nil_iff]
    intro e he
    have := hquiet e he
    simp [this]
  have hstop : s1.cmd.slots.filter (fun (k, d) =>
      decide (d.st = .running) && d.ending.isSome && (jobHands s1 (handleOf s1 k)).isEmpty) = [] := by
    rw [List.filter_eq_nil_iff]
    intro e he
    have := hquiet e he
    simp [this]
  unfold fenceBay
  rw [if_neg (not_or.mpr ⟨hf, hr⟩), hn]
  show serveSubst _ _ = _
  simp only [show regPut (bayPut s pb { isolate (bayGet s pb) with st := .fenced }) (Reg.BAY_FENCE n)
    (BitVec.ofNat 32 (2 ^ 31 + pb * 256 + cause)) = s1 from rfl, hjobs, List.foldl_nil, hstop, List.map_nil]
  rfl

/-! ## The retirement point (R430, R436) -/

/-- The jobs stopped for a dropped number leave the maps and the repair state as they are. -/
theorem foldl_stopJob_repairKept (l : List Nat) (s : State) :
    RepairKept s (l.foldl (fun s k => stopJob raise k .doneFault 0x3002 s) s) :=
  foldl_keeps (keep := RepairKept s) (fun u k hu => hu.trans (.of_faultReach
    (frame_stopJob rfl (fun n p d t => frame_raise rfl n p d t) k .doneFault 0x3002 u _ rfl))) l ⟨rfl, rfl, rfl, rfl⟩

/-- A number that is dropped is held by no bay; the others are held as before. -/
theorem lbPhys_dropNumber (lb : Nat) (s : State) (m : Nat) : lbPhys (dropNumber lb s) m = if m = lb then none else lbPhys s m := by
  unfold dropNumber
  extract_lets s1 s2
  have hkept : RepairKept s2 _ := (RepairKept.of_faultReach (frame_raiseDropped rfl lb s2 _ rfl)).trans
    (foldl_stopJob_repairKept (replaysOn s2 lb) (raiseDropped lb s2))
  rw [lbPhys_bayMap hkept.bayMap]
  have hmap : s2.bayMap = s1.bayMap := ((regPut_repairKept s1 _ _).trans (putDigest_repairKept _)).bayMap
  rw [lbPhys_bayMap hmap]
  cases hlb : lbPhys s lb with
  | some pb =>
    have hs1 : s1.bayMap = tabPut 0 s.bayMap lb 0 := by simp only [s1, hlb]; rfl
    exact lbPhys_put_zero hs1 m
  | none =>
    have hs1 : s1 = s := by simp only [s1, hlb]
    rw [hs1]
    split
    · next hm => rw [hm, hlb]
    · rfl

theorem dropNumber_repair (lb : Nat) (s : State) : (dropNumber lb s).repair = s.repair := by
  have h := congrArg State.repair (frame_dropNumber (w := { Parts.faultReach with bayMap := true }) rfl lb s _ rfl).same
  exact h

/-- A pending entry keeps the maps and the substitutions. -/
theorem addPending_kept (e : List Byte) (s : State) :
    (addPending e s).bayMap = s.bayMap ∧ (addPending e s).repair.substs = s.repair.substs := by
  obtain ⟨l, hl⟩ := addPending_eq e s
  rw [hl]
  exact ⟨rfl, rfl⟩

/-- The number of a substitution passes to its spare. -/
theorem passNumber_leaves (x : Subst) (sp : Nat) (s : State) :
    (passNumber x sp s).bayMap = tabPut 0 s.bayMap x.lb (sp + 1) ∧ (passNumber x sp s).repair.substs = s.repair.substs := by
  unfold passNumber
  extract_lets r0 s0 s1 s2
  have hraise : RepairKept s1 s2 := (putDigest_repairKept s1).trans ((cntInc_repairKept _ Reg.GLOBAL_SUBST_CNT).trans (raise_repairKept 0x060 none 0 (cntInc (putDigest s1) Reg.GLOBAL_SUBST_CNT)))
  have hmap1 : s1.bayMap = tabPut 0 s.bayMap x.lb (sp + 1) := rfl
  have hsubsts1 : s1.repair.substs = s.repair.substs := rfl
  obtain ⟨hmap, hsubsts⟩ := addPending_kept (logEntry 1 x.cause x.pb 0) s2
  have hevent := repairEvent_repairKept x.lb false x.pb (some sp) x.cause (addPending (logEntry 1 x.cause x.pb 0) s2)
  exact ⟨hevent.bayMap.trans (hmap.trans (hraise.bayMap.trans hmap1)),
    (congrArg RepairSt.substs hevent.repair).trans (hsubsts.trans ((congrArg RepairSt.substs hraise.repair).trans hsubsts1))⟩

/-- A retirement point passes the number to its spare, or to none, and ends its substitution. -/
theorem retire_leaves {s : State} {x : Subst} (hpassed : ∀ sp, x.spare = some sp → x.passed = true) :
    lbPhys (retire x s) x.lb = x.spare ∧ (∀ m, m ≠ x.lb → lbPhys (retire x s) m = lbPhys s m) ∧
      (retire x s).repair.substs = s.repair.substs.filter (fun y => decide (y.lb ≠ x.lb)) := by
  obtain ⟨s0, hs0⟩ : ∃ s0, s0 = { s with repair := { s.repair with substs := s.repair.substs.filter (fun y => decide (y.lb ≠ x.lb)) } } :=
    ⟨_, rfl⟩
  have hmap0 : s0.bayMap = s.bayMap := by rw [hs0]
  have hsubsts0 : s0.repair.substs = s.repair.substs.filter (fun y => decide (y.lb ≠ x.lb)) := by rw [hs0]
  cases hsp : x.spare with
  | some sp =>
    have hretire : retire x s = passNumber x sp s0 := by simp [retire, hsp, hpassed sp hsp, hs0]
    obtain ⟨hmap, hsubsts⟩ := passNumber_leaves x sp s0
    rw [hmap0] at hmap
    rw [hretire]
    exact ⟨(lbPhys_put_succ hmap _).trans (if_pos rfl), fun m hm => (lbPhys_put_succ hmap m).trans (if_neg hm), hsubsts.trans hsubsts0⟩
  | none =>
    have hretire : retire x s =
        repairEvent x.lb false x.pb none x.cause (addPending (logEntry 1 x.cause x.pb 0) (dropNumber x.lb s0)) := by
      simp [retire, hsp, hs0]
    obtain ⟨hmap, hsubsts⟩ := addPending_kept (logEntry 1 x.cause x.pb 0) (dropNumber x.lb s0)
    have hevent := repairEvent_repairKept x.lb false x.pb none x.cause (addPending (logEntry 1 x.cause x.pb 0) (dropNumber x.lb s0))
    have hphys : ∀ m, lbPhys (retire x s) m = if m = x.lb then none else lbPhys s m := fun m => by
      rw [hretire, lbPhys_bayMap (hevent.bayMap.trans hmap), lbPhys_dropNumber, lbPhys_bayMap hmap0]
    refine ⟨(hphys _).trans (if_pos rfl), fun m hm => (hphys m).trans (if_neg hm), ?_⟩
    rw [hretire, hevent.repair, hsubsts, dropNumber_repair, hsubsts0]

/-! ## Jointer hangs (R438) -/

/-- The state in which a hung jointer is out of service and the work of its bent has been dropped. -/
def jointerOut (pj k : Nat) (s : State) : State :=
  addPending (logEntry 2 6 pj 0)
    (replayBent k (dropJointerWork k { s with jointers := tabPut {} s.jointers pj { tabGet {} s.jointers pj with retired := true } }))

/-- What decides which jointer is spare is as it was when the jointer was taken out of service. -/
theorem jointerOut_kept (pj k : Nat) (s : State) :
    (jointerOut pj k s).jmap = s.jmap ∧
      (jointerOut pj k s).jointers = tabPut {} s.jointers pj { tabGet {} s.jointers pj with retired := true } ∧
      (jointerOut pj k s).repair.badJointers = s.repair.badJointers := by
  obtain ⟨s1, hs1⟩ : ∃ s1 : State, s1 = { s with jointers := tabPut {} s.jointers pj { tabGet {} s.jointers pj with retired := true } } := ⟨_, rfl⟩
  have hkept := (dropJointerWork_repairKept k s1).trans (replayBent_repairKept k (dropJointerWork k s1))
  have hout : jointerOut pj k s = addPending (logEntry 2 6 pj 0) (replayBent k (dropJointerWork k s1)) := by rw [hs1, jointerOut]
  obtain ⟨s2, hs2⟩ : ∃ s2, s2 = replayBent k (dropJointerWork k s1) := ⟨_, rfl⟩
  rw [← hs2] at hkept hout
  obtain ⟨l, hl⟩ := addPending_eq (logEntry 2 6 pj 0) s2
  rw [hout, hl]
  refine ⟨hkept.jmap.trans (by rw [hs1]), hkept.jointers.trans (by rw [hs1]), ?_⟩
  exact (congrArg RepairSt.badJointers hkept.repair).trans (by rw [hs1])

/-- A jointer that hangs gives its bent to the lowest spare. -/
theorem jointerHang_spare {s : State} {pj k j : Nat} (hk : jointerBent s pj = some k) (hbusy : jointerBusy s k = true)
    (hj : (List.range 9).find? (spareJointer { s with jointers := tabPut {} s.jointers pj { tabGet {} s.jointers pj with retired := true } }) =
      some j) :
    (tabGet {} (jointerHang pj s).jointers pj).retired = true ∧ bentJointer (jointerHang pj s) k = some j ∧
      ∀ m, m ≠ k → bentJointer (jointerHang pj s) m = bentJointer s m := by
  obtain ⟨hjmap, hjointers, hbad⟩ := jointerOut_kept pj k s
  have hspare : spareJointer (jointerOut pj k s) =
      spareJointer { s with jointers := tabPut {} s.jointers pj { tabGet {} s.jointers pj with retired := true } } := by
    funext i
    simp only [spareJointer, jointerBad, jointerBent, bentJointer, hjmap, hjointers, hbad]
    rfl
  rw [← hspare] at hj
  obtain ⟨s3, hs3⟩ : ∃ s3, s3 = { jointerOut pj k s with jmap := tabPut 0 (jointerOut pj k s).jmap k (j + 1) } := ⟨_, rfl⟩
  have heq : jointerHang pj s = repairEvent (bentBase s + k) true pj (some j) 6
      (raise 0x061 none 0 (cntInc (putDigest s3) Reg.GLOBAL_SUBST_CNT)) := by
    unfold jointerHang
    simp only [hk, hbusy, Bool.not_true, Bool.false_eq_true, if_false]
    rw [show addPending (logEntry 2 6 pj 0) _ = jointerOut pj k s from rfl]
    simp only [hj, hs3]
  have hkept : RepairKept s3 (jointerHang pj s) := by
    rw [heq]
    exact ((putDigest_repairKept s3).trans (cntInc_repairKept _ Reg.GLOBAL_SUBST_CNT)).trans
      ((raise_repairKept _ _ _ _).trans (repairEvent_repairKept _ _ _ _ _ _))
  have hjmap3 : (jointerHang pj s).jmap = tabPut 0 s.jmap k (j + 1) := hkept.jmap.trans (by rw [hs3, hjmap])
  have hjointers3 : (jointerHang pj s).jointers = tabPut {} s.jointers pj { tabGet {} s.jointers pj with retired := true } :=
    hkept.jointers.trans (by rw [hs3, hjointers])
  refine ⟨by rw [hjointers3, tabGet_put, if_pos rfl], ?_, fun m hm => ?_⟩
  · simp only [bentJointer, hjmap3, tabGet_put, if_true]
  · simp only [bentJointer, hjmap3, tabGet_put, if_neg hm]

/-! ## The memory patrol (R443–R445) -/

/-- The state in which the patrol of a bay has moved on to its next row. -/
def patrolMoved (pb : Nat) (s : State) : State :=
  { s with repair := { s.repair with patrolRow := tabPut 0 s.repair.patrolRow pb ((tabGet 0 s.repair.patrolRow pb + 1) % 10240) } }

/-- The test of a row of a bay's macros. -/
theorem patrolRow_bay (pb : Nat) (bad : Bool) (s : State) :
    patrolRow 1 pb pb (80 * pb) 10240 128 bad s =
      if bad then patrolBad 1 pb (80 * pb + tabGet 0 s.repair.patrolRow pb / 128) (tabGet 0 s.repair.patrolRow pb % 128) (patrolMoved pb s)
      else patrolMoved pb s := rfl

/-- The row that a burn leaves in the field repair log (R439, R441). -/
def burnRow (s : State) (e : List Byte) (ok : Bool) : List Byte :=
  let full := withCheck (e ++ leBytes 4 (regGet s Reg.SEAL_EPOCH).toNat)
  if ok then full else 0xFF#8 :: full.drop 1

/-! ## Sealed commands -/

/-- An accepted sealed command is taken and takes effect. -/
theorem sealRun_waits {s : State} {c : Nat} {x : SealCmd} (h : sealedWaits s c x) (eff : SealCmd → State → State) :
    sealRun c eff s = eff x (sealedTaken s) := by
  obtain ⟨hx, hc⟩ := h
  simp only [sealRun, hx, hc, if_true]
  rfl

end Sys2Proof.Machine

namespace Sys2Proof.Proofs
open Sys2Proof.Machine

/-- Settles O47. -/
theorem repairEvents : Obligations.RepairEvents := by
  intro s pb n hpb b
  refine ⟨fun cause hlow hhigh hfenced hretired hn hquiet => ?_, fun hst => ?_, fun hst => ?_, ?_, fun x hn hfind hpassed => ?_,
    fun hspare hst => ?_, fun pj k j hpj hk hbusy hj => ?_, ?_, fun x hx hburn => ?_, fun e k ok hburn => ?_, fun x hx => ?_⟩
  · have heq := fenceBay_quiet cause hfenced hretired hn hquiet
    simp only [] at heq
    obtain ⟨x, hx⟩ : ∃ x : Subst, x = { lb := n, pb := pb, cause := cause } := ⟨_, rfl⟩
    obtain ⟨s1, hs1⟩ : ∃ s1, s1 = regPut (bayPut s pb { isolate (bayGet s pb) with st := .fenced }) (Reg.BAY_FENCE n)
      (BitVec.ofNat 32 (2 ^ 31 + pb * 256 + cause)) := ⟨_, rfl⟩
    rw [← hx, ← hs1] at heq
    obtain ⟨s2, hs2⟩ : ∃ s2, s2 = { s1 with repair := { s1.repair with substs := s1.repair.substs ++ [x] } } := ⟨_, rfl⟩
    rw [← hs2] at heq
    have hlogical : pbLogical s2 pb = some n := by rw [hs2, hs1]; exact hn
    obtain ⟨hbay, hregs, hsub⟩ := serveSubst_leaves hlogical x
    obtain ⟨sp, hmem, hrun⟩ := hsub (by rw [hs2]; simp)
    have hbay2 : bayGet s2 pb = { isolate (bayGet s pb) with st := .fenced } := by
      rw [hs2, hs1]
      exact (bayGet_bayPut s pb pb { isolate (bayGet s pb) with st := .fenced }).trans (if_pos rfl)
    have hreg : regGet (serveSubst s2 x) (Reg.BAY_FENCE n) = BitVec.ofNat 32 (2 ^ 31 + pb * 256 + cause) := by
      have hregs2 : s2.regs = s1.regs := by rw [hs2]
      simp only [regGet, hregs, hregs2, hs1]
      exact (regGet_regPut _ _ _ _).trans (if_pos rfl)
    refine ⟨serveSubst s2 x, ?_, by rw [hbay, hbay2], by rw [hbay, hbay2]; rfl, by rw [hbay, hbay2]; rfl, by rw [hbay, hbay2]; rfl,
      by rw [hbay, hbay2]; rfl, hreg, _, hmem, by rw [hx], by rw [hx], by rw [hx], hrun⟩
    exact (if_pos hpb).trans (congrArg Host.Outcome.next ((if_pos ⟨hlow, hhigh⟩).trans heq))
  · have hhang : bayHang pb s = fenceBay raise pb 3 s := if_pos hst
    exact (if_pos hpb).trans ((congrArg Host.Outcome.next hhang).trans (if_pos hpb).symm)
  · have hrun : b.st ≠ .running := by rw [hst]; decide
    exact (if_pos hpb).trans (congrArg Host.Outcome.next ((if_neg hrun).trans (if_pos hst)))
  · exact if_pos hpb
  · obtain ⟨hown, hothers, hsubsts⟩ := retire_leaves (s := s) hpassed
    have hlb : x.lb = n := by simpa using List.find?_some hfind
    have hland := landWrites_repairKept (retire x s)
    rw [hlb] at hown hothers hsubsts
    refine ⟨landWrites (retire x s), ?_, (lbPhys_bayMap hland.bayMap n).trans hown,
      fun m hm => (lbPhys_bayMap hland.bayMap m).trans (hothers m hm), fun y hy => ?_⟩
    · show execRetirementPoint n s = _
      rw [execRetirementPoint, if_pos hn, hfind]
    · rw [hland.repair, hsubsts] at hy
      simpa using (List.mem_filter.mp hy).2
  · refine ⟨startPlumb s pb 3, ?_, ?_⟩
    · exact (if_pos hpb).trans (congrArg Host.Outcome.next (if_pos (by simp only [hspare, b] at hst ⊢; simp [hst])))
    · simp only [bayGet_startPlumb, if_true]
      exact ⟨rfl, rfl, rfl, rfl, rfl⟩
  · exact ⟨_, if_pos hpj, jointerHang_spare hk hbusy hj⟩
  · intro r mac used hon hpatrol
    have hgo : (regBit s Reg.GLOBAL_PATROL_CFG 31 && patrolBay s pb) = true := by rw [hon, hpatrol]; rfl
    have hexec : ∀ bad, exec (.patrolRowTest false pb bad) s = .next (patrolRow 1 pb pb (80 * pb) 10240 128 bad s) := fun bad =>
      (if_pos hpb).trans (congrArg Host.Outcome.next (if_pos hgo))
    have hrow : tabGet 0 (patrolMoved pb s).repair.patrolRow pb = (r + 1) % 10240 := by
      simp only [patrolMoved, tabGet_put, if_true, r]
    refine ⟨⟨patrolMoved pb s, hexec false, hrow, rfl, rfl, rfl⟩, ?_⟩
    by_cases hused : used < 4
    · refine ⟨{ patrolMoved pb s with repair := { (patrolMoved pb s).repair with
        rowsUsed := tabPut 0 s.repair.rowsUsed mac (used + 1) } }, hrow, rfl, fun _ => ⟨by simp only [tabGet_put, if_true], ?_⟩,
        fun hfull => absurd hused (Nat.not_lt.mpr hfull)⟩
      rw [hexec true, patrolRow_bay, if_pos rfl]
      exact congrArg Host.Outcome.next (if_pos hused)
    · refine ⟨patrolMoved pb s, hrow, rfl, fun hfree => absurd hfree hused, fun _ => ?_⟩
      rw [hexec true, patrolRow_bay, if_pos rfl]
      exact congrArg Host.Outcome.next (if_neg hused)
  · have hexec : exec .repairCommit s = .next (repairCommit x (sealedTaken s)) := by
      refine congrArg Host.Outcome.next ((if_pos ?_).trans (sealRun_waits hx repairCommit))
      rw [hburn]; rfl
    refine ⟨fun c htest => ?_, fun htest => ?_⟩
    · rw [hexec, repairCommit, htest]
    · rw [hexec, repairCommit, htest]
      rfl
  · refine ⟨{ s with repair := { s.repair with
        burning := none, used := s.repair.used + 1
        fieldLog := tabPut [] s.repair.fieldLog s.repair.used (burnRow s e ok)
        pendingEntries := if ok then s.repair.pendingEntries.filter (fun x => decide (x ≠ e)) else s.repair.pendingEntries } }, ?_, rfl, ?_⟩
    · refine congrArg Host.Outcome.next ?_
      rw [burnDone, hburn]
      rfl
    · intro row
      exact (tabGet_put _ _ _ _ _).trans (if_pos rfl)
  · have hexec : exec .gradeLock s = .next (gradeLock x (sealedTaken s)) := congrArg Host.Outcome.next (sealRun_waits hx gradeLock)
    have hkept : repairLife (sealedTaken s) = repairLife s := rfl
    refine ⟨fun hlife => ?_, fun hlife hgrade => ?_, fun hlife hgrade hlocked => ?_⟩
    · rw [hexec, gradeLock, hkept, hlife]
      rfl
    · rw [hexec, gradeLock, hkept, hlife]
      exact congrArg Host.Outcome.next (if_pos hgrade)
    · rw [hexec, gradeLock, hkept, hlife]
      exact congrArg Host.Outcome.next ((if_neg (not_not_intro hgrade)).trans (if_neg (by
        rw [show regBit (sealedTaken s) Reg.GLOBAL_GRADE 2 = false from hlocked]
        decide)))

end Sys2Proof.Proofs
end

section
/-!
SUPPORT. Laws of the safety mechanisms (chapter 12): plumb run schedules, age channels and dual-channel inputs; with the settlement of
the statements on them.
-/

namespace Sys2Proof.Machine

/-! ## Bytes in DRAM (R26) -/

/-- An access lies in DRAM when it ends within the DRAM fitted and its window. -/
theorem homeOf_dram_iff (s : State) (a n : Nat) : homeOf s a n = .dram ↔ a + n ≤ s.boot.dramBytes ∧ a + n ≤ 0x001000000000 := by
  unfold homeOf
  split
  · next h => exact iff_of_true rfl h
  · next h =>
    refine iff_of_false (fun heq => ?_) h
    split at heq
    · simp at heq
    · repeat' split at heq
      all_goals simp at heq

/-- Reads of DRAM return the bytes of memory. -/
theorem devRead_dram {s : State} {a n : Nat} (h : homeOf s a n = .dram) : devRead s a n = memRead s a n := by
  obtain ⟨hfit, hwin⟩ := (homeOf_dram_iff s a n).mp h
  refine List.map_congr_left (fun x hx => ?_)
  have hx' : x + 1 ≤ a + n := Nat.succ_le_of_lt (mem_rangeFrom.mp hx).2
  have hbyte : homeOf s x 1 = .dram := (homeOf_dram_iff s x 1).mpr ⟨Nat.le_trans hx' hfit, Nat.le_trans hx' hwin⟩
  simp only [devByte, hbyte]

/-! ## Age channels (R470) -/

theorem ageLimit_ne_last (a : Nat) : Reg.SAFETY_AGE_LIMIT a ≠ Reg.SAFETY_AGE_LAST a := by
  have hne : ∀ x : Nat, x + 4100 + a * 32 ≠ x + 4112 + a * 32 := by omega
  exact hne Reg.SAFETY

theorem ageLimit_ne_arrive (a : Nat) : Reg.SAFETY_AGE_LIMIT a ≠ Reg.SAFETY_AGE_ARRIVE a := by
  have hne : ∀ x : Nat, x + 4100 + a * 32 ≠ x + 4116 + a * 32 := by omega
  exact hne Reg.SAFETY

theorem ageArrive_ne_last (a : Nat) : Reg.SAFETY_AGE_ARRIVE a ≠ Reg.SAFETY_AGE_LAST a := by
  have hne : ∀ x : Nat, x + 4116 + a * 32 ≠ x + 4112 + a * 32 := by omega
  exact hne Reg.SAFETY

/-- The state in which an event has been judged, before any report: the capture word is recorded and the gap timer armed. -/
def ageSeen (a cap : Nat) (s : State) : State := regPut (ageArm a s) (Reg.SAFETY_AGE_LAST a) (BitVec.ofNat 32 cap)

theorem ageSeen_regs (a cap : Nat) (s : State) :
    regGet (ageSeen a cap s) (Reg.SAFETY_AGE_LAST a) = BitVec.ofNat 32 cap ∧
      regGet (ageSeen a cap s) (Reg.SAFETY_AGE_ARRIVE a) = BitVec.ofNat 32 (workTime s) ∧
      regGet (ageSeen a cap s) (Reg.SAFETY_AGE_LIMIT a) = regGet s (Reg.SAFETY_AGE_LIMIT a) := by
  have harm : ∀ b, regGet (ageArm a s) b = regGet (regPut s (Reg.SAFETY_AGE_ARRIVE a) (BitVec.ofNat 32 (workTime s))) b := fun _ => rfl
  refine ⟨?_, ?_, ?_⟩
  · rw [ageSeen, regGet_regPut, if_pos rfl]
  · rw [ageSeen, regGet_regPut, if_neg (ageArrive_ne_last a), harm, regGet_regPut, if_pos rfl]
  · rw [ageSeen, regGet_regPut, if_neg (ageLimit_ne_last a), harm, regGet_regPut, if_neg (ageLimit_ne_arrive a)]

/-- The judgement of an event whose capture word lies in DRAM. -/
theorem ageJudge_dram {s : State} {a addr : Nat} (h : homeOf s addr 4 = .dram) :
    let cap := leVal (devRead s addr 4)
    let age := (workTime s + 2 ^ 32 - cap) % 2 ^ 32
    ageJudge a addr s =
      if ageLimit s a < age then raise (0x080 + a) (ageOwner s a) age (ageSeen a cap s) else ageSeen a cap s := by
  intro cap age
  have harmed : homeOf (ageArm a s) addr 4 = .dram := (homeOf_dram_iff _ addr 4).mpr ((homeOf_dram_iff s addr 4).mp h)
  have hread : devRead (ageArm a s) addr 4 = devRead s addr 4 := by rw [devRead_dram harmed, devRead_dram h]; rfl
  have hlimit : ageLimit (ageSeen a cap s) a = ageLimit s a := by
    obtain ⟨-, -, hreg⟩ := ageSeen_regs a cap s
    simp only [ageLimit, regFld, hreg]
  unfold ageJudge
  simp only [harmed, hread]
  rw [show regPut (ageArm a s) (Reg.SAFETY_AGE_LAST a) (BitVec.ofNat 32 (leVal (devRead s addr 4))) = ageSeen a cap s from rfl, hlimit]
  rfl

end Sys2Proof.Machine

namespace Sys2Proof.Proofs
open Sys2Proof.Machine

/-- Settles O48. -/
theorem plumbRunSchedule : Obligations.PlumbRunSchedule := by
  intro s n p
  refine ⟨fun pb hpb hn hown hp hidle howed => ?_, fun k pb hk hst hheld hleft hpb hidle => ?_, fun k hk hst hheld hleft => ?_,
    fun hp hoverdue howes => ?_, fun hn hown hp hbeat hphys honce hlate => ?_⟩
  · have hexec : exec (.plumbScheduledStart pb) s = .next (plumbSchedule pb s) := if_pos hpb
    refine ⟨fun hdue => ?_, fun hdue => ?_⟩
    · rw [hexec]
      simp [plumbSchedule, hn, hown, hp, hidle, howed, hdue]
    · rw [hexec]
      simp [plumbSchedule, hn, hown, hdue]
  · refine (if_pos hk).trans (congrArg Host.Outcome.next ?_)
    simp [gateStart, hst, hheld, hleft, hpb, hidle]
  · refine (if_pos hk).trans (congrArg Host.Outcome.next ?_)
    simp [gateRelease, hst, hheld, hleft]
  · intro u
    have howes' : u.part.owesPlumb = [] := by
      have hpart := congrArg State.part (frame_raise (w := Parts.faultReach) rfl 0x051 (some p) n
        { s with part := { s.part with overdue := [] } } u rfl).same
      exact (congrArg PartSt.owesPlumb hpart).trans howes
    refine (if_pos hp).trans (congrArg Host.Outcome.next ?_)
    rw [hoverdue]
    simp only [List.filter_cons, List.filter_nil, decide_true, if_true, List.foldl_cons, List.foldl_nil, ne_eq, not_true_eq_false,
      decide_false, Bool.false_eq_true, if_false, plumbLate]
    rw [show raise 0x051 (some p) n { s with part := { s.part with overdue := [] } } = u from rfl, howes']
    rfl
  · refine (if_pos hn).trans (congrArg Host.Outcome.next ?_)
    have hperiod : tabGet 0 s.part.lastPass n + 2 * plumbPeriod s p ≤ s.tb.elapsed := hlate
    simp [periodLate, hown, hp, hbeat, hphys, honce, hperiod]

/-- Settles O49. -/
theorem ageAndInputSupervision : Obligations.AgeAndInputSupervision := by
  intro s
  refine ⟨fun a addr rest ha hdue hhome => ?_, fun a ha hon hnone hgap => ?_, fun n x y hn hon => ?_⟩
  · intro cap age
    obtain ⟨s0, hs0⟩ : ∃ s0 : State, s0 = { s with safety := { s.safety with ageDue := rest } } := ⟨_, rfl⟩
    have hhome0 : homeOf s0 addr 4 = .dram := by rw [hs0]; exact hhome
    have hread0 : devRead s0 addr 4 = devRead s addr 4 := by rw [devRead_dram hhome0, devRead_dram hhome, hs0]; rfl
    have hjudge := ageJudge_dram (a := a) hhome0
    simp only [hread0] at hjudge
    obtain ⟨hlast, harrive, -⟩ := ageSeen_regs a cap s0
    refine ⟨ageSeen a cap s0, by rw [hs0]; rfl, hlast, by rw [harrive, hs0]; rfl, ?_, ?_⟩
    · show tabGet {} (tabPut {} s0.safety.age a {}) a = {}
      rw [tabGet_put, if_pos rfl]
    · refine (if_pos ha).trans (congrArg Host.Outcome.next ?_)
      rw [hdue]
      simp only [List.find?_cons, decide_true, List.erase_cons_head]
      rw [← hs0, hjudge, hs0]
      rfl
  · refine (if_pos ha).trans (congrArg Host.Outcome.next ?_)
    have hall : s.safety.ageDue.all (fun e => decide (e.1 ≠ a)) = true := by simpa using hnone
    have hlong : ageLimit s a < (workTime s + 2 ^ 32 - (regGet s (Reg.SAFETY_AGE_ARRIVE a)).toNat) % 2 ^ 32 := hgap
    rw [ageGap, hon, hall, decide_eq_true hlong]
    cases (tabGet {} s.safety.age a).gapRaised with
    | true => rfl
    | false => rfl
  · intro d put agrees
    have hexec : exec (.dinSample n x y) s = .next
        (if (x == y) != regBit s (Reg.SAFETY_DIN_CFG n) 30 then dinAgree n x s else dinDisagree n s) :=
      (if_pos hn).trans (congrArg Host.Outcome.next (if_pos hon))
    have hagrees : ((x == y) != regBit s (Reg.SAFETY_DIN_CFG n) 30) = true ↔ agrees := by
      simp only [agrees]
      cases x <;> cases y <;> cases regBit s (Reg.SAFETY_DIN_CFG n) 30 <;> decide
    refine ⟨fun h => ?_, fun h hcount => ?_⟩
    · rw [hexec, if_pos (hagrees.mpr h)]
      refine congrArg Host.Outcome.next ?_
      unfold dinAgree
      simp only [Bool.and_eq_true, Bool.not_eq_true', and_assoc]
      rfl
    · intro hit
      have hmin : min (d.count + 1) 65535 = d.count + 1 := by omega
      rw [hexec, if_neg (fun hx => h (hagrees.mp hx))]
      unfold dinDisagree
      simp only [show (tabGet {} s.safety.din n) = d from rfl, hmin, Nat.lt_succ_self, decide_true, Bool.true_and]
      refine ⟨fun hh => ?_, fun hh => ?_⟩
      · rw [decide_eq_true (show d.count + 1 = regFld s (Reg.SAFETY_DIN_CFG n) 0 16 from hh), Bool.or_true]
        rfl
      · rw [decide_eq_false (show ¬d.count + 1 = regFld s (Reg.SAFETY_DIN_CFG n) 0 16 from hh), Bool.or_false]
        rfl

end Sys2Proof.Proofs
end

section
/-!
SUPPORT. Laws of the timebase (R504–R531): domains, events, steps, the bridge, captures and pulse outputs.
-/

namespace Sys2Proof.Machine

/-! ## Domains -/

@[simp] theorem domGet_domPut_same (s : State) (d : Nat) (x : Dom) : domGet (domPut s d x) d = x := by
  unfold domGet domPut
  split <;> rfl

theorem domPut_regs (s : State) (d : Nat) (x : Dom) : (domPut s d x).regs = s.regs := by
  unfold domPut
  split <;> rfl

/-- A domain's replacement changes the two domains alone, and of the timebase's other state nothing. -/
theorem domPut_eq (s : State) (d : Nat) (x : Dom) : ∃ a b, domPut s d x = { s with tb := { s.tb with a := a, b := b } } := by
  unfold domPut
  split
  · exact ⟨_, _, rfl⟩
  · exact ⟨_, _, rfl⟩

theorem domGet_congr {s t : State} (h : t.tb = s.tb) (d : Nat) : domGet t d = domGet s d := by simp only [domGet, h]

theorem workTime_congr {s t : State} (h : t.tb = s.tb) : workTime t = workTime s := by simp only [workTime, selTime, h]

theorem workTime_follow {s : State} {f : Nat × Nat} (h : s.tb.follow = some f) : workTime s = f.1 := by simp only [workTime, h]

theorem workTime_own {s : State} (h : s.tb.follow = none) : workTime s = ((((selTime s : Nat) : Int) + s.tb.bridge) % 2 ^ 32).toNat := by
  simp only [workTime, h]

/-- The selected domain's value. -/
theorem selTime_eq (s : State) : selTime s = (domGet s (selDom s)).time := by
  unfold selTime selDom domGet
  cases s.tb.selB <;> rfl

theorem wrap32_mod (v : Int) : wrap32 v % 2 ^ 32 = v % 2 ^ 32 := by
  rw [wrap32, BitVec.toInt_ofInt]
  exact Int.bmod_emod ..

/-- Own working time as an integer. -/
theorem workTime_int {s : State} (h : s.tb.follow = none) :
    (workTime s : Int) = ((domGet s (selDom s)).time + s.tb.bridge) % 2 ^ 32 := by
  rw [workTime_own h, selTime_eq]
  exact Int.toNat_of_nonneg (Int.emod_nonneg _ (by decide))

/-! ## Events (R790) -/

theorem msi_tb (s : State) (p tgt : Nat) : (msi s p tgt).tb = s.tb := by
  have h := congrArg State.tb (frame_msi (w := { imsic := true }) rfl s p tgt _ rfl).same
  exact h

theorem tbEvent_state (i : Nat) (s : State) :
    (tbEvent i s).tb = s.tb ∧
      (tbEvent i s).regs = (regPut s Reg.TB_EVENT (regGet s Reg.TB_EVENT ||| BitVec.ofNat 32 (2 ^ i))).regs := by
  unfold tbEvent
  simp only []
  split
  · exact ⟨msi_tb _ _ _, msi_regs _ _ _⟩
  · exact ⟨rfl, rfl⟩

@[simp] theorem tbEvent_tb (i : Nat) (s : State) : (tbEvent i s).tb = s.tb := (tbEvent_state i s).1

theorem regGet_tbEvent (i : Nat) (s : State) (a : Addr) :
    regGet (tbEvent i s) a = if a = Reg.TB_EVENT then regGet s Reg.TB_EVENT ||| BitVec.ofNat 32 (2 ^ i) else regGet s a := by
  rw [regGet, (tbEvent_state i s).2]
  exact regGet_regPut _ _ _ _

theorem regGet_tbEvent_other {a : Addr} (h : a ≠ Reg.TB_EVENT) (i : Nat) (s : State) : regGet (tbEvent i s) a = regGet s a := by
  rw [regGet_tbEvent, if_neg h]

theorem regBit_tbEvent (i : Nat) (s : State) (j : Nat) :
    regBit (tbEvent i s) Reg.TB_EVENT j = (regBit s Reg.TB_EVENT j || (decide (j < 32) && decide (i = j))) := by
  simp only [regBit, bitAt, regGet_tbEvent, if_true, BitVec.getLsbD_or, BitVec.getLsbD_ofNat, Nat.testBit_two_pow]

/-! ## The change of domains (R514, R515) -/

/-- A change of domain selects it, keeps the domains and sets event 3. -/
theorem selectDom_leaves {d : Nat} (hd : d < 2) (s : State) :
    selDom (selectDom d s) = d ∧ (∀ e, domGet (selectDom d s) e = domGet s e) ∧
      (∀ j, regBit (selectDom d s) Reg.TB_EVENT j = (regBit s Reg.TB_EVENT j || decide (3 = j))) ∧
      (workTime s < 2 ^ 32 → workTime (selectDom d s) = workTime s) := by
  obtain ⟨s1, hs1⟩ : ∃ s1 : State, s1 = { s with tb := { s.tb with selB := decide (d = 1) } } := ⟨_, rfl⟩
  obtain ⟨u, hu⟩ : ∃ u, u = (if s.tb.follow.isSome then s1 else bridgePut ((workTime s : Int) - (domGet s1 d).time) s1) := ⟨_, rfl⟩
  have hsel : selectDom d s = tbEvent 3 u := by rw [hu, hs1]; rfl
  have hregs : u.regs = s.regs := by
    rw [hu]
    split
    · rw [hs1]
    · rw [hs1]; rfl
  have hdom : ∀ e, domGet u e = domGet s e := by
    intro e
    rw [hu]
    split
    · rw [hs1]; rfl
    · rw [hs1]; rfl
  have hselB : u.tb.selB = decide (d = 1) := by
    rw [hu]
    split
    · rw [hs1]
    · rw [hs1]; rfl
  have hself : selDom u = d := by
    unfold selDom
    rw [hselB]
    obtain rfl | rfl : d = 0 ∨ d = 1 := by omega
    · rfl
    · rfl
  rw [hsel]
  refine ⟨?_, fun e => ?_, fun j => ?_, fun hw => ?_⟩
  · rw [selDom, tbEvent_tb]
    exact hself
  · rw [domGet_congr (tbEvent_tb 3 u), hdom]
  · rw [regBit_tbEvent, regBit, regGet, hregs]
    simp only [regBit, regGet]
    by_cases hj : 3 = j
    · subst hj; simp
    · simp [hj]
  · rw [workTime_congr (tbEvent_tb 3 u)]
    cases hf : s.tb.follow with
    | some f =>
      have hu' : u = s1 := by rw [hu, hf]; rfl
      rw [hu', workTime_follow (s := s1) (f := f) (by rw [hs1]; exact hf), workTime_follow hf]
    | none =>
      have hu' : u = bridgePut ((workTime s : Int) - (domGet s1 d).time) s1 := by rw [hu, hf]; rfl
      have hnone : u.tb.follow = none := by rw [hu', hs1]; exact hf
      have hbridge : u.tb.bridge = wrap32 ((workTime s : Int) - (domGet s d).time) := by rw [hu', hs1]; rfl
      have hint := workTime_int hnone
      rw [hself, hdom, hbridge, Int.add_emod, wrap32_mod, ← Int.add_emod] at hint
      have hcancel : ((domGet s d).time : Int) + ((workTime s : Int) - (domGet s d).time) = workTime s := by omega
      rw [hcancel, Int.emod_eq_of_lt (by omega) (by omega)] at hint
      exact Int.ofNat_inj.mp hint

/-- A domain that is lost is invalid, keeps its value, and sets its event. -/
theorem loseDom_leaves {d : Nat} (hd : d < 2) (s : State) :
    (domGet (loseDom d s) d).valid = false ∧ regBit (loseDom d s) Reg.TB_EVENT (4 + d) = true ∧
      (domGet (loseDom d s) d).time = (domGet s d).time := by
  obtain ⟨u, hu⟩ : ∃ u, u = tbEvent (4 + d) (domPut s d { domGet s d with valid := false }) := ⟨_, rfl⟩
  have hdom : domGet u d = { domGet s d with valid := false } := by rw [hu, domGet_congr (tbEvent_tb _ _), domGet_domPut_same]
  have hevent : regBit u Reg.TB_EVENT (4 + d) = true := by
    rw [hu, regBit_tbEvent]
    simp
    omega
  have hlose : loseDom d s = autoSwitch d u := by rw [hu]; rfl
  rw [hlose, autoSwitch]
  split
  · obtain ⟨-, hdoms, hevents, -⟩ := selectDom_leaves (d := 1 - d) (by omega) u
    rw [hdoms, hevents, hevent, hdom]
    exact ⟨rfl, rfl, rfl⟩
  · rw [hevent, hdom]
    exact ⟨rfl, rfl, rfl⟩

/-! ## Steps (R507, R517, R519) -/

/-- The value of a domain that has been stepped. -/
theorem domStep_time (d : Nat) (v : Int) (s : State) :
    ((domGet (domStep d v s) d).time : Int) = ((domGet s d).time + v) % 2 ^ 32 := by
  rw [domStep, domGet_domPut_same]
  exact Int.toNat_of_nonneg (Int.emod_nonneg _ (by decide))

/-- A step of a domain changes the two domains alone. -/
theorem domStep_eq (d : Nat) (v : Int) (s : State) : ∃ a b, domStep d v s = { s with tb := { s.tb with a := a, b := b } } := domPut_eq _ _ _

/-- A change of one domain keeps the value of the other. -/
theorem domGet_domPut_other {d e : Nat} (hd : d < 2) (he : e < 2) (h : e ≠ d) (s : State) (x : Dom) :
    domGet (domPut s d x) e = domGet s e := by
  obtain ⟨rfl, rfl⟩ | ⟨rfl, rfl⟩ : d = 0 ∧ e = 1 ∨ d = 1 ∧ e = 0 := by omega
  · rfl
  · rfl

theorem selDom_lt (s : State) : selDom s < 2 := by
  unfold selDom
  split <;> decide

theorem selDom_domPut (s : State) (d : Nat) (x : Dom) : selDom (domPut s d x) = selDom s := by
  obtain ⟨a, b, h⟩ := domPut_eq s d x
  rw [h]
  rfl

theorem follow_domPut (s : State) (d : Nat) (x : Dom) : (domPut s d x).tb.follow = s.tb.follow := by
  obtain ⟨a, b, h⟩ := domPut_eq s d x
  rw [h]

theorem bridge_domPut (s : State) (d : Nat) (x : Dom) : (domPut s d x).tb.bridge = s.tb.bridge := by
  obtain ⟨a, b, h⟩ := domPut_eq s d x
  rw [h]

/-- A domain that is not in force, or a change that keeps its value, does not move working time. -/
theorem workTime_domPut {s : State} {d : Nat} (hd : d < 2) {x : Dom} (h : inForce s d = false ∨ x.time = (domGet s d).time) :
    workTime (domPut s d x) = workTime s := by
  cases hf : s.tb.follow with
  | some f => rw [workTime_follow (f := f) (by rw [follow_domPut]; exact hf), workTime_follow hf]
  | none =>
    have hnone : (domPut s d x).tb.follow = none := by rw [follow_domPut]; exact hf
    have htime : (domGet (domPut s d x) (selDom s)).time = (domGet s (selDom s)).time := by
      by_cases hsel : selDom s = d
      · have hx : x.time = (domGet s d).time := h.resolve_left (by simp [inForce, hsel, hf])
        rw [hsel, domGet_domPut_same, hx]
      · rw [domGet_domPut_other hd (selDom_lt s) hsel]
    have hint := workTime_int hnone
    rw [selDom_domPut, htime, bridge_domPut, ← workTime_int hf] at hint
    exact Int.ofNat_inj.mp hint

theorem workTime_domStep_inForce {s : State} {d : Nat} (hsel : selDom s = d) (hf : s.tb.follow = none) (v : Int) :
    (workTime (domStep d v s) : Int) = (workTime s + v) % 2 ^ 32 := by
  have hnone : (domStep d v s).tb.follow = none := by rw [domStep, follow_domPut]; exact hf
  rw [workTime_int hnone, workTime_int hf, domStep, selDom_domPut, bridge_domPut, hsel, ← domStep, domStep_time, Int.emod_add_emod,
    Int.emod_add_emod]
  congr 1
  omega

/-- A step that the bridge takes back does not move working time. -/
theorem workTime_bridged {s : State} {d : Nat} (hsel : selDom s = d) (hf : s.tb.follow = none) (v : Int) :
    workTime (bridgePut (s.tb.bridge - v) (domStep d v s)) = workTime s := by
  have hnone : (bridgePut (s.tb.bridge - v) (domStep d v s)).tb.follow = none := by
    show (domStep d v s).tb.follow = none
    rw [domStep, follow_domPut]; exact hf
  have hselDom : selDom (bridgePut (s.tb.bridge - v) (domStep d v s)) = d := (selDom_domPut _ _ _).trans hsel
  have hdom : domGet (bridgePut (s.tb.bridge - v) (domStep d v s)) d = domGet (domStep d v s) d := rfl
  have hbridge : (bridgePut (s.tb.bridge - v) (domStep d v s)).tb.bridge = wrap32 (s.tb.bridge - v) := rfl
  have hint := workTime_int hnone
  rw [hselDom, hdom, hbridge, domStep_time, Int.emod_add_emod, Int.add_emod, wrap32_mod, ← Int.add_emod] at hint
  have hown := workTime_int hf
  rw [hsel] at hown
  have hsum : ((domGet s d).time : Int) + v + (s.tb.bridge - v) = (domGet s d).time + s.tb.bridge := by omega
  rw [hsum, ← hown] at hint
  exact Int.ofNat_inj.mp hint

/-- The steps of ARRIVE of the first age channels. -/
theorem regGet_arrives (s : State) (w : Word32) (n : Nat) :
    let u := (List.range n).foldl (fun s a => regPut s (Reg.SAFETY_AGE_ARRIVE a) (regGet s (Reg.SAFETY_AGE_ARRIVE a) + w)) s
    u.tb = s.tb ∧ (∀ a, a < n → regGet u (Reg.SAFETY_AGE_ARRIVE a) = regGet s (Reg.SAFETY_AGE_ARRIVE a) + w) ∧
      (∀ b, (∀ a, a < n → b ≠ Reg.SAFETY_AGE_ARRIVE a) → regGet u b = regGet s b) := by
  induction n with
  | zero => exact ⟨rfl, fun a ha => absurd ha (Nat.not_lt_zero a), fun b _ => rfl⟩
  | succ n ih =>
    intro u
    obtain ⟨r, hr⟩ : ∃ r, r = (List.range n).foldl
      (fun s a => regPut s (Reg.SAFETY_AGE_ARRIVE a) (regGet s (Reg.SAFETY_AGE_ARRIVE a) + w)) s := ⟨_, rfl⟩
    have hu : u = regPut r (Reg.SAFETY_AGE_ARRIVE n) (regGet r (Reg.SAFETY_AGE_ARRIVE n) + w) := by
      simp only [u, List.range_succ, List.foldl_append, List.foldl_cons, List.foldl_nil, hr]
    rw [← hr] at ih
    obtain ⟨htb, harrive, hother⟩ := ih
    have hinj : ∀ a b : Nat, Reg.SAFETY_AGE_ARRIVE a = Reg.SAFETY_AGE_ARRIVE b → a = b := by
      intro a b h
      have hpos : ∀ x : Nat, x + 4116 + a * 32 = x + 4116 + b * 32 → a = b := by omega
      exact hpos _ h
    refine ⟨by rw [hu]; exact htb, fun a ha => ?_, fun b hb => ?_⟩
    · rw [hu, regGet_regPut]
      by_cases han : a = n
      · subst han
        rw [if_pos rfl, hother _ (fun a' ha' heq => by have := hinj _ _ heq; omega)]
      · rw [if_neg (fun heq => han (hinj _ _ heq)), harrive a (by omega)]
    · rw [hu, regGet_regPut, if_neg (hb n (Nat.lt_succ_self n)), hother b (fun a ha => hb a (by omega))]

/-- A step of working time is recorded, moves every ARRIVE, and sets event 2 (R507, R510, R521). -/
theorem workStep_leaves (v : Int) (s : State) :
    (workStep v s).tb = { s.tb with stepped := true, carry := s.tb.carry + v } ∧
      regGet (workStep v s) Reg.TB_STEP_LAST = BitVec.ofInt 32 v ∧ regBit (workStep v s) Reg.TB_EVENT 2 = true ∧
      ∀ a, a < 64 → regGet (workStep v s) (Reg.SAFETY_AGE_ARRIVE a) = regGet s (Reg.SAFETY_AGE_ARRIVE a) + BitVec.ofInt 32 v := by
  obtain ⟨s1, hs1⟩ : ∃ s1, s1 = regPut s Reg.TB_STEP_LAST (BitVec.ofInt 32 v) := ⟨_, rfl⟩
  obtain ⟨htb, harrive, hother⟩ := regGet_arrives s1 (BitVec.ofInt 32 v) 64
  obtain ⟨s2, hs2⟩ : ∃ s2, s2 = (List.range 64).foldl (fun s a =>
    regPut s (Reg.SAFETY_AGE_ARRIVE a) (regGet s (Reg.SAFETY_AGE_ARRIVE a) + BitVec.ofInt 32 v)) s1 := ⟨_, rfl⟩
  rw [← hs2] at htb harrive hother
  obtain ⟨s3, hs3⟩ : ∃ s3 : State, s3 = { s2 with tb := { s2.tb with stepped := true, carry := s2.tb.carry + v } } := ⟨_, rfl⟩
  have hstep : workStep v s = tbEvent 2 s3 := by rw [hs3, hs2, hs1]; rfl
  have hregs : ∀ a, regGet s3 a = regGet s2 a := fun a => by rw [hs3]; rfl
  have hevent : ∀ a, Reg.SAFETY_AGE_ARRIVE a ≠ Reg.TB_EVENT := by
    intro a h
    have hne : ∀ a : Nat, 0x002000800000 + 4116 + a * 32 ≠ 0x002000700000 + 4116 := by omega
    exact hne a h
  have hlast : ∀ a, Reg.SAFETY_AGE_ARRIVE a ≠ Reg.TB_STEP_LAST := by
    intro a h
    have hne : ∀ a : Nat, 0x002000800000 + 4116 + a * 32 ≠ 0x002000700000 + 4124 := by omega
    exact hne a h
  rw [hstep]
  refine ⟨?_, ?_, ?_, fun a ha => ?_⟩
  · rw [tbEvent_tb, hs3, htb, hs1]
    rfl
  · rw [regGet_tbEvent_other (by decide), hregs, hother _ (fun a _ => Ne.symm (hlast a)), hs1, regGet_regPut, if_pos rfl]
  · rw [regBit_tbEvent]
    simp
  · rw [regGet_tbEvent_other (hevent a), hregs, harrive a ha, hs1, regGet_regPut, if_neg (hlast a)]

end Sys2Proof.Machine
end

section
/-!
SUPPORT. Laws of requested and forced steps, of captures and of pulse outputs (R517–R531); with the settlement of the statement on the
timebase.
-/

namespace Sys2Proof.Machine

/-! ## Requested and forced steps (R517, R519) -/

/-- A requested step that is within the limit, or of a domain in acquisition, is applied. -/
theorem applyStep_applied {s : State} {d : Nat} (hd : d < 2) {v : Int} (hv : v ≠ 0)
    (hok : (domGet s d).acq = true ∨ v.natAbs ≤ regFld s Reg.TB_JUMP_LIMIT 0 20) :
    domGet (applyStep d v s) d = domGet (domStep d v s) d ∧
      ((domGet s d).acq = false → workTime (applyStep d v s) = workTime s ∧ (applyStep d v s).regs = s.regs) ∧
      ((domGet s d).acq = true → selDom s = d → s.tb.follow = none → applyStep d v s = workStep v (domStep d v s)) := by
  have hstep : ∀ u : State, u.tb = { (domStep d v s).tb with stepped := true, carry := (domStep d v s).tb.carry + v } →
      domGet u d = domGet (domStep d v s) d := fun u hu => by simp only [domGet, hu]
  unfold applyStep
  rw [if_neg hv]
  cases hacq : (domGet s d).acq with
  | true =>
    rw [if_pos rfl]
    refine ⟨?_, fun h => absurd h (by decide), fun _ hsel hf => ?_⟩
    · split
      · exact hstep _ (workStep_leaves v (domStep d v s)).1
      · rfl
    · rw [if_pos (by simp [inForce, hsel, hf])]
  | false =>
    rw [if_neg (by decide), if_pos (hok.resolve_left (by rw [hacq]; decide))]
    refine ⟨by split <;> rfl, fun _ => ?_, fun h => absurd h (by decide)⟩
    by_cases hin : inForce s d = true
    · have hin' : selDom s = d ∧ s.tb.follow = none := by simpa [inForce] using hin
      rw [if_pos hin, workTime_bridged hin'.1 hin'.2]
      exact ⟨rfl, domPut_regs _ _ _⟩
    · rw [if_neg hin]
      exact ⟨workTime_domPut hd (Or.inl (by simpa using hin)), domPut_regs _ _ _⟩

/-- A forced step is applied to working time or to a domain. -/
theorem applyForce_leaves {s : State} {f : Force} (hamount : f.amount ≠ 0) :
    (applyForce f.target f.amount s).tb.forces = s.tb.forces ∧
      (f.target = 0 → (applyForce f.target f.amount s).tb.bridge = wrap32 (s.tb.bridge + f.amount) ∧
        (applyForce f.target f.amount s).tb.decayCtr = 0 ∧ (applyForce f.target f.amount s).tb.a = s.tb.a ∧
        (applyForce f.target f.amount s).tb.b = s.tb.b) ∧
      (f.target ≠ 0 → ((domGet (applyForce f.target f.amount s) (f.target - 1)).time : Int) =
          ((domGet s (f.target - 1)).time + f.amount) % 2 ^ 32 ∧ (applyForce f.target f.amount s).tb.bridge = s.tb.bridge) := by
  unfold applyForce
  rw [if_neg hamount]
  by_cases hzero : f.target = 0
  · rw [if_pos hzero]
    obtain ⟨htb, -, -, -⟩ := workStep_leaves f.amount (bridgePut (s.tb.bridge + f.amount) s)
    rw [htb]
    exact ⟨rfl, fun _ => ⟨rfl, rfl, rfl, rfl⟩, fun h => absurd hzero h⟩
  · rw [if_neg hzero]
    obtain ⟨a, b, hstep⟩ := domStep_eq (f.target - 1) f.amount s
    have hforces : (domStep (f.target - 1) f.amount s).tb.forces = s.tb.forces := by rw [hstep]
    have hbridge : (domStep (f.target - 1) f.amount s).tb.bridge = s.tb.bridge := by rw [hstep]
    have htime := domStep_time (f.target - 1) f.amount s
    split
    · obtain ⟨htb, -, -, -⟩ := workStep_leaves f.amount (domStep (f.target - 1) f.amount s)
      have hdom : domGet (workStep f.amount (domStep (f.target - 1) f.amount s)) (f.target - 1) =
          domGet (domStep (f.target - 1) f.amount s) (f.target - 1) := by simp only [domGet, htb]
      rw [hdom, htb]
      exact ⟨hforces, fun h => absurd h hzero, fun _ => ⟨htime, hbridge⟩⟩
    · exact ⟨hforces, fun h => absurd h hzero, fun _ => ⟨htime, hbridge⟩⟩

/-! ## Captures (R525–R527) -/

@[simp] theorem tcapGet_tcapPut (s : State) (n m : Nat) (x : TcapSt) : tcapGet (tcapPut s n x) m = if m = n then x else tcapGet s m := by
  simp [tcapGet, tcapPut]

theorem tcapGet_congr {s t : State} (h : t.tb = s.tb) (n : Nat) : tcapGet t n = tcapGet s n := by simp only [tcapGet, h]

/-- The record of an edge: stamped 8 ns back. -/
def tcapRecord (rise : Bool) (s : State) : TcapRec := { stamp := (workTime s + 2 ^ 32 - 8) % 2 ^ 32, rise := rise, ns := s.tb.elapsed }

/-- The MSI of a capture. -/
def tcapTell (n : Nat) (s : State) : State :=
  match ownerBy (fun p => ownsTcap s p n) with
  | some p => if regBit s (Reg.TCAP_CFG n) 30 then msi s p (regFld s (Reg.TCAP_CFG n) 0 4) else s
  | none => s

/-- The MSI of a capture changes neither the timebase nor the registers. -/
theorem tcapTell_leaves (n : Nat) (s : State) : (tcapTell n s).tb = s.tb ∧ (tcapTell n s).regs = s.regs := by
  unfold tcapTell
  split
  · split
    · exact ⟨msi_tb _ _ _, msi_regs _ _ _⟩
    · exact ⟨rfl, rfl⟩
  · exact ⟨rfl, rfl⟩

theorem tcapTake_eq (n : Nat) (rise : Bool) (s : State) :
    let x := tcapGet s n
    let y := { x with last := some ((tcapRecord rise s).stamp, (tcapRecord rise s).ns) }
    tcapTake n rise s = tcapTell n (if 8 ≤ x.queue.length then cntInc (tcapPut s n y) (Reg.TCAP_LOST n)
      else tcapPut s n { y with queue := x.queue ++ [tcapRecord rise s] }) := rfl

/-- A captured edge is queued, or counted as lost when the queue is full. -/
theorem tcapTake_leaves (n : Nat) (rise : Bool) (s : State) :
    (tcapGet (tcapTake n rise s) n).level = (tcapGet s n).level ∧
      ((tcapGet s n).queue.length < 8 → (tcapGet (tcapTake n rise s) n).queue = (tcapGet s n).queue ++ [tcapRecord rise s]) ∧
      (8 ≤ (tcapGet s n).queue.length → (tcapGet (tcapTake n rise s) n).queue = (tcapGet s n).queue ∧
        regGet (tcapTake n rise s) (Reg.TCAP_LOST n) =
          BitVec.ofNat 32 (min ((regGet s (Reg.TCAP_LOST n)).toNat + 1) 0x7FFFFFFF)) := by
  rw [tcapTake_eq]
  by_cases hfull : 8 ≤ (tcapGet s n).queue.length
  · simp only [if_pos hfull]
    obtain ⟨htb, hregs⟩ := tcapTell_leaves n (cntInc (tcapPut s n { tcapGet s n with
      last := some ((tcapRecord rise s).stamp, (tcapRecord rise s).ns) }) (Reg.TCAP_LOST n))
    rw [tcapGet_congr htb]
    have hput : ∀ y : TcapSt, tcapGet (cntInc (tcapPut s n y) (Reg.TCAP_LOST n)) n = y := fun y =>
      (tcapGet_tcapPut s n n y).trans (if_pos rfl)
    rw [hput]
    refine ⟨rfl, fun h => absurd hfull (Nat.not_le.mpr h), fun _ => ⟨rfl, ?_⟩⟩
    rw [regGet, hregs]
    exact (regGet_regPut _ _ _ _).trans (if_pos rfl)
  · simp only [if_neg hfull]
    obtain ⟨htb, -⟩ := tcapTell_leaves n (tcapPut s n { tcapGet s n with
      last := some ((tcapRecord rise s).stamp, (tcapRecord rise s).ns), queue := (tcapGet s n).queue ++ [tcapRecord rise s] })
    rw [tcapGet_congr htb, tcapGet_tcapPut, if_pos rfl]
    exact ⟨rfl, fun _ => rfl, fun h => absurd h hfull⟩

/-- The enabling of an edge direction is one bit of the configuration. -/
theorem tcapEdge_enabled (w : Word32) (rise : Bool) :
    (fld w 4 2).testBit (if rise then 0 else 1) = true ↔ fld w (if rise then 4 else 5) 1 = 1 := by
  have hbit : ∀ i, fld w i 1 = 1 ↔ w.getLsbD i = true := by
    intro i
    have h := testBit_fld w i 1 0
    rw [Nat.add_zero, Nat.testBit_zero] at h
    have hlt : fld w i 1 < 2 := fld_lt w i 1
    rw [Nat.mod_eq_of_lt hlt] at h
    simpa using congrArg (· = true) h
  rw [hbit, testBit_fld]
  cases rise <;> simp

/-! ## Pulse outputs (R528–R531) -/

@[simp] theorem tpulseGet_tpulsePut (s : State) (n m : Nat) (x : TpulseSt) :
    tpulseGet (tpulsePut s n x) m = if m = n then x else tpulseGet s m := by
  simp [tpulseGet, tpulsePut]

theorem reached_mod (now t : Nat) : reached now (t % 2 ^ 32) = reached now t := by simp [reached]

/-- The target after the whole periods that have passed is not reached (R530, R531). -/
theorem reached_targetAfter {now start period : Nat} (hnow : now < 2 ^ 32) (hperiod : 0 < period) (hshort : period < 2 ^ 31)
    (h : reached now start = true) : reached now (targetAfter start period (periodsPast now start period)) = false := by
  obtain ⟨D, hD⟩ : ∃ D, D = (now + 2 ^ 32 - start % 2 ^ 32) % 2 ^ 32 := ⟨_, rfl⟩
  have hk : periodsPast now start period = D / period + 1 := by rw [periodsPast, if_pos h, ← hD]
  obtain ⟨q, hq⟩ : ∃ q, q = D / period := ⟨_, rfl⟩
  have hdiv : period * q + D % period = D := by rw [hq]; exact Nat.div_add_mod D period
  have hmod : D % period < period := Nat.mod_lt _ hperiod
  obtain ⟨m, hm⟩ : ∃ m, m = D % period := ⟨_, rfl⟩
  have hprod : (q + 1) * period = period * q + period := by rw [Nat.add_mul, Nat.one_mul, Nat.mul_comm]
  rw [targetAfter, reached_mod, hk, ← hq, hprod]
  rw [← hm] at hdiv hmod
  generalize period * q = pq at *
  simp only [reached, decide_eq_false_iff_not]
  simp only [reached, decide_eq_true_eq] at h
  omega

theorem targetAfter_zero (w : Word32) (period : Nat) : targetAfter w.toNat period 0 = w.toNat := by
  have := w.isLt
  simp only [targetAfter]
  omega

/-- The whole periods that a late periodic output passes over when it is armed. -/
def armSkips (n : Nat) (s : State) : Nat :=
  if (regGet s (Reg.TPULSE_PERIOD n)).toNat = 0 then 0
  else periodsPast (workTime s) (regGet s (Reg.TPULSE_START n)).toNat (regGet s (Reg.TPULSE_PERIOD n)).toNat

theorem armSkips_zero {n : Nat} {s : State} (h : reached (workTime s) (regGet s (Reg.TPULSE_START n)).toNat = false ∨
    (regGet s (Reg.TPULSE_PERIOD n)).toNat = 0) : armSkips n s = 0 := by
  unfold armSkips
  split
  · rfl
  · next hperiod => rw [periodsPast, h.resolve_right hperiod]; rfl

theorem bitAt_armed_31 (w : Word32) (late : Bool) : bitAt (w ||| BitVec.ofNat 32 (2 ^ 31 + bitN late 29)) 31 = true := by
  cases late <;> simp [bitAt, bitN]

theorem bitAt_late_29 (w : Word32) : bitAt (w ||| BitVec.ofNat 32 (2 ^ 31 + bitN true 29)) 29 = true := by
  simp [bitAt, bitN]

theorem tpulseSkip_ne_cfg (n : Nat) : Reg.TPULSE_SKIP n ≠ Reg.TPULSE_CFG n := by
  have hne : ∀ x : Nat, x + 0x20014 + n * 0x1000 ≠ x + 0x20000 + n * 0x1000 := by omega
  exact hne _

/-- What arming an output leaves (R528, R530). -/
theorem tpulseArm_leaves {n : Nat} {s : State} (h : regBit s (Reg.TPULSE_CFG n) 31 = false) :
    tpulseGet (tpulseArm n s) n = { tpulseGet s n with
        next := targetAfter (regGet s (Reg.TPULSE_START n)).toNat (regGet s (Reg.TPULSE_PERIOD n)).toNat (armSkips n s), armTick := s.tb.ticks } ∧
      regGet (tpulseArm n s) (Reg.TPULSE_CFG n) = regGet s (Reg.TPULSE_CFG n) |||
        BitVec.ofNat 32 (2 ^ 31 + bitN (reached (workTime s) (regGet s (Reg.TPULSE_START n)).toNat) 29) ∧
      regGet (tpulseArm n s) (Reg.TPULSE_SKIP n) =
        BitVec.ofNat 32 (min ((regGet s (Reg.TPULSE_SKIP n)).toNat + armSkips n s) 0x7FFFFFFF) := by
  obtain ⟨s1, hs1⟩ : ∃ s1, s1 = regPut s (Reg.TPULSE_CFG n) (regGet s (Reg.TPULSE_CFG n) |||
    BitVec.ofNat 32 (2 ^ 31 + bitN (reached (workTime s) (regGet s (Reg.TPULSE_START n)).toNat) 29)) := ⟨_, rfl⟩
  obtain ⟨s2, hs2⟩ : ∃ s2, s2 = tpulsePut s1 n { tpulseGet s1 n with
    next := targetAfter (regGet s (Reg.TPULSE_START n)).toNat (regGet s (Reg.TPULSE_PERIOD n)).toNat (armSkips n s),
    armTick := s.tb.ticks } := ⟨_, rfl⟩
  have harm : tpulseArm n s = cntAdd s2 (Reg.TPULSE_SKIP n) (armSkips n s) := by
    rw [hs2, hs1]
    exact if_neg (by rw [h]; decide)
  have hskip : regGet s2 (Reg.TPULSE_SKIP n) = regGet s (Reg.TPULSE_SKIP n) := by
    rw [hs2]
    show regGet s1 _ = _
    rw [hs1, regGet_regPut, if_neg (tpulseSkip_ne_cfg n)]
  rw [harm, cntAdd, hskip]
  refine ⟨?_, ?_, ?_⟩
  · show tpulseGet s2 n = _
    rw [hs2, tpulseGet_tpulsePut, if_pos rfl, hs1]
    rfl
  · rw [regGet_regPut, if_neg (Ne.symm (tpulseSkip_ne_cfg n)), hs2]
    show regGet s1 _ = _
    rw [hs1, regGet_regPut, if_pos rfl]
  · rw [regGet_regPut, if_pos rfl]

theorem targetAfter_targetAfter (t period k : Nat) : targetAfter (targetAfter t period 1) period k = (t + (k + 1) * period) % 2 ^ 32 := by
  simp only [targetAfter, Nat.mod_add_mod]
  congr 1
  rw [Nat.add_mul]
  omega

end Sys2Proof.Machine

namespace Sys2Proof.Proofs
open Sys2Proof.Machine

/-- Settles O52. -/
theorem timebaseCapturesPulses : Obligations.TimebaseCapturesPulses := by
  intro s init
  refine ⟨fun d hd => ⟨fun hreach => ⟨?_, fun hvalid => ?_, fun hvalid => ?_⟩, ?_, ⟨_, rfl, loseDom_leaves hd s⟩, fun hreach hopen hsel => ⟨fun hvalid => ?_, fun hvalid => ?_⟩,
    fun v hreach => ?_, fun v hstep => ?_⟩, fun f hf hamount _ => ?_, fun hfollow hdue => ?_, fun hstepped hwrap hhalf => ?_,
    fun port hport htx hrx => ⟨fun r q hq => ?_, fun r q hq => ?_, fun hq => ?_⟩, fun n hn => ?_, fun n hn => ?_⟩
  · refine ⟨domSync d s, (if_pos hd).trans (congrArg Host.Outcome.next (asInit_reaches _ hreach)), ?_⟩
    have hdom : domGet (domSync d s) d = { domGet s d with valid := true, acq := false, syncNs := s.tb.elapsed } := by
      unfold domSync
      simp only []
      split
      · rw [(selectDom_leaves (by decide) _).2.1, domGet_domPut_same]
      · rw [domGet_domPut_same]
    rw [hdom]
    exact ⟨rfl, rfl, rfl, rfl⟩
  · exact (if_pos hd).trans (congrArg Host.Outcome.next ((asInit_reaches _ hreach).trans (if_pos hvalid)))
  · exact (if_pos hd).trans (congrArg Host.Outcome.next ((asInit_reaches _ hreach).trans (if_neg (by rw [hvalid]; decide))))
  · intro t expired
    have hexec : exec (.tbDomainLoss d) s = .next (domLoss d s) := if_pos hd
    have hexpired : ((domGet s d).valid && decide (regFld s (Reg.TB_DOM_CFG d) 0 16 ≠ 0) &&
        decide ((domGet s d).syncNs + regFld s (Reg.TB_DOM_CFG d) 0 16 * 1000000 ≤ s.tb.elapsed)) = true ↔ expired := by
      simp only [expired, t, Bool.and_eq_true, decide_eq_true_eq, and_assoc, ne_eq, Nat.mul_eq_zero, OfNat.ofNat_ne_zero, or_false]
    refine ⟨fun h => ?_, fun h => ?_⟩
    · exact hexec.trans (congrArg Host.Outcome.next (if_pos (hexpired.mpr h)))
    · exact hexec.trans (congrArg Host.Outcome.next (if_neg (fun hx => h (hexpired.mp hx))))
  · obtain ⟨hself, -, hevent, hwork⟩ := selectDom_leaves hd s
    refine ⟨selectDom d s, (if_pos hd).trans (congrArg Host.Outcome.next ((asInit_reaches _ hreach).trans ?_)), hself, ?_, hwork⟩
    · simp [hopen, selWrite, hsel, hvalid]
    · rw [hevent]; simp
  · refine ⟨tbEvent 7 s, (if_pos hd).trans (congrArg Host.Outcome.next ((asInit_reaches _ hreach).trans ?_)), tbEvent_tb 7 s, ?_⟩
    · simp [hopen, selWrite, hsel, hvalid]
    · rw [regBit_tbEvent]; simp
  · exact (if_pos hd).trans (congrArg Host.Outcome.next (asInit_reaches _ hreach))
  · intro limit
    obtain ⟨u, hu⟩ : ∃ u, u = domPut s d { domGet s d with step := none } := ⟨_, rfl⟩
    have hexec : exec (.unsealedStepApply d) s = .next (applyStep d v u) := by
      refine (if_pos hd).trans (congrArg Host.Outcome.next ?_)
      rw [hstep, hu]
    have hdom : domGet u d = { domGet s d with step := none } := by rw [hu, domGet_domPut_same]
    have hregs : u.regs = s.regs := by rw [hu, domPut_regs]
    have hreg : ∀ a, regGet u a = regGet s a := fun a => by rw [regGet, hregs]; rfl
    have hlimit : regFld u Reg.TB_JUMP_LIMIT 0 20 = limit := by simp only [regFld, hreg, limit]
    have hwork : workTime u = workTime s := by rw [hu]; exact workTime_domPut hd (Or.inr rfl)
    refine ⟨fun hv => ?_, fun hv hok => ⟨applyStep d v u, hexec, ?_⟩, fun hv hacq hover => ?_⟩
    · rw [hexec, applyStep, if_pos hv, hu]
    · obtain ⟨hown, hkept, hstepped⟩ := applyStep_applied (s := u) hd hv (by rw [hdom, hlimit]; exact hok)
      rw [hdom] at hkept hstepped
      refine ⟨?_, ?_, fun hacq _ => ?_, fun hacq hsel hf => ?_⟩
      · rw [hown, domStep_time, hdom]
      · rw [hown, domStep, domGet_domPut_same, hdom]
      · obtain ⟨htime, hregs'⟩ := hkept hacq
        exact ⟨htime.trans hwork, by rw [regGet, hregs', hregs]; rfl⟩
      · have hsel' : selDom u = d := by rw [hu, selDom_domPut]; exact hsel
        have hf' : u.tb.follow = none := by rw [hu, follow_domPut]; exact hf
        rw [hstepped hacq hsel' hf']
        obtain ⟨htb, hlast, hevent, harrive⟩ := workStep_leaves v (domStep d v u)
        refine ⟨?_, hlast, ?_, hevent, fun a ha => ?_⟩
        · have hmoved : workTime (workStep v (domStep d v u)) = workTime (domStep d v u) := by simp only [workTime, selTime, htb]
          rw [hmoved, workTime_domStep_inForce hsel' hf', hwork]
        · rw [htb]
          show (domStep d v u).tb.bridge = _
          rw [domStep, bridge_domPut, hu, bridge_domPut]
        · rw [harrive a ha, regGet, domStep, domPut_regs, hregs]
          rfl
    · rw [hexec, applyStep, if_neg hv, if_neg (by rw [hdom]; simp [hacq]), if_neg (by rw [hlimit]; omega), hu]
  · obtain ⟨u, hu⟩ : ∃ u : State, u = { s with tb := { s.tb with forces := [] } } := ⟨_, rfl⟩
    refine ⟨applyForce f.target f.amount u, ?_, ?_⟩
    · refine congrArg Host.Outcome.next ?_
      rw [hf, hu]
      rfl
    · obtain ⟨hforces, hzero, hdomain⟩ := applyForce_leaves (s := u) (f := f) hamount
      rw [hu] at hforces hzero hdomain
      rw [hu]
      exact ⟨hforces, hzero, hdomain⟩
  · obtain ⟨u, hu⟩ : ∃ u : State, u = { s with tb := { s.tb with bridge := s.tb.bridge - 1, decayCtr := 0, elapsed := s.tb.elapsed - 1 } } := ⟨_, rfl⟩
    obtain ⟨w, hw⟩ : ∃ w : State, w = { s with tb := { s.tb with bridge := s.tb.bridge + 1, decayCtr := 0, elapsed := s.tb.elapsed + 1 } } := ⟨_, rfl⟩
    have hexec : exec .bridgeDecayStep s = .next (if s.tb.bridge ≠ 0 then if 0 < s.tb.bridge then u else w else s) := by
      refine congrArg Host.Outcome.next ?_
      simp only [hfollow, Option.isNone_none, Bool.true_and, hdue, decide_true, Bool.and_true, decide_eq_true_eq, hu, hw]
    obtain hneg | hzero | hpos := Int.lt_trichotomy s.tb.bridge 0
    · rw [if_pos (by omega), if_neg (by omega)] at hexec
      refine ⟨w, hexec, by rw [hw], ?_, fun _ => by rw [hw]⟩
      rw [if_neg (by omega), if_pos hneg, hw]
    · rw [if_neg (not_not_intro hzero)] at hexec
      exact ⟨s, hexec, rfl, by rw [hzero]; rfl, fun h => absurd hzero h⟩
    · rw [if_pos (by omega), if_pos hpos] at hexec
      refine ⟨u, hexec, by rw [hu], ?_, fun _ => by rw [hu]⟩
      rw [if_pos hpos, hu]
  · intro u
    have hseen : wrapSeen s = (topBit s.tb.prevNow && !topBit (workTime s)) ∧ halfSeen s = (!topBit s.tb.prevNow && topBit (workTime s)) := by
      simp [wrapSeen, halfSeen, hstepped]
    refine ⟨congrArg Host.Outcome.next ?_, congrArg Host.Outcome.next ?_⟩
    · rw [hwrap, hseen.1]
      simp only [Bool.false_eq_true, if_false, Bool.and_eq_true, Bool.not_eq_true']
      rfl
    · rw [hhalf, hseen.2]
      simp only [Bool.false_eq_true, if_false, Bool.and_eq_true, Bool.not_eq_true']
      rfl
  · refine ⟨tsPop port false s, (if_pos hport).trans (congrArg Host.Outcome.next (asInit_reaches _ hrx)), ?_⟩
    simp only [tsPop, Bool.false_eq_true, if_false, hq, tabGet_put, if_true, Nat.add_zero]
    exact ⟨trivial, trivial, trivial, congrArg some (BitVec.eq_of_toNat_eq (by simp [tsWord0]))⟩
  · refine ⟨tsPop port true s, (if_pos hport).trans (congrArg Host.Outcome.next (asInit_reaches _ htx)), ?_⟩
    simp only [tsPop, if_true, hq, tabGet_put]
    exact ⟨trivial, trivial, trivial⟩
  · refine (if_pos hport).trans (congrArg Host.Outcome.next ((asInit_reaches _ hrx).trans ?_))
    simp only [tsPop, Bool.false_eq_true, if_false, hq]
  · intro x
    refine ⟨fun rise hlevel hon => ?_, fun hreach => ⟨fun hq => ?_, fun r q hq => ?_⟩, fun r hq => ?_⟩
    · intro want
      refine ⟨tcapEdge n rise s, if_pos hn, ?_⟩
      obtain ⟨s1, hs1⟩ : ∃ s1, s1 = tcapPut s n { tcapGet s n with level := rise } := ⟨_, rfl⟩
      have hx : tcapGet s1 n = { tcapGet s n with level := rise } := by rw [hs1, tcapGet_tcapPut, if_pos rfl]
      have hedge : tcapEdge n rise s = if want then tcapTake n rise s1 else s1 := by
        unfold tcapEdge
        rw [if_neg (by rw [show (tcapGet s n).level = !rise from hlevel]; cases rise <;> decide)]
        simp only [← hs1]
        have hon1 : regBit s1 (Reg.TCAP_CFG n) 31 = true := by rw [hs1]; exact hon
        have hcfg1 : regFld s1 (Reg.TCAP_CFG n) 4 2 = regFld s (Reg.TCAP_CFG n) 4 2 := by rw [hs1]; rfl
        rw [hon1, hcfg1, Bool.true_and]
        exact if_congr (tcapEdge_enabled (regGet s (Reg.TCAP_CFG n)) rise) rfl rfl
      obtain ⟨hlevel1, hroom, hfull⟩ := tcapTake_leaves n rise s1
      rw [hx] at hlevel1 hroom hfull
      by_cases hw : want
      · rw [hedge, if_pos hw]
        refine ⟨hlevel1, fun h => absurd hw h, fun _ hlen => ?_, fun _ hlen => ?_⟩
        · rw [hroom hlen, hs1]
          rfl
        · obtain ⟨hqueue, hlost⟩ := hfull hlen
          exact ⟨hqueue, by rw [hlost, hs1]; rfl⟩
      · rw [hedge, if_neg hw, hx]
        exact ⟨rfl, fun _ => rfl, fun h => absurd h hw, fun h => absurd h hw⟩
    · refine (if_pos hn).trans (congrArg Host.Outcome.next ((asInit_reaches _ hreach).trans ?_))
      simp only [x] at hq
      simp only [tcapPop, hq]
    · refine ⟨tcapPop n s, (if_pos hn).trans (congrArg Host.Outcome.next (asInit_reaches _ hreach)), ?_⟩
      simp only [x] at hq
      have hput : ∀ (y : TcapSt) (w : Option Word64), tcapGet { tcapPut s n y with reply := w } n = y := fun y w =>
        (tcapGet_tcapPut s n n y).trans (if_pos rfl)
      simp only [tcapPop, hq, hput]
      refine ⟨trivial, trivial, congrArg some (BitVec.eq_of_toNat_eq ?_)⟩
      simp [tcapWord, bitN]
    · refine ⟨_, if_pos hn, ?_⟩
      rw [tcapGet_tcapPut, if_pos rfl]
      simp only [x] at hq
      simp only [hq, List.map_cons, List.map_nil]
      by_cases hold : r.ns + 2 ^ 31 ≤ s.tb.elapsed
      · rw [if_pos hold, decide_eq_true hold, Bool.or_true]
      · rw [if_neg hold, decide_eq_false hold, Bool.or_false]
  · intro x start period armed
    refine ⟨fun hreach => ⟨fun harmed => ?_, fun harmed => ?_⟩, fun harmed hreached htick => ?_, ?_⟩
    · exact (if_pos hn).trans (congrArg Host.Outcome.next ((asInit_reaches _ hreach).trans (if_pos harmed)))
    · refine ⟨tpulseArm n s, (if_pos hn).trans (congrArg Host.Outcome.next (asInit_reaches _ hreach)), ?_⟩
      obtain ⟨hpulse, hcfg, hskip⟩ := tpulseArm_leaves harmed
      simp only [] at hpulse hcfg hskip
      rw [hpulse]
      refine ⟨?_, fun hlate => ?_, rfl, rfl, fun hon => ?_, fun hnow hlate hperiod hshort => ?_⟩
      · rw [regBit, hcfg, bitAt_armed_31]
      · rw [regBit, hcfg, hlate, bitAt_late_29]
      · rw [armSkips_zero hon]
        exact targetAfter_zero _ _
      · have hskips : armSkips n s = periodsPast (workTime s) start period := if_neg hperiod
        rw [hskips] at hskip ⊢
        exact ⟨reached_targetAfter hnow (Nat.pos_of_ne_zero hperiod) hshort hlate, _, rfl, hskip⟩
    · refine ⟨tpulseFire n s, if_pos hn, ?_⟩
      have hgo : (regBit s (Reg.TPULSE_CFG n) 31 && reached (workTime s) (tpulseGet s n).next &&
          decide ((tpulseGet s n).armTick < s.tb.ticks)) = true := by
        rw [show regBit s (Reg.TPULSE_CFG n) 31 = true from harmed, show reached (workTime s) (tpulseGet s n).next = true from hreached,
          decide_eq_true (show (tpulseGet s n).armTick < s.tb.ticks from htick)]
        rfl
      unfold tpulseFire
      rw [if_pos hgo]
      by_cases hperiod : period = 0
      · rw [if_pos hperiod, tpulseGet_tpulsePut, if_pos rfl]
        refine ⟨rfl, rfl, fun _ => ?_, fun h => absurd hperiod h⟩
        show bitAt (regGet (regPut s _ _) (Reg.TPULSE_CFG n)) 31 = false
        rw [regGet_regPut, if_pos rfl, bitAt_setFld, if_pos ⟨by decide, by decide⟩]
        rfl
      · rw [if_neg hperiod]
        have hput : ∀ (y : TpulseSt) (k : Nat), tpulseGet (cntAdd (tpulsePut s n y) (Reg.TPULSE_SKIP n) k) n = y := fun y k =>
          (tpulseGet_tpulsePut s n n y).trans (if_pos rfl)
        have hcfg : ∀ (y : TpulseSt) (k : Nat), regBit (cntAdd (tpulsePut s n y) (Reg.TPULSE_SKIP n) k) (Reg.TPULSE_CFG n) 31 =
            regBit s (Reg.TPULSE_CFG n) 31 := fun y k => congrArg (fun w : Word32 => bitAt w 31)
              ((regGet_regPut _ _ _ _).trans (if_neg (Ne.symm (tpulseSkip_ne_cfg n))))
        rw [hput, hcfg]
        exact ⟨rfl, rfl, fun h => absurd h hperiod, fun _ => ⟨harmed, _, targetAfter_targetAfter _ _ _⟩⟩
    · refine (if_pos hn).trans (congrArg Host.Outcome.next ?_)
      simp only [Bool.and_eq_true, decide_eq_true_eq]
      rfl

end Sys2Proof.Proofs
end

section
/-!
SUPPORT. Laws of camera intake (R541–R563): the close of a frame, a frame's lines and its hand-over; with the settlement of the
statement on camera frames.
-/

namespace Sys2Proof.Machine

@[simp] theorem ctxGet_ctxPut (s : State) (n m : Nat) (x : CtxSt) : ctxGet (ctxPut s n x) m = if m = n then x else ctxGet s m := by
  simp [ctxGet, ctxPut]

theorem ctxGet_congr {s t : State} (h : t.intake = s.intake) (n : Nat) : ctxGet t n = ctxGet s n := by simp only [ctxGet, h]

theorem intakeWrite_intake {p : Nat} {a : Addr} {l : List Byte} {s s1 : State} {ok : Bool} (h : intakeWrite p a l s = (ok, s1)) :
    s1.intake = s.intake := by
  have hframe := congrArg State.intake (frame_intakeWrite (w := Parts.faultReach) rfl p a l s s1 (by rw [h]; rfl)).same
  exact hframe

/-! ## Frames -/

/-- A frame that is open closes with flags (R553). -/
theorem closeFrame_open {s : State} {n : Nat} {f : Frame} (h : (ctxGet s n).frame = some f) (fl : Nat) :
    closeFrame n fl s = ctxPut s n { ctxGet s n with
      frame := none, closing := (ctxGet s n).closing ++ [{ f with eoftime := workTime s, flags := f.flags ||| fl }] } := by
  simp only [closeFrame, h]

theorem closeFrame_none {s : State} {n : Nat} (h : (ctxGet s n).frame = none) (fl : Nat) : closeFrame n fl s = s := by
  simp only [closeFrame, h]

/-- The one context that names a port and channel takes a frame start. -/
theorem csiFrameStart_one {s : State} {port vc n p : Nat} (hport : port < 4) (hon : portOn s port = true) (hat : ctxsAt s port vc = [n])
    (hen : ctxOn s n = true) (howner : ctxOwner s n = some p) (hlive : ctxLive s n = true) (hnone : (ctxGet s n).frame = none) (cnt : Nat) :
    exec (.csiFrameStart port vc cnt false) s = .next (if ringFree s n then openFrame n p cnt s else gapOne n s) := by
  refine (if_pos hport).trans (congrArg Host.Outcome.next ?_)
  have hfirst : firstOfDt s [n] n = true := by simp [firstOfDt]
  simp only [hon, Bool.not_true, Bool.false_eq_true, if_false, ctxsOn, hat, List.filter_cons, hen, if_true, List.filter_nil, List.isEmpty_cons,
    Bool.or_false, List.any_cons, List.any_nil, hfirst, List.foldl_nil, List.foldl_cons, fsAt, howner, hlive, Bool.and_self,
    closeFrame_none hnone]

/-- A line that fits its frame is written and counted (R554). -/
theorem takeLine_fits {s s1 : State} {n : Nat} {f : Frame} {data : List Byte} (h : (ctxGet s n).frame = some f) (hmore : f.packets < f.cfg.lines)
    (halive : f.dead = false) (hlen : (storedLine f.cfg data).length = f.cfg.lb)
    (hw : intakeWrite f.part (f.buffer + f.packets * f.cfg.lstride) (storedLine f.cfg data) (takeFree s).2 = (true, s1)) :
    ∃ g, takeLine n false data s = ctxPut s1 n { ctxGet s n with frame := some g } ∧ g.got = f.got ++ [f.packets] ∧
      g.packets = f.packets + 1 ∧ g.flags = f.flags ∧ g.short = f.short ∧ g.long = f.long := by
  have htake : (storedLine f.cfg data).take f.cfg.lb = storedLine f.cfg data := List.take_of_length_le (Nat.le_of_eq hlen)
  unfold takeLine
  simp only [h, if_neg (Nat.not_le.mpr hmore), Bool.false_eq_true, if_false, halive, hlen, Nat.lt_irrefl, htake, Frame.flag, decide_false, hw,
    Bool.not_true]
  exact ⟨_, rfl, rfl, rfl, rfl, rfl, rfl⟩

/-- A long packet goes to the context that takes lines of its type; a single context names the type, so no tie is counted (R546). -/
theorem csiLongPacket_taken {s : State} {port vc dt n : Nat} (hport : port < 4) (hon : portOn s port = true)
    (htaker : lineTaker s port vc dt = some n)
    (hnamed : ((ctxsOn s port vc).filter (fun m => decide ((ctxCfg s m).dt = dt))).length ≤ 1) (data : List Byte) :
    exec (.csiLongPacket port vc dt data false false) s = .next (takeLine n false data s) := by
  refine (if_pos hport).trans (congrArg Host.Outcome.next ?_)
  simp only [hon, Bool.not_true, Bool.false_eq_true, if_false, htaker, if_neg (Nat.not_lt.mpr hnamed)]

/-! ## Closing a frame (R558–R563) -/

theorem tested_run (x : CtxSt) (f : Frame) (sig : Word64) : (frameTests x f sig).1 = if x.prevSig = some sig then x.run + 1 else 0 := by
  unfold frameTests
  simp only []
  cases x.prevSig with
  | none => simp
  | some p => simp

theorem raise_intake (n : Nat) (p : Option Nat) (d : Nat) (s : State) : (raise n p d s).intake = s.intake := by
  have h := congrArg State.intake (frame_raise (w := Parts.faultReach) rfl n p d s _ rfl).same
  exact h

theorem msi_intake (s : State) (p tgt : Nat) : (msi s p tgt).intake = s.intake := by
  have h := congrArg State.intake (frame_msi (w := { imsic := true }) rfl s p tgt _ rfl).same
  exact h

theorem pegSignal_intake (s : State) (n : Nat) (op : PegOp) : (pegSignal s n op).intake = s.intake := by
  have h := congrArg State.intake (frame_pegSignal (w := { bays := true, cmd := true, pegs := true, safety := true }) rfl s n op _ rfl).same
  exact h

/-- The hand-over of a closed frame adds to its context's gap at most (R563, R566). -/
theorem handOver_ctx (n filled run : Nat) (sig : Word64) (f : Frame) (s : State) :
    ∃ g, ctxGet (handOver n filled run sig f s) n = { ctxGet s n with gap := g } := by
  rcases hr : (if f.noDesc then (false, s) else intakeWrite f.part f.desc (frameDesc n f true filled run sig.toNat) s) with ⟨ok, s1⟩
  have hwrite : s1.intake = s.intake := by
    by_cases hno : f.noDesc = true
    · rw [if_pos hno] at hr
      rw [← show s = s1 from congrArg (fun x => x.2) hr]
    · rw [if_neg hno] at hr
      exact intakeWrite_intake hr
  have hgap : ∀ c : Bool, ∃ g, ctxGet (if c then ctxPut s1 n { ctxGet s1 n with gap := (ctxGet s1 n).gap + 1 } else s1) n =
      { ctxGet s n with gap := g } := by
    intro c
    rw [← ctxGet_congr hwrite n]
    cases c with
    | true => exact ⟨_, (ctxGet_ctxPut _ _ _ _).trans (if_pos rfl)⟩
    | false => exact ⟨_, rfl⟩
  obtain ⟨g, hg⟩ := hgap (!ok && !f.noDesc)
  refine ⟨g, ?_⟩
  obtain ⟨s2, hs2⟩ : ∃ s2, s2 = if !ok && !f.noDesc then ctxPut s1 n { ctxGet s1 n with gap := (ctxGet s1 n).gap + 1 } else s1 := ⟨_, rfl⟩
  rw [← hs2] at hg
  obtain ⟨s3, hs3⟩ : ∃ s3, s3 = if ok && bitAt f.cfg.peg 31 then pegSignal s2 (fld f.cfg.peg 16 11) (.add 1) else s2 := ⟨_, rfl⟩
  obtain ⟨s4, hs4⟩ : ∃ s4, s4 = if bitAt f.cfg.peg 30 then msi s3 f.part (fld f.cfg.peg 0 4) else s3 := ⟨_, rfl⟩
  have hkept3 : s3.intake = s2.intake := by
    rw [hs3]
    split
    · exact pegSignal_intake _ _ _
    · rfl
  have hkept4 : s4.intake = s3.intake := by
    rw [hs4]
    split
    · exact msi_intake _ _ _
    · rfl
  unfold handOver
  simp only [hr, ← hs2, ← hs3, ← hs4]
  generalize (if ok = true then f else f.refuse) = f1
  split
  · rw [ctxGet_congr (raise_intake _ _ _ _), ctxGet_congr (hkept4.trans hkept3), hg]
  · rw [ctxGet_congr (hkept4.trans hkept3), hg]

/-- A frame all of whose lines have arrived is handed over as it is, with its signature (R556, R558). -/
theorem finishFrame_complete {s : State} {n : Nat} {f : Frame} {rest : List Frame} (h : (ctxGet s n).closing = f :: rest)
    (hall : f.cfg.lines ≤ f.packets) (hgot : ∀ l, l < f.cfg.lines → l ∈ f.got) :
    ∃ t, finishFrame n s = t ∧ (ctxGet t n).closing = rest ∧ (ctxGet t n).prevSig = some (frameSig f) ∧
      (ctxGet t n).run = (if (ctxGet s n).prevSig = some (frameSig f) then (ctxGet s n).run + 1 else 0) ∧
      (ctxGet t n).frame = (ctxGet s n).frame := by
  have hmissing : (List.range f.cfg.lines).filter (fun l => !f.got.contains l) = [] := by
    rw [List.filter_eq_nil_iff]
    intro l hl
    simp [hgot l (List.mem_range.mp hl)]
  refine ⟨_, rfl, ?_⟩
  unfold finishFrame
  simp only [h, hmissing, fillLines, Frame.flag, decide_eq_false (Nat.not_lt.mpr hall), Bool.false_eq_true, if_false]
  obtain ⟨g, hg⟩ := handOver_ctx n 0 (frameTests (ctxGet s n) f (frameSig f)).1 (frameSig f)
    { f with flags := f.flags ||| (frameTests (ctxGet s n) f (frameSig f)).2 }
    (ctxPut (takeFree s).2 n { ctxGet (takeFree s).2 n with
      closing := rest, prevSig := some (frameSig f), run := (frameTests (ctxGet s n) f (frameSig f)).1, prevCounter := f.counter })
  rw [hg, ctxGet_ctxPut, if_pos rfl, tested_run]
  exact ⟨rfl, rfl, rfl, rfl⟩

/-! ## The state of a port's lanes (R541) -/

/-- A lane event sets or clears its bit and no other. -/
theorem portStat_bit {s : State} {port : Nat} (hport : port < 4) (hon : portOn s port = true) (bit : Nat) (v : Bool) :
    ∃ t, portStat port bit v s = .next t ∧ ∀ b, b < 32 →
      regBit t (Reg.INTAKE_PORT_STAT port) b = if b = bit then v else regBit s (Reg.INTAKE_PORT_STAT port) b := by
  refine ⟨_, (if_pos hport).trans (congrArg Host.Outcome.next (if_pos hon)), fun b hb => ?_⟩
  rw [regBit, regGet_regPut, if_pos rfl, bitAt_setFld]
  by_cases hbit : b = bit
  · subst hbit
    rw [if_pos ⟨Nat.le_refl b, Nat.lt_succ_self b⟩, if_pos rfl, Nat.sub_self, decide_eq_true hb]
    cases v <;> rfl
  · rw [if_neg (by omega), if_neg hbit]
    rfl

end Sys2Proof.Machine

namespace Sys2Proof.Proofs
open Sys2Proof.Machine

/-- Settles O53. -/
theorem cameraFrames : Obligations.CameraFrames := by
  intro s init port vc n hport hon x
  refine ⟨fun i hi => ?_, fun p cnt hat hen howner hlive hnone => ⟨fun hfull => ?_, fun s1 => ?_⟩, fun f hf => ?_,
    fun f rest hn hclosing hall hgot => ?_, fun y hy => ?_⟩
  · have hdisc : ∀ u : State, (if !portOn s port then s else u) = u := fun u => if_neg (by rw [hon]; decide)
    simp only [List.mem_cons, List.not_mem_nil, or_false] at hi
    obtain rfl | rfl | rfl | rfl := hi
    · exact (if_pos hport).trans (congrArg Host.Outcome.next ((hdisc _).trans rfl))
    · exact (if_pos hport).trans (congrArg Host.Outcome.next ((hdisc _).trans rfl))
    · exact (if_pos hport).trans (congrArg Host.Outcome.next ((hdisc _).trans rfl))
    · exact (if_pos hport).trans (congrArg Host.Outcome.next ((hdisc _).trans rfl))
  · rw [csiFrameStart_one hport hon hat hen howner hlive hnone, hfull]
    rfl
  · intro f hfree hwrite
    refine ⟨rfl, rfl, rfl, rfl, openFrame n p cnt s, ?_, ?_⟩
    · rw [csiFrameStart_one hport hon hat hen howner hlive hnone, hfree]
      rfl
    · have hopen : openFrame n p cnt s = ctxPut s1 n { ctxGet s1 n with
          next := ((ctxGet s1 n).next + 1) % 2 ^ 32, gap := 0, frame := some f, prevSof := some s1.tb.elapsed } := by
        simp only [openFrame]
        rw [show intakeWrite p (newFrame n p cnt s).desc (frameDesc n (newFrame n p cnt s) false 0 0 0) s = (true, s1) from hwrite]
        rfl
      have hctx : ctxGet s1 n = x := ctxGet_congr (intakeWrite_intake hwrite) n
      rw [hopen, ctxGet_ctxPut, if_pos rfl, hctx]
      exact ⟨rfl, rfl, rfl, fun a => rfl⟩
  · intro closed
    have hclose : ∀ (u : State) (fl : Nat), u.intake = s.intake → workTime u = workTime s → closed fl (closeFrame n fl u) := by
      intro u fl hu hw
      have hctx : ∀ m, ctxGet u m = ctxGet s m := ctxGet_congr hu
      rw [closeFrame_open (f := f) (by rw [hctx]; exact hf)]
      refine ⟨by simp, by simp [hctx, hw, x], fun m hm => by simp [hm, hctx]⟩
    have hregs : ∀ (u : State) (fl : Nat), (closeFrame n fl u).regs = u.regs := by
      intro u fl
      unfold closeFrame
      simp only []
      split
      · rfl
      · rfl
    refine ⟨fun hopen => ?_, fun hn hlimit hlate => ?_, fun hn hearly => ?_, fun hn hreach hlock => ?_, fun dt data htaker hnamed => ⟨fun hover => ?_, fun s1 hmore halive hlen hwrite => ?_⟩,
      fun data hopen hlive hsrc hcounter hlen => ?_⟩
    · refine ⟨closeFrame n 0 s, (if_pos hport).trans (congrArg Host.Outcome.next ?_), hclose s 0 rfl rfl, hregs s 0⟩
      simp [hon, hopen]
    · refine ⟨closeFrame n 64 s, (if_pos hn).trans (congrArg Host.Outcome.next ?_), hclose s 64 rfl rfl, hregs s 64⟩
      simp only [x] at hf
      simp only [frameTimeout, hf]
      exact if_pos ⟨hlimit, hlate⟩
    · refine (if_pos hn).trans (congrArg Host.Outcome.next ?_)
      simp only [x] at hf
      simp only [frameTimeout, hf]
      refine if_neg (fun h => ?_)
      obtain ⟨hne, hle⟩ := h
      exact hearly.elim (fun h0 => hne h0) (fun hlt => absurd hle (Nat.not_le.mpr hlt))
    · refine ⟨ctxDisable n s, (if_pos hn).trans (congrArg Host.Outcome.next ((asInit_reaches _ hreach).trans (if_neg (by rw [hlock]; decide)))),
        hclose _ _ rfl rfl, ?_⟩
      rw [ctxOn, regBit, regGet, ctxDisable, hregs]
      show bitAt (regGet (regPut s _ _) _) 31 = false
      rw [regGet_regPut, if_pos rfl, bitAt_setFld, if_pos ⟨by decide, by decide⟩]
      rfl
    · have hexec := csiLongPacket_taken hport hon htaker hnamed data
      simp only [x] at hf
      refine ⟨takeLine n false data s, { f with packets := f.packets + 1, surplus := f.surplus + 1 }.flag 1 true, hexec, ?_⟩
      simp only [takeLine, hf, if_pos hover, ctxGet_ctxPut, if_true]
      exact ⟨trivial, rfl, rfl, rfl, rfl⟩
    · obtain ⟨g, hline, hgot, hpackets, hflags, hshort, hlong⟩ := takeLine_fits hf hmore halive hlen hwrite
      refine ⟨takeLine n false data s, g, csiLongPacket_taken hport hon htaker hnamed data, ?_, hgot, hpackets, hflags, hshort, hlong,
        fun a => by rw [hline]; rfl⟩
      rw [hline, ctxGet_ctxPut, if_pos rfl]
    · simp only [x] at hf
      refine ⟨takeEmbedded data n s, (if_pos hport).trans (congrArg Host.Outcome.next ?_), ?_⟩
      · simp [hon, hopen, hlive, hf, hsrc]
      · simp only [takeEmbedded, hf, hsrc, hcounter, and_self, if_true, if_pos hlen, ctxGet_ctxPut]
  · obtain ⟨t, ht, hleft⟩ := finishFrame_complete hclosing hall hgot
    exact ⟨t, (if_pos hn).trans (congrArg Host.Outcome.next ht), hleft⟩
  · simp only [List.mem_cons, List.not_mem_nil, or_false] at hy
    obtain rfl | rfl | rfl | rfl | rfl := hy
    · exact portStat_bit hport hon 2 true
    · exact portStat_bit hport hon 2 false
    · exact portStat_bit hport hon 1 true
    · exact portStat_bit hport hon 0 true
    · exact portStat_bit hport hon 0 false

end Sys2Proof.Proofs
end

section
/-!
SUPPORT. The seal unit: how a frame arrives, what an answer leaves unchanged, and the effects of sealed commands (O56).
-/

namespace Sys2Proof.Machine

/-! ## Registers that a response leaves alone -/

theorem regGet_queueEth_other {a : Addr} {n : Nat} (h : a ≠ Reg.GW_PORT_DROP n) (c : Nat) (l : List Byte) (s : State) :
    regGet (queueEth n c l s) a = regGet s a := by
  unfold queueEth
  split
  · rfl
  · exact (regGet_regPut _ _ _ _).trans (if_neg h)

/-- The last sequence numbers lie in no register of a gateway port. -/
theorem lastseq_ne_portDrop {k n : Nat} (hk : k < 8) (hn : n < 4) : Reg.SEAL_LASTSEQ k ≠ Reg.GW_PORT_DROP n := by
  have h : ∀ a b : Nat, a < 8 → b < 4 → 0x002000F00000 + 0x40 + a * 4 ≠ 0x002000C00000 + 65560 + b * 4096 := by omega
  exact h k n hk hn

/-- An answer leaves the last sequence numbers. -/
theorem lastseq_sealAnswer {f : SealFrame} (hsrc : f.src ≤ 5) {k : Nat} (hk : k < 8) (st hd : Nat) (l : List Byte) (s : State) :
    regGet (sealAnswer f st hd l s) (Reg.SEAL_LASTSEQ k) = regGet s (Reg.SEAL_LASTSEQ k) := by
  unfold sealAnswer sealDeliver
  by_cases h0 : f.src = 0
  · rw [if_pos h0]; rfl
  · rw [if_neg h0]
    by_cases h5 : f.src = 5
    · rw [if_pos h5]
      have hne : Reg.SEAL_LASTSEQ k ≠ Reg.SEAL_SW_STAT := by
        have h : ∀ a : Nat, a < 8 → 0x002000F00000 + 0x40 + a * 4 ≠ 0x002000F00000 + 0x64 := by omega
        exact h k hk
      exact (regGet_regPut _ _ _ _).trans (if_neg hne)
    · rw [if_neg h5]
      have hn : f.src - 1 < 4 := by omega
      exact regGet_queueEth_other (lastseq_ne_portDrop hk hn) _ _ _

/-- An answer leaves the accepted command. -/
theorem accepted_sealAnswer (f : SealFrame) (st hd : Nat) (l : List Byte) (s : State) :
    (sealAnswer f st hd l s).sealU.accepted = s.sealU.accepted := by
  unfold sealAnswer sealDeliver queueEth
  by_cases h0 : f.src = 0
  · rw [if_pos h0]
  · rw [if_neg h0]
    split
    · rfl
    · simp only []
      split <;> rfl

/-! ## Taking a frame -/

theorem sealTake_next {s : State} {k : Nat} {f : SealFrame} (hacc : s.sealU.accepted = none) (hnext : sealNext s = some k)
    (hbuf : sealBuf s k = some f) :
    sealTake s = sealProcess f { sealBufPut s k none with sealU := { (sealBufPut s k none).sealU with last := k } } := by
  unfold sealTake
  simp only [hacc, hnext, hbuf]

theorem sealProcess_rejects {f : SealFrame} {s : State} (h : sealTest s f ≠ 0) : sealProcess f s = sealReject f (sealTest s f) s := by
  unfold sealProcess
  split
  · exact absurd ‹_› h
  · rfl

theorem sealProcess_passes {f : SealFrame} {s : State} (h : sealTest s f = 0) :
    sealProcess f s = if sealCritical (leAt f.bytes 1 1) then sealAuth f s else sealAccept f 0 s := by
  unfold sealProcess
  split
  · rfl
  · exact absurd h ‹_›

theorem takeFree_regs (s : State) : (takeFree s).2.regs = s.regs := rfl

theorem allocDowel_regs {s s1 : State} {d : Dowel} {slot : Nat} (h : allocDowel s d = some (slot, s1)) : s1.regs = s.regs := by
  unfold allocDowel at h
  split at h
  · exact absurd h nofun
  · split at h
    · cases h
      rfl
    · exact absurd h nofun

/-- An authenticated frame is accepted with the dowel that was allocated to it, and its sequence number is the last. -/
theorem sealAuth_accepts {f : SealFrame} {u s3 : State} {slot : Nat} (hsrc : f.src ≤ 5)
    (h : allocDowel (takeFree (regPut u (Reg.SEAL_LASTSEQ (leAt f.bytes 2 1 % 8)) (BitVec.ofNat 32 (leAt f.bytes 12 4)))).2
      (sealedDowel (.sealed (leAt f.bytes 1 1)) (bytesAt f.bytes 16 (leAt f.bytes 4 2))
        (takeFree (regPut u (Reg.SEAL_LASTSEQ (leAt f.bytes 2 1 % 8)) (BitVec.ofNat 32 (leAt f.bytes 12 4)))).1) = some (slot, s3)) :
    (sealAuth f u).sealU.accepted = some { frame := f, payload := bytesAt f.bytes 16 (leAt f.bytes 4 2), slot := slot } ∧
      regGet (sealAuth f u) (Reg.SEAL_LASTSEQ (leAt f.bytes 2 1 % 8)) = BitVec.ofNat 32 (leAt f.bytes 12 4) := by
  have hauth : sealAuth f u = sealAnswer f 0 (handleOf s3 slot) [] (sealRemember (handleOf s3 slot) (sealAccept f slot s3)) := by
    unfold sealAuth
    simp only [h]
  have hregs : s3.regs = (regPut u (Reg.SEAL_LASTSEQ (leAt f.bytes 2 1 % 8)) (BitVec.ofNat 32 (leAt f.bytes 12 4))).regs :=
    (allocDowel_regs h).trans (takeFree_regs _)
  rw [hauth]
  refine ⟨(accepted_sealAnswer _ _ _ _ _).trans rfl, ?_⟩
  have hk : leAt f.bytes 2 1 % 8 < 8 := Nat.mod_lt _ (by decide)
  have hne : Reg.SEAL_LASTSEQ (leAt f.bytes 2 1 % 8) ≠ Reg.SEAL_ACC_CNT := by
    have h : ∀ a : Nat, a < 8 → 0x002000F00000 + 0x40 + a * 4 ≠ 0x002000F00000 + 0x6C := by omega
    exact h _ hk
  calc regGet (sealAnswer f 0 (handleOf s3 slot) [] (sealRemember (handleOf s3 slot) (sealAccept f slot s3))) _
      = regGet (cntInc s3 Reg.SEAL_ACC_CNT) (Reg.SEAL_LASTSEQ (leAt f.bytes 2 1 % 8)) := lastseq_sealAnswer hsrc hk _ _ _ _
    _ = regGet s3 (Reg.SEAL_LASTSEQ (leAt f.bytes 2 1 % 8)) := (regGet_regPut _ _ _ _).trans (if_neg hne)
    _ = _ := by rw [regGet, hregs]; exact (regGet_regPut _ _ _ _).trans (if_pos rfl)

/-! ## The software window -/

theorem regBit_cntInc_other {a b : Addr} (h : a ≠ b) (s : State) (i : Nat) : regBit (cntInc s b) a i = regBit s a i := by
  rw [regBit, regBit, cntInc, cntAdd, regGet_regPut, if_neg h]

theorem epochDrawn_cntInc {b : Addr} (h : Reg.SEAL_EPOCH ≠ b) (s : State) : epochDrawn (cntInc s b) = epochDrawn s := by
  rw [epochDrawn, epochDrawn, cntInc, cntAdd, regGet_regPut, if_neg h]

/-- A word that holds no reserved encoding takes its effect, on a state in which a reserved bit may have been counted. -/
theorem tryWrite_effect {a : Addr} {v : Word32} (hrow : (regRow a).isSome = true) (h : wordRefuses a v = false)
    (eff : State → State) (s : State) : tryWrite a v eff s = eff s ∨ tryWrite a v eff s = eff (cntInc s Reg.GLOBAL_RSVD_CNT) := by
  obtain ⟨r, hr⟩ := Option.isSome_iff_exists.mp hrow
  unfold tryWrite
  rw [if_neg (by rw [h]; decide), hr]
  simp only []
  split
  · exact .inr rfl
  · exact .inl rfl

theorem sealArrive_sw {s : State} (h : s.sealU.sw = none) (l : List Byte) :
    (sealArrive { src := 5, bytes := l } s).sealU.sw = some { src := 5, bytes := l } ∧
      (sealArrive { src := 5, bytes := l } s).sealU.sup = s.sealU.sup := by
  have hbuf : sealBuf s (SealFrame.buf { src := 5, bytes := l }) = none := h
  rw [sealArrive, hbuf]
  exact ⟨rfl, rfl⟩

/-! ## What the effects of the commands come to -/

theorem keyRevoke_own {x : SealCmd} (h : leAt x.payload 0 1 = leAt x.frame.bytes 2 1) (s : State) :
    keyRevoke x s = sealDone x.slot 0x8101 s := if_pos h

/-- Revocation of another slot that is provisioned and not revoked turns on whether a slot is left that may revoke. -/
theorem keyRevoke_other {x : SealCmd} {s : State} (hown : leAt x.payload 0 1 ≠ leAt x.frame.bytes 2 1) (hk : leAt x.payload 0 1 < 8)
    (hprov : bitAt (regGet s (Reg.SEAL_KEY_ATTR (leAt x.payload 0 1))) 31 = true)
    (hrev : bitAt (regGet s (Reg.SEAL_KEY_ATTR (leAt x.payload 0 1))) 30 = false) :
    keyRevoke x s =
      if (List.range 8).all (fun j => decide (j = leAt x.payload 0 1) || !revokerOk s j) then sealDone x.slot 0x8104 s
      else { s with sealU := { s.sealU with revoking := s.sealU.revoking ++ [(leAt x.payload 0 1, x.slot)] } } := by
  unfold keyRevoke
  simp only []
  rw [if_neg hown, if_neg (by rw [hprov]; simp; omega), hrev]
  exact if_neg Bool.false_ne_true

theorem fwAccept_fails {ok : Bool} {x : SealCmd} {s : State} (h : fwTest s x.payload ok ≠ 0) :
    fwAccept ok x s = sealDone x.slot (fwTest s x.payload ok) s := by
  unfold fwAccept
  extract_lets l
  split
  · exact absurd ‹_› h
  · rfl

theorem fwAccept_passes {ok : Bool} {x : SealCmd} {s : State} (h : fwTest s x.payload ok = 0) :
    fwAccept ok x s = { s with boot := { s.boot with
      accept := some { slot := x.slot, typ := leAt x.payload 0 1, bank := leAt x.payload 1 1,
                       svn := imageSvn s (leAt x.payload 0 1) (leAt x.payload 1 1) } } } := by
  unfold fwAccept
  simp only []
  split
  · rfl
  · exact absurd h ‹_›

theorem sealAnswer_sup {f : SealFrame} (h : f.src = 0) (st hd : Nat) (l : List Byte) (s : State) :
    (sealAnswer f st hd l s).sealU.supRsp = sealResponse s (leAt f.bytes 1 1) st hd l := by
  rw [sealAnswer, sealDeliver, if_pos h]

/-- In PRODUCTION an enable waits for the drivers while they are not enabled. -/
theorem scribeEnable_waits {x : SealCmd} {s : State} (hlife : lifeState s = 2)
    (hstate : regBit (raise 0x100 none 0 s) Reg.SCRIBE_STATE 0 = false) :
    (scribeEnable x s).boot.scribe = (raise 0x100 none 0 s).boot.scribe ++ [x.slot] ∧ (scribeEnable x s).regs = (raise 0x100 none 0 s).regs := by
  unfold scribeEnable
  rw [if_neg (not_not_intro hlife)]
  generalize raise 0x100 none 0 s = s1 at hstate
  simp only [hstate, Bool.false_eq_true, if_false]
  split <;> exact ⟨rfl, rfl⟩

theorem revokeDone_one {s : State} {k slot : Nat} (h : s.sealU.revoking = [(k, slot)]) :
    revokeDone k s = sealDone slot 0 (regSetFld { s with sealU := { s.sealU with revoking := [] } } (Reg.SEAL_KEY_ATTR k) 30 1 1) := by
  unfold revokeDone
  simp [h]

theorem regBit_regSetFld_one (s : State) (a : Addr) (i : Nat) (hi : i < 32) : regBit (regSetFld s a i 1 1) a i = true := by
  rw [regBit, regSetFld, regGet_regPut, if_pos rfl, bitAt_setFld, if_pos ⟨by omega, by omega⟩]
  simp [hi]

theorem freeRecord_kept (k : Nat) (s : State) : ∃ n, (freeRecord k s).2 = { s with freeCtr := n } := by
  induction k generalizing s with
  | zero => exact ⟨_, rfl⟩
  | succ k ih =>
    obtain ⟨n, hn⟩ := ih (takeFree s).2
    exact ⟨n, hn⟩

/-- The copy of the boot record that is not in use. -/
theorem otherCopy_eq (c : Option Nat) : (match c with | some 0 => 1 | _ => 0) = if c = some 0 then 1 else 0 := by
  split
  · rw [if_pos rfl]
  · rw [if_neg ‹_›]

/-- A record that reads back is in force, in the copy that was not in use. -/
theorem fwDone_good {s : State} {a : FwAccept} (ha : s.boot.accept = some a) :
    ∃ t, fwDone true s = sealDone a.slot 0 t ∧ t.boot.accept = none ∧ t.boot.record = newRecord s a ∧
      t.boot.copy = some (if s.boot.copy = some 0 then 1 else 0) ∧ t.regs = s.regs := by
  unfold fwDone
  simp only [ha, if_true]
  exact ⟨_, rfl, rfl, rfl, congrArg some (otherCopy_eq _), rfl⟩

/-- A record that does not read back leaves the one in force. -/
theorem fwDone_bad {s : State} {a : FwAccept} (ha : s.boot.accept = some a) :
    ∃ t, fwDone false s = sealDone a.slot 0x8207 t ∧ t.boot.accept = none ∧ t.boot.record = s.boot.record ∧ t.boot.copy = s.boot.copy := by
  obtain ⟨n, hn⟩ := freeRecord_kept 8 { s with boot := { s.boot with accept := none } }
  unfold fwDone
  simp only [ha, Bool.false_eq_true, if_false, hn]
  exact ⟨_, rfl, rfl, rfl, rfl⟩

theorem phaseBoundary_tb (s : State) : (phaseBoundary s).tb = s.tb := by
  unfold phaseBoundary
  simp only []
  split
  · rfl
  · split <;> rfl

end Sys2Proof.Machine

namespace Sys2Proof.Proofs
open Sys2Proof.Machine

/-- Settles O56. -/
theorem sealedCommands : Obligations.SealedCommands := by
  unfold Obligations.SealedCommands
  refine ⟨fun s init bytes v hep => ⟨fun hcfg => ⟨fun hbuf => ?_, fun hbuf => ?_⟩, fun hcfg => ?_, fun hreach hres hcfg hbuf => ?_⟩,
    fun s n => rfl, fun s k f hacc hnext hbuf hsrc => ?_, fun s c x hw => ?_, fun s k slot hk hrev => ?_, fun s a ha => ?_,
    fun s slot hs => ⟨fun hfast => ?_, fun hfast hlate => ?_, fun hfast hdue => ?_⟩⟩
  case refine_1 =>
    have hon : (epochDrawn s && regBit s Reg.SEAL_SRC_CFG 31) = true := by rw [hep, hcfg]; rfl
    have hbuf0 : sealBuf s 0 = none := hbuf
    refine congrArg Host.Outcome.next ((if_pos hon).trans ?_)
    unfold sealArrive
    rw [show SealFrame.buf { src := 0, bytes := bytes } = 0 from rfl, hbuf0]
    rfl
  case refine_2 =>
    have hon : (epochDrawn s && regBit s Reg.SEAL_SRC_CFG 31) = true := by rw [hep, hcfg]; rfl
    obtain ⟨g, hg⟩ := Option.ne_none_iff_exists'.mp hbuf
    have hbuf0 : sealBuf s 0 = some g := hg
    refine congrArg Host.Outcome.next ((if_pos hon).trans ?_)
    unfold sealArrive
    rw [show SealFrame.buf { src := 0, bytes := bytes } = 0 from rfl, hbuf0]
  case refine_3 =>
    exact congrArg Host.Outcome.next (if_neg (by rw [hcfg, Bool.and_false]; exact Bool.false_ne_true))
  case refine_4 =>
    refine ⟨_, congrArg Host.Outcome.next (asInit_reaches _ hreach), ?_⟩
    unfold sealSubmit
    rcases tryWrite_effect (by decide : (regRow Reg.SEAL_SW_CTRL).isSome = true) hres (fun s =>
      if epochDrawn s && regBit s Reg.SEAL_SRC_CFG 30 then
        sealArrive { src := 5, bytes := (List.range (fld v 0 10)).map (tabGet 0 s.sealU.swWin) } s
      else s) s with h | h
    · rw [h, if_pos (by rw [hep, hcfg]; rfl)]
      exact sealArrive_sw hbuf _
    · rw [h, if_pos (by rw [epochDrawn_cntInc (by decide), regBit_cntInc_other (by decide), hep, hcfg]; rfl)]
      exact sealArrive_sw (s := cntInc s Reg.GLOBAL_RSVD_CNT) hbuf _
  case refine_5 =>
    have hexec : exec .sealFrameTake s = .next (sealProcess f _) := congrArg Host.Outcome.next (sealTake_next hacc hnext hbuf)
    refine ⟨fun ht => ?_, fun ht hc => ?_, fun ht hc => ⟨fun ha => ?_, fun slot s3 ha => ?_⟩⟩
    · rw [hexec, sealProcess_rejects ht]
    · refine ⟨_, hexec, ?_⟩
      rw [sealProcess_passes ht, hc]
      rfl
    · rw [hexec, sealProcess_passes ht, if_pos hc]
      unfold sealAuth
      simp only [ha]
    · refine ⟨_, hexec, ?_⟩
      rw [sealProcess_passes ht, if_pos hc]
      exact sealAuth_accepts hsrc ha
  case refine_6 =>
    refine ⟨fun hc => ?_, fun y hy hc => ?_, fun hc ok => ?_, fun hc => ?_, fun hc => ?_⟩
    · subst hc
      have hexec : exec .keyRevoke s = .next (keyRevoke x (sealedTaken s)) := congrArg Host.Outcome.next (sealRun_waits hw _)
      refine ⟨fun hk => ?_, fun hk h8 hp hr hno => ?_, fun j hk h8 hp hr hj hne hok => ?_⟩
      · rw [hexec, keyRevoke_own hk]
      · rw [hexec, keyRevoke_other (s := sealedTaken s) hk h8 hp hr, if_pos]
        rw [List.all_eq_true]
        intro j hj
        by_cases hjk : j = leAt x.payload 0 1
        · simp [hjk]
        · have := hno j (List.mem_range.mp hj) hjk
          simp only [Bool.or_eq_true, Bool.not_eq_true']
          exact .inr this
      · rw [hexec, keyRevoke_other (s := sealedTaken s) hk h8 hp hr, if_neg]
        · rfl
        · rw [List.all_eq_true]
          intro hall
          have := hall j (List.mem_range.mpr hj)
          rw [show revokerOk (sealedTaken s) j = true from hok] at this
          simp [hne] at this
    · simp only [List.mem_cons, List.not_mem_nil, or_false] at hy
      have hcmd : leAt x.frame.bytes 1 1 = c := hw.2
      obtain rfl | rfl | rfl := hy <;> subst hc <;>
        exact ⟨congrArg Host.Outcome.next (sealRun_waits hw _), fun h0 => (sealAnswer_sup h0 _ _ _ _).trans (by rw [hcmd]; rfl)⟩
    · subst hc
      have hexec : exec (.firmwareAccept ok) s = .next (fwAccept ok x (sealedTaken s)) := congrArg Host.Outcome.next (sealRun_waits hw _)
      exact ⟨fun ht => hexec.trans (congrArg Host.Outcome.next (fwAccept_fails ht)),
        fun ht => hexec.trans (congrArg Host.Outcome.next (fwAccept_passes ht))⟩
    · subst hc
      have hexec : exec .timeForceStep s = .next (timeForce x (sealedTaken s)) := congrArg Host.Outcome.next (sealRun_waits hw _)
      refine ⟨fun hbad => hexec.trans (congrArg Host.Outcome.next (if_pos hbad)), fun hk hz hf => hexec.trans (congrArg Host.Outcome.next ?_)⟩
      refine (if_neg (by omega)).trans ((if_neg ?_).trans rfl)
      rintro ⟨hk0, hfol⟩
      rcases hf with hne | hnone
      · exact hne hk0
      · rw [show (sealedTaken s).tb.follow = none from hnone] at hfol
        exact absurd hfol (by decide)
    · subst hc
      have hexec : exec .scribeEnable s = .next (scribeEnable x (sealedTaken s)) := congrArg Host.Outcome.next (sealRun_waits hw _)
      exact ⟨fun hl => hexec.trans (congrArg Host.Outcome.next (if_pos hl)), fun hl hst => ⟨_, hexec, scribeEnable_waits hl hst⟩⟩
  case refine_7 =>
    exact ⟨_, (if_pos hk).trans (congrArg Host.Outcome.next (revokeDone_one hrev)), rfl, regBit_regSetFld_one _ _ _ (by decide)⟩
  case refine_8 =>
    obtain ⟨t, ht, hkept⟩ := fwDone_good ha
    obtain ⟨t', ht', hkept'⟩ := fwDone_bad ha
    exact ⟨⟨t, congrArg Host.Outcome.next ht, hkept⟩, ⟨t', congrArg Host.Outcome.next ht', hkept'⟩⟩
  case refine_9 =>
    have hon : (!s.boot.scribe.isEmpty && !s.safety.fast) = true := by rw [hs, hfast]; rfl
    exact ⟨_, congrArg Host.Outcome.next (if_pos hon), rfl, congrArg TbSt.elapsed (phaseBoundary_tb s)⟩
  case refine_10 =>
    have hoff : ¬(!s.boot.scribe.isEmpty && s.safety.fast && decide (s.boot.scribeNs + 125000 ≤ s.tb.elapsed)) = true := by
      rw [decide_eq_false (by omega), Bool.and_false]; decide
    exact congrArg Host.Outcome.next (if_neg hoff)
  case refine_11 =>
    have hon : (!s.boot.scribe.isEmpty && s.safety.fast && decide (s.boot.scribeNs + 125000 ≤ s.tb.elapsed)) = true := by
      rw [hs, hfast, decide_eq_true hdue]; rfl
    refine ⟨_, congrArg Host.Outcome.next ((if_pos hon).trans (by rw [hs]; rfl)), rfl, regBit_regSetFld_one _ _ _ (by decide)⟩

end Sys2Proof.Proofs

end

section
/-!
SUPPORT. The test access port, and the plain accesses of register space (O57).
-/

namespace Sys2Proof.Machine

/-! ## The test access port -/

/-- A private instruction that the lifecycle state allows takes its effect with its code in force. -/
theorem jtagPrivate_available {s : State} {n : Nat} (hlife : jtagLife s = some n) {l : List Nat} (hn : n ∈ l) (ir : Nat)
    (eff : State → State) : jtagPrivate ir l eff s = eff (jtagIr ir 0 s) := by
  unfold jtagPrivate
  simp only [hlife]
  exact if_pos (List.contains_iff_mem.mpr hn)

/-- One that it does not allow acts as BYPASS. -/
theorem jtagPrivate_unavailable {s : State} {l : List Nat} (h : jtagLife s = none ∨ ∃ n, jtagLife s = some n ∧ n ∉ l) (ir : Nat)
    (eff : State → State) : jtagPrivate ir l eff s = jtagBypass s := by
  unfold jtagPrivate
  rcases h with h | ⟨n, h, hn⟩
  · simp only [h]
  · simp only [h]
    exact if_neg (fun hc => hn (List.contains_iff_mem.mp hc))

theorem jtagPins_allowed {s : State} {wrst : Bool} (h : wrst = true ∨ jtagLife s = some 1) (ir drive : Nat) :
    jtagPins ir drive wrst s = jtagIr ir drive s :=
  if_pos (by rcases h with h | h <;> simp [h])

theorem jtagPins_refused {s : State} {wrst : Bool} (hw : wrst = false) (h : jtagLife s ≠ some 1) (ir drive : Nat) :
    jtagPins ir drive wrst s = jtagBypass s :=
  if_neg (by simp [hw, h])

/-! Fuses. -/

theorem fuseMasks_find {a m : Nat} (hmem : (a, m) ∈ fuseMasks) (ha : a ≠ Reg.GLOBAL_LIFECYCLE) :
    fuseMasks.find? (fun x => decide (x.1 = a) && decide (a ≠ Reg.GLOBAL_LIFECYCLE)) = some (a, m) := by
  simp only [fuseMasks, List.mem_cons, List.not_mem_nil, or_false] at hmem
  obtain ⟨rfl, rfl⟩ | ⟨rfl, rfl⟩ | ⟨rfl, rfl⟩ | ⟨rfl, rfl⟩ | ⟨rfl, rfl⟩ | ⟨rfl, rfl⟩ | ⟨rfl, rfl⟩ | ⟨rfl, rfl⟩ | ⟨rfl, rfl⟩ := hmem
  case inr.inr.inr.inr.inr.inr.inl => exact absurd rfl ha
  all_goals decide

theorem fuseProg_word {a m : Nat} (hmem : (a, m) ∈ fuseMasks) (ha : a ≠ Reg.GLOBAL_LIFECYCLE) (v : Word32) (s : State) :
    fuseProg (.word a v) s =
      { s with boot := { s.boot with fuses := tabPut 0 s.boot.fuses a (fuseWord s a ||| (v &&& BitVec.ofNat 32 m)) } } := by
  unfold fuseProg
  simp only [fuseMasks_find hmem ha]

theorem fuseItemOk_word {a m : Nat} (hmem : (a, m) ∈ fuseMasks) (ha : a ≠ Reg.GLOBAL_LIFECYCLE) (v : Word32) :
    fuseItemOk (.word a v) = true := by
  rw [fuseItemOk, decide_eq_true ha, Bool.and_true, List.any_eq_true]
  exact ⟨_, hmem, decide_eq_true rfl⟩

/-- One fuse of a mask is burned and every other keeps its value. -/
theorem getLsbD_or_bit (w : BitVec 64) {k i : Nat} (hi : i < 64) :
    (w ||| BitVec.ofNat 64 (2 ^ k)).getLsbD i = (w.getLsbD i || decide (i = k)) := by
  rw [BitVec.getLsbD_or, BitVec.getLsbD_ofNat, decide_eq_true hi, Bool.true_and, Nat.testBit_two_pow]
  simp only [eq_comm]

/-! Keys. -/

theorem keyProg_seal {s : State} {k : Nat} (h : regBit s (Reg.SEAL_KEY_ATTR k) 31 = false) (key : List Byte) (attr : Word32) :
    sealKey (keyProg false k key attr s) k = bytesAt key 0 16 ∧ regBit (keyProg false k key attr s) (Reg.SEAL_KEY_ATTR k) 31 = true := by
  have hkey : keyProg false k key attr s = putMasked (Reg.SEAL_KEY_ATTR k) 0x870007FF (attr ||| BitVec.ofNat 32 (2 ^ 31))
      { s with sealU := { s.sealU with keys := tabPut (List.replicate 16 0) s.sealU.keys k (bytesAt key 0 16) } } := by
    unfold keyProg
    rw [if_neg Bool.false_ne_true, if_neg (by rw [h]; exact Bool.false_ne_true)]
  rw [hkey]
  refine ⟨?_, ?_⟩
  · show tabGet _ (tabPut _ _ k _) k = _
    rw [tabGet_put, if_pos rfl]
  · rw [regBit, putMasked, regGet_regPut, if_pos rfl]
    generalize regGet _ _ = w
    simp [bitAt]

/-- Programming a key leaves what the port has in force. -/
theorem keyProg_jtag (k : Nat) (key : List Byte) (attr : Word32) (s : State) :
    (keyProg false k key attr s).boot.jtag.ir = s.boot.jtag.ir ∧ (keyProg false k key attr s).boot.jtag.drive = s.boot.jtag.drive := by
  unfold keyProg
  rw [if_neg Bool.false_ne_true]
  split <;> exact ⟨rfl, rfl⟩

theorem keyProg_image {s : State} {k : Nat} (h : (tabGet {} s.boot.imageKeys k).prov = false) (key : List Byte) (attr : Word32) :
    (tabGet {} (keyProg true k key attr s).boot.imageKeys k).prov = true ∧
      (tabGet {} (keyProg true k key attr s).boot.imageKeys k).digest = bytesAt key 0 32 := by
  unfold keyProg
  simp only [if_true, h, Bool.false_eq_true, if_false, tabGet_put]
  exact ⟨trivial, trivial⟩

/-! ## Reads of register space -/

/-- A read of a whole word that neither acts nor belongs to a pair answers the word as it stands. -/
theorem registerRead_word {s : State} {init a : Nat} (hhome : homeOf s a 4 = .regs) (hwidth : widthOk a 4 = true)
    (hacts : readActs a = none) (hcycle : cycleCounter a = false) (hhalf : halfOf a = .single) (hreach : reaches s init a false = true) :
    exec (.registerRead init a 4) s = .next { s with reply := some ((liveWord s init a).zeroExtend 64) } := by
  have hword : readWord init a s = (liveWord s init a, s) := by
    unfold readWord
    rw [if_neg (by rw [hcycle]; exact Bool.false_ne_true), hhalf]
  have hhere : readHere init a 4 s = { s with reply := some ((liveWord s init a).zeroExtend 64) } := by
    rw [readHere, hacts]
    exact congrArg (replyWords init a 4) hword
  have hread : regRead init a 4 s = readHere init a 4 s :=
    (if_neg (by rw [hwidth]; decide)).trans (asInit_reaches _ hreach)
  show execRegisterRead init a 4 s = _
  rw [execRegisterRead, hhome, ← hhere, ← hread]

/-- A word of the register space lies in it whatever the state. -/
theorem homeOf_regs {a : Nat} (hlo : 0x2000000000 ≤ a) (hhi : a + 4 ≤ 0x2001400000) (s : State) : homeOf s a 4 = .regs := by
  have h0 : ¬(0x001010000000 ≤ a ∧ a < 0x001014000000) := by omega
  have h1 : ¬(0x001090000000 ≤ a ∧ a < 0x001094000000) := by omega
  have hwin : windowOf a = none := (if_neg h0).trans (if_neg h1)
  unfold homeOf
  rw [if_neg (by omega), if_neg, hwin]
  · exact if_pos ⟨hlo, hhi⟩
  · rintro ⟨-, h⟩
    have : a + 4 ≤ 0x1001800000 := h
    omega

/-- A word of register space whose read has no other effect, and that is no half of a pair. -/
def plainWord (a : Nat) : Bool :=
  decide (0x2000000000 ≤ a) && decide (a + 4 ≤ 0x2001400000) && widthOk a 4 && (readActs a).isNone && !cycleCounter a &&
    decide (halfOf a = .single)

theorem plainRead {s : State} {init a : Nat} (h : plainWord a = true) (hreach : reaches s init a false = true) :
    exec (.registerRead init a 4) s = .next { s with reply := some ((liveWord s init a).zeroExtend 64) } := by
  simp only [plainWord, Bool.and_eq_true, decide_eq_true_eq, Bool.not_eq_true', Option.isNone_iff_eq_none] at h
  obtain ⟨⟨⟨⟨⟨hlo, hhi⟩, hwidth⟩, hacts⟩, hcycle⟩, hhalf⟩ := h
  exact registerRead_word (homeOf_regs hlo hhi s) hwidth hacts hcycle hhalf hreach

/-- The word at `a` as the stored words alone give it. -/
def storedWord (s : State) (a : Addr) : Word32 := match regRow a with | some r => regGet s a &&& r.readMask | none => 0

/-- A stored word whose bits are all readable reads as it is stored. -/
theorem storedWord_whole {a : Addr} (hmask : (regRow a).map RRow.readMask = some (BitVec.allOnes 32)) (s : State) :
    storedWord s a = regGet s a := by
  obtain ⟨r, hr, hm⟩ := Option.map_eq_some_iff.mp hmask
  rw [storedWord, hr]
  simp only []
  rw [hm, BitVec.and_allOnes]

theorem liveWord_now (s : State) (init : Nat) : liveWord s init Reg.TB_NOW = BitVec.ofNat 32 (workTime s) := rfl

theorem liveWord_bridge (s : State) (init : Nat) : liveWord s init Reg.TB_BRIDGE = BitVec.ofInt 32 s.tb.bridge := by
  show BitVec.ofNat 32 (BitVec.ofInt 32 s.tb.bridge).toNat = _
  rw [BitVec.ofNat_toNat, BitVec.setWidth_eq]

theorem liveWord_stepLast (s : State) (init : Nat) : liveWord s init Reg.TB_STEP_LAST = regGet s Reg.TB_STEP_LAST :=
  (rfl : _ = storedWord s Reg.TB_STEP_LAST).trans (storedWord_whole (by decide) s)

theorem liveWord_serial (s : State) (init : Nat) : liveWord s init Reg.GLOBAL_SERIAL = regGet s Reg.GLOBAL_SERIAL :=
  (rfl : _ = storedWord s Reg.GLOBAL_SERIAL).trans (storedWord_whole (by decide) s)

theorem liveWord_epoch (s : State) (init : Nat) : liveWord s init Reg.SEAL_EPOCH = regGet s Reg.SEAL_EPOCH :=
  (rfl : _ = storedWord s Reg.SEAL_EPOCH).trans (storedWord_whole (by decide) s)

/-! ## Writes of register space -/

/-- A whole word of a single register that no chapter's action takes is written field by field. -/
theorem registerWrite_plain {s : State} {init a : Nat} {x : Word64} {r : RRow} (hhome : homeOf s a 4 = .regs)
    (hwidth : widthOk a 4 = true) (hign : ignoresWrite s init a = false) (hreach : reaches s init a true = true)
    (hacts : writeActs init a (BitVec.ofNat 32 x.toNat) = none) (hrow : regRow a = some r) (hhalf : r.half = .single) :
    exec (.registerWrite init a 4 x) s = .next (fieldWrite a (BitVec.ofNat 32 x.toNat) s) := by
  have hplain : halfOf a = .single := by
    unfold halfOf
    simp only [hrow, hhalf]
  have hhere : writeHere init a 4 x s = fieldWrite a (BitVec.ofNat 32 x.toNat) s := by
    unfold writeHere
    simp only [if_true]
    rw [writeWord, hacts]
    show writePlain init a _ s = _
    rw [writePlain, hplain]
  have hwrite : regWrite init a 4 x s = writeHere init a 4 x s :=
    (if_neg (by rw [hwidth]; decide)).trans ((if_neg (by rw [hign]; decide)).trans (asInit_reaches _ hreach))
  show execRegisterWrite init a 4 x s = _
  rw [execRegisterWrite, hhome, ← hhere, ← hwrite]

theorem fieldWrite_refused {a : Nat} {v : Word32} (h : wordRefuses a v = true) (s : State) :
    fieldWrite a v s = cntInc s Reg.GLOBAL_RSVD_CNT := if_pos h

theorem fieldWrite_taken {a : Nat} {v : Word32} {r : RRow} (h : wordRefuses a v = false) (hrow : regRow a = some r)
    (hstray : r.strays v = false) (s : State) :
    fieldWrite a v s = regPut s a (r.write (pageLocked s a) v (regGet s a)) := by
  unfold fieldWrite tryWrite
  rw [if_neg (by rw [h]; decide), hrow]
  simp only [hstray, Bool.false_eq_true, if_false, storeFields, hrow]

/-! ## The accesses of a hart -/

theorem accessCheck_frame {s s1 : State} {v : Verdict} {p cls a n : Nat} {k : AccKind} (h : accessCheck s p cls k a n = (v, s1)) :
    Within { regs := true } s s1 := by
  have hs1 : s1 = (accessCheck s p cls k a n).2 := by rw [h]
  exact (frame_accessCheck (w := { regs := true }) rfl s p cls k a n) s1 hs1.symm

theorem accessCheck_boot {s s1 : State} {v : Verdict} {p cls a n : Nat} {k : AccKind} (h : accessCheck s p cls k a n = (v, s1)) :
    s1.boot = s.boot := by
  have hsame := congrArg State.boot (accessCheck_frame h).same
  exact hsame

theorem hartAccess_dram {s : State} {hart p a size : Nat} (hhome : homeOf s a size = .dram) (hpart : hartPart s hart = some p)
    (k : AccKind) (data : Word64) : hartAccess hart k a size data s = hartChecked hart p k a size data s := by
  unfold hartAccess
  simp only [hhome, hpart]

theorem hartChecked_granted {s s1 : State} {hart p a size : Nat} {k : AccKind} {c : Bool} (h : accessCheck s p 3 k a size = (.ok c, s1))
    (data : Word64) : hartChecked hart p k a size data s = hartMem k a size data s1 := by
  unfold hartChecked
  simp only [h]

/-- A load from DRAM answers the bytes and changes none. -/
theorem hartMem_load {s : State} {a size : Nat} (hhome : homeOf s a size = .dram) (data : Word64) :
    (hartMem .read a size data s).reply = some (BitVec.ofNat 64 (leVal (memRead s a size))) ∧ (hartMem .read a size data s).mem = s.mem := by
  have hfar : farFetch [(a, size)] s = (true, s) := by
    simp only [farFetch, hhome]
  have hwait : windowWaits s a size = false := by
    simp only [windowWaits, hhome]
  simp only [hartMem, hfar, hwait, Bool.not_false, Bool.and_self, if_true]
  exact ⟨congrArg (fun l => some (BitVec.ofNat 64 (leVal l))) (devRead_dram hhome), rfl⟩

/-- A store to DRAM writes its bytes and no other. -/
theorem memByte_hartMem_store {s : State} {a size : Nat} (hsize : 1 ≤ size) (hhome : homeOf s a size = .dram) (data : Word64) (x : Nat) :
    memByte (hartMem .write a size data s) x =
      if a ≤ x ∧ x < a + size then (leBytes size data.toNat).getD (x - a) 0 else memByte s x := by
  have hl : leBytes size data.toNat ≠ [] := by
    intro h
    have := congrArg List.length h
    rw [length_leBytes, List.length_nil] at this
    omega
  have hhome' : homeOf s a (leBytes size data.toNat).length = .dram := by rw [length_leBytes, hhome]
  have hmem : (hartMem .write a size data s).mem = (memWrite s a (leBytes size data.toNat)).mem :=
    (congrArg State.mem (devWrite_mem hl (.inl hhome'))).trans (dropPanels_mem _ _ _)
  rw [memByte, hmem, memWrite]
  simp only [tabGet_putBytes, length_leBytes]
  rfl

end Sys2Proof.Machine

namespace Sys2Proof.Proofs
open Sys2Proof.Machine

/-- Settles O57. -/
theorem accessPorts : Obligations.AccessPorts := by
  unfold Obligations.AccessPorts
  refine ⟨fun s => ?_, fun s init a => ?_⟩
  · refine ⟨fun y hy wrst => ?_, ⟨_, rfl, rfl, rfl⟩, ⟨_, rfl, rfl, rfl⟩, ⟨_, rfl, ⟨rfl, rfl⟩, rfl⟩, fun pins load => ⟨_, rfl, ⟨rfl, rfl⟩, rfl, rfl⟩,
      fun y hy => ?_, fun n hlife hn => ⟨fun a m v hmem ha => ?_, fun k hk => ?_⟩, fun hlife => ⟨fun k key attr hk hprov => ?_,
      fun k key attr hk hprov => ?_, fun o l hl => ?_, fun target ht hfuse => ?_⟩⟩
    · simp only [List.mem_cons, List.not_mem_nil, or_false] at hy
      obtain rfl | rfl | rfl := hy
      all_goals exact ⟨fun h => ⟨_, congrArg Host.Outcome.next (jtagPins_allowed h _ _), ⟨rfl, rfl⟩, rfl⟩,
        fun hw h => ⟨_, congrArg Host.Outcome.next (jtagPins_refused hw h _ _), ⟨rfl, rfl⟩, rfl⟩⟩
    · simp only [List.mem_cons, List.not_mem_nil, or_false] at hy
      obtain rfl | rfl | rfl | rfl | rfl := hy
      all_goals refine ⟨fun n hlife hn => ?_, fun h => ⟨_, congrArg Host.Outcome.next (jtagPrivate_unavailable h _ _), ⟨rfl, rfl⟩, rfl, rfl, rfl, rfl⟩⟩
      all_goals refine ⟨_, congrArg Host.Outcome.next (jtagPrivate_available hlife hn _ _), ?_⟩
      · exact ⟨rfl, rfl⟩
      · exact ⟨rfl, rfl⟩
      · exact keyProg_jtag _ _ _ _
      · exact ⟨rfl, rfl⟩
      · split <;> exact ⟨rfl, rfl⟩
    · refine ⟨_, (if_pos (fuseItemOk_word hmem ha v)).trans (congrArg Host.Outcome.next ((jtagPrivate_available hlife ?_ _ _).trans
        (fuseProg_word hmem ha v _))), ?_, fun b hb => ?_⟩
      · have : n = 0 ∨ n = 1 := by omega
        simpa using this
      · show tabGet 0 (tabPut 0 _ a _) a = _
        rw [tabGet_put, if_pos rfl]
        rfl
      · show tabGet 0 (tabPut 0 _ a _) b = _
        rw [tabGet_put, if_neg hb]
        rfl
    · refine ⟨_, (if_pos (decide_eq_true hk)).trans (congrArg Host.Outcome.next (jtagPrivate_available hlife ?_ _ _)), fun i hi => ?_⟩
      · have : n = 0 ∨ n = 1 := by omega
        simpa using this
      · exact getLsbD_or_bit _ hi
    · exact ⟨_, (if_pos hk).trans (congrArg Host.Outcome.next (jtagPrivate_available hlife (List.mem_singleton.mpr rfl) _ _)),
        keyProg_seal (s := jtagIr 0x41 0 s) hprov key attr⟩
    · exact ⟨_, (if_pos hk).trans (congrArg Host.Outcome.next (jtagPrivate_available hlife (List.mem_singleton.mpr rfl) _ _)),
        keyProg_image (s := jtagIr 0x41 0 s) hprov key attr⟩
    · refine ⟨_, congrArg Host.Outcome.next (jtagPrivate_available hlife (List.mem_singleton.mpr rfl) _ _), fun x => ?_⟩
      show tabGet 0 (putBytes _ o (l.take (0x80000 - o))) x = _
      rw [List.take_of_length_le (by omega), tabGet_putBytes]
      rfl
    · have hnext : (jtagNext (fuseWord (jtagIr 0x44 0 s) Reg.GLOBAL_LIFECYCLE).toNat).contains target = true := by
        rw [show fuseWord (jtagIr 0x44 0 s) Reg.GLOBAL_LIFECYCLE = 1 from hfuse]
        rcases ht with rfl | rfl <;> decide
      refine ⟨_, congrArg Host.Outcome.next ((jtagPrivate_available hlife (by decide) _ _).trans (if_pos hnext)), ?_, rfl⟩
      show tabGet 0 (tabPut 0 _ _ _) _ = _
      rw [tabGet_put, if_pos rfl]
  · refine ⟨fun y hy hreach => ?_, fun size v hhome => ⟨fun hw => ?_, fun hw hr => ?_, fun hw hi hr => ?_⟩, fun size v hhome => ?_,
      fun x r hhome hw hi hr => ?_, fun hart p size data c s1 hh h1 h8 hhome hpart => ⟨fun hc => ?_, fun hc => ?_⟩⟩
    · simp only [List.mem_cons, List.not_mem_nil, or_false] at hy
      obtain rfl | rfl | rfl | rfl | rfl := hy
      all_goals simp only [] at hreach ⊢
      · exact (plainRead (by decide) hreach).trans (by rw [liveWord_now])
      · exact (plainRead (by decide) hreach).trans (by rw [liveWord_bridge])
      · exact (plainRead (by decide) hreach).trans (by rw [liveWord_stepLast])
      · exact (plainRead (by decide) hreach).trans (by rw [liveWord_serial])
      · exact (plainRead (by decide) hreach).trans (by rw [liveWord_epoch])
    · refine ⟨?_, ?_⟩
      · show execRegisterRead init a size s = _
        rw [execRegisterRead, hhome]
        exact congrArg Host.Outcome.next (if_pos (by rw [hw]; rfl))
      · show execRegisterWrite init a size v s = _
        rw [execRegisterWrite, hhome]
        exact congrArg Host.Outcome.next (if_pos (by rw [hw]; rfl))
    · show execRegisterRead init a size s = _
      rw [execRegisterRead, hhome]
      exact congrArg Host.Outcome.next ((if_neg (by rw [hw]; decide)).trans (if_neg (by rw [hr]; decide)))
    · show execRegisterWrite init a size v s = _
      rw [execRegisterWrite, hhome]
      exact congrArg Host.Outcome.next ((if_neg (by rw [hw]; decide)).trans ((if_neg (by rw [hi]; decide)).trans (if_neg (by rw [hr]; decide))))
    · refine ⟨?_, ?_⟩
      · show execRegisterRead init a size s = _
        rw [execRegisterRead, hhome]
      · show execRegisterWrite init a size v s = _
        rw [execRegisterWrite, hhome]
    · intro v hacts hrow hhalf
      have hexec := registerWrite_plain hhome hw hi hr hacts hrow hhalf
      exact ⟨fun href => hexec.trans (congrArg Host.Outcome.next (fieldWrite_refused href s)),
        fun href hst => hexec.trans (congrArg Host.Outcome.next (fieldWrite_taken href hrow hst s))⟩
    · have hhome1 : homeOf s1 a size = .dram := by
        rw [homeOf_dram_iff, accessCheck_boot hc]
        exact (homeOf_dram_iff s a size).mp hhome
      have hload := hartMem_load hhome1 data
      refine ⟨_, (if_pos ⟨hh, h1, h8⟩).trans (congrArg Host.Outcome.next ((hartAccess_dram hhome hpart _ _).trans (hartChecked_granted hc _))),
        hload.1, fun x => ?_⟩
      rw [memByte, hload.2]
      rfl
    · have hhome1 : homeOf s1 a size = .dram := by
        rw [homeOf_dram_iff, accessCheck_boot hc]
        exact (homeOf_dram_iff s a size).mp hhome
      exact ⟨_, (if_pos ⟨hh, h1, h8⟩).trans (congrArg Host.Outcome.next ((hartAccess_dram hhome hpart _ _).trans (hartChecked_granted hc _))),
        fun x => memByte_hartMem_store h1 hhome1 data x⟩

end Sys2Proof.Proofs

end

section
/-!
SUPPORT. Mailboxes and collectives (O59).
-/

namespace Sys2Proof.Machine

/-! ## Doorbells -/

/-- MB_PI is one writable field of nine bits. -/
theorem mbPI_fields : ∀ m, m ≤ 16 → (regRow (Reg.MB_PI m)).map RRow.fields = some [⟨0, 9, .rw, 0x0, 0, 0x1FF⟩] := by decide

/-- The word of a write of MB_PI replaces the index. -/
theorem fieldWrite_mbPI {m : Nat} (hm : m ≤ 16) {v : Word32} (hv : fld v 9 23 = 0) (s : State) :
    fieldWrite (Reg.MB_PI m) v s = regPut s (Reg.MB_PI m) (setFld (regGet s (Reg.MB_PI m)) 0 9 (fld v 0 9)) := by
  obtain ⟨r, hr, hf⟩ := Option.map_eq_some_iff.mp (mbPI_fields m hm)
  have hlt : fld v 0 9 < 512 := fld_lt v 0 9
  have href : wordRefuses (Reg.MB_PI m) v = false := by
    simp only [wordRefuses, hr, hf, List.any_cons, List.any_nil, RField.reserved, Bool.or_false]
    have h : ¬(0x1FF < fld v 0 9) := by omega
    simp [h]
  have hstray : r.strays v = false := by
    rw [RRow.strays, List.any_eq_false]
    intro i hi
    have hbit : 9 ≤ i → bitAt v i = false := by
      intro h9
      have h := testBit_fld v 9 23 (i - 9)
      rw [hv, Nat.zero_testBit] at h
      have hi32 : i < 32 := List.mem_range.mp hi
      rw [decide_eq_true (by omega), Bool.true_and, show 9 + (i - 9) = i by omega] at h
      exact h.symm
    simp only [hf, List.all_cons, List.all_nil, Bool.and_true, Bool.and_eq_true, not_and, Bool.or_eq_true, decide_eq_true_eq]
    intro hb
    by_cases h9 : 9 ≤ i
    · rw [hbit h9] at hb
      exact absurd hb (by decide)
    · omega
  rw [fieldWrite_taken href hr hstray, RRow.write, hf, if_neg (by decide)]
  rfl

theorem mbCI_ne_mbPI (m : Nat) : Reg.MB_CI m ≠ Reg.MB_PI m := by
  have h : ∀ k : Nat, 0x2000E00000 + 0x10 + k * 0x1000 ≠ 0x2000E00000 + 0xC + k * 0x1000 := by omega
  exact h m

theorem doorbell_on {m : Nat} {v : Word32} {s : State} (hon : mbOn s m = true) :
    doorbell m v s = if mbSlots s m < (fld v 0 9 + 512 - mbCI s m) % 512 then cntInc s Reg.GLOBAL_RSVD_CNT
      else fieldWrite (Reg.MB_PI m) v s :=
  if_neg (by rw [hon]; decide)

/-! ## Requests -/

theorem reqOf_answer (m : Nat) (l : List Byte) (st h : Nat) (b : List Byte) (s : State) : reqOf (answer m l st h b s) m = [] := by
  show tabGet [] (tabPut [] _ m []) m = []
  rw [tabGet_put, if_pos rfl]

/-- The state in which the request at the head of mailbox `m` has been read and its slot freed. -/
def headTaken (m : Nat) (s : State) : State := regPut s (Reg.MB_CI m) (BitVec.ofNat 32 ((mbCI s m + 1) % 512))

theorem mbCI_headTaken (m : Nat) (s : State) : mbCI (headTaken m s) m = (mbCI s m + 1) % 512 := by
  rw [mbCI, headTaken, regFld, regGet_regPut, if_pos rfl]
  have hlt : (mbCI s m + 1) % 512 < 512 := Nat.mod_lt _ (by decide)
  generalize (mbCI s m + 1) % 512 = x at hlt ⊢
  rw [fld, BitVec.toNat_ofNat]
  simp only [nfld]
  omega

/-- What taking a request that could be read comes to: its tests decide. -/
theorem takeRequest_read {m : Nat} {s s1 : State} {l : List Byte} (hm : m < 16)
    (hread : unitRead 0x10 (m / 2) 7 (mbAddr s m (mbCI s m)) 256 { s with fc := { s.fc with lastBox := m } } = (some l, s1)) :
    takeRequest m s =
      match requestTest (headTaken m s1) m l with
      | some 1 => answerNone m 1 (raise 0x05C (if m < 16 then some (m / 2) else none) 0 (cntInc (headTaken m s1) (Reg.MB_CHECK_CNT m)))
      | some c => answer m l c 0 [] (headTaken m s1)
      | none => { headTaken m s1 with fc := { (headTaken m s1).fc with taken := tabPut [] (headTaken m s1).fc.taken m l } } := by
  unfold takeRequest
  simp only [if_pos hm]
  rw [show mbAddr { s with fc := { s.fc with lastBox := m } } m (mbCI { s with fc := { s.fc with lastBox := m } } m) = mbAddr s m (mbCI s m)
    from rfl, hread]
  rfl

theorem takeRequest_passes {m : Nat} {s s1 : State} {l : List Byte} (hm : m < 16)
    (hread : unitRead 0x10 (m / 2) 7 (mbAddr s m (mbCI s m)) 256 { s with fc := { s.fc with lastBox := m } } = (some l, s1))
    (htest : requestTest (headTaken m s1) m l = none) :
    reqOf (takeRequest m s) m = l ∧ mbCI (takeRequest m s) m = (mbCI s1 m + 1) % 512 := by
  rw [takeRequest_read hm hread, htest]
  refine ⟨?_, mbCI_headTaken m s1⟩
  show tabGet [] (tabPut [] _ m l) m = l
  rw [tabGet_put, if_pos rfl]

theorem takeRequest_fails {m c : Nat} {s s1 : State} {l : List Byte} (hm : m < 16)
    (hread : unitRead 0x10 (m / 2) 7 (mbAddr s m (mbCI s m)) 256 { s with fc := { s.fc with lastBox := m } } = (some l, s1))
    (htest : requestTest (headTaken m s1) m l = some c) (hc : c ≠ 1) : takeRequest m s = answer m l c 0 [] (headTaken m s1) := by
  rw [takeRequest_read hm hread, htest]
  split
  · rename_i h
    exact absurd (Option.some.inj h) hc
  · rename_i h
    rw [Option.some.inj h]
  · rename_i h
    exact absurd h nofun

/-- A request that has been taken is served by the command of its type. -/
theorem serve_taken {s : State} {m typ : Nat} {l : List Byte} (hm : m ≤ 16) (hev : m % 2 = 0) (h : requestTaken s m typ l)
    (eff : List Byte → State → State) : serve typ m eff s = .next (eff l s) := by
  obtain ⟨hreq, hne, htyp⟩ := h
  unfold serve
  rw [if_pos ⟨hm, hev⟩, hreq, if_pos ⟨hne, htyp⟩]

/-! ## Collectives -/

theorem collGet_collPut_same (s : State) (n : Nat) (c : Option Coll) : collGet (collPut s n c) n = c := by
  show tabGet none (tabPut none _ n c) n = c
  rw [tabGet_put, if_pos rfl]

/-- A collective that passes every test is made in its slot. -/
theorem collMake_makes {s : State} {m p slot : Nat} {l b : List Byte} (hall : collCount s (fun _ => true) < 64)
    (hpart : collCount s (fun c => decide (c.part = p)) < 16) (hrun : freeRun s 1 = some slot) (htwin : twinJoined s = false)
    (hhere : ∀ k ∈ collBays b, (if twinSecondary s then 32 ≤ k else k < 32)) :
    ∃ t x, collMake m p l b s = answer m l 0 (handleOf t slot) [] t ∧ collGet t s.fc.nextColl = some x ∧
      x.req = b ∧ x.part = p ∧ x.slot = slot ∧ x.taken = [] ∧ x.written = false ∧ t.fc.nextColl = s.fc.nextColl + 1 := by
  have hnone : (!twinJoined s && (collBays b).any (fun n => if twinSecondary s then decide (n < 32) else decide (32 ≤ n))) = false := by
    rw [htwin, Bool.not_false, Bool.true_and, List.any_eq_false]
    intro k hk
    have := hhere k hk
    split at this
    · rename_i hsec
      simp only [hsec, if_true, decide_eq_true_eq]
      omega
    · rename_i hsec
      simp only [hsec, Bool.false_eq_true, if_false, decide_eq_true_eq]
      omega
  unfold collMake
  rw [if_neg (by omega), hrun]
  simp only [hnone, Bool.false_eq_true, if_false]
  have hjoin : ∀ u : State, u.regs = s.regs → twinJoined u = false := by
    intro u hu
    rw [← htwin]
    simp only [twinJoined, regFld, regGet, hu]
    rfl
  rw [if_neg (by rw [hjoin _ (by rfl), Bool.and_false]; exact Bool.false_ne_true)]
  exact ⟨_, _, rfl, collGet_collPut_same _ _ _, rfl, rfl, rfl, rfl, rfl, rfl⟩

theorem collRequest_makes {s : State} {m : Nat} {l : List Byte} (hok : collFieldsOk (bytesAt (reqPayload l) 0 64) = true)
    (hfp : fpReduction (bytesAt (reqPayload l) 0 64) = false) (hown : collOwnedOk s (m / 2) (bytesAt (reqPayload l) 0 64) = true)
    (hquota : dowelsInUse s (m / 2) < dowelQuota s (m / 2)) :
    collRequest m l s = collMake m (m / 2) l (bytesAt (reqPayload l) 0 64) s := by
  unfold collRequest
  simp only [hok, hfp, hown, Bool.not_true, Bool.false_eq_true, if_false]
  rw [if_neg (by simp [leavesOk]), if_neg (by simp), if_neg (by omega)]

theorem collRequest_malformed {s : State} {m : Nat} {l : List Byte} (hbad : collFieldsOk (bytesAt (reqPayload l) 0 64) = false) :
    collRequest m l s = answer m l 5 0 [] s := if_pos (by rw [hbad]; rfl)

/-- A contribution that is due and can be read is kept as the first of its rank. -/
theorem contribute_first {s s2 : State} {n r : Nat} {c : Coll} {d : List (Nat × List Byte)} (hc : collGet s n = some c)
    (hhome : c.peerHandle = none) (hw : c.written = false) (hnew : c.taken.contains r = false) (hr : r < (collBays c.req).length)
    (hnear : collFar s c r = false) (hgo : (pegGet s (c.gopeg r)).poison = false) (hfp : fpReduction c.req = false)
    (hthr : leAt c.req 28 4 ≤ (pegGet s (c.gopeg r)).count.toNat)
    (hread : readRanges c.part (contribRanges c ((collBays c.req).getD r 0) []) s = (some d, s2)) (hfirst : ∀ x ∈ c.first, x.rank ≠ r) :
    collGet (contribute n r s) n = some { c with
      first := c.first ++ [{ rank := r, data := d, sig := contribSig d }], taken := c.taken ++ [r] } := by
  have hdue : contribute n r s = takeContrib n r c s := by
    unfold contribute
    simp only [hc, hw, hnew, hnear, hgo, hthr, decide_eq_false (Nat.not_le.mpr hr), Bool.or_self, Bool.false_eq_true, if_false, if_true]
  have hfind : c.first.find? (fun x => decide (x.rank = r)) = none := by
    rw [List.find?_eq_none]
    exact fun x hx => by simpa using hfirst x hx
  have htake : takeContrib n r c s = enterContrib n r d c s2 := by
    unfold takeContrib
    simp only [hfp, Bool.false_eq_true, if_false, hread, hhome]
  rw [hdue, htake, enterContrib]
  simp only [hfind]
  exact collGet_collPut_same _ _ _

theorem contribute_waits {s : State} {n r : Nat} {c : Coll} (hc : collGet s n = some c) (hw : c.written = false)
    (hnew : c.taken.contains r = false) (hr : r < (collBays c.req).length) (hnear : collFar s c r = false)
    (hgo : (pegGet s (c.gopeg r)).poison = false) (hthr : (pegGet s (c.gopeg r)).count.toNat < leAt c.req 28 4) :
    contribute n r s = s := by
  unfold contribute
  simp only [hc, hw, hnew, hnear, hgo, decide_eq_false (Nat.not_le.mpr hr), Bool.or_self, Bool.false_eq_true, if_false,
    if_neg (Nat.not_le.mpr hthr)]

/-- The results of a collective whose writes are granted are written, and RESPEG is added. -/
theorem collResult_writes {s s1 : State} {n : Nat} {c : Coll} {rs : List (List Byte)} {f : FFlags} (hc : collGet s n = some c)
    (hhome : c.peerHandle = none) (hw : c.written = false) (hall : c.taken.length = (collBays c.req).length)
    (hfp : fpReduction c.req = false) (hres : collResults c = some (rs, f))
    (hcheck : unitCheck 0x10 c.part 7 .write ((List.range (collBays c.req).length).flatMap (fun r =>
      rowPieces (resultAddr c r) (rs.getD r []).length)) s = (true, s1)) :
    ∃ t, collResult n s = addRespeg c t ∧ collGet t n = some { c with written := true } := by
  have hdue : collResult n s = writeResults n c s := by
    unfold collResult
    simp only [hc, hhome, hw, hall, decide_true, Option.isNone_none, Bool.not_false, Bool.and_self, if_true]
  rw [hdue]
  unfold writeResults
  simp only [hfp, hres, hcheck, Bool.false_and, Bool.false_eq_true, if_false]
  exact ⟨_, rfl, collGet_collPut_same _ _ _⟩

theorem collResult_waits {s : State} {n : Nat} {c : Coll} (hc : collGet s n = some c)
    (hmissing : c.taken.length < (collBays c.req).length) : collResult n s = s := by
  unfold collResult
  simp only [hc, decide_eq_false (Nat.ne_of_lt hmissing), Bool.and_false, Bool.false_eq_true, if_false]

theorem collComplete_home {s : State} {n : Nat} {c : Coll} (hc : collGet s n = some c) (hhome : c.peerHandle = none) :
    collComplete n s = match collEndState c with
      | some (st, code) => completeDowel raise c.slot st code s
      | none => s := by
  unfold collComplete
  simp only [hc, hhome]
  rcases collEndState c with _ | ⟨st, code⟩ <;> rfl

/-- The sum of 32-bit values from left to right is their sum modulo 2^32. -/
theorem foldl_intCombine_sum (t : List Nat) (a : Nat) (ha : a < 2 ^ 32) : t.foldl (intCombine 0) a = (a + t.sum) % 2 ^ 32 := by
  induction t generalizing a with
  | nil => exact (Nat.mod_eq_of_lt ha).symm
  | cons b t ih =>
    have hlt : intCombine 0 a b < 2 ^ 32 := Nat.mod_lt _ (by decide)
    rw [List.foldl_cons, ih _ hlt, List.sum_cons, show intCombine 0 a b = (a + b) % 2 ^ 32 from rfl]
    omega

theorem reduceElem_sum {c : Coll} (hint : c.etype = 1) (hadd : c.op = 0) (hne : collBays c.req ≠ []) (j : Nat) :
    reduceElem c j = some (leBytes 4 (((List.range (collBays c.req).length).map
      (fun r => leAt (contribOf c r 0) (4 * j) 4)).sum % 2 ^ 32), {}) := by
  have hmap : ((List.range (collBays c.req).length).map (fun r => contribOf c r 0)).map (fun l => leAt l (4 * j) 4) =
      (List.range (collBays c.req).length).map (fun r => leAt (contribOf c r 0) (4 * j) 4) := by
    rw [List.map_map]; rfl
  unfold reduceElem
  simp only [hint, hmap, hadd]
  obtain ⟨k, hk⟩ : ∃ k, (collBays c.req).length = k + 1 := Nat.exists_eq_succ_of_ne_zero (fun h => hne (List.length_eq_zero_iff.mp h))
  rw [hk, List.range_succ_eq_map, List.map_cons]
  simp only []
  rw [foldl_intCombine_sum _ _ (leAt_lt _ _ 4), List.sum_cons]

end Sys2Proof.Machine

namespace Sys2Proof.Proofs
open Sys2Proof.Machine

/-- Settles O59. -/
theorem mailboxesAndCollectives : Obligations.MailboxesAndCollectives := by
  unfold Obligations.MailboxesAndCollectives
  refine ⟨fun s init m v hm hev => ⟨fun hreach => ?_, fun l s1 hrun hnext hlt hread => ?_, fun l st h b => reqOf_answer m l st h b s⟩,
    fun s m typ l hm hev htaken => ?_, fun s n c hrun hc hhome => ?_⟩
  · refine ⟨fun hoff => ?_, fun hon hfull => ?_, fun hon hroom hres => ?_⟩
    · exact (if_pos ⟨hm, hev⟩).trans (congrArg Host.Outcome.next ((asInit_reaches _ hreach).trans (if_pos (by rw [hoff]; rfl))))
    · exact (if_pos ⟨hm, hev⟩).trans (congrArg Host.Outcome.next
        ((asInit_reaches _ hreach).trans ((doorbell_on hon).trans (if_pos hfull))))
    · refine ⟨_, (if_pos ⟨hm, hev⟩).trans (congrArg Host.Outcome.next ((asInit_reaches _ hreach).trans ((doorbell_on hon).trans
        ((if_neg (Nat.not_lt.mpr hroom)).trans (fieldWrite_mbPI hm hres s))))), ?_, ?_⟩
      · rw [mbPI, regFld, regGet_regPut, if_pos rfl, fld_setFld_same _ _ _ _ (by decide)]
        exact Nat.mod_eq_of_lt (fld_lt v 0 9)
      · rw [mbCI, regFld, regGet_regPut, if_neg (mbCI_ne_mbPI m)]
        rfl
  · have hexec : exec (.mailboxRequestTake m) s = .next (takeRequest m s) :=
      (if_pos ⟨hm, hev⟩).trans (congrArg Host.Outcome.next (if_pos (by rw [hrun, hnext, decide_eq_true rfl]; rfl)))
    exact ⟨fun htest => ⟨_, hexec, takeRequest_passes hlt hread htest⟩,
      fun c htest hc => hexec.trans (congrArg Host.Outcome.next (takeRequest_fails hlt hread htest hc))⟩
  · have hserve : ∀ eff, serve typ m eff s = .next (eff l s) := serve_taken hm hev htaken
    refine ⟨fun ht => ?_, fun ht => ?_, fun ht => ?_, fun ht => ?_, fun ht => ?_, fun ht => ?_⟩ <;> subst ht
    · show execFwVersion m s = _
      rw [execFwVersion, hserve]
      rfl
    · refine ⟨fun hbad => (hserve _).trans (congrArg Host.Outcome.next (if_pos hbad)), fun hq hv hn hown => ?_, fun hq hv hn hown => ?_⟩
      · exact (hserve _).trans (congrArg Host.Outcome.next ((if_neg (by omega)).trans (if_pos (by rw [hown]; rfl))))
      · refine (hserve _).trans (congrArg Host.Outcome.next ((if_neg (by omega)).trans ((if_neg (by rw [hown]; decide)).trans ?_)))
        simp only [routed, Bool.not_eq_true']
    · refine ⟨fun hbad => (hserve _).trans (congrArg Host.Outcome.next (if_pos hbad)), fun hq hv => ?_⟩
      refine (hserve _).trans (congrArg Host.Outcome.next ((if_neg (by omega)).trans ?_))
      simp only [routed, Bool.not_eq_true']
    · refine ⟨fun hnone => ?_, fun pb hpb => ?_⟩
      · refine (hserve _).trans (congrArg Host.Outcome.next ?_)
        unfold plumbRequest
        simp only [hnone]
      · refine (hserve _).trans (congrArg Host.Outcome.next ?_)
        unfold plumbRequest
        simp only [hpb]
        rfl
    · exact ⟨fun hq => (hserve _).trans (congrArg Host.Outcome.next (if_pos hq)),
        fun hq => (hserve _).trans (congrArg Host.Outcome.next (if_neg (Nat.not_lt.mpr hq)))⟩
    · refine ⟨fun hbad => (hserve _).trans (congrArg Host.Outcome.next (collRequest_malformed hbad)),
        fun slot hok hfp hown hquota hall hpart hrun htwin hhere => ?_⟩
      obtain ⟨t, x, hmake, hmade⟩ := collMake_makes (m := m) (l := l) hall hpart hrun htwin hhere
      exact ⟨t, x, (hserve _).trans (congrArg Host.Outcome.next ((collRequest_makes hok hfp hown hquota).trans hmake)), hmade⟩
  · have hrunning : ∀ t, (if fcRuns s then t else s) = t := fun t => if_pos hrun
    have hend : ∀ u, collEndState c = some u → exec (.collComplete n) s = .next (completeDowel raise c.slot u.1 u.2 s) := by
      intro u hu
      refine congrArg Host.Outcome.next ((hrunning _).trans ((collComplete_home hc hhome).trans ?_))
      rw [hu]
    have hstay : collEndState c = none → exec (.collComplete n) s = .next s := by
      intro hu
      refine congrArg Host.Outcome.next ((hrunning _).trans ((collComplete_home hc hhome).trans ?_))
      rw [hu]
    refine ⟨fun r d s2 hw hnew hr hnear hgo hfp => ⟨fun hthr hread hfirst => ?_, fun hthr => ?_⟩, fun rs f s1 hw hall hfp hres hcheck => ?_,
      fun hmissing => ?_, fun hown => ?_, fun hown hnone => ?_, fun hown hsplit => ?_, fun hown hcan => ?_, fun j hint hadd hne => ?_⟩
    · exact ⟨_, congrArg Host.Outcome.next (hrunning _), contribute_first hc hhome hw hnew hr hnear hgo hfp hthr hread hfirst⟩
    · exact congrArg Host.Outcome.next ((hrunning _).trans (contribute_waits hc hw hnew hr hnear hgo hthr))
    · obtain ⟨t, ht, hwritten⟩ := collResult_writes hc hhome hw hall hfp hres hcheck
      exact ⟨t, congrArg Host.Outcome.next ((hrunning _).trans ht), hwritten⟩
    · exact congrArg Host.Outcome.next ((hrunning _).trans (collResult_waits hc hmissing))
    · cases hwr : c.written
      · exact (hstay (by rw [collEndState, if_pos hown, hwr]; rfl)).trans rfl
      · exact (hend (.doneOk, 0) (by rw [collEndState, if_pos hown, hwr]; rfl)).trans rfl
    · exact hstay (by rw [collEndState, if_neg hown, hnone])
    · exact hend (.split, 0) (by rw [collEndState, if_neg hown, hsplit])
    · exact hend (.doneFault, 0xA004) (by rw [collEndState, if_neg hown, hcan]; rfl)
    · exact reduceElem_sum hint hadd hne j

end Sys2Proof.Proofs

end

section
/-!
SUPPORT. The truss link: its state register, flits sent and taken, accords, and working time (O58).
-/

namespace Sys2Proof.Machine

/-! ## TRUSS_STATE -/

theorem regGet_regSetFld_same (s : State) (a : Addr) (lo len v : Nat) :
    regGet (regSetFld s a lo len v) a = setFld (regGet s a) lo len v := by
  rw [regSetFld, regGet_regPut, if_pos rfl]

theorem regGet_regSetFld_other {s : State} {a b : Addr} (h : b ≠ a) (lo len v : Nat) : regGet (regSetFld s a lo len v) b = regGet s b := by
  rw [regSetFld, regGet_regPut, if_neg h]

/-- The twin state is a field of TRUSS_STATE alone. -/
theorem twinState_congr {s t : State} (h : regGet t Reg.TRUSS_STATE = regGet s Reg.TRUSS_STATE) : twinState t = twinState s := by
  simp only [twinState, regFld, h]

theorem twinState_regs {s t : State} (h : t.regs = s.regs) : twinState t = twinState s :=
  twinState_congr (by rw [regGet, regGet, h])

theorem twinState_twinGo {n : Nat} (hn : n < 8) (s : State) : twinState (twinGo n s) = n := by
  rw [twinState, regFld, twinGo, regGet_regSetFld_same, fld_setFld_same _ _ _ _ (by decide)]
  exact Nat.mod_eq_of_lt hn

/-- A write of a field below the state leaves it. -/
theorem twinState_regSetFld {lo len : Nat} (h : lo + len ≤ 29) (s : State) (v : Nat) :
    twinState (regSetFld s Reg.TRUSS_STATE lo len v) = twinState s := by
  rw [twinState, regFld, regGet_regSetFld_same, fld_setFld_other _ _ _ _ _ _ (.inr h)]
  rfl

theorem twinState_regPut_other {a : Addr} (h : Reg.TRUSS_STATE ≠ a) (s : State) (v : Word32) : twinState (regPut s a v) = twinState s :=
  twinState_congr (by rw [regGet_regPut, if_neg h])

theorem training_trainPut (b : Bool) (s : State) : training (trainPut b s) = b := by
  rw [training, regBit, trainPut, regGet_regSetFld_same, bitAt_setFld, if_pos ⟨by decide, by decide⟩]
  cases b <;> rfl

theorem training_twinGo (n : Nat) (s : State) : training (twinGo n s) = training s := by
  rw [training, regBit, twinGo, regGet_regSetFld_same, bitAt_setFld, if_neg (by omega)]
  rfl

theorem training_congr {s t : State} (h : regGet t Reg.TRUSS_STATE = regGet s Reg.TRUSS_STATE) : training t = training s := by
  simp only [training, regBit, h]

theorem training_retrain (s : State) : training (retrain s) = true := training_trainPut true _

theorem twinJoined_state (s : State) : twinJoined s = decide (twinState s = 3) := rfl

/-! ## Training -/

/-- Lanes enough in both directions: the link trains at the width that they give. -/
theorem trainTest_width {s : State} {rx tx : Nat} (hg : 8 ≤ min (goodLanes s rx).length (goodLanes s tx).length) :
    ∃ t, trainTest rx tx s = (if min (goodLanes s rx).length (goodLanes s tx).length < 16 then laneFault 3 0xFF t else t) ∧
      t.twin.tested = some true ∧
      regBit t Reg.TRUSS_STATE 25 = decide (min (goodLanes s rx).length (goodLanes s tx).length < 16) ∧
      regGet t Reg.TRUSS_LANES = BitVec.ofNat 32 (((goodLanes s rx).take
        (if min (goodLanes s rx).length (goodLanes s tx).length < 16 then 8 else 16)).foldl (fun m l => m + 2 ^ l) 0) := by
  unfold trainTest
  generalize min (goodLanes s rx).length (goodLanes s tx).length = g at hg
  have hbit : ∀ (v : Nat) (l : Word32), regBit (regPut (regSetFld s Reg.TRUSS_STATE 25 1 v) Reg.TRUSS_LANES l) Reg.TRUSS_STATE 25 =
      v.testBit 0 := by
    intro v l
    rw [regBit, regGet_regPut, if_neg (by decide), regGet_regSetFld_same, bitAt_setFld, if_pos ⟨by decide, by decide⟩]
    rfl
  by_cases h16 : g < 16
  · have hw : linkWidth g = some 8 := (if_neg (Nat.not_le.mpr h16)).trans (if_pos hg)
    simp only [hw, if_pos h16, if_true]
    refine ⟨_, rfl, rfl, (hbit 1 _).trans (by rw [decide_eq_true h16]; rfl), ?_⟩
    exact (regGet_regPut _ _ _ _).trans (if_pos rfl)
  · have hw : linkWidth g = some 16 := if_pos (Nat.not_lt.mp h16)
    simp only [hw, if_neg h16]
    refine ⟨_, rfl, rfl, (hbit 0 _).trans (by rw [decide_eq_false h16]; rfl), ?_⟩
    exact (regGet_regPut _ _ _ _).trans (if_pos rfl)

theorem trainTest_fails {s : State} {rx tx : Nat} (hg : min (goodLanes s rx).length (goodLanes s tx).length < 8) :
    trainTest rx tx s = { s with twin := { s.twin with tested := some false } } := by
  unfold trainTest
  generalize min (goodLanes s rx).length (goodLanes s tx).length = g at hg
  have hw : linkWidth g = none := (if_neg (by omega)).trans (if_neg (by omega))
  simp only [hw]

/-- The state in which the link has come up, before what the twin state asks for. -/
def linkUp (s : State) : State := trainPut false { s with twin := { s.twin with up := true, tested := none } }

theorem twinState_linkUp (s : State) : twinState (linkUp s) = twinState s := twinState_regSetFld (by decide) _ _

theorem trainDone_up {s : State} (h : s.twin.tested = some true) :
    trainDone s = if twinState s = 1 then
        (if s.twin.alone then twinGo 5 (freshLink { linkUp s with twin := { (linkUp s).twin with alone := false } })
         else enterJoining (freshLink (linkUp s)))
      else resendAll (linkUp s) := by
  rw [← twinState_linkUp s]
  unfold trainDone
  simp only [h]
  rfl

theorem trainDone_leaves {s : State} (h : s.twin.tested = some true) :
    (trainDone s).twin.up = true ∧ (trainDone s).twin.tested = none ∧ training (trainDone s) = false ∧
      (twinState s = 1 → (trainDone s).twin.seq = 0 ∧ (trainDone s).twin.rxSeq = 0 ∧ (trainDone s).twin.sent = [] ∧
        twinState (trainDone s) = if s.twin.alone then 5 else 2) ∧
      (twinState s ≠ 1 → (trainDone s).twin.seq = s.twin.seq ∧ twinState (trainDone s) = twinState s ∧
        (trainDone s).twin.sent = s.twin.sent.map (fun e => (e.1, 1)) ∧
        regGet (trainDone s) Reg.TRUSS_RETRY_CNT =
          BitVec.ofNat 32 (min ((regGet s Reg.TRUSS_RETRY_CNT).toNat + s.twin.sent.length) 0x7FFFFFFF)) := by
  have htrain : training (linkUp s) = false := training_trainPut false _
  rw [trainDone_up h]
  by_cases h1 : twinState s = 1
  · rw [if_pos h1]
    by_cases ha : s.twin.alone = true
    · rw [if_pos ha, if_pos ha]
      exact ⟨rfl, rfl, (training_twinGo 5 _).trans htrain, fun _ => ⟨rfl, rfl, rfl, twinState_twinGo (by decide) _⟩, fun hn => absurd h1 hn⟩
    · rw [if_neg ha, if_neg ha]
      exact ⟨rfl, rfl, (training_twinGo 2 _).trans htrain, fun _ => ⟨rfl, rfl, rfl, twinState_twinGo (by decide) _⟩, fun hn => absurd h1 hn⟩
  · rw [if_neg h1]
    refine ⟨rfl, rfl, ?_, fun hn => absurd hn h1, fun _ => ⟨rfl, ?_, rfl, ?_⟩⟩
    · refine (training_congr ?_).trans htrain
      exact (regGet_regPut _ _ _ _).trans (if_neg (by decide))
    · exact (twinState_regPut_other (by decide) _ _).trans (twinState_linkUp s)
    · refine ((regGet_regPut _ _ _ _).trans (if_pos rfl)).trans ?_
      have hcnt : regGet (linkUp s) Reg.TRUSS_RETRY_CNT = regGet s Reg.TRUSS_RETRY_CNT := regGet_regSetFld_other (by decide) _ _ _
      show BitVec.ofNat 32 (min ((regGet (linkUp s) Reg.TRUSS_RETRY_CNT).toNat + s.twin.sent.length) 0x7FFFFFFF) = _
      rw [hcnt]

theorem addPending_twin (e : List Byte) (s : State) : (addPending e s).twin = s.twin := by
  obtain ⟨l, hl⟩ := addPending_eq e s
  rw [hl]

/-! ## Flits that arrive -/

theorem flitArrive_good {s : State} {f : Flit} (hup : s.twin.up = true) (h8 : f.typ ≠ 8) (hcheck : f.check = flitCheck f) :
    flitArrive f s =
      if f.typ = 0 then acked f.ack s
      else if f.seq = (s.twin.rxSeq + 1) % 65536 then flitTake f (acked f.ack { s with twin := { s.twin with rxSeq := f.seq } })
      else { s with twin := { s.twin with nak := some s.twin.rxSeq } } := by
  unfold flitArrive
  rw [if_neg (by rw [hup]; simp [h8]), if_neg (not_not_intro hcheck)]

theorem flitArrive_bad {s : State} {f : Flit} (hup : s.twin.up = true) (h8 : f.typ ≠ 8) (hcheck : f.check ≠ flitCheck f) :
    flitArrive f s = headerBad s := by
  unfold flitArrive
  rw [if_neg (by rw [hup]; simp [h8]), if_pos hcheck]

theorem nakTake_good {s : State} {f : Flit} (hup : s.twin.up = true) (h8 : f.typ = 8) (hcheck : f.check = flitCheck f) :
    (nakTake f s).twin.sent = (s.twin.sent.filter (fun e => !seqUpTo e.1.seq f.ack)).map (fun e => (e.1, e.2 + 1)) := by
  unfold nakTake
  rw [if_neg (by rw [hup]; simp [h8]), if_neg (not_not_intro hcheck)]
  rfl

theorem nakTake_bad {s : State} {f : Flit} (hup : s.twin.up = true) (h8 : f.typ = 8) (hcheck : f.check ≠ flitCheck f) :
    nakTake f s = headerBad s := by
  unfold nakTake
  rw [if_neg (by rw [hup]; simp [h8]), if_pos hcheck]

theorem flitTake_passes {s : State} {f : Flit} (h : flitPasses s f = true) :
    flitTake f s = { s with twin := { s.twin with rx := s.twin.rx ++ [f] } } := if_pos h

/-- The oldest flit is taken by the command of its type. -/
theorem flitPop_waits {s : State} {typ : Nat} {f : Flit} {rest : List Flit} (h : flitWaits s typ f rest) (eff : Flit → State → State) :
    flitPop typ eff s = eff f (flitTaken s rest) := by
  obtain ⟨hrx, htyp⟩ := h
  unfold flitPop
  simp only [hrx, htyp, if_true]
  rfl

/-! ## Flits that are sent -/

/-- The check word covers every field of the header but itself. -/
theorem flitCheck_check (g : Flit) (c : Nat) : flitCheck { g with check := c } = flitCheck g := rfl

/-- The flit that stands last among those not acknowledged is the one just sent. -/
theorem sendFlit_sent (f : Flit) (s : State) :
    (sendFlit f s).twin.seq = (s.twin.seq + 1) % 65536 ∧
      ∃ e, (sendFlit f s).twin.sent.getLast? = some (e, 1) ∧ e.typ = f.typ ∧ e.body = f.body ∧ e.tag = f.tag ∧
        e.seq = (sendFlit f s).twin.seq ∧ e.check = flitCheck e := by
  unfold sendFlit
  extract_lets q g l
  have hcheck : flitCheck { g with check := flitCheck g } = flitCheck g := flitCheck_check g _
  generalize hc : flitCheck g = c at hcheck
  refine ⟨rfl, { g with check := c }, ?_, rfl, rfl, rfl, rfl, hcheck.symm⟩
  have hlen : 0 < l.length := by simp only [l, List.length_append, List.length_singleton]; omega
  have hlast : l.getLast? = some ({ g with check := c }, 1) := by
    simp only [l, hc]
    exact List.getLast?_concat
  rw [List.getLast?_drop, if_neg (by omega), hlast]

/-- `t` is `s` with one flit more sent, of type `typ` and with `body`. -/
def LastSent (s t : State) (typ : Nat) (body : List Byte) : Prop :=
  t.twin.seq = (s.twin.seq + 1) % 65536 ∧
    ∃ e, t.twin.sent.getLast? = some (e, 1) ∧ e.typ = typ ∧ e.body = body ∧ e.seq = t.twin.seq ∧ e.check = flitCheck e

theorem lastSent_sendFlit (f : Flit) (s : State) : LastSent s (sendFlit f s) f.typ f.body := by
  obtain ⟨hseq, e, hlast, htyp, hbody, -, hse, hck⟩ := sendFlit_sent f s
  exact ⟨hseq, e, hlast, htyp, hbody, hse, hck⟩

theorem LastSent.of_twin {s t u : State} {typ : Nat} {body : List Byte} (h : LastSent s t typ body) (hseq : u.twin.seq = t.twin.seq)
    (hsent : u.twin.sent = t.twin.sent) : LastSent s u typ body := by
  unfold LastSent
  rw [hseq, hsent]
  exact h

theorem accordSend_leaves (s : State) :
    LastSent s (accordSend s) 5 (accordRecord s) ∧ (accordSend s).twin.accordNs = some s.tb.elapsed := by
  unfold accordSend
  extract_lets s1
  have h : LastSent s s1 5 (accordRecord s) := lastSent_sendFlit _ s
  have htb : s1.tb = s.tb := rfl
  clear_value s1
  exact ⟨h.of_twin rfl rfl, by rw [htb]⟩

theorem homeOf_flitTaken (s : State) (rest : List Flit) (a n : Nat) : homeOf (flitTaken s rest) a n = homeOf s a n := rfl

theorem writeTake_store {u : State} {f : Flit} {b off : Nat} (h : homeOf u f.addr f.body.length = .store b off) :
    writeTake f u = if f.signal.testBit 15 then pegSignal (devWrite u f.addr f.body) (f.signal % 2048) (.add 1)
      else devWrite u f.addr f.body := by
  unfold writeTake
  simp only [h]

theorem readTake_store {u : State} {f : Flit} {b off : Nat} (h : homeOf u f.addr f.len = .store b off) :
    readTake f u = sendFlit { typ := 3, part := f.part, len := f.len, tag := f.tag, body := devRead u f.addr f.len } u := by
  unfold readTake
  simp only [h]

theorem readWaits_open {s : State} {f : Flit} {rest : List Flit} (hrx : s.twin.rx = f :: rest) (hw : windowWaits s f.addr f.len = false) :
    readWaits s = false := by
  unfold readWaits
  simp only [hrx, hw, Bool.and_false]

/-- The bytes of a returned read are kept at their places. -/
theorem tabGet_keepBytes (l : List Byte) (t : Tab (Option Byte)) (a i : Nat) :
    tabGet none (keepBytes t a l) i = if a ≤ i ∧ i < a + l.length then some (l.getD (i - a) 0) else tabGet none t i := by
  induction l generalizing t a with
  | nil => rw [keepBytes, if_neg (by simp only [List.length_nil]; omega)]
  | cons b l ih =>
    rw [keepBytes, ih, tabGet_put, List.length_cons]
    by_cases hi : i = a
    · subst hi
      rw [if_neg (by omega), if_pos rfl, if_pos (by omega), Nat.sub_self, List.getD_cons_zero]
    · rw [if_neg hi]
      by_cases hin : a + 1 ≤ i ∧ i < a + 1 + l.length
      · rw [if_pos hin, if_pos (by omega), show i - a = i - (a + 1) + 1 by omega, List.getD_cons_succ]
      · rw [if_neg hin, if_neg (by omega)]

theorem rdataTake_one {u : State} {f : Flit} {a n : Nat} (h : u.twin.reads = [(f.tag, a, n)]) :
    (rdataTake f u).twin.reads = [] ∧ ∀ i, i < n → tabGet none (rdataTake f u).twin.mirror (a + i) = some (f.body.getD i 0) := by
  unfold rdataTake
  simp only [h, List.find?_cons, decide_true]
  refine ⟨by simp, fun i hi => ?_⟩
  rw [tabGet_keepBytes, length_bytesAt, if_pos (by omega), Nat.add_sub_cancel_left]
  have hlen : i < (bytesAt f.body 0 n).length := by rw [length_bytesAt]; exact hi
  rw [List.getD_eq_getElem _ _ hlen, getElem_bytesAt, Nat.zero_add]

/-! ## CONTROL flits -/

theorem ctlTake_start {u : State} {h x : Nat} (hp : partJob u h = true) :
    (dowelGet (ctlTake (.start h x) u) (partSlot h)).startAt = some x := by
  have ht : ctlTake (.start h x) u = dowelMod u (partSlot h) (fun d => { d with startAt := some x }) := if_pos hp
  rw [ht, dowelGet_dowelMod, if_pos rfl]

theorem ctlTake_ended {u : State} {h flags div : Nat} (hp : homeJob u h = true) :
    (dowelGet (ctlTake (.ended h flags div) u) (slotOf h)).peerEnded = true ∧
      (dowelGet (ctlTake (.ended h flags div) u) (slotOf h)).div = (dowelGet u (slotOf h)).div + div := by
  have ht : ctlTake (.ended h flags div) u = dowelMod u (slotOf h) (partEnded flags div u) := if_pos hp
  rw [ht, dowelGet_dowelMod, if_pos rfl]
  exact ⟨rfl, rfl⟩

/-! ## Accords -/

/-- The state in which an accord whose check word matches has been noted. -/
def accordNoted (l : List Byte) (u : State) : State :=
  regPut { u with twin := { u.twin with peer := l } } Reg.TRUSS_PEER_SERIAL (BitVec.ofNat 32 (leAt l 52 4))

theorem partitionHash_congr {s t : State} (h : t.part = s.part) : partitionHash t = partitionHash s := by
  have hp : ptByte t = ptByte s := funext fun i => by simp only [ptByte, h]
  have hr : rgByte t = rgByte s := funext fun p => funext fun i => by simp only [rgByte, h]
  rw [partitionHash, partitionHash, hp, hr]

/-- The tests of an accord turn on the configuration, the partition table, the versions and the role. -/
theorem accordTest_congr {s t : State} (hconf : t.twin.config = s.twin.config) (hpart : t.part = s.part)
    (hver : regGet t Reg.FC_VERSION = regGet s Reg.FC_VERSION) (hmsg : regGet t Reg.FC_MSGVER = regGet s Reg.FC_MSGVER)
    (hrole : regGet t Reg.TRUSS_CFG = regGet s Reg.TRUSS_CFG) (l : List Byte) : accordTest t l = accordTest s l := by
  have hhash : configHash t = configHash s := by rw [configHash, configHash, hconf]
  unfold accordTest
  simp only [twinSecondary, regBit, regFld, hconf, hpart, hver, hmsg, hrole, hhash, partitionHash_congr hpart]
  rfl

theorem regGet_accordNoted {a : Addr} (h : a ≠ Reg.TRUSS_PEER_SERIAL) (u : State) (l : List Byte) :
    regGet (accordNoted l u) a = regGet u a := (regGet_regPut _ _ _ _).trans (if_neg h)

theorem accordTest_noted (u : State) (l l' : List Byte) : accordTest (accordNoted l u) l' = accordTest u l' :=
  accordTest_congr (s := u) (t := accordNoted l u) rfl rfl (regGet_accordNoted (by decide) u l) (regGet_accordNoted (by decide) u l)
    (regGet_accordNoted (by decide) u l) l'

theorem twinState_accordNoted (u : State) (l : List Byte) : twinState (accordNoted l u) = twinState u :=
  (twinState_regPut_other (by decide) _ _).trans (twinState_regs rfl)

theorem regGet_bridgePut (v : Int) (s : State) (a : Addr) : regGet (bridgePut v s) a = regGet s a := rfl

/-- A switch of the domain leaves the registers of the link and the link itself. -/
theorem autoSwitch_link (d : Nat) (s : State) : (autoSwitch d s).twin = s.twin ∧ twinState (autoSwitch d s) = twinState s := by
  refine ⟨?_, ?_⟩
  · have h := congrArg State.twin (frame_autoSwitch (w := { regs := true, tb := true, imsic := true }) rfl d s _ rfl).same
    exact h
  · refine twinState_congr ?_
    unfold autoSwitch
    split
    · unfold selectDom
      simp only []
      rw [regGet_tbEvent_other (by decide)]
      split <;> rfl
    · rfl

/-- The pair joins. -/
theorem joinPair_leaves (s : State) :
    twinState (joinPair s) = 3 ∧ (joinPair s).twin.peer = s.twin.peer ∧ (joinPair s).twin.heardNs = s.tb.elapsed ∧
      (joinPair s).twin.rejoin = s.twin.rejoin := by
  unfold joinPair
  extract_lets now s1 x y s2
  have hs1 : twinState s1 = 3 := by
    rw [twinState_regSetFld (by decide), twinState_regSetFld (by decide)]
    exact twinState_twinGo (by decide) _
  have hs2 : twinState s2 = 3 := (twinState_regs rfl).trans hs1
  split
  · obtain ⟨htw, hst⟩ := autoSwitch_link 0 s2
    rw [htw, hst]
    exact ⟨hs2, rfl, rfl, rfl⟩
  · exact ⟨hs2, rfl, rfl, rfl⟩

/-- An accord that passes in JOINING joins the pair with a peer that is in JOINING or JOINED. -/
theorem accordTake_joins {u : State} {l : List Byte} (htest : accordTest u l = none) (hst : twinState u = 2)
    (hpeer : leAt l 1 1 = 2 ∨ leAt l 1 1 = 3) (hre : u.twin.rejoin = none) : accordTake l u = joinPair (accordNoted l u) := by
  have hre2 : rejoinEnds 0 (joinPair (accordNoted l u)) = joinPair (accordNoted l u) := by
    unfold rejoinEnds
    rw [(joinPair_leaves _).2.2.2, show (accordNoted l u).twin.rejoin = none from hre]
  unfold accordTake
  simp only []
  rw [show regPut { u with twin := { u.twin with peer := l } } Reg.TRUSS_PEER_SERIAL (BitVec.ofNat 32 (leAt l 52 4)) = accordNoted l u
    from rfl, accordTest_noted, htest, twinState_accordNoted]
  simp only [hst, hpeer, and_self, if_true]
  rw [hre2]
  split <;> rfl

/-- An accord that fails the configuration in JOINING leaves the device STANDALONE. -/
theorem accordTake_config {u : State} {l : List Byte} (htest : accordTest u l = some .config) (hst : twinState u = 2) :
    accordTake l u = rejoinEnds 0x9104 (standAlone 2 (raise 0x0F1 none 1 (accordNoted l u))) := by
  unfold accordTake
  simp only []
  rw [show regPut { u with twin := { u.twin with peer := l } } Reg.TRUSS_PEER_SERIAL (BitVec.ofNat 32 (leAt l 52 4)) = accordNoted l u
    from rfl, accordTest_noted, htest, twinState_accordNoted]
  simp only []
  rw [if_pos hst, accordFails]
  rfl

/-! ## Working time -/

theorem leaveFollow_none (d : Nat) (s : State) : (leaveFollow d s).tb.follow = none := by
  unfold leaveFollow
  split
  · simp only []
    split
    · rfl
    · rw [tbEvent_tb]; rfl
  · assumption

theorem followPut_follow (s : State) :
    (followPut true s).tb.follow.isSome = true ∧ (followPut false s).tb.follow = none := by
  refine ⟨?_, ?_⟩
  · unfold followPut
    rw [if_pos rfl]
    show (if s.tb.follow.isSome then s else _).tb.follow.isSome = true
    split
    · assumption
    · rfl
  · exact leaveFollow_none 1 s

/-- What the secondary takes from a TIME flit. -/
theorem timeSecond_leaves (f : Flit) (u : State) :
    regGet (timeSecond f u) Reg.TRUSS_DELAY = BitVec.ofNat 32 (leAt f.body 8 4 % 65536) ∧
      ((leAt f.body 12 1).testBit 0 = true → (timeSecond f u).tb.follow.isSome = true) ∧
      ((leAt f.body 12 1).testBit 0 = false → (timeSecond f u).tb.follow = none) := by
  unfold timeSecond
  extract_lets t d s1 e x s2 s3 s4
  have hdelay : regGet s4 Reg.TRUSS_DELAY = BitVec.ofNat 32 (d % 65536) := (regGet_regPut _ _ _ _).trans (if_pos rfl)
  refine ⟨hdelay, fun h => ?_, fun h => ?_⟩
  · show s3.tb.follow.isSome = true
    rw [show s3 = followPut true s2 from congrArg (followPut · s2) h]
    exact (followPut_follow s2).1
  · show s3.tb.follow = none
    rw [show s3 = followPut false s2 from congrArg (followPut · s2) h]
    exact (followPut_follow s2).2

theorem leVal_leBytes (n v : Nat) : leVal (leBytes n v) = v % 256 ^ n := by
  induction n generalizing v with
  | zero => rw [leBytes, leVal, Nat.pow_zero, Nat.mod_one]
  | succ n ih =>
    rw [leBytes, leVal, ih, BitVec.toNat_ofNat, Nat.pow_succ' (n := n), (Nat.mod_mul : v % (256 * 256 ^ n) = _)]

/-- The first number of a structure reads back. -/
theorem leAt_leBytes_append (n v : Nat) (l : List Byte) : leAt (leBytes n v ++ l) 0 n = v % 256 ^ n := by
  have htake : (leBytes n v ++ l).take n = leBytes n v := List.take_left' (length_leBytes n v)
  rw [leAt, bytesAt, List.drop_zero, htake, length_leBytes, Nat.sub_self, List.replicate_zero, List.append_nil, leVal_leBytes]

/-- The state in which a heartbeat has been noted, with the peer's state `v` and the time `w`. -/
def peerNoted (v w : Word32) (u : State) : State :=
  let s1 := regPut (regPut u Reg.TRUSS_PEER v) Reg.TRUSS_PEER_LAST w
  { s1 with twin := { s1.twin with heardNs := s1.tb.elapsed } }

theorem peerNoted_leaves (v w : Word32) (u : State) :
    (peerNoted v w u).twin.heardNs = u.tb.elapsed ∧ regGet (peerNoted v w u) Reg.TRUSS_PEER_LAST = w ∧
      regGet (peerNoted v w u) Reg.TRUSS_PEER = v := by
  refine ⟨rfl, (regGet_regPut _ _ _ _).trans (if_pos rfl), ?_⟩
  exact (regGet_regPut _ _ _ _).trans ((if_neg (by decide)).trans ((regGet_regPut _ _ _ _).trans (if_pos rfl)))

theorem beatTake_leaves (f : Flit) (u : State) :
    (beatTake f u).twin.heardNs = u.tb.elapsed ∧ regGet (beatTake f u) Reg.TRUSS_PEER_LAST = BitVec.ofNat 32 (workTime u) ∧
      regGet (beatTake f u) Reg.TRUSS_PEER = BitVec.ofNat 32 (leAt f.body 0 1 % 8 * 2 ^ 29 + leAt f.body 1 1 % 8) :=
  peerNoted_leaves _ _ u

theorem timeEcho_leaves (f : Flit) (u : State) :
    (timeEcho f u).tb = u.tb ∧ regGet (timeEcho f u) Reg.TRUSS_DELAY =
      BitVec.ofNat 32 (((workTime u + 2 ^ 32 - leAt f.body 0 4) % 2 ^ 32 - leAt f.body 4 4) / 2 % 65536) := by
  unfold timeEcho
  rw [regPut_tb, regGet_regPut, if_pos rfl]
  exact ⟨rfl, rfl⟩

/-- The bytes of a heartbeat. -/
def beatBytes (s : State) : List Byte :=
  leBytes 1 (twinState s) ++ leBytes 1 (bitN s.safety.safe 0 + bitN (pinsHeld s) 1 + bitN (critPending s) 2) ++ leBytes 2 0 ++
    leBytes 4 (workTime s)

theorem beatSend_leaves (s : State) : LastSent s (beatSend s) 6 (beatBytes s) ∧ (beatSend s).twin.beatNs = s.tb.elapsed := by
  unfold beatSend
  extract_lets l s1
  have h : LastSent s s1 6 (beatBytes s) := lastSent_sendFlit _ s
  have htb : s1.tb = s.tb := rfl
  clear_value s1
  exact ⟨h.of_twin rfl rfl, by rw [htb]⟩

/-- The bytes of a TIME flit of the primary. -/
def timeBytes (s : State) : List Byte :=
  leBytes 4 (workTime s) ++ leBytes 4 (BitVec.ofInt 32 s.tb.carry).toNat ++ leBytes 4 (regGet s Reg.TRUSS_DELAY).toNat ++
    leBytes 1 (timeFlags s)

theorem timeSend_leaves (s : State) :
    LastSent s (timeSend s) 7 (timeBytes s) ∧ (timeSend s).twin.timeNs = s.tb.elapsed ∧ (timeSend s).tb.carry = 0 := by
  unfold timeSend
  extract_lets l s1
  have h : LastSent s s1 7 (timeBytes s) := lastSent_sendFlit _ s
  have htb : s1.tb = s.tb := rfl
  clear_value s1
  exact ⟨h.of_twin rfl rfl, by rw [htb], rfl⟩

theorem leAt_timeBytes (s : State) : leAt (timeBytes s) 0 4 = workTime s % 2 ^ 32 := by
  rw [timeBytes, List.append_assoc, List.append_assoc, leAt_leBytes_append]
  rfl

/-! ## ACCORD_OVERRIDE -/

/-- The payload names one of the two operations, with its reserved bytes zero. -/
theorem override_wellFormed {x : SealCmd} (hop : leAt x.payload 0 1 = 1 ∨ leAt x.payload 0 1 = 2) (hzero : leAt x.payload 1 3 = 0) :
    ¬((leAt x.payload 0 1 ≠ 1 ∧ leAt x.payload 0 1 ≠ 2) ∨ leAt x.payload 1 3 ≠ 0) := by
  omega

theorem override_unknown {st : Nat} {eff : SealCmd → State → State} {x : SealCmd} {u : State}
    (hop : leAt x.payload 0 1 = 1 ∨ leAt x.payload 0 1 = 2) (hzero : leAt x.payload 1 3 = 0)
    (hunknown : leAt x.payload 4 4 ≠ leAt u.twin.peer 52 4) : override st eff x u = sealDone x.slot 0x9102 u :=
  (if_neg (override_wellFormed hop hzero)).trans (if_pos (.inr hunknown))

/-- An override by a peer that is known turns on the twin state. -/
theorem override_known {st : Nat} {eff : SealCmd → State → State} {x : SealCmd} {u : State}
    (hop : leAt x.payload 0 1 = 1 ∨ leAt x.payload 0 1 = 2) (hzero : leAt x.payload 1 3 = 0) (hpeer : u.twin.peer ≠ [])
    (hknown : leAt x.payload 4 4 = leAt u.twin.peer 52 4) :
    override st eff x u = if twinState u ≠ st then sealDone x.slot 0x9103 u else eff x u :=
  (if_neg (override_wellFormed hop hzero)).trans (if_neg (fun h => h.elim hpeer (fun hne => hne hknown)))

theorem overrideOp_waits {s : State} {x : SealCmd} (h : sealedWaits s 8 x) : overrideOp s = leAt x.payload 0 1 := by
  unfold overrideOp
  simp only [h.1]

/-- The command of an operation takes the override that waits for it. -/
theorem accordOverride_runs {s : State} {x : SealCmd} (h : sealedWaits s 8 x) :
    (leAt x.payload 0 1 ≠ 2 → exec .accordOverrideRejoin s = .next (override 5 rejoin x (sealedTaken s))) ∧
      (leAt x.payload 0 1 = 2 → exec .accordOverrideLeave s = .next (override 3 leavePair x (sealedTaken s))) := by
  refine ⟨fun hop => congrArg Host.Outcome.next ?_, fun hop => congrArg Host.Outcome.next ?_⟩
  · exact (if_neg (by rw [overrideOp_waits h]; exact hop)).trans (sealRun_waits h _)
  · exact (if_pos ((overrideOp_waits h).trans hop)).trans (sealRun_waits h _)

theorem rejoinTimeout_joining {s : State} {slot t0 : Nat} (hre : s.twin.rejoin = some (slot, t0))
    (hlate : t0 + 100000000 ≤ s.tb.elapsed) (hst : twinState s = 2) :
    rejoinTimeout s = sealDone slot 0x9105
      { standAlone 0 s with twin := { (standAlone 0 s).twin with rejoin := none } } := by
  have hre0 : (standAlone 0 s).twin.rejoin = some (slot, t0) := hre
  unfold rejoinTimeout
  simp only [hre, hst, decide_eq_true hlate, twinJoined_state, show decide (2 = 3) = false from rfl, Bool.not_false, Bool.and_self,
    if_true]
  rw [if_neg (by decide), rejoinEnds, hre0]

end Sys2Proof.Machine

namespace Sys2Proof.Proofs
open Sys2Proof.Machine

/-- Settles O58. -/
theorem twinLink : Obligations.TwinLink := by
  unfold Obligations.TwinLink
  refine ⟨fun s htrain => ⟨fun rx tx htested => ?_, fun htested => ?_⟩, fun s f hup => ?_, fun s typ f rest hwaits => ?_, fun s => ?_⟩
  case refine_1 =>
    intro g
    have hexec : exec (.trussTraining rx tx) s = .next (trainTest rx tx s) :=
      congrArg Host.Outcome.next (if_pos (by rw [htrain, htested]; rfl))
    refine ⟨fun hg => hexec.trans (congrArg Host.Outcome.next (trainTest_fails hg)), fun hg => ?_⟩
    obtain ⟨t, ht, hleft⟩ := trainTest_width hg
    exact ⟨t, hexec.trans (congrArg Host.Outcome.next ht), hleft⟩
  case refine_2 =>
    exact ⟨_, congrArg Host.Outcome.next (if_pos htrain), trainDone_leaves htested⟩
  case refine_3 =>
    refine ⟨fun lane hlane hon => ⟨_, (if_pos hlane).trans (congrArg Host.Outcome.next (if_pos (by rw [hup, hon]; rfl))), ?_, training_retrain _⟩,
      fun h8 hbad => congrArg Host.Outcome.next (flitArrive_bad hup h8 hbad), fun h8 hbad => congrArg Host.Outcome.next (nakTake_bad hup h8 hbad),
      fun hok => ⟨fun h0 => ?_, fun h0 h8 hseq hpass => ?_, fun h0 h8 hseq => ?_, fun h8 => ⟨_, rfl, nakTake_good hup h8 hok⟩⟩,
      fun hsent htr => ?_⟩
    · rw [addPending_twin]
    · have h8 : f.typ ≠ 8 := by rw [h0]; decide
      refine ⟨_, congrArg Host.Outcome.next ((flitArrive_good hup h8 hok).trans (if_pos h0)), rfl, rfl, rfl⟩
    · refine ⟨_, congrArg Host.Outcome.next ((flitArrive_good hup h8 hok).trans ((if_neg h0).trans ((if_pos hseq).trans
        (flitTake_passes hpass)))), rfl, rfl, rfl⟩
    · exact congrArg Host.Outcome.next ((flitArrive_good hup h8 hok).trans ((if_neg h0).trans (if_neg hseq)))
    · obtain ⟨e, l, hl⟩ := List.exists_cons_of_ne_nil hsent
      have hretry : ∃ u, retryLimit s = retrain u := by
        unfold retryLimit
        simp only [hl, hup, htr, Bool.not_false, Bool.and_self, if_true]
        exact ⟨_, rfl⟩
      obtain ⟨u, hu⟩ := hretry
      exact ⟨retrain u, congrArg Host.Outcome.next hu, training_retrain u, rfl⟩
  case refine_4 =>
    intro u
    have hwork : workTime u = workTime s := workTime_congr rfl
    refine ⟨fun ht b off hhome => ?_, fun ht b off hhome hopen => ?_, fun ht a n hreads => ?_, fun ht c hc => ?_, fun ht => ?_, fun ht => ?_,
      fun ht => ?_⟩ <;> subst ht
    · exact congrArg Host.Outcome.next ((flitPop_waits hwaits _).trans (writeTake_store (u := u) hhome))
    · obtain ⟨-, e, hlast, htyp, hbody, htag, -, -⟩ := sendFlit_sent
        { typ := 3, part := f.part, len := f.len, tag := f.tag, body := devRead u f.addr f.len } u
      refine ⟨_, e, congrArg Host.Outcome.next ((if_neg ?_).trans ((flitPop_waits hwaits _).trans (readTake_store (u := u) hhome))), hlast, htyp,
        htag, hbody, rfl⟩
      rw [readWaits_open hwaits.1 hopen]
      decide
    · exact ⟨_, congrArg Host.Outcome.next (flitPop_waits hwaits _), rdataTake_one (u := u) hreads⟩
    · refine ⟨congrArg Host.Outcome.next ((flitPop_waits hwaits _).trans (by simp only [hc]; rfl)), fun h x hcx hp => ?_,
        fun h flags div hcx hp => ?_, fun hcx hj => ?_⟩ <;> subst hcx
      · exact ctlTake_start (u := u) hp
      · exact ctlTake_ended (u := u) hp
      · exact if_pos hj
    · intro l
      have hexec : ∀ t, (if checkOk l then accordTake l u else raise 0x0F1 none 5 (cntInc u Reg.TRUSS_ACCORD_BAD)) = t →
          exec .accordReceive s = .next t := fun t h => congrArg Host.Outcome.next ((flitPop_waits hwaits _).trans h)
      have htest : accordTest u l = accordTest s l := accordTest_congr rfl rfl rfl rfl rfl l
      refine ⟨fun hbad => hexec _ (if_neg (by rw [hbad]; decide)), fun hok hpass hst hpeer hre => ?_, fun hok hfail hst => ?_⟩
      · obtain ⟨h3, hp, hheard, -⟩ := joinPair_leaves (accordNoted l u)
        exact ⟨_, hexec _ ((if_pos hok).trans (accordTake_joins (htest.trans hpass) hst hpeer hre)), h3, hp, hheard⟩
      · exact hexec _ ((if_pos hok).trans (accordTake_config (htest.trans hfail) hst))
    · obtain ⟨hheard, hlast, hpeer⟩ := beatTake_leaves f u
      exact ⟨_, congrArg Host.Outcome.next (flitPop_waits hwaits _), hheard, hlast.trans (by rw [hwork]), hpeer⟩
    · refine ⟨fun hrole => ?_, fun hrole => ?_⟩
      · obtain ⟨htb, hdelay⟩ := timeEcho_leaves f u
        refine ⟨_, congrArg Host.Outcome.next ((flitPop_waits hwaits _).trans (if_neg ?_)), htb, hdelay.trans (by rw [hwork])⟩
        rw [show twinSecondary (flitTaken s rest) = false from hrole]; decide
      · exact ⟨_, congrArg Host.Outcome.next ((flitPop_waits hwaits _).trans (if_pos hrole)), timeSecond_leaves f _⟩
  case refine_5 =>
    intro sent
    refine ⟨fun hdue => ?_, fun hj => ⟨fun hdue => ?_, fun hearly => ?_, fun hnone hlate => ?_, fun hearly => ?_⟩, fun hp hdue => ?_,
      fun slot t0 hre hlate hst => ?_, fun x hx hop hzero hpeer => ?_⟩
    · exact ⟨_, congrArg Host.Outcome.next (if_pos hdue), accordSend_leaves s⟩
    · exact ⟨beatSend s, beatBytes s, congrArg Host.Outcome.next (if_pos (by rw [hj, decide_eq_true hdue]; rfl)), beatSend_leaves s⟩
    · exact congrArg Host.Outcome.next (if_neg (by rw [decide_eq_false (by omega), Bool.and_false]; decide))
    · refine congrArg Host.Outcome.next (if_pos ?_)
      rw [hj, decide_eq_true hlate, Bool.true_and, Bool.true_and, List.all_eq_true]
      exact fun g hg => decide_eq_true (hnone g hg)
    · exact congrArg Host.Outcome.next (if_neg (by rw [decide_eq_false (by omega), Bool.and_false, Bool.false_and]; decide))
    · obtain ⟨hsent, hns, hcarry⟩ := timeSend_leaves s
      exact ⟨timeSend s, timeBytes s, congrArg Host.Outcome.next (if_pos (by rw [hp, decide_eq_true hdue]; rfl)), hsent, hns, hcarry,
        leAt_timeBytes s⟩
    · exact congrArg Host.Outcome.next (rejoinTimeout_joining hre hlate hst)
    · intro u op known
      have hruns := accordOverride_runs hx
      have hcmd : ∀ i, i = (if op = 1 then Instr.accordOverrideRejoin else .accordOverrideLeave) →
          (op = 1 ∧ exec i s = .next (override 5 rejoin x u)) ∨ (op = 2 ∧ exec i s = .next (override 3 leavePair x u)) := by
        intro i hi
        rcases hop with h1 | h2
        · exact .inl ⟨h1, by rw [hi, if_pos h1]; exact hruns.1 (by rw [h1]; decide)⟩
        · exact .inr ⟨h2, by rw [hi, if_neg (by rw [show op = 2 from h2]; decide)]; exact hruns.2 h2⟩
      refine ⟨fun i hi => ⟨fun hun => ?_, fun hk hstate => ?_⟩, fun h1 hk hstate => ?_, fun h2 hk hstate => ?_⟩
      · rcases hcmd i hi with ⟨-, h⟩ | ⟨-, h⟩
        · exact h.trans (congrArg Host.Outcome.next (override_unknown (u := u) hop hzero hun))
        · exact h.trans (congrArg Host.Outcome.next (override_unknown (u := u) hop hzero hun))
      · rcases hcmd i hi with ⟨h1, h⟩ | ⟨h2, h⟩
        · rw [if_pos h1] at hstate
          exact h.trans (congrArg Host.Outcome.next ((override_known (u := u) hop hzero hpeer hk).trans (if_pos hstate)))
        · rw [if_neg (by rw [h2]; decide)] at hstate
          exact h.trans (congrArg Host.Outcome.next ((override_known (u := u) hop hzero hpeer hk).trans (if_pos hstate)))
      · refine ⟨rejoin x u, (hruns.1 (by rw [show leAt x.payload 0 1 = 1 from h1]; decide)).trans (congrArg Host.Outcome.next
          ((override_known (u := u) hop hzero hpeer hk).trans (if_neg (not_not_intro hstate)))), ?_, rfl, rfl⟩
        exact (twinState_regs rfl).trans (twinState_twinGo (by decide) _)
      · exact (hruns.2 h2).trans (congrArg Host.Outcome.next
          ((override_known (u := u) hop hzero hpeer hk).trans (if_neg (not_not_intro hstate))))

end Sys2Proof.Proofs

end

section
/-!
SUPPORT. The graphics front end: binding, packets out and back, retirement and tile write-out (O54).
-/

namespace Sys2Proof.Machine

/-! ## What leaves the front end's own state -/

theorem pegSignal_gfx (s : State) (n : Nat) (op : PegOp) : (pegSignal s n op).gfx = s.gfx := by
  have hframe := congrArg State.gfx (frame_pegSignal (w := { bays := true, cmd := true, pegs := true, safety := true }) rfl s n op _ rfl).same
  exact hframe

theorem pegSignal_part (s : State) (n : Nat) (op : PegOp) : (pegSignal s n op).part = s.part := by
  have hframe := congrArg State.part (frame_pegSignal (w := { bays := true, cmd := true, pegs := true, safety := true }) rfl s n op _ rfl).same
  exact hframe

theorem mboxWrite_gfx (slot r off : Nat) (l : List Byte) (s : State) : (mboxWrite slot r off l s).gfx = s.gfx := by
  have hframe := congrArg State.gfx (frame_mboxWrite (w := { regs := true, bays := true }) rfl slot r off l s _ rfl).same
  exact hframe

theorem scramble_gfx (a n : Nat) (s : State) : (scramble a n s).gfx = s.gfx := by
  have hframe := congrArg State.gfx (frame_scramble
    (w := { regs := true, mem := true, bays := true, waitWrites := true, twin := true, freeCtr := true }) rfl a n s _ rfl).same
  exact hframe

theorem gfxRead_gfx {s s1 : State} {a n : Nat} {o : Option (List Byte)} (h : gfxRead a n s = (o, s1)) : s1.gfx = s.gfx := by
  have hframe := congrArg State.gfx (frame_gfxRead (w := Parts.faultReach) rfl a n s s1 (congrArg Prod.snd h)).same
  exact hframe

theorem writeRows_gfx {s s1 : State} {base pitch w : Nat} {xs : Nat × Nat} {row : Nat → List Byte} {ys : List Nat} {o : Bool}
    (h : writeRows base pitch w xs row ys s = (o, s1)) : s1.gfx = s.gfx := by
  have hframe := congrArg State.gfx (frame_writeRows (w := Parts.faultReach) rfl base pitch w xs row ys s s1 (congrArg Prod.snd h)).same
  exact hframe

theorem readVerts_gfx {s s1 : State} {ps : List Nat} {acc : List Byte} {o : Option (List Byte)}
    (h : readVerts ps acc s = (o, s1)) : s1.gfx = s.gfx := by
  have hframe := congrArg State.gfx (frame_readVerts (w := Parts.faultReach) rfl ps acc s s1 (congrArg Prod.snd h)).same
  exact hframe

theorem recNum_part {s t : State} (h : t.part = s.part) (p off n : Nat) : recNum t p off n = recNum s p off n := by
  have hbyte : ptByte t = ptByte s := by
    funext i
    rw [ptByte, ptByte, h]
  rw [recNum, recNum, hbyte]

theorem ownsPeg_part {s t : State} (h : t.part = s.part) (p n : Nat) : ownsPeg t p n = ownsPeg s p n := by
  unfold ownsPeg recFld
  rw [recNum_part h]

theorem ownsGranule_part {s t : State} (h : t.part = s.part) (p n : Nat) : ownsGranule t p n = ownsGranule s p n := by
  simp only [ownsGranule, recBit, recNum_part h]

theorem gOwner_part {s t : State} (h : t.part = s.part) : gOwner t = gOwner s := by
  have hown : ownsGfx t = ownsGfx s := by
    funext p
    rw [ownsGfx, recBit, recNum_part h, ownsGfx, recBit]
  rw [gOwner, gOwner, hown]

theorem gBlk_gfx {s t : State} (h : t.gfx = s.gfx) (o n : Nat) : gBlk t o n = gBlk s o n := by
  rw [gBlk, gBlk, h]

/-! ## Binding -/

/-- The front end as a binding leaves it, with its block read. -/
def bindGfx (s : State) (slot : Nat) (b : List Byte) : GfxSt :=
  { bound := handleOf s slot, waiting := s.gfx.waiting.filter (fun k => decide (k ≠ slot)), block := b,
    last := dsBays (dowelGet s slot).desc - 1 }

/-- The work pegs of a job of `n` bays are set to 0. -/
def clearWorkPegs (n : Nat) (s : State) : State :=
  (List.range n).foldl (fun s r => if ownsPeg s (gOwner s) (workPeg s r) then pegSignal s (workPeg s r) (.set 0) else s) s

theorem clearWorkPegs_keeps (n : Nat) (s : State) : (clearWorkPegs n s).gfx = s.gfx ∧ (clearWorkPegs n s).part = s.part := by
  refine foldl_keeps (keep := fun (t : State) => t.gfx = s.gfx ∧ t.part = s.part) ?_ _ ⟨rfl, rfl⟩
  intro u r hu
  split
  · exact ⟨(pegSignal_gfx _ _ _).trans hu.1, (pegSignal_part _ _ _).trans hu.2⟩
  · exact hu

/-- The DONE words of a job of `n` bays are set to 0, and the tile buffer becomes the front end's. -/
def takeBuffers (slot n : Nat) (s : State) : State :=
  scramble (loftBase + nfld (gBlk s 76 1) 0 7 * 0x40000) 0x100000
    ((List.range n).foldl (fun s r => mboxWrite slot r (gBlk s 104 4 + 0x0FF8) (leBytes 8 0) s) s)

theorem takeBuffers_gfx (slot n : Nat) (s : State) : (takeBuffers slot n s).gfx = s.gfx := by
  rw [takeBuffers, scramble_gfx]
  exact foldl_keeps (keep := fun (t : State) => t.gfx = s.gfx) (fun u r hu => (mboxWrite_gfx _ _ _ _ _).trans hu) _ rfl

/-- A block that was read is tested; a job that passes gets its buffers. -/
theorem bindJob_read {s s1 : State} {slot : Nat} {b : List Byte} (hread : gfxRead (dsArgs (dowelGet s slot).desc) 128 s = (some b, s1)) :
    let n := dsBays (dowelGet s slot).desc
    let s3 := clearWorkPegs n { s1 with gfx := bindGfx s slot b }
    blockOk s3.gfx.block = true → tbufOk s3 = true → workPegsOk s3 n = true → bindJob slot s = takeBuffers slot n s3 := by
  intro n s3 hok htbuf hpegs
  unfold bindJob
  simp only [hread, Option.isNone_some, Bool.false_eq_true, if_false]
  refine (if_neg ?_).trans ((if_neg ?_).trans (if_neg ?_))
  · exact (congrArg (fun x => ¬ (!x) = true) hok).mpr (by decide)
  · exact (congrArg (fun x => ¬ (!x) = true) htbuf).mpr (by decide)
  · exact (congrArg (fun x => ¬ (!x) = true) hpegs).mpr (by decide)

/-- A job whose block can be read and passes its tests is bound. -/
theorem bindJob_gfx {s s1 : State} {slot : Nat} {b : List Byte} (hread : gfxRead (dsArgs (dowelGet s slot).desc) 128 s = (some b, s1))
    (hok : blockOk b = true) (htbuf : ∀ i, i < 4 → ownsGranule s1 (gOwner s1) (nfld (leAt b 76 1) 0 7 + i) = true)
    (hpegs : ∀ r, r < dsBays (dowelGet s slot).desc → ownsPeg s1 (gOwner s1) (leAt b 108 2 + r) = true) :
    (bindJob slot s).gfx = bindGfx s slot b := by
  have hbind := bindJob_read hread
  extract_lets n s3 at hbind
  obtain ⟨hgfx, hpart⟩ := clearWorkPegs_keeps n { s1 with gfx := bindGfx s slot b }
  have hg3 : s3.gfx = bindGfx s slot b := hgfx
  have hp3 : s3.part = s1.part := hpart
  have hblock : s3.gfx.block = b := congrArg GfxSt.block hg3
  have htb : tbufOk s3 = true := List.all_eq_true.mpr fun i hi => by
    rw [ownsGranule_part hp3, gOwner_part hp3, gBlk, hblock]
    exact htbuf i (List.mem_range.mp hi)
  have hwp : workPegsOk s3 n = true := List.all_eq_true.mpr fun r hr => by
    rw [ownsPeg_part hp3, gOwner_part hp3, workPeg, gBlk, hblock]
    exact hpegs r (List.mem_range.mp hr)
  rw [hbind (by rw [hblock, hok]) htb hwp, takeBuffers_gfx, hg3]

/-! ## Packets out -/

/-- The packet that goes to rank `r` next. -/
def nextPkt (s : State) (r kind first count : Nat) : GPkt :=
  { rank := r, num := tabGet 0 s.gfx.issued r, kind := kind, first := first, count := count }

/-- The front end once packet `p` is handed out. -/
def GfxSt.handed (g : GfxSt) (p : GPkt) : GfxSt :=
  { g with issued := tabPut 0 g.issued p.rank (p.num + 1), last := p.rank, out := g.out ++ [p] }

theorem handPacket_gfx (slot r kind first count : Nat) (parts : List (Nat × List Byte)) (s : State) :
    (handPacket slot r kind first count parts s).gfx = s.gfx.handed (nextPkt s r kind first count) := by
  unfold handPacket
  extract_lets num s1 g1 s2
  have h1 : s1.gfx = s.gfx := foldl_keeps (keep := fun (t : State) => t.gfx = s.gfx) (fun u p hu => (mboxWrite_gfx _ _ _ _ _).trans hu) _ rfl
  rw [pegSignal_gfx]
  exact congrArg (fun (g : GfxSt) => g.handed (nextPkt s r kind first count)) h1

/-- The bound job can be handed packets. -/
def canIssue (s : State) (slot : Nat) : Prop :=
  gfxSlot s = some slot ∧ (dowelGet s slot).suspended = false ∧ (dowelGet s slot).ending = none ∧ (dowelGet s slot).replayDue = false

theorem packetIssue_vertices {s s1 : State} {slot r : Nat} {l : List Byte} (h : canIssue s slot) (hstage : s.gfx.stage = 0)
    (hrec : s.gfx.drec ≠ []) (hnext : s.gfx.vnext < leAt s.gfx.drec 16 4) (hrank : nextRank s slot (fun _ => true) = some r)
    (hread : readVerts (rangeFrom s.gfx.vnext (min 32 (leAt s.gfx.drec 16 4 - s.gfx.vnext))) [] s = (some l, s1)) :
    (packetIssue s).gfx = { s.gfx with vnext := s.gfx.vnext + min 32 (leAt s.gfx.drec 16 4 - s.gfx.vnext) }.handed
      (nextPkt s r 1 s.gfx.vnext (min 32 (leAt s.gfx.drec 16 4 - s.gfx.vnext))) := by
  obtain ⟨hslot, hsusp, hend, hdue⟩ := h
  unfold packetIssue
  simp only [hslot, hsusp, hend, hdue, hstage, Option.isSome_none, Bool.or_self, Bool.false_eq_true, if_false,
    List.isEmpty_iff, hrec, ne_eq, not_true_eq_false, Nat.not_le.mpr hnext, hrank]
  unfold issueVertices
  simp only [hread]
  rw [handPacket_gfx]
  simp only [nextPkt, readVerts_gfx hread, hstage]

theorem packetIssue_end {s : State} {slot r : Nat} (h : canIssue s slot) (hstage : s.gfx.stage = 2)
    (hrank : nextRank s slot (fun r => !s.gfx.ended.contains r) = some r) :
    (packetIssue s).gfx = { s.gfx with ended := s.gfx.ended ++ [r] }.handed (nextPkt s r 3 0 0) := by
  obtain ⟨hslot, hsusp, hend, hdue⟩ := h
  unfold packetIssue
  simp only [hslot, hsusp, hend, hdue, hstage, Option.isSome_none, Bool.or_self, Bool.false_eq_true, if_false, hrank]
  rw [handPacket_gfx]
  rfl

/-! ## Packets back -/

/-- The front end once packet `p` of rank `r` is back. -/
def packetBack (s : State) (r : Nat) (p : GPkt) : State :=
  { s with gfx := { s.gfx with
      out := s.gfx.out.erase p, returned := tabPut 0 s.gfx.returned r (tabGet 0 s.gfx.returned r + 1) } }

theorem packetReturn_notDone {s : State} {slot r : Nat} {p : GPkt} (hslot : gfxSlot s = some slot)
    (hp : s.gfx.out.find? (fun p => decide (p.rank = r)) = some p)
    (hdone : leVal (mboxRead s slot r (gBlk s 104 4 + 0x0FF8) 8) ≤ p.num) : packetReturn r s = s := by
  unfold packetReturn
  simp only [hslot, hp, if_pos hdone]

theorem packetReturn_done {s : State} {slot r : Nat} {p : GPkt} (hslot : gfxSlot s = some slot)
    (hp : s.gfx.out.find? (fun p => decide (p.rank = r)) = some p)
    (hdone : p.num < leVal (mboxRead s slot r (gBlk s 104 4 + 0x0FF8) 8)) (hkind : p.kind ≠ 1) :
    packetReturn r s = if p.kind = 2 then takeFragments slot p (packetBack s r p) else packetBack s r p := by
  unfold packetReturn
  simp only [hslot, hp, if_neg (Nat.not_le.mpr hdone), if_neg hkind]
  rfl

/-- What a returned fragment packet `p` gives the entry `e` of the scoreboard, with outputs `l` and discard mask `m`. -/
def entryShaded (s : State) (p : GPkt) (l : List Byte) (m : Nat) (e : GEntry) : GEntry :=
  if e.rank = p.rank ∧ e.num = p.num then
    { e with out := some ((List.range 4).map (fun i => leAt l (16 * e.place + 4 * i) 4),
                          decide (leAt (psoOf s e.draw) 65 1 = 1) && m.testBit e.place) }
  else e

theorem entryShaded_frag (s : State) (p : GPkt) (l : List Byte) (m : Nat) (e : GEntry) : (entryShaded s p l m e).frag = e.frag := by
  unfold entryShaded
  split <;> rfl

theorem entryShaded_out {s : State} {p : GPkt} {l : List Byte} {m : Nat} {e : GEntry} (hrank : (entryShaded s p l m e).rank = p.rank)
    (hnum : (entryShaded s p l m e).num = p.num) : (entryShaded s p l m e).out.isSome = true := by
  unfold entryShaded at hrank hnum ⊢
  by_cases h : e.rank = p.rank ∧ e.num = p.num
  · rw [if_pos h]
    rfl
  · rw [if_neg h] at hrank hnum
    exact absurd ⟨hrank, hnum⟩ h

theorem takeFragments_gfx (slot : Nat) (p : GPkt) (s : State) :
    ∃ l m, (takeFragments slot p s).gfx = { s.gfx with board := s.gfx.board.map (entryShaded s p l m) } :=
  ⟨_, _, rfl⟩

/-! ## Retirement -/

theorem sampleKey_inj {x y j k : Nat} (h : sampleKey x y j = sampleKey x y k) : j = k := by
  unfold sampleKey at h
  omega

/-- The colour of sample `k` of a fragment `e` once it has retired with output `c`. -/
def retiredColor (s : State) (e : GEntry) (c : List Nat) (g : GTile) (k : Nat) : Nat :=
  if e.frag.mask.testBit k then
    blendColor (gFmt s) (leAt (psoOf s e.draw) 60 4) (tabGet 0 g.color (sampleKey e.frag.x e.frag.y k)) c
  else tabGet 0 g.color (sampleKey e.frag.x e.frag.y k)

theorem retireSample_same (s : State) (e : GEntry) (c : List Nat) (g : GTile) (k : Nat) :
    tabGet 0 (retireSample s e c g k).color (sampleKey e.frag.x e.frag.y k) = retiredColor s e c g k := by
  unfold retireSample retiredColor
  cases hm : e.frag.mask.testBit k
  · rfl
  · simp

theorem retireSample_other (s : State) (e : GEntry) (c : List Nat) (g : GTile) {j k : Nat} (h : k ≠ j) :
    tabGet 0 (retireSample s e c g j).color (sampleKey e.frag.x e.frag.y k) = tabGet 0 g.color (sampleKey e.frag.x e.frag.y k) := by
  unfold retireSample
  cases hm : e.frag.mask.testBit j
  · rfl
  · have hkey : sampleKey e.frag.x e.frag.y k ≠ sampleKey e.frag.x e.frag.y j := fun he => h (sampleKey_inj he)
    simp [hkey]

theorem retireSamples_color (s : State) (e : GEntry) (c : List Nat) (g : GTile) (n k : Nat) :
    tabGet 0 ((List.range n).foldl (retireSample s e c) g).color (sampleKey e.frag.x e.frag.y k) =
      if k < n then retiredColor s e c g k else tabGet 0 g.color (sampleKey e.frag.x e.frag.y k) := by
  induction n with
  | zero => rfl
  | succ n ih =>
    rw [List.range_succ, List.foldl_append, List.foldl_cons, List.foldl_nil]
    by_cases hk : k = n
    · subst hk
      rw [if_neg (Nat.lt_irrefl k)] at ih
      rw [retireSample_same, if_pos (Nat.lt_succ_self k), retiredColor, retiredColor, ih]
    · rw [retireSample_other _ _ _ _ hk, ih]
      have hlt : k < n + 1 ↔ k < n := by omega
      simp only [hlt]

/-- The delayed depth writes leave the colours. -/
theorem retireDepth_color (e : GEntry) (g : GTile) : (retireDepth e g).color = g.color := by
  unfold retireDepth
  refine foldl_keeps (keep := fun (h : GTile) => h.color = g.color) (fun u x hu => ?_) _ rfl
  exact hu

theorem retiredColor_congr {g h : GTile} (hc : h.color = g.color) (s : State) (e : GEntry) (c : List Nat) (k : Nat) :
    retiredColor s e c h k = retiredColor s e c g k := by
  rw [retiredColor, retiredColor, hc]

/-- The oldest fragment waits until it is shaded. -/
theorem retireFragment_unshaded {s : State} {slot : Nat} {e : GEntry} {rest : List GEntry} {g : GTile} (hslot : gfxSlot s = some slot)
    (hboard : s.gfx.board = e :: rest) (htile : s.gfx.tile = some g) (hout : e.out = none) : retireFragment s = s := by
  unfold retireFragment
  simp only [hslot, hboard, htile, hout]

theorem retireFragment_front {s : State} {slot : Nat} {e : GEntry} {rest : List GEntry} {g : GTile} (hslot : gfxSlot s = some slot)
    (hboard : s.gfx.board = e :: rest) (htile : s.gfx.tile = some g) {c : List Nat} {dropped : Bool} (hout : e.out = some (c, dropped)) :
    retireFragment s = { s with gfx := { s.gfx with
      board := rest
      tile := some (if dropped then g else (List.range (gSamples s)).foldl (retireSample s e c) (retireDepth e g)) } } := by
  unfold retireFragment
  simp only [hslot, hboard, htile, hout]

/-! ## Tile write-out -/

/-- The tile after `g` is taken: there is none, and the END packets follow. -/
def lastTile (s : State) : State := { s with gfx := { s.gfx with tile := none, stage := 2 } }

theorem refillTile_done {s : State} {g : GTile} (hpend : g.pend = []) (hboard : s.gfx.board = []) (hnext : s.gfx.tris.length ≤ g.next) :
    refillTile g s = g := by
  unfold refillTile
  rw [if_neg (by simp [hpend, hboard]), List.drop_eq_nil_of_le hnext]
  rfl

/-- A finished tile of an enabled pass is written out or skipped. -/
theorem tileWriteout_done {s : State} {slot : Nat} {g : GTile} (hslot : gfxSlot s = some slot) (htile : s.gfx.tile = some g)
    (hpend : g.pend = []) (hboard : s.gfx.board = []) (hnext : s.gfx.tris.length ≤ g.next) : tileWriteout s = finishTile g s := by
  unfold tileWriteout
  simp only [hslot, htile, refillTile_done hpend hboard hnext]
  rw [if_pos (by simp [hpend, hboard, hnext])]

theorem gTiles_gfx {s t : State} (h : t.gfx = s.gfx) : gTiles t = gTiles s := by
  simp only [gTiles, gCols, gWidth, gHeight, gBlk, h]

/-- The signature of a tile's colours. -/
def tileSig (g : GTile) (s : State) : Word64 :=
  (rangeFrom (tileRect s g.t).2.1 (tileRect s g.t).2.2).foldl (fun a y => foldWords a (colorRow s g (tileRect s g.t).1 y)) 0

/-- No tile is forced out by its number, and none has a depth target: the last tile is written, or skipped. -/
theorem finishTile_write {s s1 : State} {g : GTile} (hdepth : gBlk s 40 8 = 0) (hlast : gTiles s ≤ g.t + 1) (hsigs : gBlk s 56 8 = 0)
    (hforce : (gBlk s 12 4 + g.t) % gBlk s 101 1 ≠ 0)
    (hrows : writeRows (gBlk s 16 8) (gBlk s 24 4) (colorBytes (gFmt s)) (tileRect s g.t).1 (colorRow s g (tileRect s g.t).1)
      (rangeFrom (tileRect s g.t).2.1 (tileRect s g.t).2.2) s = (true, s1)) :
    finishTile g s = lastTile (cntInc s1 Reg.GFX_TILE_WRITE_CNT) := by
  have hgfx : (cntInc s1 Reg.GFX_TILE_WRITE_CNT).gfx = s.gfx := (cntInc_gfx _ _).trans (writeRows_gfx hrows)
  have hentry : sigEntry g.t s = (some 0, s) := if_pos hsigs
  have hwrite : writeTile g (tileSig g s) s = some (cntInc s1 Reg.GFX_TILE_WRITE_CNT) := by
    unfold writeTile
    simp only [hrows, if_pos hsigs]
  have hd : writeDepth g (cntInc s1 Reg.GFX_TILE_WRITE_CNT) = (true, cntInc s1 Reg.GFX_TILE_WRITE_CNT) :=
    if_pos ((gBlk_gfx hgfx 40 8).trans hdepth)
  unfold finishTile
  simp only [hentry, hforce, hsigs, decide_true, decide_false, Bool.true_or, Bool.false_eq_true, if_false, if_true]
  change (match writeTile g (tileSig g s) s with | none => _ | some _ => _) = _
  simp only [hwrite, hd]
  rw [if_neg (by rw [gTiles_gfx hgfx]; omega)]
  rfl

theorem finishTile_skip {s s1 : State} {g : GTile} {l : List Byte} (hdepth : gBlk s 40 8 = 0) (hlast : gTiles s ≤ g.t + 1)
    (hsigs : gBlk s 56 8 ≠ 0) (hforce : (gBlk s 12 4 + g.t) % gBlk s 101 1 ≠ 0)
    (hread : gfxRead (gBlk s 56 8 + 16 * g.t) 16 s = (some l, s1)) (hvalid : (leVal l).testBit 64 = true)
    (hsame : leVal l % 2 ^ 64 = (tileSig g s).toNat) : finishTile g s = lastTile (cntInc s1 Reg.GFX_TILE_SKIP_CNT) := by
  have hgfx : (cntInc s1 Reg.GFX_TILE_SKIP_CNT).gfx = s.gfx := (cntInc_gfx _ _).trans (gfxRead_gfx hread)
  have hentry : sigEntry g.t s = (some (leVal l), s1) := by
    unfold sigEntry
    simp only [if_neg hsigs, hread]
  have hd : writeDepth g (cntInc s1 Reg.GFX_TILE_SKIP_CNT) = (true, cntInc s1 Reg.GFX_TILE_SKIP_CNT) :=
    if_pos ((gBlk_gfx hgfx 40 8).trans hdepth)
  have hsame' : leVal l % 2 ^ 64 = ((rangeFrom (tileRect s g.t).2.1 (tileRect s g.t).2.2).foldl
    (fun a y => foldWords a (colorRow s g (tileRect s g.t).1 y)) 0).toNat := hsame
  unfold finishTile
  simp only [hentry, hforce, hsigs, hvalid, hsame', decide_false, Bool.not_true, Bool.or_self, Bool.false_eq_true, if_false,
    ne_eq, not_true_eq_false, hd]
  rw [if_neg (by rw [gTiles_gfx hgfx]; omega)]
  rfl

end Sys2Proof.Machine
end

section
/-!
SUPPORT. The display pipes: blanking, underruns, flips, the output watch, AUX transactions and hot plug (O54).
-/

namespace Sys2Proof.Machine

/-! ## The registers of a unit -/

/-- Registers of different offsets in the blocks of a unit differ. -/
theorem offset_ne {a b : Nat} (h : a ≠ b) (base i : Nat) : base + a + i * 0x1000 ≠ base + b + i * 0x1000 := by
  omega

theorem offset_ne_pair {a b : Nat} (h : a ≠ b + 4) (base i : Nat) : base + a + i * 0x1000 ≠ base + b + i * 0x1000 + 4 := by
  omega

theorem regFld_regSetFld_same (s : State) (a : Addr) {lo len : Nat} (h : lo + len ≤ 32) (v : Nat) :
    regFld (regSetFld s a lo len v) a lo len = v % 2 ^ len := by
  rw [regFld, regGet_regSetFld_same, fld_setFld_same _ _ _ _ h]

theorem regBit_regSetFld (s : State) (a : Addr) (lo len v i : Nat) :
    regBit (regSetFld s a lo len v) a i =
      if lo ≤ i ∧ i < lo + len then decide (i < 32) && v.testBit (i - lo) else regBit s a i := by
  rw [regBit, regGet_regSetFld_same, bitAt_setFld, regBit]

theorem regBit_regSetFld_other {s : State} {a b : Addr} (h : b ≠ a) (lo len v i : Nat) :
    regBit (regSetFld s a lo len v) b i = regBit s b i := by
  rw [regBit, regGet_regSetFld_other h, regBit]

theorem regFld_regSetFld_other {s : State} {a b : Addr} (h : b ≠ a) (lo len v lo' len' : Nat) :
    regFld (regSetFld s a lo len v) b lo' len' = regFld s b lo' len' := by
  rw [regFld, regGet_regSetFld_other h, regFld]

theorem pairGet_regSetFld_other {s : State} {a b : Addr} (h : b ≠ a) (h4 : b + 4 ≠ a) (lo len v : Nat) :
    pairGet (regSetFld s a lo len v) b = pairGet s b := by
  rw [pairGet, regGet_regSetFld_other h, regGet_regSetFld_other h4, pairGet]

theorem pairGet_regPut_other {s : State} {a b : Addr} (h : b ≠ a) (h4 : b + 4 ≠ a) (v : Word32) :
    pairGet (regPut s a v) b = pairGet s b := by
  rw [pairGet, regGet_regPut, regGet_regPut, if_neg h, if_neg h4, pairGet]

theorem regGet_pairPut_other {s : State} {a b : Addr} (h : b ≠ a) (h4 : b ≠ a + 4) (v : Nat) :
    regGet (pairPut s a v) b = regGet s b := by
  rw [pairPut, regGet_regPut, regGet_regPut, if_neg h4, if_neg h]

theorem leAt_lt64 (l : List Byte) (o : Nat) : leAt l o 8 < 2 ^ 64 := leAt_lt l o 8

/-! ## Vertical blanking -/

/-- The planes `l` are latched. -/
def latchPlanes (l : List Nat) (s : State) : State :=
  l.foldl (fun s q => { s with disp := { s.disp with planes := tabPut {} s.disp.planes q (latchPlane s q) } }) s

/-- What a plane latches does not depend on the display's own state. -/
theorem latchPlane_disp (s : State) (d : DispSt) (q : Nat) : latchPlane { s with disp := d } q = latchPlane s q := rfl

theorem latchPlanes_eq (l : List Nat) (s : State) :
    ∃ p, latchPlanes l s = { s with disp := { s.disp with planes := p } } ∧
      ∀ q, tabGet {} p q = if q ∈ l then latchPlane s q else tabGet {} s.disp.planes q := by
  induction l generalizing s with
  | nil => exact ⟨_, rfl, fun q => (if_neg List.not_mem_nil).symm⟩
  | cons x l ih =>
    obtain ⟨p, hp, hget⟩ := ih { s with disp := { s.disp with planes := tabPut {} s.disp.planes x (latchPlane s x) } }
    refine ⟨p, hp, fun q => (hget q).trans ?_⟩
    rw [latchPlane_disp]
    by_cases hq : q ∈ l
    · rw [if_pos hq, if_pos (List.mem_cons_of_mem x hq)]
    · rw [if_neg hq]
      by_cases hx : q = x
      · subst hx
        rw [if_pos List.mem_cons_self]
        exact (tabGet_put _ _ _ _ _).trans (if_pos rfl)
      · rw [if_neg (by simp [hq, hx])]
        exact (tabGet_put _ _ _ _ _).trans (if_neg hx)

/-- A plane on which no flip runs is left as it is. -/
theorem latchFlip_idle {s : State} {q : Nat} (h : (updGet s (planeRegion q)).running = none) : latchFlip q (testRunning q s) = s := by
  have htest : testRunning q s = s := by
    unfold testRunning
    simp only [h]
  rw [htest, latchFlip]
  simp only [h]

theorem latchFlips_idle {l : List Nat} {s : State} (h : ∀ q ∈ l, (updGet s (planeRegion q)).running = none) :
    l.foldl (fun s q => latchFlip q (testRunning q s)) s = s := by
  induction l with
  | nil => rfl
  | cons q l ih =>
    rw [List.foldl_cons, latchFlip_idle (h q List.mem_cons_self)]
    exact ih fun r hr => h r (List.mem_cons_of_mem q hr)

/-- A pipe has counted the frame that its blanking ends. -/
def blankCounted (pipe : Nat) (s : State) : State :=
  let t := regSetFld s (Reg.DISP_PIPE_STAT pipe) 16 16 (regFld s (Reg.DISP_PIPE_STAT pipe) 16 16 + 1)
  { t with disp := { t.disp with
      blankNs := tabPut 0 t.disp.blankNs pipe t.tb.elapsed
      late := t.disp.late.filter (fun (k, _) => decide (k / 65536 ≠ pipe)) } }

theorem enterBlank_eq (pipe : Nat) (s : State) : enterBlank pipe s =
    blankCounted pipe ((pipePlanes pipe).foldl (fun s q => latchFlip q (testRunning q s)) (latchPlanes (pipePlanes pipe) s)) := by
  unfold enterBlank
  generalize pipePlanes pipe = l
  rfl

/-- A pipe without a running flip latches its planes and counts the frame. -/
theorem enterBlank_idle {s : State} {pipe : Nat} (h : ∀ q ∈ pipePlanes pipe, (updGet s (planeRegion q)).running = none) :
    (∀ q ∈ pipePlanes pipe, planeLat (enterBlank pipe s) q = latchPlane s q) ∧
      regFld (enterBlank pipe s) (Reg.DISP_PIPE_STAT pipe) 16 16 = (regFld s (Reg.DISP_PIPE_STAT pipe) 16 16 + 1) % 2 ^ 16 := by
  obtain ⟨p, hp, hget⟩ := latchPlanes_eq (pipePlanes pipe) s
  have hidle : ∀ q ∈ pipePlanes pipe, (updGet (latchPlanes (pipePlanes pipe) s) (planeRegion q)).running = none := by
    rw [hp]
    exact h
  rw [enterBlank_eq, latchFlips_idle hidle, hp]
  refine ⟨fun q hq => ?_, ?_⟩
  · exact (hget q).trans (if_pos hq)
  · exact regFld_regSetFld_same { s with disp := { s.disp with planes := p } } _ (by decide) _

/-! ## Late lines -/

theorem lineUnderrun_first {s : State} {pipe line : Nat} (x : Nat) (h : tabGet none s.disp.late (65536 * pipe + line) = none) :
    tabGet none (lineUnderrun pipe x line s).disp.late (65536 * pipe + line) = some x ∧
      regGet (lineUnderrun pipe x line s) (Reg.DISP_UNDERRUN_CNT pipe) =
        BitVec.ofNat 32 (min ((regGet s (Reg.DISP_UNDERRUN_CNT pipe)).toNat + 1) 0x7FFFFFFF) := by
  unfold lineUnderrun
  simp only [h]
  rw [cntInc_disp]
  exact ⟨(tabGet_put none s.disp.late _ _ (some x)).trans (if_pos rfl), (regGet_regPut _ _ _ _).trans (if_pos rfl)⟩

theorem lineUnderrun_again {s : State} {pipe line y : Nat} (x : Nat) (h : tabGet none s.disp.late (65536 * pipe + line) = some y) :
    tabGet none (lineUnderrun pipe x line s).disp.late (65536 * pipe + line) = some (min x y) ∧
      (lineUnderrun pipe x line s).regs = s.regs := by
  unfold lineUnderrun
  simp only [h, and_true]
  exact (tabGet_put _ _ _ _ _).trans (if_pos rfl)

/-! ## Flips -/

/-- The flip that a plane has latched. -/
def flipped (s : State) (q base pitch fmt : Nat) : State :=
  regSetFld (regPut (pairPut s (Reg.DISP_PL_BASE q) base) (Reg.DISP_PL_PITCH q) (BitVec.ofNat 32 pitch)) (Reg.DISP_PL_CFG q) 24 2 fmt

theorem flipped_leaves (s : State) (q pitch fmt : Nat) {base : Nat} (hb : base < 2 ^ 64) :
    pairGet (flipped s q base pitch fmt) (Reg.DISP_PL_BASE q) = base ∧
      regGet (flipped s q base pitch fmt) (Reg.DISP_PL_PITCH q) = BitVec.ofNat 32 pitch ∧
      regFld (flipped s q base pitch fmt) (Reg.DISP_PL_CFG q) 24 2 = fmt % 4 := by
  have hcfg : Reg.DISP_PL_BASE q ≠ Reg.DISP_PL_CFG q := offset_ne (a := 0x10008) (b := 0x10000) (by decide) Reg.DISP q
  have hcfg4 : Reg.DISP_PL_BASE q + 4 ≠ Reg.DISP_PL_CFG q :=
    (offset_ne_pair (a := 0x10000) (b := 0x10008) (by decide) Reg.DISP q).symm
  have hpitch : Reg.DISP_PL_BASE q ≠ Reg.DISP_PL_PITCH q := offset_ne (a := 0x10008) (b := 0x10010) (by decide) Reg.DISP q
  have hpitch4 : Reg.DISP_PL_BASE q + 4 ≠ Reg.DISP_PL_PITCH q :=
    (offset_ne_pair (a := 0x10010) (b := 0x10008) (by decide) Reg.DISP q).symm
  have hpc : Reg.DISP_PL_PITCH q ≠ Reg.DISP_PL_CFG q := offset_ne (a := 0x10010) (b := 0x10000) (by decide) Reg.DISP q
  refine ⟨?_, ?_, regFld_regSetFld_same _ _ (by decide) _⟩
  · rw [flipped, pairGet_regSetFld_other hcfg hcfg4, pairGet_regPut_other hpitch hpitch4, pairGet_pairPut _ _ hb]
  · rw [flipped, regGet_regSetFld_other hpc, regGet_regPut, if_pos rfl]

theorem latchFlip_granted {s s1 : State} {q slot : Nat} (hrun : (updGet s (planeRegion q)).running = some slot)
    (htest : (dowelGet s slot).tested = true) (hmet : (dowelGet s slot).waitsMet = true) (hpois : (dowelGet s slot).waitPoison = false)
    (hcheck : unitCheck 0x72 ((planeOwner s q).getD 0) 6 .read
      (sourcePieces (leAt (dowelGet s slot).payload 8 8) (leAt (dowelGet s slot).payload 4 4)
        ((planeLat s q).w * pixBytes (leAt (dowelGet s slot).payload 2 1)) (planeLat s q).h) s = (true, s1)) :
    latchFlip q s = completeDowel raise slot .doneOk 0 (flipped s1 q (leAt (dowelGet s slot).payload 8 8)
      (leAt (dowelGet s slot).payload 4 4) (leAt (dowelGet s slot).payload 2 1)) := by
  unfold latchFlip
  simp only [hrun]
  rw [if_neg (by simp [htest, hmet, hpois])]
  simp only [hcheck]
  rfl

/-! ## The output watch -/

/-- The registers and the time of a signature just judged, with `run` mismatches in a row. -/
def sigNoted (pipe : Nat) (sig : Word64) (run : Nat) (s : State) : State :=
  regSetFld { pairPut s (Reg.DISP_WATCH_LAST pipe) sig.toNat with
    disp := { s.disp with watchNs := tabPut 0 s.disp.watchNs pipe s.tb.elapsed } } (Reg.DISP_WATCH_STAT pipe) 0 8 run

theorem sigNoted_leaves (pipe : Nat) (sig : Word64) (s : State) {run : Nat} (hrun : run < 256) :
    pairGet (sigNoted pipe sig run s) (Reg.DISP_WATCH_LAST pipe) = sig.toNat ∧
      tabGet 0 (sigNoted pipe sig run s).disp.watchNs pipe = s.tb.elapsed ∧
      regFld (sigNoted pipe sig run s) (Reg.DISP_WATCH_STAT pipe) 0 8 = run := by
  have hne : Reg.DISP_WATCH_LAST pipe ≠ Reg.DISP_WATCH_STAT pipe := offset_ne (a := 0x40010) (b := 0x4000C) (by decide) Reg.DISP pipe
  have hne4 : Reg.DISP_WATCH_LAST pipe + 4 ≠ Reg.DISP_WATCH_STAT pipe :=
    (offset_ne_pair (a := 0x4000C) (b := 0x40010) (by decide) Reg.DISP pipe).symm
  refine ⟨?_, (tabGet_put _ _ _ _ _).trans (if_pos rfl), ?_⟩
  · rw [sigNoted, pairGet_regSetFld_other hne hne4]
    exact pairGet_pairPut s (Reg.DISP_WATCH_LAST pipe) sig.isLt
  · rw [sigNoted, regFld_regSetFld_same _ _ (by decide)]
    exact Nat.mod_eq_of_lt hrun

theorem judgeSig_eq (pipe : Nat) (sig : Word64) (s : State) :
    let run := regFld s (Reg.DISP_WATCH_STAT pipe) 0 8 + 1
    let t := sigNoted pipe sig (if sigExpected s pipe sig then 0 else min run 255) s
    judgeSig pipe sig s = if sigExpected s pipe sig = false ∧ run = regFld s (Reg.DISP_WATCH_CFG pipe) 0 8 then
      raise (0x0D0 + pipe) (some 0) (sig.toNat % 2 ^ 32) t else t := by
  intro run t
  unfold judgeSig
  cases hexp : sigExpected s pipe sig
  · simp only [t, hexp, Bool.false_eq_true, if_false, true_and]
    rfl
  · simp only [t, hexp, if_true, Bool.true_eq_false, false_and, if_false]
    rfl

/-- A watch that has missed its signature is noted. -/
def sigMissed (pipe : Nat) (s : State) : State :=
  { regSetFld s (Reg.DISP_WATCH_STAT pipe) 31 1 1 with
    disp := { s.disp with watchNs := tabPut 0 s.disp.watchNs pipe s.tb.elapsed } }

theorem watchMissing_due {s : State} {pipe : Nat} (hon : watchOn s pipe = true)
    (hlate : tabGet 0 s.disp.watchNs pipe + 3 * framePeriod s pipe ≤ s.tb.elapsed) :
    watchMissing pipe s = raise (0x0D0 + pipe) (some 0) 0xFFFFFFFF (sigMissed pipe s) := by
  unfold watchMissing
  rw [if_pos (by simp [hon, hlate])]
  rfl

/-! ## AUX transactions -/

theorem auxCmd_fields : ∀ pipe, pipe < 4 → (regRow (Reg.DISP_AUX_CMD pipe)).map RRow.fields =
    some [⟨31, 1, .w1s, 0, 0, 1⟩, ⟨24, 4, .rwl, 0, 0, 0xF⟩, ⟨4, 20, .rwl, 0, 0, 0xFFFFF⟩, ⟨0, 4, .rwl, 0, 0, 0xF⟩] := by decide

/-- The word of AUX_CMD once `v` is written to `w`. -/
def auxCmdWord (v w : Word32) : Word32 :=
  setFld (setFld (setFld (setFld w 31 1 (fld w 31 1 ||| fld v 31 1)) 24 4 (fld v 24 4)) 4 20 (fld v 4 20)) 0 4 (fld v 0 4)

/-- The word that starts an AUX transaction: GO beside the rest of the command. -/
def withGo (v : Word32) : Word32 := v ||| 0x80000000#32

theorem bitAt_withGo (v : Word32) (i : Nat) : bitAt (withGo v) i = (bitAt v i || decide (i = 31)) := by
  have hgo : (0x80000000#32).getLsbD i = decide (i = 31) := by
    rw [BitVec.getLsbD_ofNat, show (0x80000000 : Nat) = 2 ^ 31 from rfl, Nat.testBit_two_pow]
    by_cases h : i = 31
    · subst h
      decide
    · simp [h, Ne.symm h]
  exact (BitVec.getLsbD_or).trans (by rw [hgo]; rfl)

theorem auxCmdWord_go (v w : Word32) : bitAt (auxCmdWord (withGo v) w) 31 = true := by
  have hgo : (fld (withGo v) 31 1).testBit 0 = true := by
    rw [testBit_fld]
    exact (Bool.true_and _).trans ((bitAt_withGo v 31).trans (Bool.or_true _))
  rw [auxCmdWord, bitAt_setFld, if_neg (by decide), bitAt_setFld, if_neg (by decide), bitAt_setFld, if_neg (by decide),
    bitAt_setFld, if_pos (by decide), Nat.testBit_or, hgo, Bool.or_true]
  rfl

theorem auxCmdWord_low {v : Word32} (w : Word32) {i : Nat} (hi : i < 28) : bitAt (auxCmdWord (withGo v) w) i = bitAt v i := by
  have hbit : ∀ lo len, lo ≤ i → i < lo + len → (decide (i < 32) && (fld (withGo v) lo len).testBit (i - lo)) = bitAt v i := by
    intro lo len hlo hlen
    rw [testBit_fld, show lo + (i - lo) = i by omega, decide_eq_true (by omega), decide_eq_true (by omega), Bool.true_and, Bool.true_and]
    exact (bitAt_withGo v i).trans (by rw [decide_eq_false (by omega), Bool.or_false])
  rw [auxCmdWord, bitAt_setFld]
  by_cases h4 : i < 4
  · rw [if_pos (by omega)]
    exact hbit 0 4 (by omega) (by omega)
  rw [if_neg (by omega), bitAt_setFld]
  by_cases h24 : i < 24
  · rw [if_pos (by omega)]
    exact hbit 4 20 (by omega) (by omega)
  rw [if_neg (by omega), bitAt_setFld, if_pos (by omega)]
  exact hbit 24 4 (by omega) (by omega)

theorem auxCmdWord_fld (v w : Word32) : fld (auxCmdWord (withGo v) w) 0 28 = fld v 0 28 := by
  refine Nat.eq_of_testBit_eq fun i => ?_
  rw [testBit_fld, testBit_fld]
  by_cases hi : i < 28
  · rw [Nat.zero_add]
    exact congrArg (fun b => decide (i < 28) && b) (auxCmdWord_low w hi)
  · rw [decide_eq_false hi, Bool.false_and, Bool.false_and]

theorem rsvdCnt_ne_auxCmd (pipe : Nat) : Reg.GLOBAL_RSVD_CNT ≠ Reg.DISP_AUX_CMD pipe := by
  have h : ∀ k : Nat, 0x002000000000 + 0x44 ≠ 0x002000B00000 + 0x24 + k * 0x1000 := by omega
  exact h pipe

/-- A command without reserved bits is taken as it is, with GO. -/
theorem fieldWrite_auxCmd {pipe : Nat} (hpipe : pipe < 4) {s : State} {v : Word32} (hlock : pageLocked s (Reg.DISP_AUX_CMD pipe) = false)
    (hv : fld v 28 3 = 0) : fieldWrite (Reg.DISP_AUX_CMD pipe) (withGo v) s =
      regPut s (Reg.DISP_AUX_CMD pipe) (auxCmdWord (withGo v) (regGet s (Reg.DISP_AUX_CMD pipe))) := by
  obtain ⟨r, hr, hf⟩ := Option.map_eq_some_iff.mp (auxCmd_fields pipe hpipe)
  have href : wordRefuses (Reg.DISP_AUX_CMD pipe) (withGo v) = false := by
    have h31 : fld (withGo v) 31 1 < 2 := fld_lt _ _ _
    have h24 : fld (withGo v) 24 4 < 16 := fld_lt _ _ _
    have h4 : fld (withGo v) 4 20 < 1048576 := fld_lt _ _ _
    have h0 : fld (withGo v) 0 4 < 16 := fld_lt _ _ _
    simp only [wordRefuses, hr, hf, List.any_cons, List.any_nil, RField.reserved, Bool.or_false, Bool.or_eq_false_iff,
      Bool.and_eq_false_iff, decide_eq_false_iff_not]
    omega
  have hstray : r.strays (withGo v) = false := by
    rw [RRow.strays, List.any_eq_false]
    intro i hi
    have hi32 : i < 32 := List.mem_range.mp hi
    have hbit : 28 ≤ i → i < 31 → bitAt (withGo v) i = false := by
      intro h28 h31
      have h := testBit_fld v 28 3 (i - 28)
      rw [hv, Nat.zero_testBit, decide_eq_true (by omega), Bool.true_and, show 28 + (i - 28) = i by omega] at h
      rw [bitAt_withGo, decide_eq_false (by omega), Bool.or_false]
      exact h.symm
    simp only [hf, List.all_cons, List.all_nil, Bool.and_true, Bool.and_eq_true, not_and, Bool.or_eq_true, decide_eq_true_eq]
    intro hb
    by_cases h : 28 ≤ i ∧ i < 31
    · rw [hbit h.1 h.2] at hb
      exact absurd hb (by decide)
    · omega
  rw [fieldWrite_taken href hr hstray, hlock, RRow.write, hf, if_neg (by decide)]
  rfl

/-- Bytes `i` of `data` in the words from `a`, four to a word. -/
def putDataBytes (a : Addr) (data : List Byte) (n : Nat) (s : State) : State :=
  (List.range n).foldl (fun s i => regSetFld s (a + i / 4 * 4) (8 * (i % 4)) 8 (leAt data i 1)) s

theorem putDataBytes_succ (a : Addr) (data : List Byte) (n : Nat) (s : State) :
    putDataBytes a data (n + 1) s = regSetFld (putDataBytes a data n s) (a + n / 4 * 4) (8 * (n % 4)) 8 (leAt data n 1) := by
  rw [putDataBytes, List.range_succ, List.foldl_append]
  rfl

theorem regFld_putDataBytes (a : Addr) (data : List Byte) (s : State) {n i : Nat} (hi : i < n) :
    regFld (putDataBytes a data n s) (a + i / 4 * 4) (8 * (i % 4)) 8 = leAt data i 1 := by
  induction n with
  | zero => exact absurd hi (Nat.not_lt_zero i)
  | succ n ih =>
    rw [putDataBytes_succ]
    by_cases hin : i = n
    · subst hin
      have hlt : leAt data i 1 < 2 ^ 8 := leAt_lt data i 1
      rw [regFld_regSetFld_same _ _ (by omega), Nat.mod_eq_of_lt hlt]
    · refine Eq.trans ?_ (ih (by omega))
      by_cases hword : i / 4 = n / 4
      · rw [hword, regFld, regGet_regSetFld_same, fld_setFld_other _ _ _ _ _ _ (by omega), regFld]
      · have hne : ∀ b : Nat, b + i / 4 * 4 ≠ b + n / 4 * 4 := by omega
        exact regFld_regSetFld_other (hne a) _ _ _ _ _

theorem regGet_putDataBytes_other {a b : Addr} {n : Nat} (h : ∀ i, i < n → b ≠ a + i / 4 * 4) (data : List Byte) (s : State) :
    regGet (putDataBytes a data n s) b = regGet s b := by
  induction n with
  | zero => rfl
  | succ n ih =>
    rw [putDataBytes_succ, regGet_regSetFld_other (h n (Nat.lt_succ_self n))]
    exact ih fun i hi => h i (Nat.lt_succ_of_lt hi)

theorem auxDone_eq (pipe reply : Nat) (data : List Byte) (s : State) :
    auxDone pipe reply data s = putDataBytes (Reg.DISP_AUX_DATA0 pipe) data (min data.length 16)
      (regSetFld (regSetFld (regSetFld s (Reg.DISP_AUX_CMD pipe) 31 1 0) (Reg.DISP_AUX_STAT pipe) 31 1 1)
        (Reg.DISP_AUX_STAT pipe) 0 4 reply) := rfl

/-- A register below the AUX data keeps its word as they are written. -/
theorem regGet_auxData_other {pipe o : Nat} {b : Addr} (hb : b = Reg.DISP + o + pipe * 0x1000) (h : o < 0x30) (data : List Byte) (n : Nat)
    (s : State) : regGet (putDataBytes (Reg.DISP_AUX_DATA0 pipe) data n s) b = regGet s b := by
  refine regGet_putDataBytes_other (fun i _ => ?_) data s
  have hne : ∀ d : Nat, d + o + pipe * 0x1000 ≠ d + 0x30 + pipe * 0x1000 + i / 4 * 4 := by omega
  exact hb.trans_ne (hne Reg.DISP)

theorem auxDone_leaves (pipe reply : Nat) (data : List Byte) (s : State) :
    regBit (auxDone pipe reply data s) (Reg.DISP_AUX_CMD pipe) 31 = false ∧
      regBit (auxDone pipe reply data s) (Reg.DISP_AUX_STAT pipe) 31 = true ∧
      regFld (auxDone pipe reply data s) (Reg.DISP_AUX_STAT pipe) 0 4 = reply % 16 ∧
      ∀ i, i < min data.length 16 → regFld (auxDone pipe reply data s) (Reg.DISP_AUX_DATA0 pipe + i / 4 * 4) (8 * (i % 4)) 8 =
        leAt data i 1 := by
  have hne : Reg.DISP_AUX_CMD pipe ≠ Reg.DISP_AUX_STAT pipe := offset_ne (a := 0x24) (b := 0x28) (by decide) Reg.DISP pipe
  rw [auxDone_eq]
  refine ⟨?_, ?_, ?_, fun i hi => regFld_putDataBytes _ data _ hi⟩
  · rw [regBit, regGet_auxData_other (b := Reg.DISP_AUX_CMD pipe) (o := 0x24) rfl (by decide), ← regBit, regBit_regSetFld_other hne, regBit_regSetFld_other hne,
      regBit_regSetFld, if_pos (by decide)]
    rfl
  · rw [regBit, regGet_auxData_other (b := Reg.DISP_AUX_STAT pipe) (o := 0x28) rfl (by decide), ← regBit, regBit_regSetFld, if_neg (by decide), regBit_regSetFld,
      if_pos (by decide)]
    rfl
  · rw [regFld, regGet_auxData_other (b := Reg.DISP_AUX_STAT pipe) (o := 0x28) rfl (by decide)]
    exact regFld_regSetFld_same _ (Reg.DISP_AUX_STAT pipe) (by decide) _

/-! ## Hot plug -/

theorem testBit_bitN (b : Bool) : (bitN b 0).testBit 0 = b := by cases b <;> rfl

/-- The level of the hot-plug pin, and a pulse that is kept. -/
theorem hpd_leaves (s : State) (a : Addr) (level : Bool) :
    regBit (regSetFld s a 17 1 (bitN level 0)) a 17 = level ∧
      regBit (regSetFld s a 17 1 (bitN level 0)) a 16 = regBit s a 16 := by
  rw [regBit_regSetFld, if_pos (by decide), regBit_regSetFld, if_neg (by decide)]
  exact ⟨(Bool.true_and _).trans (testBit_bitN level), rfl⟩

end Sys2Proof.Machine
end

section
/-!
SUPPORT. The commands of the graphics front end and of the display; with the settlement of O54.
-/

namespace Sys2Proof.Machine

/-! ## The commands of the graphics front end and of the display (O54) -/

theorem exec_gfxBind {s : State} {slot : Nat} (hslot : slot < 65536) (hcfg : regBit s Reg.GFX_CFG 31 = true) (hidle : gfxSlot s = none)
    (hnext : gfxNext s = some slot) (hdue : (dowelGet s slot).replayDue = false) :
    exec (.gfxBind slot) s = .next (bindJob slot s) :=
  (if_pos hslot).trans (congrArg Host.Outcome.next (if_pos (by simp [hcfg, hidle, hnext, hdue])))

/-- A packet that is not one of vertices leaves the fragments of the scoreboard as they are. -/
theorem packetReturn_other {s : State} {slot r : Nat} {p : GPkt} (hslot : gfxSlot s = some slot)
    (hp : s.gfx.out.find? (fun p => decide (p.rank = r)) = some p)
    (hdone : p.num < leVal (mboxRead s slot r (gBlk s 104 4 + 0x0FF8) 8)) (hkind : p.kind ≠ 1) :
    (packetReturn r s).gfx.out = s.gfx.out.erase p ∧
      tabGet 0 (packetReturn r s).gfx.returned r = tabGet 0 s.gfx.returned r + 1 ∧
      (packetReturn r s).gfx.board.map (·.frag) = s.gfx.board.map (·.frag) ∧
      (p.kind = 2 → ∀ e ∈ (packetReturn r s).gfx.board, e.rank = r → e.num = p.num → e.out.isSome = true) := by
  have hret : tabGet 0 (packetBack s r p).gfx.returned r = tabGet 0 s.gfx.returned r + 1 :=
    (tabGet_put 0 s.gfx.returned r r (tabGet 0 s.gfx.returned r + 1)).trans (if_pos rfl)
  have hrank : p.rank = r := by
    have h := List.find?_some hp
    exact of_decide_eq_true h
  rw [packetReturn_done hslot hp hdone hkind]
  by_cases h2 : p.kind = 2
  · obtain ⟨l, m, hgfx⟩ := takeFragments_gfx slot p (packetBack s r p)
    rw [if_pos h2, hgfx]
    refine ⟨rfl, hret, ?_, fun _ e he her hen => ?_⟩
    · refine (List.map_map).trans (List.map_congr_left fun e _ => ?_)
      exact entryShaded_frag _ p l m e
    · obtain ⟨e₀, -, rfl⟩ := List.mem_map.mp he
      exact entryShaded_out (her.trans hrank.symm) hen
  · rw [if_neg h2]
    exact ⟨rfl, hret, rfl, fun hk => absurd hk h2⟩

theorem retireFragment_dropped {s : State} {slot : Nat} {e : GEntry} {rest : List GEntry} {g : GTile} (hslot : gfxSlot s = some slot)
    (hboard : s.gfx.board = e :: rest) (htile : s.gfx.tile = some g) {c : List Nat} (hout : e.out = some (c, true)) :
    retireFragment s = { s with gfx := { s.gfx with board := rest } } := by
  rw [retireFragment_front hslot hboard htile hout]
  simp only [if_true, ← htile]

theorem retireFragment_shaded {s : State} {slot : Nat} {e : GEntry} {rest : List GEntry} {g : GTile} (hslot : gfxSlot s = some slot)
    (hboard : s.gfx.board = e :: rest) (htile : s.gfx.tile = some g) {c : List Nat} (hout : e.out = some (c, false)) :
    ∃ h, (retireFragment s).gfx.board = rest ∧ (retireFragment s).gfx.tile = some h ∧
      ∀ k, k < gSamples s → tabGet 0 h.color (sampleKey e.frag.x e.frag.y k) = retiredColor s e c g k := by
  rw [retireFragment_front hslot hboard htile hout]
  refine ⟨_, rfl, rfl, fun k hk => ?_⟩
  simp only [Bool.false_eq_true, if_false]
  rw [retireSamples_color, if_pos hk, retiredColor_congr (retireDepth_color e g)]

theorem exec_verticalBlanking {s : State} {pipe : Nat} (hpipe : pipe < 4) (hon : regBit s (Reg.DISP_PIPE_CFG pipe) 31 = true) :
    exec (.verticalBlanking pipe) s = .next (enterBlank pipe s) :=
  (if_pos hpipe).trans (congrArg Host.Outcome.next (if_pos hon))

theorem exec_displayLineUnderrun {s : State} {pipe x line : Nat} (hpipe : pipe < 4) (hon : regBit s (Reg.DISP_PIPE_CFG pipe) 31 = true)
    (hline : line < regFld s (Reg.DISP_VTIME pipe) 0 16) (hx : x < regFld s (Reg.DISP_HTIME pipe) 0 16) :
    exec (.displayLineUnderrun pipe x line) s = .next (lineUnderrun pipe x line s) :=
  (if_pos hpipe).trans (congrArg Host.Outcome.next (if_pos (by simp [hon, hline, hx])))

theorem exec_outputWatchSignature {s s1 : State} {pipe : Nat} {sig : Word64} (hpipe : pipe < 4)
    (hon : regBit s (Reg.DISP_PIPE_CFG pipe) 31 = true) (hwatch : watchOn s pipe = true) (hsig : watchSig pipe s = (sig, s1)) :
    exec (.outputWatchSignature pipe) s = .next (judgeSig pipe sig s1) := by
  refine (if_pos hpipe).trans (congrArg Host.Outcome.next ((if_pos (by simp [hon, hwatch])).trans ?_))
  rw [hsig]

end Sys2Proof.Machine

namespace Sys2Proof.Proofs
open Sys2Proof.Machine

/-- Settles O54: for the front end, by the state that each of its steps leaves (`bindGfx`, `GfxSt.handed`, `packetBack`,
`retiredColor`, `lastTile`), the accesses in between leaving it alone; for a pipe, by the registers that each event writes. -/
theorem graphicsAndDisplay : Obligations.GraphicsAndDisplay := by
  unfold Obligations.GraphicsAndDisplay
  refine ⟨fun s slot hslot => ⟨?bind, ?packets, ?back, ?retire, ?tile⟩, fun s init pipe hpipe => ⟨?on, ?flip, ?missing, ?aux, ?done, ?hpd⟩⟩
  case bind =>
    intro b s1 hcfg hidle hnext hdue hread hok htbuf hpegs
    have hgfx := bindJob_gfx hread hok htbuf hpegs
    exact ⟨_, exec_gfxBind hslot hcfg hidle hnext hdue, by rw [hgfx]; rfl, by rw [hgfx]; rfl, by rw [hgfx]; rfl, by rw [hgfx]; rfl,
      by rw [hgfx]; rfl⟩
  case packets =>
    intro hbound hsusp hend hdue
    have hcan : canIssue s slot := ⟨hbound, hsusp, hend, hdue⟩
    refine ⟨fun r l s1 hstage hrec hlt hrank hread => ?_, fun r hstage hrank => ?_⟩
    · have hgfx := packetIssue_vertices hcan hstage hrec hlt hrank hread
      refine ⟨packetIssue s, rfl, ?_, ?_, ?_, ?_⟩ <;> rw [hgfx]
      · rfl
      · rfl
      · rfl
      · exact (tabGet_put 0 s.gfx.issued r r (tabGet 0 s.gfx.issued r + 1)).trans (if_pos rfl)
    · have hgfx := packetIssue_end hcan hstage hrank
      refine ⟨packetIssue s, rfl, ?_, ?_, ?_⟩ <;> rw [hgfx] <;> rfl
  case back =>
    intro r p hr hbound hp
    refine ⟨fun hle => ?_, fun hlt hkind => ?_⟩
    · exact (if_pos hr).trans (congrArg Host.Outcome.next (packetReturn_notDone hbound hp hle))
    · obtain ⟨hout, hret, hfrag, hall⟩ := packetReturn_other hbound hp hlt hkind
      exact ⟨packetReturn r s, if_pos hr, hout, hret, hfrag, hall⟩
  case retire =>
    intro e rest g hbound hboard htile
    refine ⟨fun hout => ?_, fun c hout => ?_, fun c hout => ?_⟩
    · exact congrArg Host.Outcome.next (retireFragment_unshaded hbound hboard htile hout)
    · exact congrArg Host.Outcome.next (retireFragment_dropped hbound hboard htile hout)
    · obtain ⟨h, hb, ht, hcolor⟩ := retireFragment_shaded hbound hboard htile hout
      exact ⟨retireFragment s, h, rfl, hb, ht, hcolor⟩
  case tile =>
    intro g hbound htile hpend hboard hnext hdepth hlast hforce
    have hexec : exec .gfxTileWriteout s = .next (finishTile g s) :=
      congrArg Host.Outcome.next (tileWriteout_done hbound htile hpend hboard hnext)
    refine ⟨fun s1 hsigs hrows => ?_, fun l s1 hsigs hread hvalid hsame => ?_⟩
    · rw [finishTile_write hdepth hlast hsigs hforce hrows] at hexec
      exact ⟨_, hexec, rfl, rfl, (regGet_regPut _ _ _ _).trans (if_pos rfl), fun _ => rfl⟩
    · rw [finishTile_skip hdepth hlast hsigs hforce hread hvalid hsame] at hexec
      exact ⟨_, hexec, rfl, rfl, (regGet_regPut _ _ _ _).trans (if_pos rfl), fun _ => rfl⟩
  case on =>
    intro hon
    refine ⟨fun hidle => ?_, fun x line hline hx => ?_, fun sig s1 hwatch hsig => ?_⟩
    · obtain ⟨hlat, hstat⟩ := enterBlank_idle hidle
      exact ⟨_, exec_verticalBlanking hpipe hon, hlat, hstat⟩
    · exact ⟨_, exec_displayLineUnderrun hpipe hon hline hx, fun h => lineUnderrun_first x h, fun y h => lineUnderrun_again x h⟩
    · have hrun : (if sigExpected s1 pipe sig then 0 else min (regFld s1 (Reg.DISP_WATCH_STAT pipe) 0 8 + 1) 255) < 256 := by
        split <;> omega
      obtain ⟨hlast, htime, hstat⟩ := sigNoted_leaves pipe sig s1 hrun
      exact ⟨_, (exec_outputWatchSignature hpipe hon hwatch hsig).trans (congrArg Host.Outcome.next (judgeSig_eq pipe sig s1)),
        hlast, htime, hstat⟩
  case flip =>
    intro q slot s1 hrun htest hmet hpois _ l hcheck
    obtain ⟨hbase, hpitch, hfmt⟩ := flipped_leaves s1 q (leAt l 4 4) (leAt l 2 1) (leAt_lt64 l 8)
    exact ⟨_, latchFlip_granted hrun htest hmet hpois hcheck, hbase, hpitch, hfmt⟩
  case missing =>
    intro hon hlate
    refine ⟨sigMissed pipe s, (if_pos hpipe).trans (congrArg Host.Outcome.next (watchMissing_due hon hlate)), ?_⟩
    exact regBit_regSetFld_one s (Reg.DISP_WATCH_STAT pipe) 31 (by decide)
  case aux =>
    intro v hreach hlock hv
    have hwrite := (asInit_reaches (fieldWrite (Reg.DISP_AUX_CMD pipe) (withGo v)) hreach).trans (fieldWrite_auxCmd hpipe hlock hv)
    refine ⟨_, (if_pos hpipe).trans (congrArg Host.Outcome.next hwrite), ?_, ?_, ?_⟩
    · rw [regBit, regGet_regPut, if_pos rfl, auxCmdWord_go]
    · rw [regFld, regGet_regPut, if_pos rfl, auxCmdWord_fld]
    · exact (regGet_regPut _ _ _ _).trans (if_neg (rsvdCnt_ne_auxCmd pipe))
  case done =>
    intro reply data hgo
    exact ⟨_, (if_pos hpipe).trans (congrArg Host.Outcome.next (if_pos hgo)), auxDone_leaves pipe reply data s⟩
  case hpd =>
    intro level irq
    obtain ⟨hlevel, hpulse⟩ := hpd_leaves s (Reg.DISP_AUX_STAT pipe) level
    cases irq with
    | false => exact ⟨_, if_pos hpipe, hlevel, fun h => absurd h (by decide), fun _ => hpulse⟩
    | true =>
      refine ⟨_, if_pos hpipe, ?_, fun _ => regBit_regSetFld_one _ _ 16 (by decide), fun h => absurd h (by decide)⟩
      exact (regBit_regSetFld _ _ 16 1 1 17).trans ((if_neg (by decide)).trans hlevel)

end Sys2Proof.Proofs
end
